-- ==== Sys2Proof/Word.lean ====
section
/-! DEFINITION. The words of the part: the byte and the 32-bit management register (R9, Registers). -/

namespace Sys2Proof

/-- A byte of memory. -/
abbrev Byte := BitVec 8

/-- A management register is 32 bits wide. -/
abbrev Word := BitVec 32

end Sys2Proof
end

