-- ==== Sys2Proof/Syntax.lean ====
section
/-! DEFINITION. The commands of the part: one constructor for each row of spec/opcode_table.json.
The rows give no bits; the operands of a command are what the rule it cites lets the sender or the
environment of the part choose (a port, a message's fields, a reading, a register value). -/

namespace Sys2Proof

/-- The request head's fields a card may use (R265). -/
structure ReqHead where
  reqId : Nat
  tag : Nat
  label : Nat
  addr : Nat
  lenArg : Nat
  flags : Nat
  spec : Nat
  deriving DecidableEq, Repr

/-- A flit as it stands on the line (R224, R225): header fields, the seven slot codes and slots, the
link-encryption word and the CRC; whether a codeword holding its bytes was flagged (R222), and the
symbols corrected and codewords flagged by the FEC since the flit before it (R262). -/
structure Flit where
  ty : Nat
  seq : Nat
  ack : Nat
  crVc : Nat
  crCnt : Nat
  codes : List Nat
  slots : List Nat
  enc : Nat
  crc : Nat
  flagged : Bool := false
  fecCorr : Nat := 0
  fecUncorr : Nat := 0
  deriving DecidableEq, Repr

/-- A flit as the lanes bring it (R220–R223): its place in a period of 495 flits, and the received codewords of 5,440
bits that hold it, in order. -/
structure RxFlit where
  pos : Nat
  words : List Nat
  deriving DecidableEq, Repr

/-- What a lane receives while it hunts, its skew against the other lanes, and what its equaliser adapts to (R187, R189,
R196): `len` raw bits, the first least significant; groups of skew; the CTLE code and the taps. -/
structure LaneHunt where
  raw : Nat
  len : Nat
  skew : Nat := 0
  ctle : Int := 0
  taps : List Int := []
  deriving DecidableEq, Repr

/-- What the edge monitors of a lane observe in a window (R663): direction, sign and count of disagreements. -/
structure LaneDrift where
  lane : Nat
  seen : List (Nat × Nat × Nat) := []
  deriving DecidableEq, Repr

/-- A JTAG instruction's function, and the register access that a debug session makes with it: an address and, for a
write, a value (R155). -/
structure JtagAct where
  function : Nat
  access : Option (Nat × Option Nat) := none
  deriving DecidableEq, Repr

/-- A command of the part. -/
inductive Instr
  /-- REGISTER_WRITE (R11): A write to a register field that has no row of its own stores, clears or sets bits by field type, serialised by the register file. -/
  | registerWrite (who : Nat) (addr : Nat) (value : Nat)
  /-- READ_CLEAR (R11): A read of an RC field returns its value and then clears it, keeping any increment made in the same cycle. -/
  | readClear (addr : Nat)
  /-- LOCK (R139): A write of 1 to a block's W1S LOCK bit freezes that block's RWL fields until the next RESET_N release. -/
  | lockWrite (addr : Nat)
  /-- RESET_N_LOW (R67): RESET_N held low for 10 µs or more performs a full reset, and outputs reach their reset states within 1 µs. -/
  | resetNLow (pulse : Option Nat)
  /-- RESET_N_RELEASE (R40): RESET_N release enters BOOT, starts Samovar, samples the sideband address straps and starts the boot sequence. -/
  | resetNRelease (reads : List (Nat × Nat × Nat × Bool)) (strap : Nat)
  /-- PWR_OK_RISE (R67): PWR_OK rising releases the core from reset, and a pending RESET_N release takes effect 1 ms later. -/
  | pwrOkRise
  /-- PWR_OK_FALL (R68): PWR_OK falling holds the core, Samovar included, in reset and puts outputs in reset states; it ends LOCKDOWN by Trip B. -/
  | pwrOkFall
  /-- RAIL_WARN (R70): A rail outside its recommended range for more than 1 µs raises RAIL_WARN and sets its PWR_RAIL_STAT bit. -/
  | railWarn (rail : Nat) (mv : Nat)
  /-- RAIL_FAIL (R70): A rail beyond a monitor fail limit for more than 100 ns raises FATAL RAIL_FAIL. -/
  | railFail (rail : Nat) (mv : Nat)
  /-- OSC_START (R88): The Samovar oscillator starts within 20 µs of RESET_N release. -/
  | oscStart
  /-- OSC_COMPARE_WINDOW (R88): At the end of each 64 µs window Samovar compares oscillator and reference counts, updates REFCLK_OK, OSC_READY and the trim. -/
  | oscCompareWindow (ref : Option Nat) (p0 : Option Nat) (pair : Option Nat)
  /-- TEMPERATURE_CORRECTION (R91): Once per millisecond with TRIM_REF 0b11, Samovar updates the oscillator correction from the CLK_OSC_TC table. -/
  | temperatureCorrection
  /-- ROOT_LOCK (R84): The root synthesizer locks within 50 µs of REFCLK_OK rising and ROOT_READY rises. -/
  | rootLock
  /-- ROM_START (R89): The management controller starts the ROM on the oscillator once OSC_READY is 1. -/
  | romStart
  /-- MC_SEL (R94): A write of CLK_SRC.MC_SEL switches the management controller's source, or is refused when the target is not ready. -/
  | mcSel (value : Nat)
  /-- SPI_SEL (R94): A write of CLK_SRC.SPI_SEL switches the SPI domain's source, or is refused when the target is not ready. -/
  | spiSel (value : Nat)
  /-- MUX_RELEASE (R95): The glitch-free multiplexer or the clock-absence detector completes a source switch after the required edges. -/
  | muxRelease (spi : Bool)
  /-- REFCLK_LOSS (R96): REFCLK declared lost: holdover, transmitters idle, write queues flushed to self-refresh, domains moved to the oscillator. -/
  | refclkLoss (unlock : Bool)
  /-- HOLDOVER_END (R96): The 5 µs holdover ends and the root stops. -/
  | holdoverEnd
  /-- REFCLK_RETURN (R99): After REFCLK returns and the root locks, self-refresh is left, time is resynchronised, ports restart and HOLD falls. -/
  | refclkReturn
  /-- CLK_GATE_PORT (R100): A write of a CLK_GATE_PORT GATE bit asks a port or the pair link to quiesce before its gate closes. -/
  | clkGatePort (port : Nat) (on : Bool)
  /-- CLK_GATE_CG (R100): A write of a CLK_GATE_CG bit asks a channel group to quiesce before its gate closes. -/
  | clkGateCg (cg : Nat) (on : Bool)
  /-- QUIESCE_ACK (R100): A unit acknowledges the quiesce request and its clock gate closes. -/
  | quiesceAck (unit : Nat)
  /-- GATE_REFUSED (R100): No quiesce acknowledgement within 2 µs: the gate is refused, GATE cleared and REF set. -/
  | gateRefused (unit : Nat)
  /-- GATE_OPEN (R101): A transfer reaching a gated unfenced channel group opens its gate and leaves self-refresh. -/
  | gateOpen (cg : Nat)
  /-- CLK_TIME_LO_READ (R103): A read of CLK_TIME_LO latches the upper half of device time for the next CLK_TIME_HI read. -/
  | clkTimeLoRead
  /-- WATCHDOG_EXPIRY (R29): House firmware not servicing the watchdog for 100 ms makes Samovar reset the management controller alone. -/
  | watchdogExpiry
  /-- MC_RESTART (R30): The management controller restart ends, house-firmware state is reloaded and MC_RESTART is raised. -/
  | mcRestart
  /-- GLB_MODE_REQ (R51): A write of GLB_MODE_REQ with GO submits MODE and LEVEL as one mode request to the sequencer. -/
  | glbModeReq (mode : Nat) (level : Nat) (auth : Bool)
  /-- MODE_TRANSITION_START (R28): When a transition ends or a request arrives while idle, the sequencer starts the highest-precedence pending request. -/
  | modeTransitionStart
  /-- MODE_TRANSITION_END (R40): A transition completes and GLB_MODE shows the new mode, with port state and admission following. -/
  | modeTransitionEnd
  /-- WCK_SWITCH (R38): One channel group changes its WCK divisor on a common edge during a level change, pausing commands for at most 1.5 µs. -/
  | wckSwitch
  /-- CORE_VSEL_WAIT (R63): The 10 µs wait after raising CORE_VSEL ends and the WCK changes of a faster level begin. -/
  | coreVselWait
  /-- FIRMWARE_VERIFIED (R131): The ROM verifies the chosen firmware slot with SM2 and starts house firmware, or marks the slot invalid. -/
  | firmwareVerified (keys : Bool × Bool) (svn : Nat)
  /-- SFDP_READ (R121): The ROM reads the flash SFDP and sets quad I/O and 4-byte addressing, or halts with reason FLASH. -/
  | sfdpRead (ok : Bool)
  /-- SLOT_SELECT (R125): The slot headers of a pair are read and the valid slot with the newer SEQ wins. -/
  | slotSelect (pair : Nat)
  /-- IMAGE_VERIFIED (R132): House firmware verifies the image structure, owner key, target, SVN and signature. -/
  | imageVerified
  /-- IMAGE_RECORD_WRITE (R137): An image record with OP WRITE stores VALUE to its management address. -/
  | imageRecordWrite
  /-- IMAGE_RECORD_MASKED (R137): An image record with OP MASKED stores the masked combination of old value and VALUE. -/
  | imageRecordMasked
  /-- IMAGE_RECORD_POLL (R137): An image record with OP POLL reads the register and waits until the masked value equals VALUE. -/
  | imageRecordPoll
  /-- POLL_REREAD (R137): Every 1 µs a waiting POLL record reads its register again. -/
  | pollReread
  /-- POLL_TIMEOUT (R138): A POLL record not satisfied within 10 ms fails its section. -/
  | pollTimeout
  /-- SECTION_CHECK (R138): After a section's last record the owning configuration check runs, failing the section and resetting its blocks on rejection. -/
  | sectionCheck
  /-- CAL_RECORD_READ (R116): The calibration record and soft-repair list are read and the winners chosen, or defaults used. -/
  | calRecordRead
  /-- REPAIR_SWITCH_IN (R378): Before SELFTEST, house firmware applies retirements and then OTP and soft-list repair entries. -/
  | repairSwitchIn
  /-- RECORD_WRITE (R126): House firmware starts writing a flash record: journal BEGIN, erase if needed, program payload and header. -/
  | recordWrite (pair : Nat) (cert : List Byte)
  /-- SECTOR_ERASE_COMPLETE (R126): A flash sector erase completes and the record write proceeds. -/
  | sectorEraseComplete
  /-- PAGE_PROGRAM_COMPLETE (R126): A flash page program completes; after the header the slot is read back and COMMIT appended. -/
  | pageProgramComplete (flips : List (Nat × Nat)) (keys : Bool × Bool) (svn : Nat)
  /-- JOURNAL_HALF_MOVE (R129): The journal moves to the other half: erase, copy ERASES and open BEGINs, then program its header. -/
  | journalHalfMove
  /-- BEGIN (R142): NVM_UPD_CTL OP BEGIN opens an update session, appends the journal BEGIN and erases the target slot. -/
  | updBegin (src : Nat) (target : Nat) (len : Nat)
  /-- UPD_ERASE_COMPLETE (R142): The BEGIN erase ends and RESULT reads done, ready for data. -/
  | updEraseComplete
  /-- NVM_UPD_DATA (R142): A write of NVM_UPD_DATAk appends 4 bytes at OFF, programming each page as it fills. -/
  | nvmUpdData (src : Nat) (word : Nat)
  /-- FINISH (R142): NVM_UPD_CTL OP FINISH programs the last page, checks the SM3, programs the header and commits the update. -/
  | updFinish (src : Nat) (digest : Nat)
  /-- CANCEL (R142): NVM_UPD_CTL OP CANCEL closes the session and leaves the slot ignorable. -/
  | updCancel (src : Nat)
  /-- NVM_UPD_CANCEL (R142): An update session with no update-register write for 10 s is cancelled and reported. -/
  | nvmUpdCancel
  /-- FUSE_PROGRAM (R167): OTP_PROG_CTL GO checks the target word and conditions and starts programming it. -/
  | fuseProgram (word : Nat) (data : Nat)
  /-- OTP_PROG (R167): An OTP program ends with its verify read and its result is reported. -/
  | otpProg (data : Nat) (ecc : Nat)
  /-- REREAD_PASS (R163): Every 10 minutes, or on a TS-B17 band crossing, the critical words are re-read at both references. -/
  | rereadPass (reads : Option (List (Nat × Nat × Nat × Bool)))
  /-- SCAN_ZEROISE (R170): A JTAG request for internal scan or debug clears key slots and keys before the gate opens. -/
  | scanZeroise
  /-- JTAG_INSTRUCTION (R155): A JTAG instruction selects its function, or behaves as BYPASS when the lifecycle forbids it. -/
  | jtagInstruction (act : JtagAct)
  /-- JTAG_TRST_N (R170): JTAG_TRST_N ends debug, leaving cleared keys cleared. -/
  | jtagTrstN
  /-- SETDASA (R76): The sideband controller assigns a dynamic address by SETDASA. -/
  | setdasa (static : Nat) (dynamic : Nat)
  /-- ENTDAA (R76): The sideband controller assigns a dynamic address by ENTDAA. -/
  | entdaa (dynamic : Nat)
  /-- SIDEBAND_WRITE (R292): A sideband private write delivers one request message, checked and executed; further writes are NACKed until read. -/
  | sidebandWrite (bytes : List Byte)
  /-- SIDEBAND_READ (R292): A sideband private read fetches the formed response message. -/
  | sidebandRead
  /-- BRINGUP (R190): A port starts blind bring-up, sending training frames and hunting on every receiver. -/
  | bringup (port : Nat)
  /-- LANE_LOCK (R187): A hunting receiver lane confirms a comma over 4 positions and is locked and deskewed. -/
  | laneLock (port : Nat) (lane : Nat) (got : LaneHunt)
  /-- LOCK_LOST (R188): Two consecutive missing commas lose a lane's lock; a swap is requested and the port may enter RECOVER. -/
  | lockLost (port : Nat) (lane : Nat)
  /-- LINK_FRAMES_START (R191): At the first frame boundary after its receive direction is up, a transmitter switches to link frames. -/
  | linkFramesStart (start : Nat × Nat)
  /-- BRINGUP_LATE (R192): BRINGUP_TO expires before the receive direction is up; LATE set and event raised once. -/
  | bringupLate (port : Nat)
  /-- LM0 (R186): A received LM0 gives lane identity, state and seed; agreeing seeds reseed the descrambler and standby is detected. -/
  | lm0 (port : Nat) (phys : Nat) (payload : List Nat) (comma : Nat × Nat) (lm0 : Nat × Nat) (loop : Option (Int × List Int))
  /-- LM1 (R183): A received LM1 gives frame number, swap request and swap announcement to the receiver and transmitter. -/
  | lm1 (port : Nat) (bodies : List (Nat × Nat))
  /-- LM2 (R184): A received LM2 records the far receiver's lock, up and spare-ready status. -/
  | lm2 (port : Nat) (bodies : List (Nat × Nat))
  /-- LANE_FLAG (R197): A tap reaching its window edge is clamped, FLAG set and a swap requested. -/
  | laneFlag (port : Nat) (lane : Nat) (tap : Nat) (up : Bool)
  /-- SPARE_READY (R198): Each millisecond the spare-role lane's PRBS errors are judged for readiness. -/
  | spareReady (port : Nat) (rx : List (Nat × Nat × Nat))
  /-- LANE_FAILED (R198): A lane in spare role not ready for 1 s is marked FAILED. -/
  | laneFailed (port : Nat)
  /-- LANE_SWAP_RX (R199): PORTn_LANE_SWAP with DIR 0 makes the receiver request a swap of LANE. -/
  | laneSwapRx (port : Nat) (lane : Nat)
  /-- LANE_SWAP_TX (R200): PORTn_LANE_SWAP with DIR 1 makes the transmitter announce a swap of LANE. -/
  | laneSwapTx (port : Nat) (lane : Nat)
  /-- SWAP_ANNOUNCE (R200): In the first frame after a request, with the far spare ready, the transmitter announces SWAP_LANE and SWAP_FRAME. -/
  | swapAnnounce (port : Nat) (frame : Nat)
  /-- LANE_SWAP (R202): At SWAP_FRAME both ends move the logical lane onto the spare-role physical lane. -/
  | laneSwap (port : Nat) (transmit : Bool)
  /-- LANE_TEST (R205): Setting PORTn_LANE_TEST.TEST holds the link down and runs test patterns; clearing it starts bring-up. -/
  | laneTest (port : Nat) (on : Bool)
  /-- PRBS_INJ (R206): A write of PRBS_CTL INJ inverts one pattern bit. -/
  | prbsInj (port : Nat) (lane : Nat)
  /-- PERIODIC_INJECTION (R206): At the INJ_RATE count one pattern bit is inverted. -/
  | periodicInjection (port : Nat) (lane : Nat)
  /-- FLIT_TRANSMIT (R231): A port sends its next flit, sequenced and acknowledged, closing runs and sending credits as due. -/
  | flitTransmit (port : Nat)
  /-- REKEY_KEY_READY (R557): The crypto unit delivers the next epoch's link keys. -/
  | rekeyKeyReady (port : Nat)
  /-- DATA_FLIT (R232): A received DATA flit is accepted, discarded as duplicate or bad, and its slots handed on. -/
  | dataFlit (port : Nat) (rx : RxFlit)
  /-- IDLE_FLIT (R232): A received IDLE flit contributes its ACK and credit report. -/
  | idleFlit (port : Nat) (rx : RxFlit)
  /-- NAK_FLIT (R234): A received NAK makes the transmitter replay from the flit after its ACK. -/
  | nakFlit (port : Nat) (rx : RxFlit)
  /-- INIT_FLIT (R245): A received INIT flit advances the INIT exchange, resuming or resetting the link. -/
  | initFlit (port : Nat) (rx : RxFlit)
  /-- HOLD_FLIT (R248): A received HOLD flit carries the far mode code. -/
  | holdFlit (port : Nat) (rx : RxFlit)
  /-- TAG_FLIT (R253): A received TAG flit verifies and releases its run, or discards it and sends a NAK. -/
  | tagFlit (port : Nat) (rx : RxFlit)
  /-- NAK_RESEND (R233): REPLAY_TO passes without acceptance while a NAK is outstanding, so it is sent again. -/
  | nakResend (port : Nat)
  /-- REPLAY_TIMEOUT (R234): No ACK progress for REPLAY_TO makes the transmitter replay from the oldest unacknowledged flit. -/
  | replayTimeout (port : Nat)
  /-- REPLAY_AGE_EXPIRY (R235): The oldest unacknowledged flit reaching 8 µs moves the port to RECOVER with RESET_PEND. -/
  | replayAgeExpiry (port : Nat)
  /-- RD64 (R277): RD64 request: checks and returns one 64-byte line. -/
  | rd64 (port : Nat) (head : ReqHead)
  /-- RD128 (R277): RD128 request: checks and returns two lines of one granule. -/
  | rd128 (port : Nat) (head : ReqHead)
  /-- RD256 (R277): RD256 request: checks and returns four lines of one granule. -/
  | rd256 (port : Nat) (head : ReqHead)
  /-- WR64 (R278): WR64 request: writes one line whole, encrypted and mirrored as its region requires. -/
  | wr64 (port : Nat) (head : ReqHead) (data : List Byte)
  /-- WR128 (R278): WR128 request: writes two lines whole. -/
  | wr128 (port : Nat) (head : ReqHead) (data : List Byte)
  /-- WR256 (R278): WR256 request: writes four lines whole. -/
  | wr256 (port : Nat) (head : ReqHead) (data : List Byte)
  /-- WRP (R279): WRP request: writes the masked bytes of one line by merge, or stores poison. -/
  | wrp (port : Nat) (head : ReqHead) (data : List Byte)
  /-- FADD (R280): ATOM FADD: atomically adds A to the word and returns the old value. -/
  | atomFadd (port : Nat) (head : ReqHead) (data : List Byte)
  /-- CAS (R280): ATOM CAS: writes A when the word equals B and returns the old value. -/
  | atomCas (port : Nat) (head : ReqHead) (data : List Byte)
  /-- SWAP (R280): ATOM SWAP: writes A and returns the old value. -/
  | atomSwap (port : Nat) (head : ReqHead) (data : List Byte)
  /-- MIN (R280): ATOM MIN: keeps the smaller of old and A, signed or unsigned. -/
  | atomMin (port : Nat) (head : ReqHead) (data : List Byte)
  /-- MAX (R280): ATOM MAX: keeps the larger of old and A, signed or unsigned. -/
  | atomMax (port : Nat) (head : ReqHead) (data : List Byte)
  /-- AND (R280): ATOM AND: stores old AND A. -/
  | atomAnd (port : Nat) (head : ReqHead) (data : List Byte)
  /-- OR (R280): ATOM OR: stores old OR A. -/
  | atomOr (port : Nat) (head : ReqHead) (data : List Byte)
  /-- ORDERED_START (R266): An ORDERED request starts once every earlier request of its REQ_ID on its port has completed. -/
  | orderedStart (txn : Nat)
  /-- FENCE (R283): FENCE is decoded and holds later covered requests until earlier covered requests complete. -/
  | fenceReq (port : Nat) (head : ReqHead)
  /-- FENCE_COMPLETE (R283): The last covered earlier request completes, FENCE completes OK and held requests are released. -/
  | fenceComplete (txn : Nat)
  /-- SNAP (R284): SNAP starts a Pour snapshot wave, or completes EXISTS while a snapshot is held. -/
  | snapReq (port : Nat) (head : ReqHead)
  /-- MGMT_RD (R286): MGMT_RD reads 1–4 consecutive registers in ascending order. -/
  | mgmtRd (port : Nat) (head : ReqHead)
  /-- MGMT_WR (R287): MGMT_WR writes 1–4 consecutive registers after the governance check. -/
  | mgmtWr (port : Nat) (head : ReqHead) (data : List Byte)
  /-- AUTH (R290): AUTH checks the wrapped head, MAC and counter, consumes the counter and runs the wrapped MGMT_WR. -/
  | authReq (port : Nat) (head : ReqHead) (data : List Byte)
  /-- AUTH_PERSIST_WRITE (R562): The counter persist write completes and the waiting AUTH is accepted, or refused on failure. -/
  | authPersistWrite
  /-- RGN_COMMIT (R304): RGN_COMMIT GO checks the staged entry and applies a light change or begins a heavy change. -/
  | rgnCommit (index : Nat)
  /-- COMMIT_DRAIN_END (R306): Earlier requests to the old span complete and the new region entry comes into force, releasing held requests. -/
  | commitDrainEnd
  /-- COMMIT_TIMEOUT (R306): DRAIN_TO expires first and the commit ends with TIMEOUT, releasing held requests under the old entry. -/
  | commitTimeout
  /-- RGN_FENCE_CLEAR (R316): Clearing an RGN_FENCE bit releases that region's fence. -/
  | rgnFenceClear (region : Nat)
  /-- READ_QUEUE_ENTRY (R323): A read enters a controller read queue and is matched against older writes and merges. -/
  | readQueueEntry (pc : Nat) (ini : Nat)
  /-- WRITE_QUEUE_ENTRY (R321): A line write enters the write queue and its completion is formed. -/
  | writeQueueEntry (pc : Nat) (ini : Nat)
  /-- MERGE (R327): A WRP or ATOM takes a merge-buffer entry and locks its line for read, merge and write. -/
  | merge (pc : Nat) (ini : Nat)
  /-- COMMAND_ISSUE (R330): The scheduler issues the preferred DRAM command that timing permits. -/
  | commandIssue (pc : Nat) (ready : List Nat)
  /-- DRAM_READ_DATA (R363): Read data returns, is decoded, tag-checked and delivered or poisoned. -/
  | dramReadData (pc : Nat) (flips : List (Nat × Nat)) (tagErr : Nat) (edges : List (Nat × Nat))
  /-- WRITE_BURST_COMPLETE (R321): A write burst completes, its write-queue entry is freed and waiting reads proceed. -/
  | writeBurstComplete (pc : Nat)
  /-- PAGE_TIMER_EXPIRY (R332): A bank's page-class idle timer expires and its row is precharged. -/
  | pageTimerExpiry (pc : Nat) (bank : Nat)
  /-- REFRESH (R335): A bank's tREFI interval passes; a per-bank refresh issues or the debt rises and forces it at +8. -/
  | refresh (pc : Nat) (bank : Nat) (early : Bool)
  /-- EPOCH (R339): At each 1,024 tREFI the activation tables are cleared. -/
  | actEpoch (pc : Nat) (bank : Nat)
  /-- TARGETED_REFRESH (R340): An activation count reaching a multiple of ACT_TH refreshes the row's neighbours. -/
  | targetedRefresh (pc : Nat) (bank : Nat)
  /-- SELF_REFRESH_ENTRY (R344): A pseudo-channel completes merges, writes its queue, precharges and enters self-refresh. -/
  | selfRefreshEntry (pc : Nat)
  /-- SELF_REFRESH_EXIT (R344): A pseudo-channel leaves self-refresh after tXS and every bank recovers. -/
  | selfRefreshExit (pc : Nat)
  /-- SCHED_MISMATCH (R348): A scheduler disagreement blocks the command and recovers by reload or simplex. -/
  | schedMismatch (cg : Nat) (parityA : Bool) (parityB : Bool)
  /-- CA_RETRY (R350): A command whose address parity is bad is reissued. -/
  | caRetry (pc : Nat) (bank : Nat)
  /-- FENCE_DRAIN (R351): The drain sequencer of a fenced group completes merges, writes the queue, aborts reads and enters self-refresh. -/
  | fenceDrain (cg : Nat)
  /-- CG_FENCE_CLEAR (R351): Clearing CGn_CTL.FENCE releases the group from self-refresh and fence. -/
  | cgFenceClear (cg : Nat)
  /-- ECC_INJ_GO (R370): ECC_INJ_CTL GO arms the DRAM injector for COUNT matching reads. -/
  | eccInjGo (value : Nat)
  /-- SCRUB_READ (R372): A pseudo-channel's scrub period elapses and the Strainer reads and repairs the next line. -/
  | scrubRead (pc : Nat) (due : Bool) (flips : List (Nat × Nat))
  /-- SCRUB_LATE (R374): A pass running more than 10% beyond SCRUB_PERIOD is reported once. -/
  | scrubLate
  /-- PROMPT_SCRUB (R375): A prompt-queue entry is scrubbed ahead of the walk. -/
  | promptScrub (cg : Nat) (flips : List (Nat × Nat))
  /-- PIN_WINDOW (R384): A 1 ms symbol-position correction window ends and its counts restart. -/
  | pinWindow (pc : Nat)
  /-- REMAP_ROW (R381): BST_REP_CMD OP 1 starts a runtime remap of a row to a spare row. -/
  | repRemapRow (entry : Nat)
  /-- RETIRE_SPARE (R390): BST_REP_CMD OP 2 retires a spare. -/
  | repRetireSpare (entry : Nat)
  /-- READ_ENTRY (R390): BST_REP_CMD OP 3 returns the repair entry in force for a target. -/
  | repReadEntry (entry : Nat)
  /-- REMAP_READ (R381): In a lent slot the row's 16 lines are read into the remap buffer and the row goes in transit. -/
  | remapRead (cg : Nat) (flips : List (Nat × Nat × Nat))
  /-- REMAP_WRITE (R381): In the next lent slot the buffer is written to the spare and the map switches. -/
  | remapWrite (cg : Nat)
  /-- CREMA_READ (R399): A Crema bank performs a read, decoding each byte. -/
  | cremaRead (bank : Nat) (ini : Nat) (flips : List (Nat × Nat))
  /-- CREMA_WRITE (R398): A Crema bank stores the written bytes without merging. -/
  | cremaWrite (bank : Nat) (ini : Nat)
  /-- CREMA_RMW (R399): A Crema bank performs an atomic read-modify-write of one line. -/
  | cremaRmw (bank : Nat) (ini : Nat) (flips : List (Nat × Nat))
  /-- PATROL_STEP (R411): A bank patrols one line, writing back corrected words and poisoning uncorrectable bytes. -/
  | patrolStep (bank : Nat) (flips : List (Nat × Nat))
  /-- CREMA_PATROL_LATE (R416): A bank's patrol pass beyond PATROL_PERIOD by 10% is reported. -/
  | cremaPatrolLate (bank : Nat)
  /-- CE_BANK_WINDOW (R413): A 1 ms bank correction window ends and its count restarts. -/
  | ceBankWindow (bank : Nat)
  /-- CREMA_INIT (R408): Crema initialisation to zeros completes and INIT_DONE is set. -/
  | cremaInit
  /-- CRM_INJ_GO (R415): CRM_INJ_CTL GO arms the Crema injector. -/
  | crmInjGo (value : Nat)
  /-- CRM_FENCE_CLEAR (R414): Clearing a CRM_FENCE bit releases a bank fence where permitted. -/
  | crmFenceClear (bank : Nat)
  /-- ENQ (R431): ENQ appends 1–4 cells to a queue, allocating a page when needed. -/
  | enq (port : Nat) (head : ReqHead) (data : List Byte)
  /-- DEQ (R434): DEQ unlinks up to N cells from a queue's head and returns them. -/
  | deq (port : Nat) (head : ReqHead)
  /-- CELL_WORD_READ (R434): A dequeued cell's line-0 read returns and BYTES and PKTS are subtracted. -/
  | cellWordRead (txn : Nat)
  /-- LINK_READ (R444): The NEXT word of a page's cell 15 is read, or the chain is lost. -/
  | linkRead (qid : Nat)
  /-- PAGE_FREE (R426): A page whose cells' reads have completed returns to the free list. -/
  | pageFree (pool : Nat) (page : Nat)
  /-- REFILL (R428): A pool cache below 4,096 indices is refilled from the stack or BUMP. -/
  | refill (pool : Nat)
  /-- SPILL (R428): A pool cache above 28,672 indices writes 1,024 indices onto the stack. -/
  | spill (pool : Nat)
  /-- QSTAT (R435): QSTAT returns one queue's state. -/
  | qstat (port : Nat) (head : ReqHead)
  /-- ENABLE (R436): QCTL ENABLE binds a disabled queue to a pool, or updates limit and protection. -/
  | qEnable (port : Nat) (head : ReqHead)
  /-- DISABLE (R437): QCTL DISABLE disables an empty queue or moves it to DRAINING. -/
  | qDisable (port : Nat) (head : ReqHead)
  /-- FLUSH (R438): QCTL FLUSH moves a queue to FLUSHING and walks its chain. -/
  | qFlush (port : Nat) (head : ReqHead)
  /-- SET_LIMIT (R436): QCTL SET_LIMIT sets the queue's cell limit. -/
  | qSetLimit (port : Nat) (head : ReqHead)
  /-- SET_PROT (R436): QCTL SET_PROT sets the queue's protected flag. -/
  | qSetProt (port : Nat) (head : ReqHead)
  /-- QUE_DRAIN_TIMEOUT (R437): A drain timer expires and the queue proceeds as for FLUSH. -/
  | queDrainTimeout (qid : Nat)
  /-- WALK_READ (R438): A flush walk read returns the next page and the walked page is freed. -/
  | walkRead (qid : Nat)
  /-- RECLAIM (R429): QUE_POOL_CMD RECLAIM empties a pool's cache and stack and resets BUMP and LEAKED. -/
  | reclaim
  /-- PROBE (R463): PROBE hashes a key, reads both buckets under shared locks and returns the result. -/
  | tblProbe (port : Nat) (head : ReqHead) (data : List Byte)
  /-- INSERT (R464): INSERT adds or replaces a key, displacing entries when both buckets are full. -/
  | tblInsert (port : Nat) (head : ReqHead) (data : List Byte)
  /-- DISPLACEMENT_MOVE (R465): One displacement move locks two buckets, checks, writes the destination and clears the source. -/
  | displacementMove (txn : Nat)
  /-- DELETE (R467): DELETE removes a key under exclusive locks. -/
  | tblDelete (port : Nat) (head : ReqHead) (data : List Byte)
  /-- LOCK_GRANT (R468): A released bucket lock or lock entry lets a waiting operation or host access proceed. -/
  | lockGrant (txn : Nat)
  /-- TBL_LOCK_STALL (R478): An operation waiting more than 10 µs for a lock is reported. -/
  | tblLockStall (txn : Nat)
  /-- DEFINE (R474): TBL_CMD DEFINE brings a staged descriptor into force. -/
  | tblDefine
  /-- RETIRE (R474): TBL_CMD RETIRE withdraws a descriptor once earlier operations complete. -/
  | tblRetire
  /-- MOVE (R475): TBL_CMD MOVE starts copying a table bucket by bucket to a new place. -/
  | tblMove
  /-- BUCKET_COPY (R475): One bucket of a moving table is copied; after the last, the descriptor takes the new place. -/
  | bucketCopy
  /-- TABLE_EMPTYING (R476): Emptying of a table with INIT completes and READY rises. -/
  | tableEmptying (tid : Nat)
  /-- CUPD (R494): CUPD adds packets and bytes to a counter and its ancestors at one instant. -/
  | cupd (port : Nat) (head : ReqHead)
  /-- COUNTER_FLUSH (R490): A hot slot's deltas are added to the counter record in one read-modify-write. -/
  | counterFlush (csid : Nat) (index : Nat)
  /-- CREAD (R496): CREAD flushes and reads a counter and optionally its ancestors. -/
  | cread (port : Nat) (head : ReqHead)
  /-- CCLR (R497): CCLR clears a counter, optionally subtracting it from its ancestors. -/
  | cclr (port : Nat) (head : ReqHead)
  /-- CREBUILD (R498): CREBUILD starts a scan that sets a counter to the sum of its children. -/
  | crebuild (port : Nat) (head : ReqHead)
  /-- REBUILD_SCAN_END (R499): The rebuild scan ends and the counter takes the sum at that instant. -/
  | rebuildScanEnd
  /-- CHECKPOINT_SWEEP (R503): Every CKPT_INT the engine flushes CKPT slots, sends a mark and protected-queue checkpoints. -/
  | checkpointSweep
  /-- SLICE (R517): A 256 ns slice begins and its share pool is set. -/
  | slice
  /-- WINDOW_START (R525): A label's window starts: count reset, G' fixed, queued requests re-judged and commits applied. -/
  | windowStart (label : Nat)
  /-- SHARE_RELEASE (R524): Deficit round-robin releases held SHARE requests while the pool is above zero. -/
  | shareRelease
  /-- URGENCY_RISE (R528): A request's age crosses 50%, 75% or 90% of its target and its urgency rises. -/
  | urgencyRise (txn : Nat)
  /-- SHRINK_RECOMPUTE (R521): After a change in throttle, level, fence or self-refresh, K and S are recomputed. -/
  | shrinkRecompute
  /-- LABEL_COMMIT (R533): REG_LCMD GO checks a staged label configuration for commit at its next window. -/
  | labelCommit
  /-- LOAD (R544): SEC_KLD_CTL LOAD holds requests of a slot's users and starts loading a wrapped key. -/
  | kldLoad (slot : Nat)
  /-- CLEAR (R544): SEC_KLD_CTL CLEAR holds the slot's users and starts emptying the slot. -/
  | kldClear (slot : Nat)
  /-- KEY_LOAD_DRAIN_END (R544): Earlier requests complete, the slot is unwrapped or cleared and held requests released. -/
  | keyLoadDrainEnd
  /-- KEY_LOAD_TIMEOUT (R544): KLD_TO expires first and the load ends TIMEOUT with the slot unchanged. -/
  | keyLoadTimeout
  /-- MK_DECRYPT (R559): SEC_MK_CTL GO decrypts the MK blob and brings MK into force. -/
  | mkDecrypt
  /-- ATTESTATION_REQUEST (R565): SEC_ATT_CTL GO starts forming a signed attestation report. -/
  | attestationRequest
  /-- REPORT_FORMED (R565): The attestation report is formed and RESULT set to done. -/
  | reportFormed
  /-- TAG_CACHE_EVICTION (R551): A dirty tag-cache line is written to DRAM on eviction. -/
  | tagCacheEviction (line : Nat) (err : Nat)
  /-- HELLO_SEND (R575): Every 100 µs an unjoined paired part sends HELLO. -/
  | helloSend
  /-- HELLO (R575): A received HELLO joins the pair, records a role conflict, or loses the partner when joined. -/
  | helloRecv (role : Nat) (mode : Nat) (single : Bool) (current : Nat)
  /-- HB_SEND (R586): Every 10 µs a joined part sends HB. -/
  | hbSend
  /-- HB (R586): A received HB records the partner's role, mode and copy state. -/
  | hbRecv (role : Nat) (mode : Nat) (single : Bool) (current : Nat)
  /-- HB_TIMEOUT (R586): No HB accepted for 30 µs loses the partner. -/
  | hbTimeout
  /-- ANSWER_TIMEOUT (R586): An MWR or MEXEC unanswered for 50 µs loses the partner. -/
  | answerTimeout
  /-- LEAVE (R586): A received LEAVE loses the partner. -/
  | leaveRecv (mode : Nat)
  /-- MWR (R579): A received MWR writes the line or stores poison and answers MCMT. -/
  | mwrRecv (xid : Nat) (line : Nat) (keyed : Bool) (poison : Bool) (copy : Bool) (urg : Nat) (label : Nat) (entry : List Byte) (data : List Byte)
  /-- MCMT (R579): A received MCMT lets the mirrored write's response form, SINGLE on FENCED or REJ_REGION. -/
  | mcmtRecv (xid : Nat) (status : Nat)
  /-- MEXEC (R583): A received MEXEC is executed at the PRIMARY as its own request. -/
  | mexecRecv (xid : Nat) (op : Nat) (head : ReqHead) (data : List Byte)
  /-- MRES (R583): A received MRES forms the SECONDARY's host response. -/
  | mresRecv (xid : Nat) (status : Nat) (rflags : Nat) (pmask : Nat) (result : Nat) (data : List Byte)
  /-- CDELTA (R584): A received CDELTA adds a flushed delta to the counter record. -/
  | cdeltaRecv (csid : Nat) (index : Nat) (dp : Nat) (db : Nat)
  /-- CSET (R584): A received CSET sets a counter's value, LOST and EPOCH. -/
  | csetRecv (csid : Nat) (index : Nat) (lost : Bool) (epoch : Nat) (pkts : Nat) (bytes : Nat)
  /-- CMARK (R584): A received CMARK records the partner's last sweep time. -/
  | cmarkRecv (time : Nat)
  /-- QCKPT (R585): A received QCKPT writes a protected queue's checkpoint to the shadow region. -/
  | qckptRecv (qid : Nat) (state : Nat) (pool : Nat) (prot : Bool) (limit : Nat) (cells : Nat) (pkts : Nat) (bytes : Nat)
  /-- ROLE (R594): A received ROLE message or acknowledgement completes a role change. -/
  | roleRecv (role : Nat) (ack : Bool)
  /-- RSYNC (R590): A received RSYNC marks a region's copy start or done, counters done or all done. -/
  | rsyncRecv (code : Nat) (region : Nat)
  /-- RESYNC_COPY_READ (R590): The resync source reads the next line and sends it as an MWR with COPY. -/
  | resyncCopyRead
  /-- ROLE_CHANGE (R594): PAIR_ROLE GO changes the part's role at once, or by exchange when joined. -/
  | roleChange (role : Nat)
  /-- ROLE_CHANGE_TIMEOUT (R594): The role exchange does not end within 100 µs; roles kept and RESULT TIMEOUT. -/
  | roleChangeTimeout
  /-- PAIR_RESYNC (R593): PAIR_RESYNC GO starts a full copy with the chosen source. -/
  | pairResync (self : Bool)
  /-- SENSOR_SAMPLE (R605): A sensor conversion completes: validity checks, substitution, zone, band and trip evaluation. -/
  | sensorSample (sensor : Nat) (code : Nat)
  /-- REGION_VOLTAGE_SAMPLE (R618): A region's VDD_CORE monitor is sampled and adjacent pairs judged for spread. -/
  | regionVoltageSample (region : Nat) (mv : Nat)
  /-- SPREAD_CLEAR (R620): A dropped region within limits for 1 ms returns to GLB_MODE.LEVEL. -/
  | spreadClear (region : Nat)
  /-- REARM (R609): THM_REARM GO makes a FAILED sensor sampled again. -/
  | rearm (sensor : Nat)
  /-- CORE_DIE_COMPARE (R617): In retain modes each core die compares its sensors every 1 ms and Samovar records Trip A. -/
  | coreDieCompare (codes : List (Nat × Nat))
  /-- DEEP_TRIP_B_SAMPLE (R617): In DEEP, Samovar samples TS-B56 every 10 ms against Trip B. -/
  | deepTripBSample (code : Nat)
  /-- DRAIN_COMPLETE (R40): In-flight work completes in DRAIN and the sleep entry proceeds. -/
  | drainComplete
  /-- DRAIN_TIMEOUT (R48): The 1 ms drain bound expires, leftovers are ABORTED and the entry proceeds. -/
  | drainTimeout
  /-- SLEEP_ENTRY (R635): Retain entry saves queues, counter slots, tag cache and registers and enters self-refresh. -/
  | sleepEntry
  /-- POINT_OF_NO_RETURN (R637): PNR is set, transmitters go off and power enables drop; the entry then always completes. -/
  | pointOfNoReturn
  /-- WAKE_N (R641): A WAKE_N falling edge is a wake event, latched or waking the part. -/
  | wakePin (pulse : Option Nat)
  /-- ACTIVITY (R642): Activity detected on PORT0 or PAIR lane 0 is a wake event. -/
  | activity (pair : Bool)
  /-- PWR_TIMER (R643): PWR_TIMER reaching 0 is a wake event. -/
  | pwrTimer
  /-- PWR_WAKE_CMD (R641): A write of PWR_WAKE_CMD with GO is a sideband wake event. -/
  | pwrWakeCmd
  /-- WAKE_LATCH (R646): A wake latched before PNR aborts the entry; at or after PNR it is replayed. -/
  | wakeLatch
  /-- WAKE (R650): The wake sequence repowers, restores the save area, exits self-refresh and recalibrates. -/
  | wakeRestore (badBlock : Option Nat)
  /-- DEEP_WAKE (R651): A wake from DEEP clears the key store and runs the boot. -/
  | deepWake
  /-- SET (R664): CGn_CAL_CMD SET writes a lane setting for a level not in force. -/
  | calSet (cg : Nat) (level : Nat) (pc : Nat) (lane : Nat) (value : Nat)
  /-- STEEP (R664): CGn_CAL_CMD STEEP stages a lane setting for the next Steep window. -/
  | calSteep (cg : Nat) (level : Nat) (pc : Nat) (lane : Nat) (value : Nat)
  /-- TSV_SWAP (R665): CGn_CAL_CMD TSV_SWAP switches a spare TSV in for a lane. -/
  | calTsvSwap (cg : Nat) (level : Nat) (pc : Nat) (lane : Nat) (value : Nat)
  /-- CAL_READ (R664): CGn_CAL_CMD READ returns a lane's setting. -/
  | calRead (cg : Nat) (level : Nat) (pc : Nat) (lane : Nat)
  /-- STEEP_WINDOW (R661): A lent slot opens a Steep window: staged corrections take effect and training bursts run. -/
  | steepWindow (pc : Nat) (bank : Nat) (obs : List (Nat × Nat × Nat × Nat))
  /-- LANE_RETRAIN (R667): Every 24 hours house firmware swaps the next logical lane of each port to re-train it. -/
  | laneRetrain
  /-- FAULT_MESSAGE (R681): The collector accepts a fault message, numbers it, logs, delivers, opens an entry or escalates. -/
  | faultMessage (source : Nat)
  /-- EVENT_MESSAGE (R685): A port sends the oldest queued event message on VC 2 when it has credits. -/
  | eventMessage (port : Nat)
  /-- GRACE_EXPIRY (R693): An action entry's grace timer expires and the source's escalation rule is applied. -/
  | graceExpiry (slot : Nat)
  /-- ACKNOWLEDGE (R692): FLT_ACK GO closes the matching open action entry, or ends NOT_OPEN. -/
  | acknowledge (source : Nat) (seq : Nat)
  /-- TEST_MESSAGE (R697): FLT_TEST GO raises an injected test message that never escalates. -/
  | testMessage (source : Nat) (kind : Nat) (sev : Nat) (addr : Nat)
  /-- FLT_SB_POP (R686): A write of FLT_SB_POP removes the oldest sideband message, releasing ALERT_N when empty. -/
  | fltSbPop
  /-- SELFTEST_COMPLETE (R709): The boot tests finish, repairs are made and retested, and SELFTEST proceeds or locks down. -/
  | selftestComplete (ecc : Option Nat) (crema : Bool) (crypto : Bool) (array : Option Nat) (first : List Nat) (second : List Nat)
  /-- ROW_TEST (R711): BST_CTL ROW_TEST moves a row's data to a spare and tests the row. -/
  | rowTest (pc : Nat) (bank : Nat) (row : Nat) (alg : Nat)
  /-- SPARE_TEST (R711): BST_CTL SPARE_TEST tests a free spare row. -/
  | spareTest (pc : Nat) (bank : Nat) (spare : Nat) (alg : Nat)
  /-- CREMA_BANK (R713): BST_CTL CREMA_BANK tests a fenced Crema bank line by line, keeping contents. -/
  | cremaBank (bank : Nat) (alg : Nat)
  /-- FULL_CG (R713): BST_CTL FULL_CG destructively tests a fenced channel group. -/
  | fullCg (pc : Nat) (alg : Nat)
  /-- FULL_CREMA (R713): BST_CTL FULL_CREMA destructively tests a fenced Crema bank. -/
  | fullCrema (bank : Nat) (alg : Nat)
  /-- BIST_ELEMENT (R711): One algorithm element runs in a lent slot; after the last the test ends. -/
  | bistElement (index : Nat) (fails : List Nat)
  /-- RETENTION_PAUSE (R706): A retention pause ends and the read element follows. -/
  | retentionPause (index : Nat)
  /-- BIST_TIMEOUT (R714): A test not complete within 100 ms ends ABORTED. -/
  | bistTimeout (index : Nat)
  /-- SPARE_PERIOD (R715): Once per SPARE_PERIOD house firmware starts SPARE_TEST on every free spare row. -/
  | sparePeriod
  /-- SNAP_N (R720): A SNAP_N falling edge starts a snapshot wave unless one is held. -/
  | snapPin
  /-- UNLOCK (R726): OBS_SNAP_CMD UNLOCK opens the held snapshot to readout. -/
  | snapUnlock
  /-- RELEASE (R726): OBS_SNAP_CMD RELEASE discards the held snapshot. -/
  | snapRelease
  /-- LEVEL_SAMPLE (R729): At each 2^SPER ticks a monitor samples its level quantity into its histogram. -/
  | levelSample (m : Nat)
  /-- CLR (R732): OBS_MONm_CTL CLR clears a monitor's counts at one instant. -/
  | monClr (m : Nat)
  /-- OBS_MON_CFG_WRITE (R732): A write of OBS_MONm_CFG or BASE takes effect and clears the monitor. -/
  | obsMonCfgWrite (m : Nat) (base : Bool) (value : Nat)
  /-- CALIBRATION_COMPLETE (R40): CALIBRATE finishes calibrating every level, stores a record when needed, and the sequencer moves to SERVICE at LVL_START. -/
  | calibrationComplete (trained : List (Nat × Nat × Nat × Nat))
  /-- SENSOR_CONVERSION_TIMEOUT (R606): A sensor conversion that gives no result within 5 µs is a failing sample, which starts or prolongs a substitute and counts toward FAILED. -/
  | sensorConversionTimeout (sensor : Nat)
  /-- RAIL_IN_RANGE (R71): A monitored rail returns within its recommended range and its PWR_RAIL_STAT.OUT bit clears. -/
  | railInRange (rail : Nat)
  /-- DRIFT_WINDOW (R663): A lane's 1 ms edge-monitor window ends and its disagreement count restarts. -/
  | driftWindow (pc : Nat) (drift : LaneDrift)
  /-- THROTTLE_LIMIT_END (R622): A zone's once-per-millisecond THROTTLE limit ends, and a level change suppressed during it is reported. -/
  | throttleLimitEnd (zone : Nat)
  /-- DEFICIT_LIMIT_END (R535): The 100 µs REG_DEFICIT limit ends, and a change of S suppressed during it is reported. -/
  | deficitLimitEnd
  deriving DecidableEq, Repr

end Sys2Proof
end

