-- ==== Sys2Proof/Decode.lean ====
section
/-! DEFINITION. Words of the command table: spec/opcode_table.json gives no row any bits, so no word spells a command. The
part's own encodings (request heads, flits, pair-link messages) are read in Machine/Request.lean and Machine/Flit.lean. -/

namespace Sys2Proof

/-- The command that a word of `nbits` bits spells: none, as no row of the table has bits. -/
def decodeTableWord (_nbits _w : Nat) : Option Instr := none

end Sys2Proof
end

