-- ==== Sys2Proof/Machine/Bits.lean ====
section
/-! DEFINITION. Bit fields of numbers, byte order and rounding: the helpers every other file uses. -/

namespace Sys2Proof.Machine

/-- Bits [hi:lo] of `x` (R8: bit 0 is the least significant). -/
def bits (x hi lo : Nat) : Nat := x / 2 ^ lo % 2 ^ (hi - lo + 1)

/-- Bit `i` of `x`. -/
def bit (x i : Nat) : Bool := x / 2 ^ i % 2 == 1

/-- `x` with bits [hi:lo] replaced by the low bits of `v`. -/
def setBits (x hi lo v : Nat) : Nat :=
  x % 2 ^ lo + v % 2 ^ (hi - lo + 1) * 2 ^ lo + x / 2 ^ (hi + 1) * 2 ^ (hi + 1)

/-- 1 for true, 0 for false. -/
def b2n (b : Bool) : Nat := if b then 1 else 0

/-- Round up to a multiple of `m`. -/
def ceilDiv (x m : Nat) : Nat := (x + m - 1) / m

/-- The little-endian number that a list of bytes spells (R9). -/
def leNat : List Byte → Nat
  | [] => 0
  | b :: bs => b.toNat + 256 * leNat bs

/-- The `n` low bytes of `x`, least significant first (R9). -/
def leBytes : Nat → Nat → List Byte
  | 0, _ => []
  | n + 1, x => BitVec.ofNat 8 x :: leBytes n (x / 256)

/-- A two's complement number of `w` bits read from `x`. -/
def signed (w x : Nat) : Int :=
  if x % 2 ^ w < 2 ^ (w - 1) then (x % 2 ^ w : Int) else (x % 2 ^ w : Int) - 2 ^ w

/-- `x` in `w` bits of two's complement. -/
def wrapInt (w : Nat) (x : Int) : Nat := (x % (2 ^ w : Int)).toNat

/-- The number of 1 bits among the low `w` bits of `x`. -/
def popCount : Nat → Nat → Nat
  | 0, _ => 0
  | w + 1, x => x % 2 + popCount w (x / 2)

/-- The list element at `i`, or `d` past the end. -/
def nth {α : Type} (d : α) (l : List α) (i : Nat) : α := l.getD i d

/-- The list with element `i` replaced; unchanged past the end. -/
def setNth {α : Type} : List α → Nat → α → List α
  | [], _, _ => []
  | _ :: xs, 0, v => v :: xs
  | x :: xs, i + 1, v => x :: setNth xs i v

/-- Every element that fails `p`, in order: the list with its `p` elements taken out. -/
def dropWhere {α : Type} (p : α → Bool) (l : List α) : List α := l.filter fun x => !p x

end Sys2Proof.Machine
end

