-- ==== Sys2Proof/Machine/Coding.lean ====
section
/-! DEFINITION. How a lane and a port code what they carry, as functions of numbers: PAM4 symbols (R177), code groups
and the comma (R178, R179), the scrambler (R181), the bodies of LM0 to LM2 (R182–R184), the hunt for the comma (R187),
test patterns (R204), the FEC (R221, R222) and the places of bodies, codewords and flits in a frame (R220, R223). -/

namespace Sys2Proof.Machine

/-! ### PAM4 symbols (R177) -/

/-- The level of a symbol: its first bit, then its second. -/
def pam4 (first second : Bool) : Int :=
  match first, second with
  | false, false => -3
  | false, true => -1
  | true, true => 1
  | true, false => 3

/-- The symbols of a bit sequence, in order. -/
def symbolsOf : List Bool → List Int
  | a :: b :: bs => pam4 a b :: symbolsOf bs
  | _ => []

/-- What the transmitter sends at a RATE: at RATE 1 every symbol twice. -/
def atRate (double : Bool) (syms : List Int) : List Int := if double then syms.flatMap fun x => [x, x] else syms

/-! ### Code groups (R178, R179) -/

/-- A code group: its header as the table writes it, in transmission order, and its body. -/
abbrev Group := Nat × Nat

def hData := 1
def hControl := 2
def hComma := 3

/-- The 66 bits of a code group in the order they are sent. -/
def groupBits (g : Group) : List Bool := bit g.1 1 :: bit g.1 0 :: (List.range 64).map (bit g.2)

def commaBody : Nat := 0x5A3CC3A596F00F69

def commaGroup : Group := (hComma, commaBody)

/-- A receiver takes the code group as a comma: at most 4 body bits differ. -/
def isComma (g : Group) : Bool := g.1 == hComma && decide (popCount 64 (Nat.xor g.2 commaBody) ≤ 4)

/-- A code error away from position 0: an illegal header, or a header 11. -/
def badHeader (h : Nat) : Bool := h == 0 || h == 3

/-- Code errors of the headers of positions 2 to 1,023 of a frame, then those of positions 0 and 1 of the next. -/
def codeErrors (payload : List Nat) (comma lm0 : Group) : Nat :=
  (payload.filter badHeader).length + b2n (comma.1 == 0) + b2n (badHeader lm0.1)

/-! ### The scrambler (R181) -/

/-- One step of the scrambler 1 + x^39 + x^58; its output bit is the new s[0]. -/
def scrStep (s : Nat) : Nat := (2 * s + Nat.xor (bits s 57 57) (bits s 38 38)) % 2 ^ 58

def scrAdvance : Nat → Nat → Nat
  | 0, s => s
  | n + 1, s => scrAdvance n (scrStep s)

/-- The next `n` output bits as a number, the first least significant. -/
def scrKey : Nat → Nat → Nat
  | 0, _ => 0
  | n + 1, s => scrStep s % 2 + 2 * scrKey n (scrStep s)

/-- A body scrambled, or descrambled, from scrambler state `s`. -/
def scramble (s body : Nat) : Nat := Nat.xor (body % 2 ^ 64) (scrKey 64 s)

/-- The state at the start of bring-up, of logical lane k or of the spare-role lane under key 15. -/
def scrStart (k : Nat) : Nat := 0x3FFFFFFFFFFFF00 + k

/-- Scrambled body bits of a frame of transmit state `st` whose LM0 names `lane`: LM1 and LM2, and the payload outside
training and spare role. Payload of standby frames counts as scrambled (DEDUCED: no payload reaches the line
unscrambled; assumption 59). -/
def frameBits (st lane : Nat) : Nat := if st = 0 ∨ lane = 15 then 128 else 64 * 1022

/-! ### LM0 to LM2 (R182–R184) -/

def lm0Body (lane st seed : Nat) : Nat := lane % 16 * 2 ^ 60 + st % 4 * 2 ^ 58 + seed % 2 ^ 58

/-- One bit into the CRC-8 x^8 + x^2 + x + 1. -/
def crc8Bit (c : Nat) (b : Bool) : Nat :=
  let f := bit c 7 != b
  Nat.xor (2 * c % 256) (if f then 7 else 0)

/-- The CRC of bits [55:0], from bit 0. -/
def crc8 (body : Nat) : Nat := (List.range 56).foldl (fun c i => crc8Bit c (bit body i)) 0

/-- The CRC of an LM1 or LM2 body matches. -/
def lmOk (body : Nat) : Bool := crc8 body == bits body 63 56

/-- A body with its CRC. -/
def lmSeal (body : Nat) : Nat := body % 2 ^ 56 + crc8 body * 2 ^ 56

def lm1Body (reqLane swapFrame swapLane frame : Nat) : Nat :=
  lmSeal (frame % 4096 + swapLane % 16 * 2 ^ 12 + swapFrame % 4096 * 2 ^ 16 + reqLane % 16 * 2 ^ 28)

def lm2Body (up spareReady : Bool) (flag lock : Nat) : Nat :=
  lmSeal (lock % 512 + flag % 512 * 2 ^ 16 + b2n spareReady * 2 ^ 32 + b2n up * 2 ^ 33)

/-! ### The hunt (R187) -/

/-- The code group at bit offset `o` of a received bit sequence, its first bit least significant. -/
def rawGroup (raw o : Nat) : Group := (2 * b2n (bit raw o) + b2n (bit raw (o + 1)), bits raw (o + 65) (o + 2))

/-- The 1,024 code groups from offset `o`: none but the first has header 11. -/
def oneComma (raw o : Nat) : Bool := (List.range 1023).all fun g => (rawGroup raw (o + 66 * (g + 1))).1 != hComma

/-- The candidate at offset `o` is confirmed over the next 4 comma positions. -/
def confirmed (raw o : Nat) : Bool :=
  (List.range 4).all fun i => oneComma raw (o + 66 * 1024 * i) && isComma (rawGroup raw (o + 66 * 1024 * (i + 1)))

/-- The first bit offset, among `len` received bits, whose comma is confirmed. -/
def hunt (raw len : Nat) : Option Nat :=
  (List.range (len + 1 - 66 * 4097)).find? fun o => isComma (rawGroup raw o) && confirmed raw o

/-! ### Test patterns (R204, R218) -/

/-- Length of a pattern's shift register: codes 1 PRBS7, 2 PRBS13Q, 3 PRBS31. -/
def patLen (pat : Nat) : Nat := if pat = 1 then 7 else if pat = 2 then 13 else 31

/-- The next pattern bit after a register whose newest bit is bit 0: x^7 + x^6 + 1, x^31 + x^28 + 1, and for PRBS13Q
the x^13 + x^12 + x^2 + x + 1 of IEEE 802.3 (PRESUMED, assumption 60), its bit pairs Gray coded as R177 codes every
pair. -/
def prbsBit (pat r : Nat) : Bool :=
  if pat = 1 then bit r 6 != bit r 5
  else if pat = 2 then (bit r 12 != bit r 11) != (bit r 1 != bit r 0)
  else bit r 30 != bit r 27

def prbsStep (pat r : Nat) : Nat := (2 * r + b2n (prbsBit pat r)) % 2 ^ patLen pat

def prbsAdvance (pat : Nat) : Nat → Nat → Nat
  | 0, r => r
  | n + 1, r => prbsAdvance pat n (prbsStep pat r)

/-- The next `n` pattern bits as a number, the first least significant. -/
def prbsKey (pat : Nat) : Nat → Nat → Nat
  | 0, _ => 0
  | n + 1, r => b2n (prbsBit pat r) + 2 * prbsKey pat n (prbsStep pat r)

/-- The register that the pattern bits from position `i` of a received sequence fill. -/
def prbsSeed (pat rx i : Nat) : Nat :=
  (List.range (patLen pat)).foldl (fun r j => 2 * r + b2n (bit rx (i + j))) 0

/-- Bit errors of a synchronised checker over the next `n` received bits. -/
def prbsCount (pat : Nat) : Nat → Nat → Nat → Nat
  | 0, _, _ => 0
  | n + 1, r, rx => b2n (prbsBit pat r != bit rx 0) + prbsCount pat n (prbsStep pat r) (rx / 2)

/-- The checker synchronises itself where as many bits as its register holds follow as the pattern gives them, and
counts the bit errors from there on; none: it finds no such place (DESIGN CHOICE, assumption 60). -/
def prbsErrors (pat len rx : Nat) : Option Nat :=
  let k := patLen pat
  ((List.range (len + 1 - 2 * k)).find? fun i => prbsCount pat k (prbsSeed pat rx i) (rx / 2 ^ (i + k)) == 0).map
    fun i => prbsCount pat (len - (i + k)) (prbsSeed pat rx i) (rx / 2 ^ (i + k))

/-! ### The FEC (R221, R222) -/

/-- Times α in GF(2^10) with x^10 + x^3 + 1. -/
def fecX (a : Nat) : Nat := if a < 512 then 2 * a else Nat.xor (2 * a) 0x409

def fecMulN : Nat → Nat → Nat → Nat
  | 0, _, _ => 0
  | n + 1, a, b => Nat.xor (if b % 2 = 1 then a else 0) (fecMulN n (fecX a) (b / 2))

def fecMul (a b : Nat) : Nat := fecMulN 10 a b

/-- α^k. -/
def fecPow : Nat → Nat
  | 0 => 1
  | k + 1 => fecX (fecPow k)

/-- a^(2^10 − 2), the inverse: the product of a^2, a^4 to a^512. -/
def fecInv (a : Nat) : Nat :=
  ((List.range 9).foldl (fun (x : Nat × Nat) _ => let q := fecMul x.1 x.1; (q, fecMul x.2 q)) (a, 1)).2

/-- Value of a polynomial, coefficients from the lowest. -/
def fecEval (p : List Nat) (x : Nat) : Nat := p.foldr (fun c v => Nat.xor c (fecMul v x)) 0

/-- A polynomial times (x − r). -/
def fecRoot (p : List Nat) (r : Nat) : List Nat := List.zipWith Nat.xor (0 :: p) (p.map (fecMul r) ++ [0])

/-- The generator polynomial: the product of (x − α^i) for i = 0 to 15, coefficients from the lowest. -/
def fecGen : List Nat := (List.range 16).foldl (fun p i => fecRoot p (fecPow i)) [1]

/-- Symbols packed ten bits each, the first least significant. -/
def pack10 (l : List Nat) : Nat := l.foldr (fun c v => c + 1024 * v) 0

/-- Row b: α^b times the generator below x^16, packed (`fecRows_eq` holds them to `fecGen`). -/
def fecRows : List Nat :=
  [0x8E226BB2D4A2BEDBA01B3326936A53736EAF0378,
   0x1E445745A1477D376436660DB6D0AFE69DDE26F9,
   0x3C88AE8B428EBAFEC86CCC1B6DA15ECF7BAC6DFB,
   0x79114D368D1F757DB4D89A76CB66BC9CF7D8FFF6,
   0xF2228A4D133EAA7B4DB036ED16ED713BEF31DFE5,
   0xE64594BE267D1476BF606D9ABDDAE2779EF3BBC3,
   0xCECB297845FA28ED7AC9DB356B95CDEF3DE7738F,
   0x9FD642D48AF6515AD59BB46A570F9ADC7B5EE317,
   0x3DEC85A914EEE2A58F366AD43E1B3DBAF63DE627,
   0x7B999B5228DFC5DB1A65D5A86C167377ECFBEC47]

/-- The multiple of the generator, below x^16, that a symbol subtracts. -/
def fecFold (f : Nat) : Nat :=
  (List.range 10).foldl (fun x b => if bit f b then Nat.xor x (nth 0 fecRows b) else x) 0

/-- One symbol, highest order first, into a remainder of 16 packed symbols. -/
def fecStep (r sym : Nat) : Nat := Nat.xor (r % 2 ^ 150 * 1024) (fecFold (Nat.xor (r / 2 ^ 150) sym))

/-- Symbol j of a codeword. -/
def cwSym (w j : Nat) : Nat := w / 2 ^ (10 * j) % 1024

/-- The remainder that symbols 0 to 527 leave. -/
def fecParity (w : Nat) : Nat := (List.range 528).foldl (fun r j => fecStep r (cwSym w j)) 0

/-- Packed symbols in the opposite order: symbol 528 is the highest order of the parity. -/
def flip16 (r : Nat) : Nat := (List.range 16).foldl (fun x j => x + cwSym r (15 - j) * 2 ^ (10 * j)) 0

/-- The codeword of 5,280 data bits. -/
def fecEncode (data : Nat) : Nat := data % 2 ^ 5280 + flip16 (fecParity data) * 2 ^ 5280

/-- The remainder of a received word; 0: it is a codeword. -/
def fecRem (w : Nat) : Nat := Nat.xor (fecParity w) (flip16 (w / 2 ^ 5280))

/-- State of the search for the error locator (Berlekamp–Massey). -/
structure Bm where
  c : List Nat
  b : List Nat
  l : Nat
  m : Nat
  d : Nat
  deriving DecidableEq, Repr

/-- a − f x^m b. -/
def fecSub (a b : List Nat) (f m : Nat) : List Nat :=
  let sh := List.replicate m 0 ++ b.map (fecMul f)
  (List.range (max a.length sh.length)).map fun i => Nat.xor (nth 0 a i) (nth 0 sh i)

def bmStep (syn : List Nat) (x : Bm) (n : Nat) : Bm :=
  let d := (List.range (x.l + 1)).foldl (fun v i => Nat.xor v (fecMul (nth 0 x.c i) (nth 0 syn (n - i)))) 0
  if d = 0 then { x with m := x.m + 1 }
  else
    let c := fecSub x.c x.b (fecMul d (fecInv x.d)) x.m
    if 2 * x.l ≤ n then { c, b := x.c, l := n + 1 - x.l, m := 1, d } else { x with c, m := x.m + 1 }

/-- The errors that a remainder shows: symbol and value. -/
def fecErrors (rem : Nat) : List (Nat × Nat) :=
  let syn := (List.range 16).map fun i => fecEval ((List.range 16).map (cwSym rem)) (fecPow i)
  let loc := (List.range 16).foldl (bmStep syn) { c := [1], b := [1], l := 0, m := 1, d := 1 }
  let omega := (List.range 16).map fun i =>
    (List.range (i + 1)).foldl (fun v j => Nat.xor v (fecMul (nth 0 loc.c j) (nth 0 syn (i - j)))) 0
  let deriv := (List.range loc.c.length).map fun i => if i % 2 = 0 then nth 0 loc.c (i + 1) else 0
  (List.range 544).filterMap fun j =>
    let x := fecPow (543 - j)
    let y := fecInv x
    if fecEval loc.c y = 0 then some (j, fecMul x (fecMul (fecEval omega y) (fecInv (fecEval deriv y)))) else none

/-- The word with its errors taken out. -/
def fecFix (w : Nat) (es : List (Nat × Nat)) : Nat :=
  es.foldl (fun w e => Nat.xor w (e.2 % 1024 * 2 ^ (10 * e.1))) w

/-- The decoder: the codeword at most 8 symbols from the received word, and how many symbols it corrected; none:
flagged uncorrectable. -/
def fecDecode (w : Nat) : Option (Nat × Nat) :=
  let r := fecRem w
  if r = 0 then some (w, 0)
  else
    let es := fecErrors r
    let v := fecFix w es
    if es.length ≤ 8 ∧ fecRem v = 0 then some (v, es.length) else none

/-! ### Bodies, codewords and flits (R220, R221, R223) -/

/-- Body b of a codeword. -/
def cwBody (w b : Nat) : Nat := w / 2 ^ (64 * b) % 2 ^ 64

/-- Bodies of a frame over `lanes` logical lanes. -/
def bodiesPerFrame (lanes : Nat) : Nat := 1020 * lanes

/-- Body of the frame at a payload position of a logical lane. -/
def bodyIndex (lanes lane pos : Nat) : Nat := (pos - 4) * lanes + lane

/-- Position and logical lane of body i of the frame. -/
def bodyPlace (lanes i : Nat) : Nat × Nat := (4 + i / lanes, i % lanes)

/-- Flits after which the stream of a port is at the start of a frame again: 495, on the pair link over two frames. -/
def flitPeriod : Nat := 495

/-- The codewords that hold bytes of flit `pos` of a period: one, or two where it runs over the end of the first. -/
def flitWords (pos : Nat) : List Nat :=
  let c := 1024 * pos / 5280
  if 1024 * pos % 5280 ≤ 4256 then [c] else [c, c + 1]

end Sys2Proof.Machine
end

