-- ==== Sys2Proof/Config.lean ====
section
/-! DEFINITION. What the spec leaves open (R7) or takes from standards it does not restate: values
with no body, so that nothing can be proved of them but what holds for every value. -/

namespace Sys2Proof.Config

/-- A fresh free value: the outcome of draw `n` in a range of `k` outcomes is `freeDraw n % k`.
Used where the spec says an outcome is not defined within a stated range (R7), and for random
numbers (R151, R556). Assumption 3. -/
opaque freeDraw : Nat → Nat

/-- The word of the ROM at a word address (R113, R117): the spec gives no content. -/
opaque romWord : Nat → Nat

/-- SM3 digest of a byte string, as a 256-bit little-endian number. The spec cites the standard
(GB/T 32905) and does not restate it. Assumption 4. -/
opaque sm3 : List Byte → Nat

/-- SM4 encryption and decryption of one 128-bit block under a 128-bit key (GB/T 32907).
Assumption 4. -/
opaque sm4Enc : Nat → Nat → Nat

opaque sm4Dec : Nat → Nat → Nat

/-- HMAC-SM3 (RFC 2104) under a key given as bytes. Assumption 4. -/
opaque hmacSm3 : List Byte → List Byte → Nat

/-- CMAC with SM4 (NIST SP 800-38B) under a 128-bit key. Assumption 4. -/
opaque cmacSm4 : Nat → List Byte → Nat

/-- SM2 (GB/T 32918): public key of a private key, decryption of a ciphertext blob under a private
key, signature of a digested string, and signature check under a public key. Assumption 4. -/
opaque sm2Public : Nat → Nat × Nat

opaque sm2Decrypt : Nat → List Byte → Option Nat

opaque sm2Sign : Nat → List Byte → Nat × Nat

opaque sm2Verify : Nat × Nat → List Byte → Nat × Nat → Bool

end Sys2Proof.Config
end

