-- ==== Sys2Proof/Machine/RegNames.lean ====
section
/-! DEFINITION. The names of the management registers: `Ra.X` is the address of register X
(block base plus offset, R738 and R739), `Fd.X_F` its field F (the bit ranges of the register
tables of spec/). An array register takes its indices, outermost first. -/

namespace Sys2Proof.Machine

/-- A field of a management register: its register's address and its bits [hi:lo] (R8). -/
structure Fld where
  addr : Nat
  hi : Nat
  lo : Nat
  deriving DecidableEq, Repr

namespace Ra

def GLB_ID : Nat := 0x0
def GLB_MODE : Nat := 0x4
def GLB_MODE_REQ : Nat := 0x8
def GLB_MODE_STAT : Nat := 0xc
def GLB_LEVEL_LIM : Nat := 0x10
def GLB_CTL : Nat := 0x14
def CLK_STAT : Nat := 0x10000
def CLK_SRC : Nat := 0x10004
def CLK_OSC : Nat := 0x10008
def CLK_OSC_TC (n : Nat) : Nat := 0x10010 + 0x4 * n
def CLK_TIME_LO : Nat := 0x10020
def CLK_TIME_HI : Nat := 0x10024
def CLK_TIME_UNC : Nat := 0x10028
def CLK_TIME_LAST_UNC : Nat := 0x1002c
def CLK_GATE_PORT : Nat := 0x10030
def CLK_GATE_CG : Nat := 0x10034
def CLK_GATE_CG_REF : Nat := 0x10038
def CLK_CTL : Nat := 0x1003c
def PWR_CTL : Nat := 0x20000
def PWR_WAKE_EN : Nat := 0x20004
def PWR_WAKE_LAST : Nat := 0x20008
def PWR_WAKE_TIME_LO : Nat := 0x2000c
def PWR_WAKE_TIME_HI : Nat := 0x20010
def PWR_TIMER : Nat := 0x20014
def PWR_WAKE_CMD : Nat := 0x20018
def PWR_STAT : Nat := 0x2001c
def PWR_CNT : Nat := 0x20020
def PWR_RAIL_STAT : Nat := 0x200f0
def THM_CTL : Nat := 0x30000
def THM_STAT : Nat := 0x30004
def THM_THR : Nat := 0x30008
def THM_CNT : Nat := 0x3000c
def THM_ZONE (n : Nat) : Nat := 0x30010 + 0x4 * n
def THM_DROP : Nat := 0x30020
def THM_RGN (n : Nat) : Nat := 0x30040 + 0x4 * n
def THM_SNS (n : Nat) : Nat := 0x30100 + 0x4 * n
def THM_FAIL (n : Nat) : Nat := 0x30300 + 0x4 * n
def THM_REARM : Nat := 0x30310
def OTP_LC : Nat := 0x40000
def OTP_STAT : Nat := 0x40004
def OTP_PROG_ADDR : Nat := 0x40010
def OTP_PROG_DLO : Nat := 0x40014
def OTP_PROG_DHI : Nat := 0x40018
def OTP_PROG_CTL : Nat := 0x4001c
def OTP_RD_ADDR : Nat := 0x40020
def OTP_RD_DLO : Nat := 0x40024
def OTP_RD_DHI : Nat := 0x40028
def OTP_LOCKS : Nat := 0x40030
def OTP_TRIPS : Nat := 0x40034
def OTP_MARG (n : Nat) : Nat := 0x40100 + 0x4 * n
def OTP_FAIL (n : Nat) : Nat := 0x40140 + 0x4 * n
def NVM_BOOT_STAT : Nat := 0x50000
def NVM_IMG_VER : Nat := 0x50004
def NVM_FW_SVN : Nat := 0x50008
def NVM_WEAR : Nat := 0x5000c
def NVM_PATCH_LD0 : Nat := 0x50010
def NVM_PATCH_LD1 : Nat := 0x50014
def NVM_PATCH_BAD0 : Nat := 0x50018
def NVM_PATCH_BAD1 : Nat := 0x5001c
def NVM_UPD_LEN : Nat := 0x50040
def NVM_UPD_CTL : Nat := 0x50044
def NVM_UPD_DIG (n : Nat) : Nat := 0x50060 + 0x4 * n
def NVM_UPD_STAT : Nat := 0x50100
def NVM_UPD_OFF : Nat := 0x50104
def NVM_UPD_DATA (n : Nat) : Nat := 0x50110 + 0x4 * n
def FLT_CTL : Nat := 0x60000
def FLT_STAT : Nat := 0x60004
def FLT_SEQ : Nat := 0x60008
def FLT_ACK_SEQ : Nat := 0x60010
def FLT_ACK : Nat := 0x60014
def FLT_CNT : Nat := 0x60020
def FLT_ACT_LO : Nat := 0x60028
def FLT_ACT_HI : Nat := 0x6002c
def FLT_CAUSE (n : Nat) : Nat := 0x60040 + 0x4 * n
def FLT_TEST_ADDR : Nat := 0x60060
def FLT_TEST : Nat := 0x60064
def FLT_LOG_IDX : Nat := 0x60080
def FLT_LOG_W (n : Nat) : Nat := 0x600a0 + 0x4 * n
def FLT_SB_POP : Nat := 0x600c0
def FLT_SB_W (n : Nat) : Nat := 0x600e0 + 0x4 * n
def FLT_SRC (n : Nat) : Nat := 0x61000 + 0x4 * n
def OBS_SNAP_CTL : Nat := 0x70000
def OBS_SNAP_STAT : Nat := 0x70004
def OBS_SNAP_TIME_LO : Nat := 0x70008
def OBS_SNAP_TIME_HI : Nat := 0x7000c
def OBS_SNAP_CMD : Nat := 0x70010
def OBS_SNAP_ADDR : Nat := 0x70100
def OBS_SNAP_DATA (n : Nat) : Nat := 0x70104 + 0x4 * n
def OBS_MON_CFG (n : Nat) : Nat := 0x71000 + 0x100 * n
def OBS_MON_BASE (n : Nat) : Nat := 0x71004 + 0x100 * n
def OBS_MON_LIMIT (n : Nat) : Nat := 0x71008 + 0x100 * n
def OBS_MON_CTL (n : Nat) : Nat := 0x7100c + 0x100 * n
def OBS_MON_MIN (n : Nat) : Nat := 0x71010 + 0x100 * n
def OBS_MON_MAX (n : Nat) : Nat := 0x71014 + 0x100 * n
def OBS_MON_SAMPLES (n : Nat) : Nat := 0x71018 + 0x100 * n
def OBS_MON_BIN (n k : Nat) : Nat := 0x71080 + 0x100 * n + 0x4 * k
def SEC_CTL : Nat := 0x80000
def SEC_STAT : Nat := 0x80004
def SEC_KLD_CTL : Nat := 0x80010
def SEC_KLD_K (n : Nat) : Nat := 0x80014 + 0x4 * n
def SEC_SLOT_LO : Nat := 0x80030
def SEC_SLOT_HI : Nat := 0x80034
def SEC_MK_CTL : Nat := 0x80040
def SEC_MKW (n : Nat) : Nat := 0x80080 + 0x4 * n
def SEC_AUTH_LAST_LO : Nat := 0x80100
def SEC_AUTH_LAST_HI : Nat := 0x80104
def SEC_AUTH_P_LO : Nat := 0x80108
def SEC_AUTH_P_HI : Nat := 0x8010c
def SEC_AUTH_STAT : Nat := 0x80110
def SEC_LINK (n : Nat) : Nat := 0x80200 + 0x4 * n
def SEC_LSESS_LO (n : Nat) : Nat := 0x80240 + 0x8 * n
def SEC_LSESS_HI (n : Nat) : Nat := 0x80244 + 0x8 * n
def SEC_LSESSP_LO : Nat := 0x802a0
def SEC_LSESSP_HI : Nat := 0x802a4
def SEC_ATT_CTL : Nat := 0x80300
def SEC_ATT_NONCE (n : Nat) : Nat := 0x80304 + 0x4 * n
def SEC_LEP_TX (n : Nat) : Nat := 0x80340 + 0x8 * n
def SEC_LEP_RX (n : Nat) : Nat := 0x80344 + 0x8 * n
def SEC_ATT_DATA (n : Nat) : Nat := 0x80400 + 0x4 * n
def SEC_CERT_ADDR : Nat := 0x80600
def SEC_CERT_DATA : Nat := 0x80604
def SEC_TAG_FAIL_CNT : Nat := 0x80700
def SEC_TC_MISS : Nat := 0x80704
def REG_CTL : Nat := 0x90000
def REG_STAT : Nat := 0x90004
def REG_GSUM : Nat := 0x90008
def REG_LCMD : Nat := 0x9000c
def REG_STG_CFG : Nat := 0x90010
def REG_STG_GUAR : Nat := 0x90014
def REG_LATE_CNT : Nat := 0x9001c
def REG_TGT (n : Nat) : Nat := 0x90040 + 0x4 * n
def REG_TGTH (n : Nat) : Nat := 0x90074 + 0x4 * n
def REG_PLAT (n : Nat) : Nat := 0x90080 + 0x4 * n
def REG_L_CFG (n : Nat) : Nat := 0x91000 + 0x10 * n
def REG_L_GUAR (n : Nat) : Nat := 0x91004 + 0x10 * n
def REG_L_LAT (n : Nat) : Nat := 0x91008 + 0x10 * n
def REG_L_BYTES (n : Nat) : Nat := 0x9100c + 0x10 * n
def RGN_CTL : Nat := 0xa0000
def RGN_STAT : Nat := 0xa0004
def RGN_REJ_LAST : Nat := 0xa0008
def RGN_STG_B : Nat := 0xa0010
def RGN_STG_S : Nat := 0xa0014
def RGN_STG_A : Nat := 0xa0018
def RGN_STG_Q0 : Nat := 0xa001c
def RGN_STG_Q1 : Nat := 0xa0020
def RGN_STG_T : Nat := 0xa0024
def RGN_COMMIT : Nat := 0xa0028
def RGN_FENCE_LO : Nat := 0xa0030
def RGN_FENCE_HI : Nat := 0xa0034
def RGN_B (n : Nat) : Nat := 0xa0100 + 0x20 * n
def RGN_S (n : Nat) : Nat := 0xa0104 + 0x20 * n
def RGN_A (n : Nat) : Nat := 0xa0108 + 0x20 * n
def RGN_Q0 (n : Nat) : Nat := 0xa010c + 0x20 * n
def RGN_Q1 (n : Nat) : Nat := 0xa0110 + 0x20 * n
def RGN_T (n : Nat) : Nat := 0xa0114 + 0x20 * n
def PORT_LINK_CFG (n : Nat) : Nat := 0x100000 + 0x1000 * n
def PORT_LINK_STAT (n : Nat) : Nat := 0x100004 + 0x1000 * n
def PORT_LINK_SEQ (n : Nat) : Nat := 0x100008 + 0x1000 * n
def PORT_LINK_OUT (n : Nat) : Nat := 0x10000c + 0x1000 * n
def PORT_CRED01 (n : Nat) : Nat := 0x100010 + 0x1000 * n
def PORT_CRED23 (n : Nat) : Nat := 0x100014 + 0x1000 * n
def PORT_LINK_CNT (n : Nat) : Nat := 0x100018 + 0x1000 * n
def PORT_FLIT_ERR (n : Nat) : Nat := 0x10001c + 0x1000 * n
def PORT_FEC_CORR (n : Nat) : Nat := 0x100020 + 0x1000 * n
def PORT_FEC_UNCORR (n : Nat) : Nat := 0x100024 + 0x1000 * n
def PORT_ABORTS (n : Nat) : Nat := 0x100028 + 0x1000 * n
def PORT_ENC_FCNT_TX (n : Nat) : Nat := 0x100030 + 0x1000 * n
def PORT_ENC_FCNT_RX (n : Nat) : Nat := 0x100034 + 0x1000 * n
def PORT_LOCK (n : Nat) : Nat := 0x100038 + 0x1000 * n
def PORT_LANE_CFG (n : Nat) : Nat := 0x100100 + 0x1000 * n
def PORT_TX_FFE (n : Nat) : Nat := 0x100104 + 0x1000 * n
def PORT_LANE_STAT (n : Nat) : Nat := 0x100108 + 0x1000 * n
def PORT_LANE_MAP (n : Nat) : Nat := 0x10010c + 0x1000 * n
def PORT_LANE_TXMAP (n : Nat) : Nat := 0x100110 + 0x1000 * n
def PORT_LANE_FLAG (n : Nat) : Nat := 0x100114 + 0x1000 * n
def PORT_LANE_SWAP (n : Nat) : Nat := 0x100118 + 0x1000 * n
def PORT_LANE_CNT (n : Nat) : Nat := 0x10011c + 0x1000 * n
def PORT_LANE_DIAG_SEL (n : Nat) : Nat := 0x100120 + 0x1000 * n
def PORT_LANE_DIAG (n : Nat) : Nat := 0x100124 + 0x1000 * n
def PORT_LANE_TEST (n : Nat) : Nat := 0x100128 + 0x1000 * n
def PORT_PRBS_CTL (n k : Nat) : Nat := 0x100140 + 0x1000 * n + 0x4 * k
def PORT_PRBS_ERR (n k : Nat) : Nat := 0x100180 + 0x1000 * n + 0x4 * k
def PAIR_CFG : Nat := 0x10c400
def PAIR_STAT : Nat := 0x10c404
def PAIR_CURRENT_LO : Nat := 0x10c408
def PAIR_CURRENT_HI : Nat := 0x10c40c
def PAIR_RSYNC_PT_LO : Nat := 0x10c410
def PAIR_RSYNC_PT_HI : Nat := 0x10c414
def PAIR_CNT : Nat := 0x10c418
def PAIR_SINGLE_CNT : Nat := 0x10c41c
def PAIR_ROLE : Nat := 0x10c800
def PAIR_RESYNC : Nat := 0x10c804
def PC_STAT (n : Nat) : Nat := 0x200000 + 0x400 * n
def PC_ACT (n : Nat) : Nat := 0x200004 + 0x400 * n
def PC_HIT (n : Nat) : Nat := 0x200008 + 0x400 * n
def PC_RAW (n : Nat) : Nat := 0x20000c + 0x400 * n
def PC_TRR (n : Nat) : Nat := 0x200010 + 0x400 * n
def PC_DRIFT (n k : Nat) : Nat := 0x2000e0 + 0x400 * n + 0x4 * k
def PC_DRIFT_LAST (n : Nat) : Nat := 0x2000ec + 0x400 * n
def PC_TSV_MAP (n : Nat) : Nat := 0x2000f4 + 0x400 * n
def PC_DLY (n k : Nat) : Nat := 0x200100 + 0x400 * n + 0x4 * k
def CG_CTL (n : Nat) : Nat := 0x280000 + 0x100 * n
def CG_PAGE (n : Nat) : Nat := 0x280004 + 0x100 * n
def CG_SCHED (n : Nat) : Nat := 0x280008 + 0x100 * n
def CG_TRR (n : Nat) : Nat := 0x28000c + 0x100 * n
def CG_STAT (n : Nat) : Nat := 0x280010 + 0x100 * n
def CG_CNT (n : Nat) : Nat := 0x280014 + 0x100 * n
def CG_CAL_CMD (n : Nat) : Nat := 0x280040 + 0x100 * n
def CG_CAL_ARG (n : Nat) : Nat := 0x280044 + 0x100 * n
def CG_CAL_STAT (n : Nat) : Nat := 0x280048 + 0x100 * n
def CG_CAL_CFG (n : Nat) : Nat := 0x28004c + 0x100 * n
def CRM_CTL : Nat := 0x300000
def CRM_PART : Nat := 0x300004
def CRM_STAT : Nat := 0x300008
def CRM_CE_CNT : Nat := 0x300010
def CRM_UE_CNT : Nat := 0x300014
def CRM_PSN_CNT : Nat := 0x300018
def CRM_LAST_UE : Nat := 0x300020
def CRM_FENCE (n : Nat) : Nat := 0x300040 + 0x4 * n
def CRM_INJ_OFF : Nat := 0x300060
def CRM_INJ_CTL : Nat := 0x300064
def QUE_CTL : Nat := 0x310000
def QUE_STAT : Nat := 0x310004
def QUE_POOL_CMD : Nat := 0x310008
def QUE_ENQ_CELLS : Nat := 0x310010
def QUE_DEQ_CELLS : Nat := 0x310014
def QUE_FULL_CNT : Nat := 0x310018
def QUE_PSN_CNT : Nat := 0x31001c
def QUE_TAKE : Nat := 0x310020
def QUE_TAKE_CELLS : Nat := 0x310024
def QUE_POOL_CFG (n : Nat) : Nat := 0x310100 + 0x10 * n
def QUE_POOL_LIM (n : Nat) : Nat := 0x310104 + 0x10 * n
def QUE_POOL_FREE (n : Nat) : Nat := 0x310108 + 0x10 * n
def QUE_POOL_LEAK (n : Nat) : Nat := 0x31010c + 0x10 * n
def TBL_CTL : Nat := 0x320000
def TBL_STAT : Nat := 0x320004
def TBL_CMD : Nat := 0x320008
def TBL_STG_CFG : Nat := 0x320010
def TBL_STG_BASE : Nat := 0x320014
def TBL_STG_SEED (n : Nat) : Nat := 0x320018 + 0x4 * n
def TBL_PROBE_CNT : Nat := 0x320030
def TBL_HIT_CNT : Nat := 0x320034
def TBL_FULL_CNT : Nat := 0x320038
def TBL_MOVE_CNT : Nat := 0x32003c
def TBL_PSN_CNT : Nat := 0x320040
def TBL_D_CFG (n : Nat) : Nat := 0x320100 + 0x20 * n
def TBL_D_BASE (n : Nat) : Nat := 0x320104 + 0x20 * n
def TBL_D_SEED (n k : Nat) : Nat := 0x320108 + 0x20 * n + 0x4 * k
def TBL_D_STAT (n : Nat) : Nat := 0x320118 + 0x20 * n
def TBL_D_LOAD (n : Nat) : Nat := 0x32011c + 0x20 * n
def CNT_CTL : Nat := 0x330000
def CNT_STAT : Nat := 0x330004
def CNT_EPOCH : Nat := 0x330008
def CNT_UPD_CNT : Nat := 0x330010
def CNT_FLUSH_CNT : Nat := 0x330014
def CNT_EVICT_CNT : Nat := 0x330018
def CNT_LOST_CNT : Nat := 0x33001c
def CNT_ANC_MISS : Nat := 0x330020
def CNT_S_CFG (n : Nat) : Nat := 0x330100 + 0x20 * n
def CNT_S_BASE (n : Nat) : Nat := 0x330104 + 0x20 * n
def CNT_S_ANCOFF (n : Nat) : Nat := 0x330108 + 0x20 * n
def CNT_S_NCTR (n : Nat) : Nat := 0x33010c + 0x20 * n
def CNT_S_SLOT (n : Nat) : Nat := 0x330110 + 0x20 * n
def CNT_S_LOSTN (n : Nat) : Nat := 0x330114 + 0x20 * n
def BST_CTL : Nat := 0x400000
def BST_TGT : Nat := 0x400004
def BST_TGT_CRM : Nat := 0x400008
def BST_CFG : Nat := 0x400020
def BST_REP_CMD : Nat := 0x400800
def BST_REP_ARG0 : Nat := 0x400804
def BST_REP_ARG1 : Nat := 0x400808
def BST_REP_STAT : Nat := 0x40080c
def BST_REP_SOFT : Nat := 0x400810
def BST_STAT : Nat := 0x400900
def BST_QUICK : Nat := 0x400904
def BST_REC_IDX : Nat := 0x400910
def BST_REC_LO : Nat := 0x400914
def BST_REC_HI : Nat := 0x400918
def ECC_CTL : Nat := 0x410000
def ECC_SCRUB_STAT : Nat := 0x410004
def ECC_CE_CNT : Nat := 0x410010
def ECC_UE_CNT : Nat := 0x410014
def ECC_PSN_CNT : Nat := 0x410018
def ECC_PROMPT_DROP : Nat := 0x41001c
def ECC_LAST_UE_LO : Nat := 0x410020
def ECC_LAST_UE_HI : Nat := 0x410024
def ECC_INJ_ALO : Nat := 0x410030
def ECC_INJ_AHI : Nat := 0x410034
def ECC_INJ_PAT : Nat := 0x410038
def ECC_INJ_CTL : Nat := 0x41003c

end Ra

namespace Fd

/-! GLB_ID: R4. -/
def GLB_ID_STEP_MAJ : Fld := ⟨Ra.GLB_ID, 31, 28⟩
def GLB_ID_STEP_MIN : Fld := ⟨Ra.GLB_ID, 27, 24⟩
def GLB_ID_GRADE : Fld := ⟨Ra.GLB_ID, 20, 20⟩
def GLB_ID_LGRP : Fld := ⟨Ra.GLB_ID, 19, 16⟩
def GLB_ID_CAP : Fld := ⟨Ra.GLB_ID, 15, 8⟩
def GLB_ID_FAMILY : Fld := ⟨Ra.GLB_ID, 7, 0⟩
/-! GLB_MODE: R50. -/
def GLB_MODE_BUSY : Fld := ⟨Ra.GLB_MODE, 31, 31⟩
def GLB_MODE_TRIPB : Fld := ⟨Ra.GLB_MODE, 24, 24⟩
def GLB_MODE_PREV : Fld := ⟨Ra.GLB_MODE, 23, 20⟩
def GLB_MODE_LEVEL_TGT : Fld := ⟨Ra.GLB_MODE, 17, 16⟩
def GLB_MODE_LEVEL : Fld := ⟨Ra.GLB_MODE, 9, 8⟩
def GLB_MODE_MODE : Fld := ⟨Ra.GLB_MODE, 3, 0⟩
/-! GLB_MODE_REQ: R51. -/
def GLB_MODE_REQ_GO : Fld := ⟨Ra.GLB_MODE_REQ, 31, 31⟩
def GLB_MODE_REQ_LEVEL : Fld := ⟨Ra.GLB_MODE_REQ, 9, 8⟩
def GLB_MODE_REQ_MODE : Fld := ⟨Ra.GLB_MODE_REQ, 3, 0⟩
/-! GLB_MODE_STAT: R52. -/
def GLB_MODE_STAT_DISC_OVF : Fld := ⟨Ra.GLB_MODE_STAT, 16, 16⟩
def GLB_MODE_STAT_DISCARDS : Fld := ⟨Ra.GLB_MODE_STAT, 15, 8⟩
def GLB_MODE_STAT_REQ_SRC : Fld := ⟨Ra.GLB_MODE_STAT, 6, 4⟩
def GLB_MODE_STAT_RESULT : Fld := ⟨Ra.GLB_MODE_STAT, 2, 0⟩
/-! GLB_LEVEL_LIM: R53. -/
def GLB_LEVEL_LIM_LVL_START : Fld := ⟨Ra.GLB_LEVEL_LIM, 3, 2⟩
def GLB_LEVEL_LIM_LVL_LOW : Fld := ⟨Ra.GLB_LEVEL_LIM, 1, 0⟩
/-! GLB_CTL: R54. -/
def GLB_CTL_LOCK : Fld := ⟨Ra.GLB_CTL, 0, 0⟩
/-! CLK_STAT: R106. -/
def CLK_STAT_LOSS_CNT : Fld := ⟨Ra.CLK_STAT, 31, 24⟩
def CLK_STAT_LOSS_OVF : Fld := ⟨Ra.CLK_STAT, 23, 23⟩
def CLK_STAT_TRIM_REF : Fld := ⟨Ra.CLK_STAT, 7, 6⟩
def CLK_STAT_TIME_EST : Fld := ⟨Ra.CLK_STAT, 5, 5⟩
def CLK_STAT_HOLD : Fld := ⟨Ra.CLK_STAT, 4, 4⟩
def CLK_STAT_OSC_UNJUDGED : Fld := ⟨Ra.CLK_STAT, 3, 3⟩
def CLK_STAT_OSC_READY : Fld := ⟨Ra.CLK_STAT, 2, 2⟩
def CLK_STAT_ROOT_READY : Fld := ⟨Ra.CLK_STAT, 1, 1⟩
def CLK_STAT_REFCLK_OK : Fld := ⟨Ra.CLK_STAT, 0, 0⟩
/-! CLK_SRC: R107. -/
def CLK_SRC_SPI_REF : Fld := ⟨Ra.CLK_SRC, 17, 17⟩
def CLK_SRC_MC_REF : Fld := ⟨Ra.CLK_SRC, 16, 16⟩
def CLK_SRC_TB_CUR : Fld := ⟨Ra.CLK_SRC, 10, 10⟩
def CLK_SRC_SPI_CUR : Fld := ⟨Ra.CLK_SRC, 9, 9⟩
def CLK_SRC_MC_CUR : Fld := ⟨Ra.CLK_SRC, 8, 8⟩
def CLK_SRC_SPI_SEL : Fld := ⟨Ra.CLK_SRC, 1, 1⟩
def CLK_SRC_MC_SEL : Fld := ⟨Ra.CLK_SRC, 0, 0⟩
/-! CLK_OSC: R108. -/
def CLK_OSC_TRIM : Fld := ⟨Ra.CLK_OSC, 24, 16⟩
def CLK_OSC_ERR : Fld := ⟨Ra.CLK_OSC, 15, 0⟩
/-! CLK_OSC_TC: R109. -/
def CLK_OSC_TC_E3 (n : Nat) : Fld := ⟨Ra.CLK_OSC_TC n, 31, 24⟩
def CLK_OSC_TC_E2 (n : Nat) : Fld := ⟨Ra.CLK_OSC_TC n, 23, 16⟩
def CLK_OSC_TC_E1 (n : Nat) : Fld := ⟨Ra.CLK_OSC_TC n, 15, 8⟩
def CLK_OSC_TC_E0 (n : Nat) : Fld := ⟨Ra.CLK_OSC_TC n, 7, 0⟩
/-! CLK_TIME_LO: R110. -/
def CLK_TIME_LO_ALL : Fld := ⟨Ra.CLK_TIME_LO, 31, 0⟩
/-! CLK_TIME_HI: R110. -/
def CLK_TIME_HI_ALL : Fld := ⟨Ra.CLK_TIME_HI, 31, 0⟩
/-! CLK_TIME_UNC: R110. -/
def CLK_TIME_UNC_ALL : Fld := ⟨Ra.CLK_TIME_UNC, 31, 0⟩
/-! CLK_TIME_LAST_UNC: R110. -/
def CLK_TIME_LAST_UNC_ALL : Fld := ⟨Ra.CLK_TIME_LAST_UNC, 31, 0⟩
/-! CLK_GATE_PORT: R111. -/
def CLK_GATE_PORT_REF : Fld := ⟨Ra.CLK_GATE_PORT, 28, 16⟩
def CLK_GATE_PORT_GATE : Fld := ⟨Ra.CLK_GATE_PORT, 12, 0⟩
/-! CLK_GATE_CG: R111. -/
def CLK_GATE_CG_GATE : Fld := ⟨Ra.CLK_GATE_CG, 31, 0⟩
/-! CLK_GATE_CG_REF: R111. -/
def CLK_GATE_CG_REF_REF : Fld := ⟨Ra.CLK_GATE_CG_REF, 31, 0⟩
/-! CLK_CTL: R112. -/
def CLK_CTL_LOCK : Fld := ⟨Ra.CLK_CTL, 0, 0⟩
/-! PWR_CTL: R653. -/
def PWR_CTL_RET_CLASS : Fld := ⟨Ra.PWR_CTL, 5, 4⟩
def PWR_CTL_LOCK : Fld := ⟨Ra.PWR_CTL, 0, 0⟩
/-! PWR_WAKE_EN: R654. -/
def PWR_WAKE_EN_EN : Fld := ⟨Ra.PWR_WAKE_EN, 5, 0⟩
/-! PWR_WAKE_LAST: R655. -/
def PWR_WAKE_LAST_VALID : Fld := ⟨Ra.PWR_WAKE_LAST, 31, 31⟩
def PWR_WAKE_LAST_REPLAYED : Fld := ⟨Ra.PWR_WAKE_LAST, 30, 30⟩
def PWR_WAKE_LAST_ABORTED : Fld := ⟨Ra.PWR_WAKE_LAST, 29, 29⟩
def PWR_WAKE_LAST_TGT : Fld := ⟨Ra.PWR_WAKE_LAST, 23, 20⟩
def PWR_WAKE_LAST_MASK : Fld := ⟨Ra.PWR_WAKE_LAST, 13, 8⟩
def PWR_WAKE_LAST_FIRST : Fld := ⟨Ra.PWR_WAKE_LAST, 2, 0⟩
/-! PWR_WAKE_TIME_LO: R655. -/
def PWR_WAKE_TIME_LO_TIME : Fld := ⟨Ra.PWR_WAKE_TIME_LO, 31, 0⟩
/-! PWR_WAKE_TIME_HI: R655. -/
def PWR_WAKE_TIME_HI_TIME : Fld := ⟨Ra.PWR_WAKE_TIME_HI, 31, 0⟩
/-! PWR_TIMER: R656. -/
def PWR_TIMER_COUNT : Fld := ⟨Ra.PWR_TIMER, 31, 0⟩
/-! PWR_WAKE_CMD: R656. -/
def PWR_WAKE_CMD_GO : Fld := ⟨Ra.PWR_WAKE_CMD, 31, 31⟩
/-! PWR_STAT: R657. -/
def PWR_STAT_PNR : Fld := ⟨Ra.PWR_STAT, 31, 31⟩
def PWR_STAT_ARMED : Fld := ⟨Ra.PWR_STAT, 30, 30⟩
def PWR_STAT_LATCHED : Fld := ⟨Ra.PWR_STAT, 29, 29⟩
def PWR_STAT_RESTORE_FAIL : Fld := ⟨Ra.PWR_STAT, 28, 28⟩
def PWR_STAT_SAVE_BYTES : Fld := ⟨Ra.PWR_STAT, 15, 0⟩
/-! PWR_CNT: R658. -/
def PWR_CNT_ENTRIES : Fld := ⟨Ra.PWR_CNT, 31, 24⟩
def PWR_CNT_ENT_OVF : Fld := ⟨Ra.PWR_CNT, 23, 23⟩
def PWR_CNT_ABORTS : Fld := ⟨Ra.PWR_CNT, 22, 16⟩
def PWR_CNT_ABT_OVF : Fld := ⟨Ra.PWR_CNT, 15, 15⟩
def PWR_CNT_REPLAYS : Fld := ⟨Ra.PWR_CNT, 14, 8⟩
def PWR_CNT_RPL_OVF : Fld := ⟨Ra.PWR_CNT, 7, 7⟩
/-! PWR_RAIL_STAT: R71. -/
def PWR_RAIL_STAT_FAIL : Fld := ⟨Ra.PWR_RAIL_STAT, 22, 16⟩
def PWR_RAIL_STAT_WARN : Fld := ⟨Ra.PWR_RAIL_STAT, 14, 8⟩
def PWR_RAIL_STAT_OUT : Fld := ⟨Ra.PWR_RAIL_STAT, 6, 0⟩
/-! THM_CTL: R623. -/
def THM_CTL_RETAIN_TRIP : Fld := ⟨Ra.THM_CTL, 8, 8⟩
def THM_CTL_SPREAD_EN : Fld := ⟨Ra.THM_CTL, 1, 1⟩
def THM_CTL_LOCK : Fld := ⟨Ra.THM_CTL, 0, 0⟩
/-! THM_STAT: R624. -/
def THM_STAT_CORE_MAX : Fld := ⟨Ra.THM_STAT, 31, 20⟩
def THM_STAT_BASE_MAX : Fld := ⟨Ra.THM_STAT, 19, 8⟩
def THM_STAT_FAILED_N : Fld := ⟨Ra.THM_STAT, 7, 0⟩
/-! THM_THR: R625. -/
def THM_THR_START : Fld := ⟨Ra.THM_THR, 31, 24⟩
def THM_THR_STEP : Fld := ⟨Ra.THM_THR, 19, 16⟩
def THM_THR_HYST : Fld := ⟨Ra.THM_THR, 15, 12⟩
def THM_THR_CAL_DRIFT : Fld := ⟨Ra.THM_THR, 7, 0⟩
/-! THM_CNT: R626. -/
def THM_CNT_TRIPA_N : Fld := ⟨Ra.THM_CNT, 31, 24⟩
def THM_CNT_TRIPA_OVF : Fld := ⟨Ra.THM_CNT, 23, 23⟩
def THM_CNT_SUBST_N : Fld := ⟨Ra.THM_CNT, 22, 16⟩
def THM_CNT_SUBST_OVF : Fld := ⟨Ra.THM_CNT, 15, 15⟩
def THM_CNT_SPREAD_N : Fld := ⟨Ra.THM_CNT, 14, 8⟩
def THM_CNT_SPREAD_OVF : Fld := ⟨Ra.THM_CNT, 7, 7⟩
/-! THM_ZONE: R627. -/
def THM_ZONE_MAX (n : Nat) : Fld := ⟨Ra.THM_ZONE n, 31, 20⟩
def THM_ZONE_LEVEL (n : Nat) : Fld := ⟨Ra.THM_ZONE n, 10, 8⟩
def THM_ZONE_SUBST (n : Nat) : Fld := ⟨Ra.THM_ZONE n, 7, 7⟩
def THM_ZONE_SUBST_N (n : Nat) : Fld := ⟨Ra.THM_ZONE n, 4, 0⟩
/-! THM_DROP: R628. -/
def THM_DROP_DROP : Fld := ⟨Ra.THM_DROP, 15, 0⟩
/-! THM_RGN: R628. -/
def THM_RGN_TEMP (n : Nat) : Fld := ⟨Ra.THM_RGN n, 31, 20⟩
def THM_RGN_VOLT (n : Nat) : Fld := ⟨Ra.THM_RGN n, 11, 0⟩
/-! THM_SNS: R629. -/
def THM_SNS_STATUS (n : Nat) : Fld := ⟨Ra.THM_SNS n, 31, 30⟩
def THM_SNS_RATE (n : Nat) : Fld := ⟨Ra.THM_SNS n, 29, 28⟩
def THM_SNS_RAW (n : Nat) : Fld := ⟨Ra.THM_SNS n, 23, 12⟩
def THM_SNS_EFF (n : Nat) : Fld := ⟨Ra.THM_SNS n, 11, 0⟩
/-! THM_FAIL: R629. -/
def THM_FAIL_FAILED (n : Nat) : Fld := ⟨Ra.THM_FAIL n, 31, 0⟩
/-! THM_REARM: R629. -/
def THM_REARM_GO : Fld := ⟨Ra.THM_REARM, 31, 31⟩
def THM_REARM_SENSOR : Fld := ⟨Ra.THM_REARM, 6, 0⟩
/-! OTP_LC: R172. -/
def OTP_LC_DEFAULTED : Fld := ⟨Ra.OTP_LC, 15, 15⟩
def OTP_LC_SCAN_OK : Fld := ⟨Ra.OTP_LC, 11, 11⟩
def OTP_LC_DEBUG_OK : Fld := ⟨Ra.OTP_LC, 10, 10⟩
def OTP_LC_SECBOOT : Fld := ⟨Ra.OTP_LC, 9, 9⟩
def OTP_LC_DEBUG_DIS : Fld := ⟨Ra.OTP_LC, 8, 8⟩
def OTP_LC_STATE : Fld := ⟨Ra.OTP_LC, 2, 0⟩
/-! OTP_STAT: R173. -/
def OTP_STAT_CORR_CNT : Fld := ⟨Ra.OTP_STAT, 31, 24⟩
def OTP_STAT_CORR_OVF : Fld := ⟨Ra.OTP_STAT, 23, 23⟩
def OTP_STAT_MARG_CNT : Fld := ⟨Ra.OTP_STAT, 15, 8⟩
def OTP_STAT_BUSY : Fld := ⟨Ra.OTP_STAT, 4, 4⟩
def OTP_STAT_DEF_SECRET : Fld := ⟨Ra.OTP_STAT, 3, 3⟩
def OTP_STAT_DEF_TRIP : Fld := ⟨Ra.OTP_STAT, 2, 2⟩
def OTP_STAT_DEF_SECCFG : Fld := ⟨Ra.OTP_STAT, 1, 1⟩
def OTP_STAT_DEF_LC : Fld := ⟨Ra.OTP_STAT, 0, 0⟩
/-! OTP_PROG_ADDR: R174. -/
def OTP_PROG_ADDR_WORD : Fld := ⟨Ra.OTP_PROG_ADDR, 8, 0⟩
/-! OTP_PROG_DLO: R174. -/
def OTP_PROG_DLO_DATA : Fld := ⟨Ra.OTP_PROG_DLO, 31, 0⟩
/-! OTP_PROG_DHI: R174. -/
def OTP_PROG_DHI_DATA : Fld := ⟨Ra.OTP_PROG_DHI, 31, 0⟩
/-! OTP_PROG_CTL: R174. -/
def OTP_PROG_CTL_GO : Fld := ⟨Ra.OTP_PROG_CTL, 31, 31⟩
def OTP_PROG_CTL_RESULT : Fld := ⟨Ra.OTP_PROG_CTL, 3, 0⟩
/-! OTP_RD_ADDR: R175. -/
def OTP_RD_ADDR_FAIL : Fld := ⟨Ra.OTP_RD_ADDR, 31, 31⟩
def OTP_RD_ADDR_MARG : Fld := ⟨Ra.OTP_RD_ADDR, 30, 30⟩
def OTP_RD_ADDR_CORR : Fld := ⟨Ra.OTP_RD_ADDR, 29, 29⟩
def OTP_RD_ADDR_WORD : Fld := ⟨Ra.OTP_RD_ADDR, 8, 0⟩
/-! OTP_RD_DLO: R175. -/
def OTP_RD_DLO_DATA : Fld := ⟨Ra.OTP_RD_DLO, 31, 0⟩
/-! OTP_RD_DHI: R175. -/
def OTP_RD_DHI_DATA : Fld := ⟨Ra.OTP_RD_DHI, 31, 0⟩
/-! OTP_LOCKS: R175. -/
def OTP_LOCKS_LOCKED : Fld := ⟨Ra.OTP_LOCKS, 8, 0⟩
/-! OTP_TRIPS: R175. -/
def OTP_TRIPS_TRIPB : Fld := ⟨Ra.OTP_TRIPS, 15, 8⟩
def OTP_TRIPS_TRIPA : Fld := ⟨Ra.OTP_TRIPS, 7, 0⟩
/-! OTP_MARG: R175. -/
def OTP_MARG_MARG (n : Nat) : Fld := ⟨Ra.OTP_MARG n, 31, 0⟩
/-! OTP_FAIL: R175. -/
def OTP_FAIL_FAIL (n : Nat) : Fld := ⟨Ra.OTP_FAIL n, 31, 0⟩
/-! NVM_BOOT_STAT: R146. -/
def NVM_BOOT_STAT_SECT_FAIL : Fld := ⟨Ra.NVM_BOOT_STAT, 23, 16⟩
def NVM_BOOT_STAT_SIG_BYPASS : Fld := ⟨Ra.NVM_BOOT_STAT, 11, 11⟩
def NVM_BOOT_STAT_CAL_SLOT : Fld := ⟨Ra.NVM_BOOT_STAT, 9, 8⟩
def NVM_BOOT_STAT_IMG_SLOT : Fld := ⟨Ra.NVM_BOOT_STAT, 7, 6⟩
def NVM_BOOT_STAT_FW_SLOT : Fld := ⟨Ra.NVM_BOOT_STAT, 5, 4⟩
/-! NVM_IMG_VER: R148. -/
def NVM_IMG_VER_ALL : Fld := ⟨Ra.NVM_IMG_VER, 31, 0⟩
/-! NVM_FW_SVN: R148. -/
def NVM_FW_SVN_ALL : Fld := ⟨Ra.NVM_FW_SVN, 31, 0⟩
/-! NVM_WEAR: R147. -/
def NVM_WEAR_MAX : Fld := ⟨Ra.NVM_WEAR, 30, 16⟩
def NVM_WEAR_MAX_SLOT : Fld := ⟨Ra.NVM_WEAR, 15, 12⟩
def NVM_WEAR_STOP : Fld := ⟨Ra.NVM_WEAR, 5, 0⟩
/-! NVM_PATCH_LD0: R148. -/
def NVM_PATCH_LD0_ALL : Fld := ⟨Ra.NVM_PATCH_LD0, 31, 0⟩
/-! NVM_PATCH_LD1: R148. -/
def NVM_PATCH_LD1_ALL : Fld := ⟨Ra.NVM_PATCH_LD1, 31, 0⟩
/-! NVM_PATCH_BAD0: R148. -/
def NVM_PATCH_BAD0_ALL : Fld := ⟨Ra.NVM_PATCH_BAD0, 31, 0⟩
/-! NVM_PATCH_BAD1: R148. -/
def NVM_PATCH_BAD1_ALL : Fld := ⟨Ra.NVM_PATCH_BAD1, 31, 0⟩
/-! NVM_UPD_LEN: R143. -/
def NVM_UPD_LEN_LEN : Fld := ⟨Ra.NVM_UPD_LEN, 31, 0⟩
/-! NVM_UPD_CTL: R143. -/
def NVM_UPD_CTL_GO : Fld := ⟨Ra.NVM_UPD_CTL, 31, 31⟩
def NVM_UPD_CTL_OP : Fld := ⟨Ra.NVM_UPD_CTL, 25, 24⟩
def NVM_UPD_CTL_TARGET : Fld := ⟨Ra.NVM_UPD_CTL, 17, 16⟩
def NVM_UPD_CTL_RESULT : Fld := ⟨Ra.NVM_UPD_CTL, 3, 0⟩
/-! NVM_UPD_DIG: R143. -/
def NVM_UPD_DIG_DIG (n : Nat) : Fld := ⟨Ra.NVM_UPD_DIG n, 31, 0⟩
/-! NVM_UPD_STAT: R143. -/
def NVM_UPD_STAT_OPEN : Fld := ⟨Ra.NVM_UPD_STAT, 31, 31⟩
def NVM_UPD_STAT_ERASING : Fld := ⟨Ra.NVM_UPD_STAT, 30, 30⟩
def NVM_UPD_STAT_TARGET : Fld := ⟨Ra.NVM_UPD_STAT, 29, 28⟩
def NVM_UPD_STAT_SRC : Fld := ⟨Ra.NVM_UPD_STAT, 27, 24⟩
def NVM_UPD_STAT_BUF : Fld := ⟨Ra.NVM_UPD_STAT, 12, 0⟩
/-! NVM_UPD_OFF: R143. -/
def NVM_UPD_OFF_OFF : Fld := ⟨Ra.NVM_UPD_OFF, 31, 0⟩
/-! NVM_UPD_DATA: R143. -/
def NVM_UPD_DATA_DATA (n : Nat) : Fld := ⟨Ra.NVM_UPD_DATA n, 31, 0⟩
/-! FLT_CTL: R701. -/
def FLT_CTL_PORTS : Fld := ⟨Ra.FLT_CTL, 27, 16⟩
def FLT_CTL_MINSEV_HOST : Fld := ⟨Ra.FLT_CTL, 13, 12⟩
def FLT_CTL_MINSEV_SB : Fld := ⟨Ra.FLT_CTL, 11, 10⟩
def FLT_CTL_LOCK : Fld := ⟨Ra.FLT_CTL, 0, 0⟩
/-! FLT_STAT: R701. -/
def FLT_STAT_FROZEN : Fld := ⟨Ra.FLT_STAT, 31, 31⟩
def FLT_STAT_DEG_PEND : Fld := ⟨Ra.FLT_STAT, 30, 30⟩
def FLT_STAT_ACT_OPEN : Fld := ⟨Ra.FLT_STAT, 29, 23⟩
def FLT_STAT_SB_N : Fld := ⟨Ra.FLT_STAT, 22, 16⟩
/-! FLT_SEQ: R702. -/
def FLT_SEQ_SEQ : Fld := ⟨Ra.FLT_SEQ, 31, 0⟩
/-! FLT_ACK_SEQ: R702. -/
def FLT_ACK_SEQ_SEQ : Fld := ⟨Ra.FLT_ACK_SEQ, 31, 0⟩
/-! FLT_ACK: R702. -/
def FLT_ACK_GO : Fld := ⟨Ra.FLT_ACK, 31, 31⟩
def FLT_ACK_RESULT : Fld := ⟨Ra.FLT_ACK, 27, 24⟩
def FLT_ACK_SOURCE : Fld := ⟨Ra.FLT_ACK, 7, 0⟩
/-! FLT_CNT: R703. -/
def FLT_CNT_LOST : Fld := ⟨Ra.FLT_CNT, 31, 16⟩
def FLT_CNT_LOST_OVF : Fld := ⟨Ra.FLT_CNT, 15, 15⟩
def FLT_CNT_ESC : Fld := ⟨Ra.FLT_CNT, 14, 8⟩
def FLT_CNT_ESC_OVF : Fld := ⟨Ra.FLT_CNT, 7, 7⟩
/-! FLT_ACT_LO: R703. -/
def FLT_ACT_LO_OPEN : Fld := ⟨Ra.FLT_ACT_LO, 31, 0⟩
/-! FLT_ACT_HI: R703. -/
def FLT_ACT_HI_OPEN : Fld := ⟨Ra.FLT_ACT_HI, 31, 0⟩
/-! FLT_CAUSE: R704. -/
def FLT_CAUSE_MSG (n : Nat) : Fld := ⟨Ra.FLT_CAUSE n, 31, 0⟩
/-! FLT_TEST_ADDR: R702. -/
def FLT_TEST_ADDR_ADDR : Fld := ⟨Ra.FLT_TEST_ADDR, 31, 0⟩
/-! FLT_TEST: R702. -/
def FLT_TEST_GO : Fld := ⟨Ra.FLT_TEST, 31, 31⟩
def FLT_TEST_ADDR_HI : Fld := ⟨Ra.FLT_TEST, 23, 16⟩
def FLT_TEST_SEV : Fld := ⟨Ra.FLT_TEST, 15, 14⟩
def FLT_TEST_KIND : Fld := ⟨Ra.FLT_TEST, 13, 8⟩
def FLT_TEST_SOURCE : Fld := ⟨Ra.FLT_TEST, 7, 0⟩
/-! FLT_LOG_IDX: R704. -/
def FLT_LOG_IDX_IDX : Fld := ⟨Ra.FLT_LOG_IDX, 9, 0⟩
/-! FLT_LOG_W: R704. -/
def FLT_LOG_W_MSG (n : Nat) : Fld := ⟨Ra.FLT_LOG_W n, 31, 0⟩
/-! FLT_SB_POP: R704. -/
def FLT_SB_POP_POP : Fld := ⟨Ra.FLT_SB_POP, 31, 31⟩
/-! FLT_SB_W: R704. -/
def FLT_SB_W_MSG (n : Nat) : Fld := ⟨Ra.FLT_SB_W n, 31, 0⟩
/-! FLT_SRC: R705. -/
def FLT_SRC_FIXED (n : Nat) : Fld := ⟨Ra.FLT_SRC n, 31, 31⟩
def FLT_SRC_SEV (n : Nat) : Fld := ⟨Ra.FLT_SRC n, 30, 29⟩
def FLT_SRC_ESC (n : Nat) : Fld := ⟨Ra.FLT_SRC n, 28, 27⟩
def FLT_SRC_GRACE (n : Nat) : Fld := ⟨Ra.FLT_SRC n, 26, 22⟩
def FLT_SRC_HOST (n : Nat) : Fld := ⟨Ra.FLT_SRC n, 21, 21⟩
def FLT_SRC_SB (n : Nat) : Fld := ⟨Ra.FLT_SRC n, 20, 20⟩
def FLT_SRC_FW (n : Nat) : Fld := ⟨Ra.FLT_SRC n, 19, 19⟩
/-! OBS_SNAP_CTL: R734. -/
def OBS_SNAP_CTL_EVT_SRC : Fld := ⟨Ra.OBS_SNAP_CTL, 31, 24⟩
def OBS_SNAP_CTL_EVT_KIND : Fld := ⟨Ra.OBS_SNAP_CTL, 23, 18⟩
def OBS_SNAP_CTL_EVT_MINSEV : Fld := ⟨Ra.OBS_SNAP_CTL, 17, 16⟩
def OBS_SNAP_CTL_LOCKDOWN_EN : Fld := ⟨Ra.OBS_SNAP_CTL, 3, 3⟩
def OBS_SNAP_CTL_EVT_EN : Fld := ⟨Ra.OBS_SNAP_CTL, 2, 2⟩
def OBS_SNAP_CTL_PIN_EN : Fld := ⟨Ra.OBS_SNAP_CTL, 1, 1⟩
def OBS_SNAP_CTL_LOCK : Fld := ⟨Ra.OBS_SNAP_CTL, 0, 0⟩
/-! OBS_SNAP_STAT: R735. -/
def OBS_SNAP_STAT_HELD : Fld := ⟨Ra.OBS_SNAP_STAT, 31, 31⟩
def OBS_SNAP_STAT_UNLOCKED : Fld := ⟨Ra.OBS_SNAP_STAT, 30, 30⟩
def OBS_SNAP_STAT_PRIOR : Fld := ⟨Ra.OBS_SNAP_STAT, 29, 29⟩
def OBS_SNAP_STAT_CAUSE : Fld := ⟨Ra.OBS_SNAP_STAT, 28, 26⟩
def OBS_SNAP_STAT_EST : Fld := ⟨Ra.OBS_SNAP_STAT, 25, 25⟩
def OBS_SNAP_STAT_CAUSE_SRC : Fld := ⟨Ra.OBS_SNAP_STAT, 23, 16⟩
def OBS_SNAP_STAT_MISSED : Fld := ⟨Ra.OBS_SNAP_STAT, 15, 8⟩
def OBS_SNAP_STAT_MISS_OVF : Fld := ⟨Ra.OBS_SNAP_STAT, 7, 7⟩
/-! OBS_SNAP_TIME_LO: R735. -/
def OBS_SNAP_TIME_LO_TIME : Fld := ⟨Ra.OBS_SNAP_TIME_LO, 31, 0⟩
/-! OBS_SNAP_TIME_HI: R735. -/
def OBS_SNAP_TIME_HI_TIME : Fld := ⟨Ra.OBS_SNAP_TIME_HI, 31, 0⟩
/-! OBS_SNAP_CMD: R735. -/
def OBS_SNAP_CMD_GO : Fld := ⟨Ra.OBS_SNAP_CMD, 31, 31⟩
def OBS_SNAP_CMD_RESULT : Fld := ⟨Ra.OBS_SNAP_CMD, 7, 4⟩
def OBS_SNAP_CMD_OP : Fld := ⟨Ra.OBS_SNAP_CMD, 1, 0⟩
/-! OBS_SNAP_ADDR: R736. -/
def OBS_SNAP_ADDR_EXT : Fld := ⟨Ra.OBS_SNAP_ADDR, 31, 31⟩
def OBS_SNAP_ADDR_ADDR : Fld := ⟨Ra.OBS_SNAP_ADDR, 23, 0⟩
/-! OBS_SNAP_DATA: R736. -/
def OBS_SNAP_DATA_DATA (n : Nat) : Fld := ⟨Ra.OBS_SNAP_DATA n, 31, 0⟩
/-! OBS_MON_CFG: R737. -/
def OBS_MON_CFG_EN (n : Nat) : Fld := ⟨Ra.OBS_MON_CFG n, 31, 31⟩
def OBS_MON_CFG_LOG2 (n : Nat) : Fld := ⟨Ra.OBS_MON_CFG n, 30, 30⟩
def OBS_MON_CFG_QTY (n : Nat) : Fld := ⟨Ra.OBS_MON_CFG n, 29, 26⟩
def OBS_MON_CFG_INDEX (n : Nat) : Fld := ⟨Ra.OBS_MON_CFG n, 25, 17⟩
def OBS_MON_CFG_WEXP (n : Nat) : Fld := ⟨Ra.OBS_MON_CFG n, 16, 12⟩
def OBS_MON_CFG_SPER (n : Nat) : Fld := ⟨Ra.OBS_MON_CFG n, 11, 8⟩
/-! OBS_MON_BASE: R737. -/
def OBS_MON_BASE_BASE (n : Nat) : Fld := ⟨Ra.OBS_MON_BASE n, 31, 0⟩
/-! OBS_MON_LIMIT: R737. -/
def OBS_MON_LIMIT_LIMIT (n : Nat) : Fld := ⟨Ra.OBS_MON_LIMIT n, 31, 0⟩
/-! OBS_MON_CTL: R737. -/
def OBS_MON_CTL_CLR (n : Nat) : Fld := ⟨Ra.OBS_MON_CTL n, 31, 31⟩
def OBS_MON_CTL_FREEZE (n : Nat) : Fld := ⟨Ra.OBS_MON_CTL n, 30, 30⟩
def OBS_MON_CTL_OVF (n : Nat) : Fld := ⟨Ra.OBS_MON_CTL n, 16, 16⟩
def OBS_MON_CTL_SKIPPED (n : Nat) : Fld := ⟨Ra.OBS_MON_CTL n, 15, 0⟩
/-! OBS_MON_MIN: R737. -/
def OBS_MON_MIN_MIN (n : Nat) : Fld := ⟨Ra.OBS_MON_MIN n, 31, 0⟩
/-! OBS_MON_MAX: R737. -/
def OBS_MON_MAX_MAX (n : Nat) : Fld := ⟨Ra.OBS_MON_MAX n, 31, 0⟩
/-! OBS_MON_SAMPLES: R737. -/
def OBS_MON_SAMPLES_COUNT (n : Nat) : Fld := ⟨Ra.OBS_MON_SAMPLES n, 31, 0⟩
/-! OBS_MON_BIN: R737. -/
def OBS_MON_BIN_COUNT (n k : Nat) : Fld := ⟨Ra.OBS_MON_BIN n k, 31, 0⟩
/-! SEC_CTL: R569. -/
def SEC_CTL_KLD_TO : Fld := ⟨Ra.SEC_CTL, 19, 16⟩
def SEC_CTL_LOCK : Fld := ⟨Ra.SEC_CTL, 0, 0⟩
/-! SEC_STAT: R569. -/
def SEC_STAT_SELFTEST_OK : Fld := ⟨Ra.SEC_STAT, 10, 10⟩
def SEC_STAT_IDENT : Fld := ⟨Ra.SEC_STAT, 9, 9⟩
def SEC_STAT_MK_IN_FORCE : Fld := ⟨Ra.SEC_STAT, 8, 8⟩
def SEC_STAT_KLD_BUSY : Fld := ⟨Ra.SEC_STAT, 7, 7⟩
def SEC_STAT_SLOTS_N : Fld := ⟨Ra.SEC_STAT, 6, 0⟩
/-! SEC_KLD_CTL: R570. -/
def SEC_KLD_CTL_GO : Fld := ⟨Ra.SEC_KLD_CTL, 31, 31⟩
def SEC_KLD_CTL_OP : Fld := ⟨Ra.SEC_KLD_CTL, 17, 16⟩
def SEC_KLD_CTL_SLOT : Fld := ⟨Ra.SEC_KLD_CTL, 13, 8⟩
def SEC_KLD_CTL_RESULT : Fld := ⟨Ra.SEC_KLD_CTL, 3, 0⟩
/-! SEC_KLD_K: R570. -/
def SEC_KLD_K_WK (n : Nat) : Fld := ⟨Ra.SEC_KLD_K n, 31, 0⟩
/-! SEC_SLOT_LO: R570. -/
def SEC_SLOT_LO_LOADED : Fld := ⟨Ra.SEC_SLOT_LO, 31, 0⟩
/-! SEC_SLOT_HI: R570. -/
def SEC_SLOT_HI_LOADED : Fld := ⟨Ra.SEC_SLOT_HI, 31, 0⟩
/-! SEC_MK_CTL: R570. -/
def SEC_MK_CTL_GO : Fld := ⟨Ra.SEC_MK_CTL, 31, 31⟩
def SEC_MK_CTL_RESULT : Fld := ⟨Ra.SEC_MK_CTL, 3, 0⟩
/-! SEC_MKW: R570. -/
def SEC_MKW_BLOB (n : Nat) : Fld := ⟨Ra.SEC_MKW n, 31, 0⟩
/-! SEC_AUTH_LAST_LO: R571. -/
def SEC_AUTH_LAST_LO_LAST : Fld := ⟨Ra.SEC_AUTH_LAST_LO, 31, 0⟩
/-! SEC_AUTH_LAST_HI: R571. -/
def SEC_AUTH_LAST_HI_LAST : Fld := ⟨Ra.SEC_AUTH_LAST_HI, 31, 0⟩
/-! SEC_AUTH_P_LO: R571. -/
def SEC_AUTH_P_LO_P : Fld := ⟨Ra.SEC_AUTH_P_LO, 31, 0⟩
/-! SEC_AUTH_P_HI: R571. -/
def SEC_AUTH_P_HI_P : Fld := ⟨Ra.SEC_AUTH_P_HI, 31, 0⟩
/-! SEC_AUTH_STAT: R571. -/
def SEC_AUTH_STAT_FAILS : Fld := ⟨Ra.SEC_AUTH_STAT, 31, 16⟩
def SEC_AUTH_STAT_FAIL_OVF : Fld := ⟨Ra.SEC_AUTH_STAT, 15, 15⟩
def SEC_AUTH_STAT_PERSIST_STOP : Fld := ⟨Ra.SEC_AUTH_STAT, 3, 3⟩
def SEC_AUTH_STAT_RESTORED : Fld := ⟨Ra.SEC_AUTH_STAT, 2, 2⟩
def SEC_AUTH_STAT_LAST_REASON : Fld := ⟨Ra.SEC_AUTH_STAT, 1, 0⟩
/-! SEC_LINK: R572. -/
def SEC_LINK_SLOT (n : Nat) : Fld := ⟨Ra.SEC_LINK n, 5, 0⟩
/-! SEC_LSESS_LO: R572. -/
def SEC_LSESS_LO_SESS (n : Nat) : Fld := ⟨Ra.SEC_LSESS_LO n, 31, 0⟩
/-! SEC_LSESS_HI: R572. -/
def SEC_LSESS_HI_SESS (n : Nat) : Fld := ⟨Ra.SEC_LSESS_HI n, 31, 0⟩
/-! SEC_LSESSP_LO: R572. -/
def SEC_LSESSP_LO_SESS : Fld := ⟨Ra.SEC_LSESSP_LO, 31, 0⟩
/-! SEC_LSESSP_HI: R572. -/
def SEC_LSESSP_HI_SESS : Fld := ⟨Ra.SEC_LSESSP_HI, 31, 0⟩
/-! SEC_ATT_CTL: R573. -/
def SEC_ATT_CTL_GO : Fld := ⟨Ra.SEC_ATT_CTL, 31, 31⟩
def SEC_ATT_CTL_RESULT : Fld := ⟨Ra.SEC_ATT_CTL, 1, 0⟩
/-! SEC_ATT_NONCE: R573. -/
def SEC_ATT_NONCE_NONCE (n : Nat) : Fld := ⟨Ra.SEC_ATT_NONCE n, 31, 0⟩
/-! SEC_LEP_TX: R572. -/
def SEC_LEP_TX_EPOCH (n : Nat) : Fld := ⟨Ra.SEC_LEP_TX n, 31, 0⟩
/-! SEC_LEP_RX: R572. -/
def SEC_LEP_RX_EPOCH (n : Nat) : Fld := ⟨Ra.SEC_LEP_RX n, 31, 0⟩
/-! SEC_ATT_DATA: R573. -/
def SEC_ATT_DATA_DATA (n : Nat) : Fld := ⟨Ra.SEC_ATT_DATA n, 31, 0⟩
/-! SEC_CERT_ADDR: R573. -/
def SEC_CERT_ADDR_WORD : Fld := ⟨Ra.SEC_CERT_ADDR, 15, 2⟩
/-! SEC_CERT_DATA: R573. -/
def SEC_CERT_DATA_DATA : Fld := ⟨Ra.SEC_CERT_DATA, 31, 0⟩
/-! SEC_TAG_FAIL_CNT: R573. -/
def SEC_TAG_FAIL_CNT_OVF : Fld := ⟨Ra.SEC_TAG_FAIL_CNT, 31, 31⟩
def SEC_TAG_FAIL_CNT_COUNT : Fld := ⟨Ra.SEC_TAG_FAIL_CNT, 30, 0⟩
/-! SEC_TC_MISS: R573. -/
def SEC_TC_MISS_OVF : Fld := ⟨Ra.SEC_TC_MISS, 31, 31⟩
def SEC_TC_MISS_COUNT : Fld := ⟨Ra.SEC_TC_MISS, 30, 0⟩
/-! REG_CTL: R536. -/
def REG_CTL_ENFORCE : Fld := ⟨Ra.REG_CTL, 1, 1⟩
def REG_CTL_LOCK : Fld := ⟨Ra.REG_CTL, 0, 0⟩
/-! REG_STAT: R536. -/
def REG_STAT_KEFF : Fld := ⟨Ra.REG_STAT, 31, 16⟩
def REG_STAT_SHRINK : Fld := ⟨Ra.REG_STAT, 10, 0⟩
/-! REG_GSUM: R537. -/
def REG_GSUM_LIMIT : Fld := ⟨Ra.REG_GSUM, 31, 16⟩
def REG_GSUM_GSUM : Fld := ⟨Ra.REG_GSUM, 15, 0⟩
/-! REG_LCMD: R538. -/
def REG_LCMD_GO : Fld := ⟨Ra.REG_LCMD, 31, 31⟩
def REG_LCMD_LABEL : Fld := ⟨Ra.REG_LCMD, 15, 8⟩
def REG_LCMD_RESULT : Fld := ⟨Ra.REG_LCMD, 3, 0⟩
/-! REG_STG_CFG: R540. -/
def REG_STG_CFG_EN : Fld := ⟨Ra.REG_STG_CFG, 31, 31⟩
def REG_STG_CFG_WEIGHT : Fld := ⟨Ra.REG_STG_CFG, 23, 16⟩
def REG_STG_CFG_WIN : Fld := ⟨Ra.REG_STG_CFG, 7, 0⟩
/-! REG_STG_GUAR: R540. -/
def REG_STG_GUAR_G : Fld := ⟨Ra.REG_STG_GUAR, 19, 0⟩
/-! REG_LATE_CNT: R537. -/
def REG_LATE_CNT_OVF : Fld := ⟨Ra.REG_LATE_CNT, 31, 31⟩
def REG_LATE_CNT_COUNT : Fld := ⟨Ra.REG_LATE_CNT, 30, 0⟩
/-! REG_TGT: R539. -/
def REG_TGT_TGT (n : Nat) : Fld := ⟨Ra.REG_TGT n, 11, 0⟩
/-! REG_TGTH: R539. -/
def REG_TGTH_TGT (n : Nat) : Fld := ⟨Ra.REG_TGTH n, 11, 0⟩
/-! REG_PLAT: R539. -/
def REG_PLAT_OVF (n : Nat) : Fld := ⟨Ra.REG_PLAT n, 31, 31⟩
def REG_PLAT_MAX (n : Nat) : Fld := ⟨Ra.REG_PLAT n, 15, 0⟩
/-! REG_L_CFG: R540. -/
def REG_L_CFG_EN (n : Nat) : Fld := ⟨Ra.REG_L_CFG n, 31, 31⟩
def REG_L_CFG_WEIGHT (n : Nat) : Fld := ⟨Ra.REG_L_CFG n, 23, 16⟩
def REG_L_CFG_WIN (n : Nat) : Fld := ⟨Ra.REG_L_CFG n, 7, 0⟩
/-! REG_L_GUAR: R540. -/
def REG_L_GUAR_G (n : Nat) : Fld := ⟨Ra.REG_L_GUAR n, 19, 0⟩
/-! REG_L_LAT: R540. -/
def REG_L_LAT_OVF (n : Nat) : Fld := ⟨Ra.REG_L_LAT n, 31, 31⟩
def REG_L_LAT_MAX (n : Nat) : Fld := ⟨Ra.REG_L_LAT n, 15, 0⟩
/-! REG_L_BYTES: R540. -/
def REG_L_BYTES_OVF (n : Nat) : Fld := ⟨Ra.REG_L_BYTES n, 31, 31⟩
def REG_L_BYTES_COUNT (n : Nat) : Fld := ⟨Ra.REG_L_BYTES n, 30, 0⟩
/-! RGN_CTL: R312. -/
def RGN_CTL_DRAIN_TO : Fld := ⟨Ra.RGN_CTL, 19, 16⟩
def RGN_CTL_LOCK : Fld := ⟨Ra.RGN_CTL, 0, 0⟩
/-! RGN_STAT: R313. -/
def RGN_STAT_BUSY : Fld := ⟨Ra.RGN_STAT, 31, 31⟩
def RGN_STAT_HOLDING : Fld := ⟨Ra.RGN_STAT, 30, 30⟩
def RGN_STAT_INDEX : Fld := ⟨Ra.RGN_STAT, 21, 16⟩
def RGN_STAT_REJ_OVF : Fld := ⟨Ra.RGN_STAT, 15, 15⟩
def RGN_STAT_REJ_CNT : Fld := ⟨Ra.RGN_STAT, 14, 0⟩
/-! RGN_REJ_LAST: R313. -/
def RGN_REJ_LAST_PORT : Fld := ⟨Ra.RGN_REJ_LAST, 27, 24⟩
def RGN_REJ_LAST_REQ_ID : Fld := ⟨Ra.RGN_REJ_LAST, 23, 12⟩
def RGN_REJ_LAST_OPCODE : Fld := ⟨Ra.RGN_REJ_LAST, 7, 0⟩
/-! RGN_STG_B: R314. -/
def RGN_STG_B_WIN : Fld := ⟨Ra.RGN_STG_B, 31, 31⟩
def RGN_STG_B_BASE : Fld := ⟨Ra.RGN_STG_B, 13, 0⟩
/-! RGN_STG_S: R314. -/
def RGN_STG_S_SIZE : Fld := ⟨Ra.RGN_STG_S, 13, 0⟩
/-! RGN_STG_A: R314. -/
def RGN_STG_A_VALID : Fld := ⟨Ra.RGN_STG_A, 31, 31⟩
def RGN_STG_A_KIND : Fld := ⟨Ra.RGN_STG_A, 30, 28⟩
def RGN_STG_A_RET : Fld := ⟨Ra.RGN_STG_A, 27, 26⟩
def RGN_STG_A_MIRROR : Fld := ⟨Ra.RGN_STG_A, 25, 25⟩
def RGN_STG_A_LABEL : Fld := ⟨Ra.RGN_STG_A, 23, 16⟩
def RGN_STG_A_PAGE : Fld := ⟨Ra.RGN_STG_A, 15, 14⟩
def RGN_STG_A_KEY : Fld := ⟨Ra.RGN_STG_A, 6, 0⟩
/-! RGN_STG_Q0: R314. -/
def RGN_STG_Q0_EN : Fld := ⟨Ra.RGN_STG_Q0, 31, 31⟩
def RGN_STG_Q0_MASK : Fld := ⟨Ra.RGN_STG_Q0, 27, 16⟩
def RGN_STG_Q0_MATCH : Fld := ⟨Ra.RGN_STG_Q0, 11, 0⟩
/-! RGN_STG_Q1: R314. -/
def RGN_STG_Q1_EN : Fld := ⟨Ra.RGN_STG_Q1, 31, 31⟩
def RGN_STG_Q1_MASK : Fld := ⟨Ra.RGN_STG_Q1, 27, 16⟩
def RGN_STG_Q1_MATCH : Fld := ⟨Ra.RGN_STG_Q1, 11, 0⟩
/-! RGN_STG_T: R314. -/
def RGN_STG_T_TSR : Fld := ⟨Ra.RGN_STG_T, 21, 16⟩
def RGN_STG_T_TSOFF : Fld := ⟨Ra.RGN_STG_T, 15, 0⟩
/-! RGN_COMMIT: R315. -/
def RGN_COMMIT_GO : Fld := ⟨Ra.RGN_COMMIT, 31, 31⟩
def RGN_COMMIT_INDEX : Fld := ⟨Ra.RGN_COMMIT, 21, 16⟩
def RGN_COMMIT_RESULT : Fld := ⟨Ra.RGN_COMMIT, 3, 0⟩
/-! RGN_FENCE_LO: R316. -/
def RGN_FENCE_LO_FENCE : Fld := ⟨Ra.RGN_FENCE_LO, 31, 0⟩
/-! RGN_FENCE_HI: R316. -/
def RGN_FENCE_HI_FENCE : Fld := ⟨Ra.RGN_FENCE_HI, 31, 0⟩
/-! RGN_B: R314. -/
def RGN_B_WIN (n : Nat) : Fld := ⟨Ra.RGN_B n, 31, 31⟩
def RGN_B_BASE (n : Nat) : Fld := ⟨Ra.RGN_B n, 13, 0⟩
/-! RGN_S: R314. -/
def RGN_S_SIZE (n : Nat) : Fld := ⟨Ra.RGN_S n, 13, 0⟩
/-! RGN_A: R314. -/
def RGN_A_VALID (n : Nat) : Fld := ⟨Ra.RGN_A n, 31, 31⟩
def RGN_A_KIND (n : Nat) : Fld := ⟨Ra.RGN_A n, 30, 28⟩
def RGN_A_RET (n : Nat) : Fld := ⟨Ra.RGN_A n, 27, 26⟩
def RGN_A_MIRROR (n : Nat) : Fld := ⟨Ra.RGN_A n, 25, 25⟩
def RGN_A_LABEL (n : Nat) : Fld := ⟨Ra.RGN_A n, 23, 16⟩
def RGN_A_PAGE (n : Nat) : Fld := ⟨Ra.RGN_A n, 15, 14⟩
def RGN_A_KEY (n : Nat) : Fld := ⟨Ra.RGN_A n, 6, 0⟩
/-! RGN_Q0: R314. -/
def RGN_Q0_EN (n : Nat) : Fld := ⟨Ra.RGN_Q0 n, 31, 31⟩
def RGN_Q0_MASK (n : Nat) : Fld := ⟨Ra.RGN_Q0 n, 27, 16⟩
def RGN_Q0_MATCH (n : Nat) : Fld := ⟨Ra.RGN_Q0 n, 11, 0⟩
/-! RGN_Q1: R314. -/
def RGN_Q1_EN (n : Nat) : Fld := ⟨Ra.RGN_Q1 n, 31, 31⟩
def RGN_Q1_MASK (n : Nat) : Fld := ⟨Ra.RGN_Q1 n, 27, 16⟩
def RGN_Q1_MATCH (n : Nat) : Fld := ⟨Ra.RGN_Q1 n, 11, 0⟩
/-! RGN_T: R314. -/
def RGN_T_TSR (n : Nat) : Fld := ⟨Ra.RGN_T n, 21, 16⟩
def RGN_T_TSOFF (n : Nat) : Fld := ⟨Ra.RGN_T n, 15, 0⟩
/-! PORT_LINK_CFG: R258. -/
def PORT_LINK_CFG_ENC (n : Nat) : Fld := ⟨Ra.PORT_LINK_CFG n, 31, 31⟩
def PORT_LINK_CFG_REPLAY_TO (n : Nat) : Fld := ⟨Ra.PORT_LINK_CFG n, 27, 24⟩
/-! PORT_LINK_STAT: R259. -/
def PORT_LINK_STAT_GEN (n : Nat) : Fld := ⟨Ra.PORT_LINK_STAT n, 31, 24⟩
def PORT_LINK_STAT_ENC_ON (n : Nat) : Fld := ⟨Ra.PORT_LINK_STAT n, 15, 15⟩
def PORT_LINK_STAT_KPH_TX (n : Nat) : Fld := ⟨Ra.PORT_LINK_STAT n, 14, 14⟩
def PORT_LINK_STAT_KPH_RX (n : Nat) : Fld := ⟨Ra.PORT_LINK_STAT n, 13, 13⟩
def PORT_LINK_STAT_RESET_PEND (n : Nat) : Fld := ⟨Ra.PORT_LINK_STAT n, 12, 12⟩
def PORT_LINK_STAT_CAUSE (n : Nat) : Fld := ⟨Ra.PORT_LINK_STAT n, 6, 4⟩
def PORT_LINK_STAT_STATE (n : Nat) : Fld := ⟨Ra.PORT_LINK_STAT n, 2, 0⟩
/-! PORT_LINK_SEQ: R260. -/
def PORT_LINK_SEQ_RX_LAST (n : Nat) : Fld := ⟨Ra.PORT_LINK_SEQ n, 27, 16⟩
def PORT_LINK_SEQ_TX_NEXT (n : Nat) : Fld := ⟨Ra.PORT_LINK_SEQ n, 11, 0⟩
/-! PORT_LINK_OUT: R260. -/
def PORT_LINK_OUT_UNACK (n : Nat) : Fld := ⟨Ra.PORT_LINK_OUT n, 26, 16⟩
def PORT_LINK_OUT_OUTST (n : Nat) : Fld := ⟨Ra.PORT_LINK_OUT n, 11, 0⟩
/-! PORT_CRED01: R260. -/
def PORT_CRED01_VC1 (n : Nat) : Fld := ⟨Ra.PORT_CRED01 n, 31, 16⟩
def PORT_CRED01_VC0 (n : Nat) : Fld := ⟨Ra.PORT_CRED01 n, 15, 0⟩
/-! PORT_CRED23: R260. -/
def PORT_CRED23_VC3 (n : Nat) : Fld := ⟨Ra.PORT_CRED23 n, 31, 16⟩
def PORT_CRED23_VC2 (n : Nat) : Fld := ⟨Ra.PORT_CRED23 n, 15, 0⟩
/-! PORT_LINK_CNT: R261. -/
def PORT_LINK_CNT_REPLAYS (n : Nat) : Fld := ⟨Ra.PORT_LINK_CNT n, 31, 24⟩
def PORT_LINK_CNT_REPLAY_OVF (n : Nat) : Fld := ⟨Ra.PORT_LINK_CNT n, 23, 23⟩
def PORT_LINK_CNT_RECOVERS (n : Nat) : Fld := ⟨Ra.PORT_LINK_CNT n, 22, 17⟩
def PORT_LINK_CNT_RECOVER_OVF (n : Nat) : Fld := ⟨Ra.PORT_LINK_CNT n, 16, 16⟩
def PORT_LINK_CNT_RESETS (n : Nat) : Fld := ⟨Ra.PORT_LINK_CNT n, 15, 10⟩
def PORT_LINK_CNT_RESET_OVF (n : Nat) : Fld := ⟨Ra.PORT_LINK_CNT n, 9, 9⟩
def PORT_LINK_CNT_TAG_FAILS (n : Nat) : Fld := ⟨Ra.PORT_LINK_CNT n, 8, 3⟩
def PORT_LINK_CNT_TAG_OVF (n : Nat) : Fld := ⟨Ra.PORT_LINK_CNT n, 2, 2⟩
/-! PORT_FLIT_ERR: R262. -/
def PORT_FLIT_ERR_OVF (n : Nat) : Fld := ⟨Ra.PORT_FLIT_ERR n, 31, 31⟩
def PORT_FLIT_ERR_COUNT (n : Nat) : Fld := ⟨Ra.PORT_FLIT_ERR n, 30, 0⟩
/-! PORT_FEC_CORR: R262. -/
def PORT_FEC_CORR_OVF (n : Nat) : Fld := ⟨Ra.PORT_FEC_CORR n, 31, 31⟩
def PORT_FEC_CORR_COUNT (n : Nat) : Fld := ⟨Ra.PORT_FEC_CORR n, 30, 0⟩
/-! PORT_FEC_UNCORR: R262. -/
def PORT_FEC_UNCORR_OVF (n : Nat) : Fld := ⟨Ra.PORT_FEC_UNCORR n, 31, 31⟩
def PORT_FEC_UNCORR_COUNT (n : Nat) : Fld := ⟨Ra.PORT_FEC_UNCORR n, 30, 0⟩
/-! PORT_ABORTS: R262. -/
def PORT_ABORTS_OVF (n : Nat) : Fld := ⟨Ra.PORT_ABORTS n, 31, 31⟩
def PORT_ABORTS_COUNT (n : Nat) : Fld := ⟨Ra.PORT_ABORTS n, 30, 0⟩
/-! PORT_ENC_FCNT_TX: R260. -/
def PORT_ENC_FCNT_TX_FCNT (n : Nat) : Fld := ⟨Ra.PORT_ENC_FCNT_TX n, 31, 0⟩
/-! PORT_ENC_FCNT_RX: R260. -/
def PORT_ENC_FCNT_RX_FCNT (n : Nat) : Fld := ⟨Ra.PORT_ENC_FCNT_RX n, 31, 0⟩
/-! PORT_LOCK: R209. -/
def PORT_LOCK_LOCK (n : Nat) : Fld := ⟨Ra.PORT_LOCK n, 0, 0⟩
/-! PORT_LANE_CFG: R208. -/
def PORT_LANE_CFG_EN (n : Nat) : Fld := ⟨Ra.PORT_LANE_CFG n, 31, 31⟩
def PORT_LANE_CFG_RATE (n : Nat) : Fld := ⟨Ra.PORT_LANE_CFG n, 30, 30⟩
def PORT_LANE_CFG_BRINGUP_TO (n : Nat) : Fld := ⟨Ra.PORT_LANE_CFG n, 27, 24⟩
def PORT_LANE_CFG_TAP_WIN (n : Nat) : Fld := ⟨Ra.PORT_LANE_CFG n, 23, 20⟩
def PORT_LANE_CFG_SPARE_ERR_LIM (n : Nat) : Fld := ⟨Ra.PORT_LANE_CFG n, 15, 0⟩
/-! PORT_TX_FFE: R210. -/
def PORT_TX_FFE_POST2 (n : Nat) : Fld := ⟨Ra.PORT_TX_FFE n, 29, 24⟩
def PORT_TX_FFE_POST1 (n : Nat) : Fld := ⟨Ra.PORT_TX_FFE n, 23, 18⟩
def PORT_TX_FFE_MAIN (n : Nat) : Fld := ⟨Ra.PORT_TX_FFE n, 17, 12⟩
def PORT_TX_FFE_PRE1 (n : Nat) : Fld := ⟨Ra.PORT_TX_FFE n, 11, 6⟩
def PORT_TX_FFE_PRE2 (n : Nat) : Fld := ⟨Ra.PORT_TX_FFE n, 5, 0⟩
/-! PORT_LANE_STAT: R211. -/
def PORT_LANE_STAT_UP (n : Nat) : Fld := ⟨Ra.PORT_LANE_STAT n, 31, 31⟩
def PORT_LANE_STAT_STATE (n : Nat) : Fld := ⟨Ra.PORT_LANE_STAT n, 30, 29⟩
def PORT_LANE_STAT_LATE (n : Nat) : Fld := ⟨Ra.PORT_LANE_STAT n, 28, 28⟩
def PORT_LANE_STAT_SPARE_PHYS (n : Nat) : Fld := ⟨Ra.PORT_LANE_STAT n, 27, 24⟩
def PORT_LANE_STAT_SPARE_READY (n : Nat) : Fld := ⟨Ra.PORT_LANE_STAT n, 23, 23⟩
def PORT_LANE_STAT_FAILED (n : Nat) : Fld := ⟨Ra.PORT_LANE_STAT n, 17, 9⟩
def PORT_LANE_STAT_LOCK (n : Nat) : Fld := ⟨Ra.PORT_LANE_STAT n, 8, 0⟩
/-! PORT_LANE_MAP: R212. -/
def PORT_LANE_MAP_LOG7 (n : Nat) : Fld := ⟨Ra.PORT_LANE_MAP n, 31, 28⟩
def PORT_LANE_MAP_LOG6 (n : Nat) : Fld := ⟨Ra.PORT_LANE_MAP n, 27, 24⟩
def PORT_LANE_MAP_LOG5 (n : Nat) : Fld := ⟨Ra.PORT_LANE_MAP n, 23, 20⟩
def PORT_LANE_MAP_LOG4 (n : Nat) : Fld := ⟨Ra.PORT_LANE_MAP n, 19, 16⟩
def PORT_LANE_MAP_LOG3 (n : Nat) : Fld := ⟨Ra.PORT_LANE_MAP n, 15, 12⟩
def PORT_LANE_MAP_LOG2 (n : Nat) : Fld := ⟨Ra.PORT_LANE_MAP n, 11, 8⟩
def PORT_LANE_MAP_LOG1 (n : Nat) : Fld := ⟨Ra.PORT_LANE_MAP n, 7, 4⟩
def PORT_LANE_MAP_LOG0 (n : Nat) : Fld := ⟨Ra.PORT_LANE_MAP n, 3, 0⟩
/-! PORT_LANE_TXMAP: R212. -/
def PORT_LANE_TXMAP_LOG7 (n : Nat) : Fld := ⟨Ra.PORT_LANE_TXMAP n, 31, 28⟩
def PORT_LANE_TXMAP_LOG6 (n : Nat) : Fld := ⟨Ra.PORT_LANE_TXMAP n, 27, 24⟩
def PORT_LANE_TXMAP_LOG5 (n : Nat) : Fld := ⟨Ra.PORT_LANE_TXMAP n, 23, 20⟩
def PORT_LANE_TXMAP_LOG4 (n : Nat) : Fld := ⟨Ra.PORT_LANE_TXMAP n, 19, 16⟩
def PORT_LANE_TXMAP_LOG3 (n : Nat) : Fld := ⟨Ra.PORT_LANE_TXMAP n, 15, 12⟩
def PORT_LANE_TXMAP_LOG2 (n : Nat) : Fld := ⟨Ra.PORT_LANE_TXMAP n, 11, 8⟩
def PORT_LANE_TXMAP_LOG1 (n : Nat) : Fld := ⟨Ra.PORT_LANE_TXMAP n, 7, 4⟩
def PORT_LANE_TXMAP_LOG0 (n : Nat) : Fld := ⟨Ra.PORT_LANE_TXMAP n, 3, 0⟩
/-! PORT_LANE_FLAG: R213. -/
def PORT_LANE_FLAG_FAR_LOCK (n : Nat) : Fld := ⟨Ra.PORT_LANE_FLAG n, 24, 16⟩
def PORT_LANE_FLAG_FAR_UP (n : Nat) : Fld := ⟨Ra.PORT_LANE_FLAG n, 15, 15⟩
def PORT_LANE_FLAG_FAR_SPARE_READY (n : Nat) : Fld := ⟨Ra.PORT_LANE_FLAG n, 14, 14⟩
def PORT_LANE_FLAG_FLAG (n : Nat) : Fld := ⟨Ra.PORT_LANE_FLAG n, 8, 0⟩
/-! PORT_LANE_SWAP: R214. -/
def PORT_LANE_SWAP_GO (n : Nat) : Fld := ⟨Ra.PORT_LANE_SWAP n, 31, 31⟩
def PORT_LANE_SWAP_RESULT (n : Nat) : Fld := ⟨Ra.PORT_LANE_SWAP n, 11, 8⟩
def PORT_LANE_SWAP_DIR (n : Nat) : Fld := ⟨Ra.PORT_LANE_SWAP n, 4, 4⟩
def PORT_LANE_SWAP_LANE (n : Nat) : Fld := ⟨Ra.PORT_LANE_SWAP n, 2, 0⟩
/-! PORT_LANE_CNT: R215. -/
def PORT_LANE_CNT_SWAPS (n : Nat) : Fld := ⟨Ra.PORT_LANE_CNT n, 31, 24⟩
def PORT_LANE_CNT_SWAP_OVF (n : Nat) : Fld := ⟨Ra.PORT_LANE_CNT n, 23, 23⟩
def PORT_LANE_CNT_RESEEDS (n : Nat) : Fld := ⟨Ra.PORT_LANE_CNT n, 22, 16⟩
def PORT_LANE_CNT_RESEED_OVF (n : Nat) : Fld := ⟨Ra.PORT_LANE_CNT n, 15, 15⟩
def PORT_LANE_CNT_LOSSES (n : Nat) : Fld := ⟨Ra.PORT_LANE_CNT n, 14, 8⟩
def PORT_LANE_CNT_LOSS_OVF (n : Nat) : Fld := ⟨Ra.PORT_LANE_CNT n, 7, 7⟩
def PORT_LANE_CNT_CODE_ERR (n : Nat) : Fld := ⟨Ra.PORT_LANE_CNT n, 6, 0⟩
/-! PORT_LANE_DIAG_SEL: R216. -/
def PORT_LANE_DIAG_SEL_LANE (n : Nat) : Fld := ⟨Ra.PORT_LANE_DIAG_SEL n, 3, 0⟩
/-! PORT_LANE_DIAG: R216. -/
def PORT_LANE_DIAG_CTLE (n : Nat) : Fld := ⟨Ra.PORT_LANE_DIAG n, 31, 27⟩
def PORT_LANE_DIAG_CTLE_TRN (n : Nat) : Fld := ⟨Ra.PORT_LANE_DIAG n, 26, 22⟩
def PORT_LANE_DIAG_H1 (n : Nat) : Fld := ⟨Ra.PORT_LANE_DIAG n, 21, 14⟩
def PORT_LANE_DIAG_H1_TRN (n : Nat) : Fld := ⟨Ra.PORT_LANE_DIAG n, 13, 6⟩
def PORT_LANE_DIAG_CLAMPED (n : Nat) : Fld := ⟨Ra.PORT_LANE_DIAG n, 5, 5⟩
def PORT_LANE_DIAG_CLAMP_TAP (n : Nat) : Fld := ⟨Ra.PORT_LANE_DIAG n, 4, 0⟩
/-! PORT_LANE_TEST: R217. -/
def PORT_LANE_TEST_TEST (n : Nat) : Fld := ⟨Ra.PORT_LANE_TEST n, 0, 0⟩
/-! PORT_PRBS_CTL: R218. -/
def PORT_PRBS_CTL_INJ (n k : Nat) : Fld := ⟨Ra.PORT_PRBS_CTL n k, 31, 31⟩
def PORT_PRBS_CTL_INJ_RATE (n k : Nat) : Fld := ⟨Ra.PORT_PRBS_CTL n k, 27, 24⟩
def PORT_PRBS_CTL_RX_PAT (n k : Nat) : Fld := ⟨Ra.PORT_PRBS_CTL n k, 9, 8⟩
def PORT_PRBS_CTL_TX_PAT (n k : Nat) : Fld := ⟨Ra.PORT_PRBS_CTL n k, 5, 4⟩
def PORT_PRBS_CTL_RAW (n k : Nat) : Fld := ⟨Ra.PORT_PRBS_CTL n k, 1, 1⟩
/-! PORT_PRBS_ERR: R219. -/
def PORT_PRBS_ERR_OVF (n k : Nat) : Fld := ⟨Ra.PORT_PRBS_ERR n k, 31, 31⟩
def PORT_PRBS_ERR_COUNT (n k : Nat) : Fld := ⟨Ra.PORT_PRBS_ERR n k, 30, 0⟩
/-! PAIR_CFG: R598. -/
def PAIR_CFG_SHADOW_EN : Fld := ⟨Ra.PAIR_CFG, 22, 22⟩
def PAIR_CFG_SHADOW_RGN : Fld := ⟨Ra.PAIR_CFG, 21, 16⟩
def PAIR_CFG_LOCK : Fld := ⟨Ra.PAIR_CFG, 0, 0⟩
/-! PAIR_STAT: R599. -/
def PAIR_STAT_JOINED : Fld := ⟨Ra.PAIR_STAT, 31, 31⟩
def PAIR_STAT_RESYNC : Fld := ⟨Ra.PAIR_STAT, 30, 30⟩
def PAIR_STAT_SINGLE_WR : Fld := ⟨Ra.PAIR_STAT, 29, 29⟩
def PAIR_STAT_DIVERGED : Fld := ⟨Ra.PAIR_STAT, 28, 28⟩
def PAIR_STAT_ROLE : Fld := ⟨Ra.PAIR_STAT, 27, 26⟩
def PAIR_STAT_PARTNER_ROLE : Fld := ⟨Ra.PAIR_STAT, 25, 24⟩
def PAIR_STAT_LOST_REASON : Fld := ⟨Ra.PAIR_STAT, 23, 20⟩
def PAIR_STAT_RESYNC_RGN : Fld := ⟨Ra.PAIR_STAT, 5, 0⟩
/-! PAIR_CURRENT_LO: R600. -/
def PAIR_CURRENT_LO_CUR : Fld := ⟨Ra.PAIR_CURRENT_LO, 31, 0⟩
/-! PAIR_CURRENT_HI: R600. -/
def PAIR_CURRENT_HI_CUR : Fld := ⟨Ra.PAIR_CURRENT_HI, 31, 0⟩
/-! PAIR_RSYNC_PT_LO: R600. -/
def PAIR_RSYNC_PT_LO_ADDR : Fld := ⟨Ra.PAIR_RSYNC_PT_LO, 31, 6⟩
/-! PAIR_RSYNC_PT_HI: R600. -/
def PAIR_RSYNC_PT_HI_ADDR : Fld := ⟨Ra.PAIR_RSYNC_PT_HI, 7, 0⟩
/-! PAIR_CNT: R601. -/
def PAIR_CNT_LOSSES : Fld := ⟨Ra.PAIR_CNT, 31, 24⟩
def PAIR_CNT_LOSS_OVF : Fld := ⟨Ra.PAIR_CNT, 23, 23⟩
def PAIR_CNT_JOINS : Fld := ⟨Ra.PAIR_CNT, 22, 16⟩
def PAIR_CNT_JOIN_OVF : Fld := ⟨Ra.PAIR_CNT, 15, 15⟩
/-! PAIR_SINGLE_CNT: R601. -/
def PAIR_SINGLE_CNT_OVF : Fld := ⟨Ra.PAIR_SINGLE_CNT, 31, 31⟩
def PAIR_SINGLE_CNT_COUNT : Fld := ⟨Ra.PAIR_SINGLE_CNT, 30, 0⟩
/-! PAIR_ROLE: R602. -/
def PAIR_ROLE_GO : Fld := ⟨Ra.PAIR_ROLE, 31, 31⟩
def PAIR_ROLE_RESULT : Fld := ⟨Ra.PAIR_ROLE, 27, 24⟩
def PAIR_ROLE_ROLE : Fld := ⟨Ra.PAIR_ROLE, 1, 0⟩
/-! PAIR_RESYNC: R602. -/
def PAIR_RESYNC_GO : Fld := ⟨Ra.PAIR_RESYNC, 31, 31⟩
def PAIR_RESYNC_RESULT : Fld := ⟨Ra.PAIR_RESYNC, 27, 24⟩
def PAIR_RESYNC_SOURCE_SELF : Fld := ⟨Ra.PAIR_RESYNC, 0, 0⟩
/-! PC_STAT: R359. -/
def PC_STAT_RQ (n : Nat) : Fld := ⟨Ra.PC_STAT n, 31, 25⟩
def PC_STAT_WQ (n : Nat) : Fld := ⟨Ra.PC_STAT n, 24, 18⟩
def PC_STAT_MB (n : Nat) : Fld := ⟨Ra.PC_STAT n, 17, 13⟩
def PC_STAT_WMODE (n : Nat) : Fld := ⟨Ra.PC_STAT n, 12, 12⟩
def PC_STAT_MAX_DEBT (n : Nat) : Fld := ⟨Ra.PC_STAT n, 11, 8⟩
def PC_STAT_SELF_REF (n : Nat) : Fld := ⟨Ra.PC_STAT n, 7, 7⟩
def PC_STAT_INORDER_BANKS (n : Nat) : Fld := ⟨Ra.PC_STAT n, 6, 0⟩
/-! PC_ACT: R360. -/
def PC_ACT_OVF (n : Nat) : Fld := ⟨Ra.PC_ACT n, 31, 31⟩
def PC_ACT_COUNT (n : Nat) : Fld := ⟨Ra.PC_ACT n, 30, 0⟩
/-! PC_HIT: R360. -/
def PC_HIT_OVF (n : Nat) : Fld := ⟨Ra.PC_HIT n, 31, 31⟩
def PC_HIT_COUNT (n : Nat) : Fld := ⟨Ra.PC_HIT n, 30, 0⟩
/-! PC_RAW: R360. -/
def PC_RAW_OVF (n : Nat) : Fld := ⟨Ra.PC_RAW n, 31, 31⟩
def PC_RAW_COUNT (n : Nat) : Fld := ⟨Ra.PC_RAW n, 30, 0⟩
/-! PC_TRR: R360. -/
def PC_TRR_OVF (n : Nat) : Fld := ⟨Ra.PC_TRR n, 31, 31⟩
def PC_TRR_COUNT (n : Nat) : Fld := ⟨Ra.PC_TRR n, 30, 0⟩
/-! PC_DRIFT: R676. -/
def PC_DRIFT_FLAG (n k : Nat) : Fld := ⟨Ra.PC_DRIFT n k, 31, 0⟩
/-! PC_DRIFT_LAST: R676. -/
def PC_DRIFT_LAST_SIDE (n : Nat) : Fld := ⟨Ra.PC_DRIFT_LAST n, 8, 8⟩
def PC_DRIFT_LAST_DIR (n : Nat) : Fld := ⟨Ra.PC_DRIFT_LAST n, 7, 7⟩
def PC_DRIFT_LAST_LANE (n : Nat) : Fld := ⟨Ra.PC_DRIFT_LAST n, 6, 0⟩
/-! PC_TSV_MAP: R676. -/
def PC_TSV_MAP_G0S0 (n : Nat) : Fld := ⟨Ra.PC_TSV_MAP n, 29, 25⟩
def PC_TSV_MAP_G0S1 (n : Nat) : Fld := ⟨Ra.PC_TSV_MAP n, 24, 20⟩
def PC_TSV_MAP_G1S0 (n : Nat) : Fld := ⟨Ra.PC_TSV_MAP n, 19, 15⟩
def PC_TSV_MAP_G1S1 (n : Nat) : Fld := ⟨Ra.PC_TSV_MAP n, 14, 10⟩
def PC_TSV_MAP_G2S0 (n : Nat) : Fld := ⟨Ra.PC_TSV_MAP n, 9, 5⟩
def PC_TSV_MAP_G3S0 (n : Nat) : Fld := ⟨Ra.PC_TSV_MAP n, 4, 0⟩
/-! PC_DLY: R675. -/
def PC_DLY_LADDER (n k : Nat) : Fld := ⟨Ra.PC_DLY n k, 20, 20⟩
def PC_DLY_VREF (n k : Nat) : Fld := ⟨Ra.PC_DLY n k, 19, 14⟩
def PC_DLY_WR_TAP (n k : Nat) : Fld := ⟨Ra.PC_DLY n k, 13, 7⟩
def PC_DLY_RD_TAP (n k : Nat) : Fld := ⟨Ra.PC_DLY n k, 6, 0⟩
/-! CG_CTL: R353. -/
def CG_CTL_FENCE (n : Nat) : Fld := ⟨Ra.CG_CTL n, 1, 1⟩
def CG_CTL_LOCK (n : Nat) : Fld := ⟨Ra.CG_CTL n, 0, 0⟩
/-! CG_PAGE: R354. -/
def CG_PAGE_T3 (n : Nat) : Fld := ⟨Ra.CG_PAGE n, 31, 24⟩
def CG_PAGE_T2 (n : Nat) : Fld := ⟨Ra.CG_PAGE n, 23, 16⟩
def CG_PAGE_T1 (n : Nat) : Fld := ⟨Ra.CG_PAGE n, 15, 8⟩
def CG_PAGE_T0 (n : Nat) : Fld := ⟨Ra.CG_PAGE n, 7, 0⟩
/-! CG_SCHED: R355. -/
def CG_SCHED_AGE_CAP (n : Nat) : Fld := ⟨Ra.CG_SCHED n, 26, 24⟩
def CG_SCHED_HIT_CAP (n : Nat) : Fld := ⟨Ra.CG_SCHED n, 23, 16⟩
def CG_SCHED_WQ_HI (n : Nat) : Fld := ⟨Ra.CG_SCHED n, 15, 8⟩
def CG_SCHED_WQ_LO (n : Nat) : Fld := ⟨Ra.CG_SCHED n, 7, 0⟩
/-! CG_TRR: R356. -/
def CG_TRR_NEIGH2 (n : Nat) : Fld := ⟨Ra.CG_TRR n, 4, 4⟩
def CG_TRR_ACT_TH (n : Nat) : Fld := ⟨Ra.CG_TRR n, 3, 0⟩
/-! CG_STAT: R357. -/
def CG_STAT_FENCED (n : Nat) : Fld := ⟨Ra.CG_STAT n, 31, 31⟩
def CG_STAT_SIMPLEX (n : Nat) : Fld := ⟨Ra.CG_STAT n, 30, 30⟩
def CG_STAT_COPY (n : Nat) : Fld := ⟨Ra.CG_STAT n, 29, 29⟩
def CG_STAT_EFF_LEVEL (n : Nat) : Fld := ⟨Ra.CG_STAT n, 17, 16⟩
def CG_STAT_THR_LVL (n : Nat) : Fld := ⟨Ra.CG_STAT n, 10, 8⟩
def CG_STAT_SELF_REF (n : Nat) : Fld := ⟨Ra.CG_STAT n, 7, 7⟩
def CG_STAT_REF_RATE (n : Nat) : Fld := ⟨Ra.CG_STAT n, 5, 4⟩
/-! CG_CNT: R358. -/
def CG_CNT_MISMATCH (n : Nat) : Fld := ⟨Ra.CG_CNT n, 31, 24⟩
def CG_CNT_MIS_OVF (n : Nat) : Fld := ⟨Ra.CG_CNT n, 23, 23⟩
def CG_CNT_CA_RETRY (n : Nat) : Fld := ⟨Ra.CG_CNT n, 22, 16⟩
def CG_CNT_CA_OVF (n : Nat) : Fld := ⟨Ra.CG_CNT n, 15, 15⟩
def CG_CNT_INORDER (n : Nat) : Fld := ⟨Ra.CG_CNT n, 14, 8⟩
def CG_CNT_INO_OVF (n : Nat) : Fld := ⟨Ra.CG_CNT n, 7, 7⟩
/-! CG_CAL_CMD: R672. -/
def CG_CAL_CMD_GO (n : Nat) : Fld := ⟨Ra.CG_CAL_CMD n, 31, 31⟩
def CG_CAL_CMD_OP (n : Nat) : Fld := ⟨Ra.CG_CAL_CMD n, 27, 24⟩
def CG_CAL_CMD_RESULT (n : Nat) : Fld := ⟨Ra.CG_CAL_CMD n, 23, 20⟩
/-! CG_CAL_ARG: R673. -/
def CG_CAL_ARG_LEVEL (n : Nat) : Fld := ⟨Ra.CG_CAL_ARG n, 31, 30⟩
def CG_CAL_ARG_PC (n : Nat) : Fld := ⟨Ra.CG_CAL_ARG n, 29, 28⟩
def CG_CAL_ARG_LANE (n : Nat) : Fld := ⟨Ra.CG_CAL_ARG n, 27, 21⟩
def CG_CAL_ARG_VALUE (n : Nat) : Fld := ⟨Ra.CG_CAL_ARG n, 20, 0⟩
/-! CG_CAL_STAT: R674. -/
def CG_CAL_STAT_WIN_CNT (n : Nat) : Fld := ⟨Ra.CG_CAL_STAT n, 31, 24⟩
def CG_CAL_STAT_WIN_OVF (n : Nat) : Fld := ⟨Ra.CG_CAL_STAT n, 23, 23⟩
def CG_CAL_STAT_WAITING (n : Nat) : Fld := ⟨Ra.CG_CAL_STAT n, 1, 1⟩
def CG_CAL_STAT_PENDING (n : Nat) : Fld := ⟨Ra.CG_CAL_STAT n, 0, 0⟩
/-! CG_CAL_CFG: R674. -/
def CG_CAL_CFG_DRIFT_TH (n : Nat) : Fld := ⟨Ra.CG_CAL_CFG n, 15, 8⟩
def CG_CAL_CFG_MARGIN (n : Nat) : Fld := ⟨Ra.CG_CAL_CFG n, 3, 0⟩
/-! CRM_CTL: R417. -/
def CRM_CTL_CE_BANK_TH : Fld := ⟨Ra.CRM_CTL, 31, 24⟩
def CRM_CTL_PATROL_PERIOD : Fld := ⟨Ra.CRM_CTL, 19, 16⟩
def CRM_CTL_PATROL_EN : Fld := ⟨Ra.CRM_CTL, 1, 1⟩
def CRM_CTL_LOCK : Fld := ⟨Ra.CRM_CTL, 0, 0⟩
/-! CRM_PART: R418. -/
def CRM_PART_USER_SIZE : Fld := ⟨Ra.CRM_PART, 25, 16⟩
def CRM_PART_CNT_SIZE : Fld := ⟨Ra.CRM_PART, 8, 0⟩
/-! CRM_STAT: R419. -/
def CRM_STAT_PASSES : Fld := ⟨Ra.CRM_STAT, 31, 16⟩
def CRM_STAT_PASS_OVF : Fld := ⟨Ra.CRM_STAT, 15, 15⟩
def CRM_STAT_LATE : Fld := ⟨Ra.CRM_STAT, 9, 9⟩
def CRM_STAT_INIT_DONE : Fld := ⟨Ra.CRM_STAT, 8, 8⟩
def CRM_STAT_FENCED_N : Fld := ⟨Ra.CRM_STAT, 7, 0⟩
/-! CRM_CE_CNT: R420. -/
def CRM_CE_CNT_OVF : Fld := ⟨Ra.CRM_CE_CNT, 31, 31⟩
def CRM_CE_CNT_COUNT : Fld := ⟨Ra.CRM_CE_CNT, 30, 0⟩
/-! CRM_UE_CNT: R420. -/
def CRM_UE_CNT_OVF : Fld := ⟨Ra.CRM_UE_CNT, 31, 31⟩
def CRM_UE_CNT_COUNT : Fld := ⟨Ra.CRM_UE_CNT, 30, 0⟩
/-! CRM_PSN_CNT: R420. -/
def CRM_PSN_CNT_OVF : Fld := ⟨Ra.CRM_PSN_CNT, 31, 31⟩
def CRM_PSN_CNT_COUNT : Fld := ⟨Ra.CRM_PSN_CNT, 30, 0⟩
/-! CRM_LAST_UE: R420. -/
def CRM_LAST_UE_KIND : Fld := ⟨Ra.CRM_LAST_UE, 31, 30⟩
def CRM_LAST_UE_LOC : Fld := ⟨Ra.CRM_LAST_UE, 27, 0⟩
/-! CRM_FENCE: R421. -/
def CRM_FENCE_FENCE (n : Nat) : Fld := ⟨Ra.CRM_FENCE n, 31, 0⟩
/-! CRM_INJ_OFF: R422. -/
def CRM_INJ_OFF_LINE : Fld := ⟨Ra.CRM_INJ_OFF, 25, 6⟩
def CRM_INJ_OFF_BYTE : Fld := ⟨Ra.CRM_INJ_OFF, 5, 0⟩
/-! CRM_INJ_CTL: R422. -/
def CRM_INJ_CTL_GO : Fld := ⟨Ra.CRM_INJ_CTL, 31, 31⟩
def CRM_INJ_CTL_ARMED : Fld := ⟨Ra.CRM_INJ_CTL, 30, 30⟩
def CRM_INJ_CTL_SRC : Fld := ⟨Ra.CRM_INJ_CTL, 29, 28⟩
def CRM_INJ_CTL_FLIP : Fld := ⟨Ra.CRM_INJ_CTL, 27, 15⟩
def CRM_INJ_CTL_COUNT : Fld := ⟨Ra.CRM_INJ_CTL, 14, 0⟩
/-! QUE_CTL: R452. -/
def QUE_CTL_SAVE_EN : Fld := ⟨Ra.QUE_CTL, 22, 22⟩
def QUE_CTL_SAVE_RGN : Fld := ⟨Ra.QUE_CTL, 21, 16⟩
def QUE_CTL_DRAIN_TO : Fld := ⟨Ra.QUE_CTL, 12, 8⟩
def QUE_CTL_MARK_CHK : Fld := ⟨Ra.QUE_CTL, 1, 1⟩
def QUE_CTL_LOCK : Fld := ⟨Ra.QUE_CTL, 0, 0⟩
/-! QUE_STAT: R453. -/
def QUE_STAT_DRAINING_N : Fld := ⟨Ra.QUE_STAT, 31, 25⟩
def QUE_STAT_ENABLED_N : Fld := ⟨Ra.QUE_STAT, 16, 0⟩
/-! QUE_POOL_CMD: R454. -/
def QUE_POOL_CMD_GO : Fld := ⟨Ra.QUE_POOL_CMD, 31, 31⟩
def QUE_POOL_CMD_POOL : Fld := ⟨Ra.QUE_POOL_CMD, 19, 16⟩
def QUE_POOL_CMD_OP : Fld := ⟨Ra.QUE_POOL_CMD, 11, 8⟩
def QUE_POOL_CMD_RESULT : Fld := ⟨Ra.QUE_POOL_CMD, 3, 0⟩
/-! QUE_ENQ_CELLS: R455. -/
def QUE_ENQ_CELLS_OVF : Fld := ⟨Ra.QUE_ENQ_CELLS, 31, 31⟩
def QUE_ENQ_CELLS_COUNT : Fld := ⟨Ra.QUE_ENQ_CELLS, 30, 0⟩
/-! QUE_DEQ_CELLS: R455. -/
def QUE_DEQ_CELLS_OVF : Fld := ⟨Ra.QUE_DEQ_CELLS, 31, 31⟩
def QUE_DEQ_CELLS_COUNT : Fld := ⟨Ra.QUE_DEQ_CELLS, 30, 0⟩
/-! QUE_FULL_CNT: R455. -/
def QUE_FULL_CNT_OVF : Fld := ⟨Ra.QUE_FULL_CNT, 31, 31⟩
def QUE_FULL_CNT_COUNT : Fld := ⟨Ra.QUE_FULL_CNT, 30, 0⟩
/-! QUE_PSN_CNT: R455. -/
def QUE_PSN_CNT_OVF : Fld := ⟨Ra.QUE_PSN_CNT, 31, 31⟩
def QUE_PSN_CNT_COUNT : Fld := ⟨Ra.QUE_PSN_CNT, 30, 0⟩
/-! QUE_TAKE: R455. -/
def QUE_TAKE_QUEUES : Fld := ⟨Ra.QUE_TAKE, 16, 0⟩
/-! QUE_TAKE_CELLS: R455. -/
def QUE_TAKE_CELLS_CELLS : Fld := ⟨Ra.QUE_TAKE_CELLS, 27, 0⟩
/-! QUE_POOL_CFG: R456. -/
def QUE_POOL_CFG_VALID (n : Nat) : Fld := ⟨Ra.QUE_POOL_CFG n, 31, 31⟩
def QUE_POOL_CFG_RGN (n : Nat) : Fld := ⟨Ra.QUE_POOL_CFG n, 21, 16⟩
def QUE_POOL_CFG_LOW_TH (n : Nat) : Fld := ⟨Ra.QUE_POOL_CFG n, 7, 0⟩
/-! QUE_POOL_LIM: R456. -/
def QUE_POOL_LIM_LIMIT (n : Nat) : Fld := ⟨Ra.QUE_POOL_LIM n, 23, 0⟩
/-! QUE_POOL_FREE: R456. -/
def QUE_POOL_FREE_FREE (n : Nat) : Fld := ⟨Ra.QUE_POOL_FREE n, 23, 0⟩
/-! QUE_POOL_LEAK: R456. -/
def QUE_POOL_LEAK_LEAKED (n : Nat) : Fld := ⟨Ra.QUE_POOL_LEAK n, 23, 0⟩
/-! TBL_CTL: R479. -/
def TBL_CTL_LOCK : Fld := ⟨Ra.TBL_CTL, 0, 0⟩
/-! TBL_STAT: R479. -/
def TBL_STAT_CMD_BUSY : Fld := ⟨Ra.TBL_STAT, 20, 20⟩
def TBL_STAT_LOCKS : Fld := ⟨Ra.TBL_STAT, 19, 9⟩
def TBL_STAT_VALID_N : Fld := ⟨Ra.TBL_STAT, 8, 0⟩
/-! TBL_CMD: R480. -/
def TBL_CMD_GO : Fld := ⟨Ra.TBL_CMD, 31, 31⟩
def TBL_CMD_TID : Fld := ⟨Ra.TBL_CMD, 19, 12⟩
def TBL_CMD_OP : Fld := ⟨Ra.TBL_CMD, 9, 8⟩
def TBL_CMD_RESULT : Fld := ⟨Ra.TBL_CMD, 3, 0⟩
/-! TBL_STG_CFG: R481. -/
def TBL_STG_CFG_VALID : Fld := ⟨Ra.TBL_STG_CFG, 31, 31⟩
def TBL_STG_CFG_BSIZE : Fld := ⟨Ra.TBL_STG_CFG, 30, 29⟩
def TBL_STG_CFG_LOG2NB : Fld := ⟨Ra.TBL_STG_CFG, 28, 24⟩
def TBL_STG_CFG_RGN : Fld := ⟨Ra.TBL_STG_CFG, 21, 16⟩
def TBL_STG_CFG_INIT : Fld := ⟨Ra.TBL_STG_CFG, 13, 13⟩
def TBL_STG_CFG_RESLEN : Fld := ⟨Ra.TBL_STG_CFG, 12, 8⟩
def TBL_STG_CFG_KEYLEN : Fld := ⟨Ra.TBL_STG_CFG, 5, 0⟩
/-! TBL_STG_BASE: R481. -/
def TBL_STG_BASE_OFFSET : Fld := ⟨Ra.TBL_STG_BASE, 27, 0⟩
/-! TBL_STG_SEED: R481. -/
def TBL_STG_SEED_SEED (n : Nat) : Fld := ⟨Ra.TBL_STG_SEED n, 31, 0⟩
/-! TBL_PROBE_CNT: R482. -/
def TBL_PROBE_CNT_OVF : Fld := ⟨Ra.TBL_PROBE_CNT, 31, 31⟩
def TBL_PROBE_CNT_COUNT : Fld := ⟨Ra.TBL_PROBE_CNT, 30, 0⟩
/-! TBL_HIT_CNT: R482. -/
def TBL_HIT_CNT_OVF : Fld := ⟨Ra.TBL_HIT_CNT, 31, 31⟩
def TBL_HIT_CNT_COUNT : Fld := ⟨Ra.TBL_HIT_CNT, 30, 0⟩
/-! TBL_FULL_CNT: R482. -/
def TBL_FULL_CNT_OVF : Fld := ⟨Ra.TBL_FULL_CNT, 31, 31⟩
def TBL_FULL_CNT_COUNT : Fld := ⟨Ra.TBL_FULL_CNT, 30, 0⟩
/-! TBL_MOVE_CNT: R482. -/
def TBL_MOVE_CNT_OVF : Fld := ⟨Ra.TBL_MOVE_CNT, 31, 31⟩
def TBL_MOVE_CNT_COUNT : Fld := ⟨Ra.TBL_MOVE_CNT, 30, 0⟩
/-! TBL_PSN_CNT: R482. -/
def TBL_PSN_CNT_OVF : Fld := ⟨Ra.TBL_PSN_CNT, 31, 31⟩
def TBL_PSN_CNT_COUNT : Fld := ⟨Ra.TBL_PSN_CNT, 30, 0⟩
/-! TBL_D_CFG: R481. -/
def TBL_D_CFG_VALID (n : Nat) : Fld := ⟨Ra.TBL_D_CFG n, 31, 31⟩
def TBL_D_CFG_BSIZE (n : Nat) : Fld := ⟨Ra.TBL_D_CFG n, 30, 29⟩
def TBL_D_CFG_LOG2NB (n : Nat) : Fld := ⟨Ra.TBL_D_CFG n, 28, 24⟩
def TBL_D_CFG_RGN (n : Nat) : Fld := ⟨Ra.TBL_D_CFG n, 21, 16⟩
def TBL_D_CFG_INIT (n : Nat) : Fld := ⟨Ra.TBL_D_CFG n, 13, 13⟩
def TBL_D_CFG_RESLEN (n : Nat) : Fld := ⟨Ra.TBL_D_CFG n, 12, 8⟩
def TBL_D_CFG_KEYLEN (n : Nat) : Fld := ⟨Ra.TBL_D_CFG n, 5, 0⟩
/-! TBL_D_BASE: R481. -/
def TBL_D_BASE_OFFSET (n : Nat) : Fld := ⟨Ra.TBL_D_BASE n, 27, 0⟩
/-! TBL_D_SEED: R481. -/
def TBL_D_SEED_SEED (n k : Nat) : Fld := ⟨Ra.TBL_D_SEED n k, 31, 0⟩
/-! TBL_D_STAT: R481. -/
def TBL_D_STAT_READY (n : Nat) : Fld := ⟨Ra.TBL_D_STAT n, 31, 31⟩
def TBL_D_STAT_MOVING (n : Nat) : Fld := ⟨Ra.TBL_D_STAT n, 30, 30⟩
def TBL_D_STAT_PINNED (n : Nat) : Fld := ⟨Ra.TBL_D_STAT n, 29, 29⟩
def TBL_D_STAT_INEXACT (n : Nat) : Fld := ⟨Ra.TBL_D_STAT n, 28, 28⟩
def TBL_D_STAT_ENTRIES (n : Nat) : Fld := ⟨Ra.TBL_D_STAT n, 27, 0⟩
/-! TBL_D_LOAD: R481. -/
def TBL_D_LOAD_LOAD_TH (n : Nat) : Fld := ⟨Ra.TBL_D_LOAD n, 7, 0⟩
/-! CNT_CTL: R510. -/
def CNT_CTL_SAVE_EN : Fld := ⟨Ra.CNT_CTL, 22, 22⟩
def CNT_CTL_SAVE_RGN : Fld := ⟨Ra.CNT_CTL, 21, 16⟩
def CNT_CTL_CKPT_INT : Fld := ⟨Ra.CNT_CTL, 14, 8⟩
def CNT_CTL_LOCK : Fld := ⟨Ra.CNT_CTL, 0, 0⟩
/-! CNT_STAT: R511. -/
def CNT_STAT_REBUILD : Fld := ⟨Ra.CNT_STAT, 31, 31⟩
def CNT_STAT_SWEEP : Fld := ⟨Ra.CNT_STAT, 30, 30⟩
def CNT_STAT_REBUILD_SET : Fld := ⟨Ra.CNT_STAT, 5, 0⟩
/-! CNT_EPOCH: R511. -/
def CNT_EPOCH_EPOCH : Fld := ⟨Ra.CNT_EPOCH, 31, 0⟩
/-! CNT_UPD_CNT: R512. -/
def CNT_UPD_CNT_OVF : Fld := ⟨Ra.CNT_UPD_CNT, 31, 31⟩
def CNT_UPD_CNT_COUNT : Fld := ⟨Ra.CNT_UPD_CNT, 30, 0⟩
/-! CNT_FLUSH_CNT: R512. -/
def CNT_FLUSH_CNT_OVF : Fld := ⟨Ra.CNT_FLUSH_CNT, 31, 31⟩
def CNT_FLUSH_CNT_COUNT : Fld := ⟨Ra.CNT_FLUSH_CNT, 30, 0⟩
/-! CNT_EVICT_CNT: R512. -/
def CNT_EVICT_CNT_OVF : Fld := ⟨Ra.CNT_EVICT_CNT, 31, 31⟩
def CNT_EVICT_CNT_COUNT : Fld := ⟨Ra.CNT_EVICT_CNT, 30, 0⟩
/-! CNT_LOST_CNT: R512. -/
def CNT_LOST_CNT_OVF : Fld := ⟨Ra.CNT_LOST_CNT, 31, 31⟩
def CNT_LOST_CNT_COUNT : Fld := ⟨Ra.CNT_LOST_CNT, 30, 0⟩
/-! CNT_ANC_MISS: R512. -/
def CNT_ANC_MISS_OVF : Fld := ⟨Ra.CNT_ANC_MISS, 31, 31⟩
def CNT_ANC_MISS_COUNT : Fld := ⟨Ra.CNT_ANC_MISS, 30, 0⟩
/-! CNT_S_CFG: R513. -/
def CNT_S_CFG_VALID (n : Nat) : Fld := ⟨Ra.CNT_S_CFG n, 31, 31⟩
def CNT_S_CFG_CKPT (n : Nat) : Fld := ⟨Ra.CNT_S_CFG n, 30, 30⟩
def CNT_S_CFG_RGN (n : Nat) : Fld := ⟨Ra.CNT_S_CFG n, 29, 24⟩
def CNT_S_CFG_ANC_RGN (n : Nat) : Fld := ⟨Ra.CNT_S_CFG n, 21, 16⟩
def CNT_S_CFG_HOT (n : Nat) : Fld := ⟨Ra.CNT_S_CFG n, 13, 13⟩
def CNT_S_CFG_LOG2NSLOT (n : Nat) : Fld := ⟨Ra.CNT_S_CFG n, 12, 8⟩
/-! CNT_S_BASE: R513. -/
def CNT_S_BASE_OFFSET (n : Nat) : Fld := ⟨Ra.CNT_S_BASE n, 23, 0⟩
/-! CNT_S_ANCOFF: R513. -/
def CNT_S_ANCOFF_ANCOFF (n : Nat) : Fld := ⟨Ra.CNT_S_ANCOFF n, 23, 0⟩
/-! CNT_S_NCTR: R513. -/
def CNT_S_NCTR_NCTR (n : Nat) : Fld := ⟨Ra.CNT_S_NCTR n, 29, 0⟩
/-! CNT_S_SLOT: R513. -/
def CNT_S_SLOT_SLOT_BASE (n : Nat) : Fld := ⟨Ra.CNT_S_SLOT n, 21, 0⟩
/-! CNT_S_LOSTN: R513. -/
def CNT_S_LOSTN_OVF (n : Nat) : Fld := ⟨Ra.CNT_S_LOSTN n, 31, 31⟩
def CNT_S_LOSTN_COUNT (n : Nat) : Fld := ⟨Ra.CNT_S_LOSTN n, 30, 0⟩
/-! BST_CTL: R717. -/
def BST_CTL_GO : Fld := ⟨Ra.BST_CTL, 31, 31⟩
def BST_CTL_OP : Fld := ⟨Ra.BST_CTL, 27, 24⟩
def BST_CTL_RESULT : Fld := ⟨Ra.BST_CTL, 23, 20⟩
def BST_CTL_ALG : Fld := ⟨Ra.BST_CTL, 11, 8⟩
/-! BST_TGT: R718. -/
def BST_TGT_PC : Fld := ⟨Ra.BST_TGT, 31, 25⟩
def BST_TGT_BANK : Fld := ⟨Ra.BST_TGT, 24, 19⟩
def BST_TGT_ROW : Fld := ⟨Ra.BST_TGT, 18, 6⟩
/-! BST_TGT_CRM: R718. -/
def BST_TGT_CRM_CBANK : Fld := ⟨Ra.BST_TGT_CRM, 7, 0⟩
/-! BST_CFG: R718. -/
def BST_CFG_SPARE_PERIOD : Fld := ⟨Ra.BST_CFG, 31, 24⟩
def BST_CFG_RET_PAUSE : Fld := ⟨Ra.BST_CFG, 15, 12⟩
def BST_CFG_LOCK : Fld := ⟨Ra.BST_CFG, 0, 0⟩
/-! BST_REP_CMD: R390. -/
def BST_REP_CMD_GO : Fld := ⟨Ra.BST_REP_CMD, 31, 31⟩
def BST_REP_CMD_OP : Fld := ⟨Ra.BST_REP_CMD, 27, 24⟩
def BST_REP_CMD_RESULT : Fld := ⟨Ra.BST_REP_CMD, 23, 20⟩
/-! BST_REP_ARG0: R390. -/
def BST_REP_ARG0_ARG : Fld := ⟨Ra.BST_REP_ARG0, 31, 0⟩
/-! BST_REP_ARG1: R390. -/
def BST_REP_ARG1_ARG : Fld := ⟨Ra.BST_REP_ARG1, 31, 0⟩
/-! BST_REP_STAT: R391. -/
def BST_REP_STAT_ROWS_USED : Fld := ⟨Ra.BST_REP_STAT, 31, 14⟩
def BST_REP_STAT_EXH_BANKS : Fld := ⟨Ra.BST_REP_STAT, 13, 0⟩
/-! BST_REP_SOFT: R391. -/
def BST_REP_SOFT_RAM_N : Fld := ⟨Ra.BST_REP_SOFT, 31, 16⟩
def BST_REP_SOFT_FULL : Fld := ⟨Ra.BST_REP_SOFT, 14, 14⟩
def BST_REP_SOFT_SOFT_N : Fld := ⟨Ra.BST_REP_SOFT, 13, 0⟩
/-! BST_STAT: R719. -/
def BST_STAT_BUSY : Fld := ⟨Ra.BST_STAT, 31, 31⟩
def BST_STAT_ISOLATED : Fld := ⟨Ra.BST_STAT, 30, 30⟩
def BST_STAT_REC_N : Fld := ⟨Ra.BST_STAT, 28, 16⟩
def BST_STAT_REC_OVF : Fld := ⟨Ra.BST_STAT, 15, 15⟩
def BST_STAT_REC_LOST : Fld := ⟨Ra.BST_STAT, 14, 0⟩
/-! BST_QUICK: R719. -/
def BST_QUICK_ROW_REP : Fld := ⟨Ra.BST_QUICK, 31, 20⟩
def BST_QUICK_COL_REP : Fld := ⟨Ra.BST_QUICK, 19, 12⟩
def BST_QUICK_POISONED : Fld := ⟨Ra.BST_QUICK, 11, 0⟩
/-! BST_REC_IDX: R719. -/
def BST_REC_IDX_IDX : Fld := ⟨Ra.BST_REC_IDX, 11, 0⟩
/-! BST_REC_LO: R719. -/
def BST_REC_LO_REC : Fld := ⟨Ra.BST_REC_LO, 31, 0⟩
/-! BST_REC_HI: R719. -/
def BST_REC_HI_REC : Fld := ⟨Ra.BST_REC_HI, 31, 0⟩
/-! ECC_CTL: R386. -/
def ECC_CTL_CE_ROW_TH : Fld := ⟨Ra.ECC_CTL, 31, 24⟩
def ECC_CTL_SCRUB_PERIOD : Fld := ⟨Ra.ECC_CTL, 23, 16⟩
def ECC_CTL_PIN_TH : Fld := ⟨Ra.ECC_CTL, 15, 8⟩
def ECC_CTL_PROMPT_EN : Fld := ⟨Ra.ECC_CTL, 4, 4⟩
def ECC_CTL_SCRUB_EN : Fld := ⟨Ra.ECC_CTL, 3, 3⟩
def ECC_CTL_INJ_EN : Fld := ⟨Ra.ECC_CTL, 1, 1⟩
def ECC_CTL_LOCK : Fld := ⟨Ra.ECC_CTL, 0, 0⟩
/-! ECC_SCRUB_STAT: R387. -/
def ECC_SCRUB_STAT_PASSES : Fld := ⟨Ra.ECC_SCRUB_STAT, 31, 16⟩
def ECC_SCRUB_STAT_PASS_OVF : Fld := ⟨Ra.ECC_SCRUB_STAT, 15, 15⟩
def ECC_SCRUB_STAT_LATE : Fld := ⟨Ra.ECC_SCRUB_STAT, 12, 12⟩
def ECC_SCRUB_STAT_PROGRESS : Fld := ⟨Ra.ECC_SCRUB_STAT, 7, 0⟩
/-! ECC_CE_CNT: R388. -/
def ECC_CE_CNT_OVF : Fld := ⟨Ra.ECC_CE_CNT, 31, 31⟩
def ECC_CE_CNT_COUNT : Fld := ⟨Ra.ECC_CE_CNT, 30, 0⟩
/-! ECC_UE_CNT: R388. -/
def ECC_UE_CNT_OVF : Fld := ⟨Ra.ECC_UE_CNT, 31, 31⟩
def ECC_UE_CNT_COUNT : Fld := ⟨Ra.ECC_UE_CNT, 30, 0⟩
/-! ECC_PSN_CNT: R388. -/
def ECC_PSN_CNT_OVF : Fld := ⟨Ra.ECC_PSN_CNT, 31, 31⟩
def ECC_PSN_CNT_COUNT : Fld := ⟨Ra.ECC_PSN_CNT, 30, 0⟩
/-! ECC_PROMPT_DROP: R388. -/
def ECC_PROMPT_DROP_OVF : Fld := ⟨Ra.ECC_PROMPT_DROP, 31, 31⟩
def ECC_PROMPT_DROP_COUNT : Fld := ⟨Ra.ECC_PROMPT_DROP, 30, 0⟩
/-! ECC_LAST_UE_LO: R388. -/
def ECC_LAST_UE_LO_ADDR : Fld := ⟨Ra.ECC_LAST_UE_LO, 31, 6⟩
def ECC_LAST_UE_LO_KIND : Fld := ⟨Ra.ECC_LAST_UE_LO, 5, 4⟩
def ECC_LAST_UE_LO_ACCESS : Fld := ⟨Ra.ECC_LAST_UE_LO, 1, 0⟩
/-! ECC_LAST_UE_HI: R388. -/
def ECC_LAST_UE_HI_ADDR : Fld := ⟨Ra.ECC_LAST_UE_HI, 7, 0⟩
/-! ECC_INJ_ALO: R389. -/
def ECC_INJ_ALO_ADDR : Fld := ⟨Ra.ECC_INJ_ALO, 31, 6⟩
/-! ECC_INJ_AHI: R389. -/
def ECC_INJ_AHI_ADDR : Fld := ⟨Ra.ECC_INJ_AHI, 7, 0⟩
/-! ECC_INJ_PAT: R389. -/
def ECC_INJ_PAT_VALUE_B : Fld := ⟨Ra.ECC_INJ_PAT, 31, 16⟩
def ECC_INJ_PAT_VALUE_A : Fld := ⟨Ra.ECC_INJ_PAT, 15, 0⟩
/-! ECC_INJ_CTL: R389. -/
def ECC_INJ_CTL_GO : Fld := ⟨Ra.ECC_INJ_CTL, 31, 31⟩
def ECC_INJ_CTL_ARMED : Fld := ⟨Ra.ECC_INJ_CTL, 30, 30⟩
def ECC_INJ_CTL_SRC : Fld := ⟨Ra.ECC_INJ_CTL, 29, 27⟩
def ECC_INJ_CTL_POS_B : Fld := ⟨Ra.ECC_INJ_CTL, 26, 21⟩
def ECC_INJ_CTL_POS_A : Fld := ⟨Ra.ECC_INJ_CTL, 20, 15⟩
def ECC_INJ_CTL_COUNT : Fld := ⟨Ra.ECC_INJ_CTL, 14, 0⟩

end Fd

end Sys2Proof.Machine
end

