-- ==== Sys2Proof/Machine/RegTable.lean ====
section
/-! DEFINITION. The management register table: every register of R739, with the bits, type
(R11), reset value and legal encodings (R10) of each of its fields, as the register tables of
spec/ give them. A reset of "part", "OTP", "Samovar" or "owner's default" stands here as 0;
State.reset and the boot read load those. -/

namespace Sys2Proof.Machine

/-- The field types of R11. -/
inductive RegType
  | ro | rw | rwl | w1c | w1s | rc | wo
  deriving DecidableEq, Repr

/-- One field of a register: bits [hi:lo], type, reset value, and the ranges of the encodings
that are not reserved (R10; none: every encoding is defined). -/
structure FieldRow where
  hi : Nat
  lo : Nat
  ty : RegType
  reset : Nat := 0
  legal : Option (List (Nat × Nat)) := none
  deriving DecidableEq, Repr

/-- One register, or one array of registers of up to two indices: address
`base + i * stride1 + j * stride2` for `i < count1`, `j < count2`. -/
structure RegRow where
  base : Nat
  count1 : Nat := 1
  stride1 : Nat := 4
  count2 : Nat := 1
  stride2 : Nat := 4
  fields : List FieldRow
  deriving DecidableEq, Repr

namespace RegTable

/-- The GLB block's registers. -/
def rowsGlb : List RegRow := [
  -- GLB_ID (R4)
  ⟨0x0, 1, 4, 1, 4, [⟨31, 28, .ro, 0, none⟩,
    ⟨27, 24, .ro, 0, none⟩,
    ⟨20, 20, .ro, 0, none⟩,
    ⟨19, 16, .ro, 0, none⟩,
    ⟨15, 8, .ro, 0, none⟩,
    ⟨7, 0, .ro, 0x6a, none⟩]⟩,
  -- GLB_MODE (R50)
  ⟨0x4, 1, 4, 1, 4, [⟨31, 31, .ro, 0, none⟩,
    ⟨24, 24, .ro, 0, none⟩,
    ⟨23, 20, .ro, 0, none⟩,
    ⟨17, 16, .ro, 3, none⟩,
    ⟨9, 8, .ro, 3, none⟩,
    ⟨3, 0, .ro, 0, none⟩]⟩,
  -- GLB_MODE_REQ (R51)
  ⟨0x8, 1, 4, 1, 4, [⟨31, 31, .wo, 0, none⟩,
    ⟨9, 8, .rw, 0, none⟩,
    ⟨3, 0, .rw, 3, none⟩]⟩,
  -- GLB_MODE_STAT (R52)
  ⟨0xc, 1, 4, 1, 4, [⟨16, 16, .w1c, 0, none⟩,
    ⟨15, 8, .rc, 0, none⟩,
    ⟨6, 4, .ro, 0, none⟩,
    ⟨2, 0, .ro, 0, none⟩]⟩,
  -- GLB_LEVEL_LIM (R53)
  ⟨0x10, 1, 4, 1, 4, [⟨3, 2, .rwl, 0, none⟩,
    ⟨1, 0, .rwl, 3, none⟩]⟩,
  -- GLB_CTL (R54)
  ⟨0x14, 1, 4, 1, 4, [⟨0, 0, .w1s, 0, none⟩]⟩]

/-- The CLK block's registers. -/
def rowsClk : List RegRow := [
  -- CLK_STAT (R106)
  ⟨0x10000, 1, 4, 1, 4, [⟨31, 24, .rc, 0, none⟩,
    ⟨23, 23, .w1c, 0, none⟩,
    ⟨7, 6, .ro, 3, none⟩,
    ⟨5, 5, .ro, 0, none⟩,
    ⟨4, 4, .ro, 0, none⟩,
    ⟨3, 3, .ro, 0, none⟩,
    ⟨2, 2, .ro, 0, none⟩,
    ⟨1, 1, .ro, 0, none⟩,
    ⟨0, 0, .ro, 0, none⟩]⟩,
  -- CLK_SRC (R107)
  ⟨0x10004, 1, 4, 1, 4, [⟨17, 17, .w1c, 0, none⟩,
    ⟨16, 16, .w1c, 0, none⟩,
    ⟨10, 10, .ro, 1, none⟩,
    ⟨9, 9, .ro, 1, none⟩,
    ⟨8, 8, .ro, 1, none⟩,
    ⟨1, 1, .rw, 1, none⟩,
    ⟨0, 0, .rw, 1, none⟩]⟩,
  -- CLK_OSC (R108)
  ⟨0x10008, 1, 4, 1, 4, [⟨24, 16, .ro, 0, none⟩,
    ⟨15, 0, .ro, 0, none⟩]⟩,
  -- CLK_OSC_TC (R109)
  ⟨0x10010, 4, 0x4, 1, 4, [⟨31, 24, .rwl, 0, none⟩,
    ⟨23, 16, .rwl, 0, none⟩,
    ⟨15, 8, .rwl, 0, none⟩,
    ⟨7, 0, .rwl, 0, none⟩]⟩,
  -- CLK_TIME_LO (R110)
  ⟨0x10020, 1, 4, 1, 4, [⟨31, 0, .ro, 0, none⟩]⟩,
  -- CLK_TIME_HI (R110)
  ⟨0x10024, 1, 4, 1, 4, [⟨31, 0, .ro, 0, none⟩]⟩,
  -- CLK_TIME_UNC (R110)
  ⟨0x10028, 1, 4, 1, 4, [⟨31, 0, .ro, 0, none⟩]⟩,
  -- CLK_TIME_LAST_UNC (R110)
  ⟨0x1002c, 1, 4, 1, 4, [⟨31, 0, .ro, 0, none⟩]⟩,
  -- CLK_GATE_PORT (R111)
  ⟨0x10030, 1, 4, 1, 4, [⟨28, 16, .w1c, 0, none⟩,
    ⟨12, 0, .rw, 0, none⟩]⟩,
  -- CLK_GATE_CG (R111)
  ⟨0x10034, 1, 4, 1, 4, [⟨31, 0, .rw, 0, none⟩]⟩,
  -- CLK_GATE_CG_REF (R111)
  ⟨0x10038, 1, 4, 1, 4, [⟨31, 0, .w1c, 0, none⟩]⟩,
  -- CLK_CTL (R112)
  ⟨0x1003c, 1, 4, 1, 4, [⟨0, 0, .w1s, 0, none⟩]⟩]

/-- The PWR block's registers. -/
def rowsPwr : List RegRow := [
  -- PWR_CTL (R653)
  ⟨0x20000, 1, 4, 1, 4, [⟨5, 4, .rw, 0, none⟩,
    ⟨0, 0, .w1s, 0, none⟩]⟩,
  -- PWR_WAKE_EN (R654)
  ⟨0x20004, 1, 4, 1, 4, [⟨5, 0, .rw, 0x21, none⟩]⟩,
  -- PWR_WAKE_LAST (R655)
  ⟨0x20008, 1, 4, 1, 4, [⟨31, 31, .w1c, 0, none⟩,
    ⟨30, 30, .ro, 0, none⟩,
    ⟨29, 29, .ro, 0, none⟩,
    ⟨23, 20, .ro, 0, none⟩,
    ⟨13, 8, .ro, 0, none⟩,
    ⟨2, 0, .ro, 0, none⟩]⟩,
  -- PWR_WAKE_TIME_LO (R655)
  ⟨0x2000c, 1, 4, 1, 4, [⟨31, 0, .ro, 0, none⟩]⟩,
  -- PWR_WAKE_TIME_HI (R655)
  ⟨0x20010, 1, 4, 1, 4, [⟨31, 0, .ro, 0, none⟩]⟩,
  -- PWR_TIMER (R656)
  ⟨0x20014, 1, 4, 1, 4, [⟨31, 0, .rw, 0, none⟩]⟩,
  -- PWR_WAKE_CMD (R656)
  ⟨0x20018, 1, 4, 1, 4, [⟨31, 31, .wo, 0, none⟩]⟩,
  -- PWR_STAT (R657)
  ⟨0x2001c, 1, 4, 1, 4, [⟨31, 31, .ro, 0, none⟩,
    ⟨30, 30, .ro, 0, none⟩,
    ⟨29, 29, .ro, 0, none⟩,
    ⟨28, 28, .w1c, 0, none⟩,
    ⟨15, 0, .ro, 0, none⟩]⟩,
  -- PWR_CNT (R658)
  ⟨0x20020, 1, 4, 1, 4, [⟨31, 24, .rc, 0, none⟩,
    ⟨23, 23, .w1c, 0, none⟩,
    ⟨22, 16, .rc, 0, none⟩,
    ⟨15, 15, .w1c, 0, none⟩,
    ⟨14, 8, .rc, 0, none⟩,
    ⟨7, 7, .w1c, 0, none⟩]⟩,
  -- PWR_RAIL_STAT (R71)
  ⟨0x200f0, 1, 4, 1, 4, [⟨22, 16, .w1c, 0, none⟩,
    ⟨14, 8, .w1c, 0, none⟩,
    ⟨6, 0, .ro, 0, none⟩]⟩]

/-- The THM block's registers. -/
def rowsThm : List RegRow := [
  -- THM_CTL (R623)
  ⟨0x30000, 1, 4, 1, 4, [⟨8, 8, .w1c, 0, none⟩,
    ⟨1, 1, .rwl, 1, none⟩,
    ⟨0, 0, .w1s, 0, none⟩]⟩,
  -- THM_STAT (R624)
  ⟨0x30004, 1, 4, 1, 4, [⟨31, 20, .ro, 0, none⟩,
    ⟨19, 8, .ro, 0, none⟩,
    ⟨7, 0, .ro, 0, none⟩]⟩,
  -- THM_THR (R625)
  ⟨0x30008, 1, 4, 1, 4, [⟨31, 24, .rwl, 0x58, none⟩,
    ⟨19, 16, .rwl, 2, some [(1, 4)]⟩,
    ⟨15, 12, .rwl, 1, some [(0, 3)]⟩,
    ⟨7, 0, .rwl, 8, some [(2, 20)]⟩]⟩,
  -- THM_CNT (R626)
  ⟨0x3000c, 1, 4, 1, 4, [⟨31, 24, .rc, 0, none⟩,
    ⟨23, 23, .w1c, 0, none⟩,
    ⟨22, 16, .rc, 0, none⟩,
    ⟨15, 15, .w1c, 0, none⟩,
    ⟨14, 8, .rc, 0, none⟩,
    ⟨7, 7, .w1c, 0, none⟩]⟩,
  -- THM_ZONE (R627)
  ⟨0x30010, 4, 0x4, 1, 4, [⟨31, 20, .ro, 0, none⟩,
    ⟨10, 8, .ro, 0, none⟩,
    ⟨7, 7, .ro, 0, none⟩,
    ⟨4, 0, .ro, 0, none⟩]⟩,
  -- THM_DROP (R628)
  ⟨0x30020, 1, 4, 1, 4, [⟨15, 0, .ro, 0, none⟩]⟩,
  -- THM_RGN (R628)
  ⟨0x30040, 16, 0x4, 1, 4, [⟨31, 20, .ro, 0, none⟩,
    ⟨11, 0, .ro, 0, none⟩]⟩,
  -- THM_SNS (R629)
  ⟨0x30100, 128, 0x4, 1, 4, [⟨31, 30, .ro, 0, none⟩,
    ⟨29, 28, .ro, 0, none⟩,
    ⟨23, 12, .ro, 0, none⟩,
    ⟨11, 0, .ro, 0, none⟩]⟩,
  -- THM_FAIL (R629)
  ⟨0x30300, 4, 0x4, 1, 4, [⟨31, 0, .ro, 0, none⟩]⟩,
  -- THM_REARM (R629)
  ⟨0x30310, 1, 4, 1, 4, [⟨31, 31, .wo, 0, none⟩,
    ⟨6, 0, .rw, 0, none⟩]⟩]

/-- The OTP block's registers. -/
def rowsOtp : List RegRow := [
  -- OTP_LC (R172)
  ⟨0x40000, 1, 4, 1, 4, [⟨15, 15, .ro, 0, none⟩,
    ⟨11, 11, .ro, 0, none⟩,
    ⟨10, 10, .ro, 0, none⟩,
    ⟨9, 9, .ro, 0, none⟩,
    ⟨8, 8, .ro, 0, none⟩,
    ⟨2, 0, .ro, 0, none⟩]⟩,
  -- OTP_STAT (R173)
  ⟨0x40004, 1, 4, 1, 4, [⟨31, 24, .rc, 0, none⟩,
    ⟨23, 23, .w1c, 0, none⟩,
    ⟨15, 8, .ro, 0, none⟩,
    ⟨4, 4, .ro, 0, none⟩,
    ⟨3, 3, .ro, 0, none⟩,
    ⟨2, 2, .ro, 0, none⟩,
    ⟨1, 1, .ro, 0, none⟩,
    ⟨0, 0, .ro, 0, none⟩]⟩,
  -- OTP_PROG_ADDR (R174)
  ⟨0x40010, 1, 4, 1, 4, [⟨8, 0, .rw, 0, none⟩]⟩,
  -- OTP_PROG_DLO (R174)
  ⟨0x40014, 1, 4, 1, 4, [⟨31, 0, .rw, 0, none⟩]⟩,
  -- OTP_PROG_DHI (R174)
  ⟨0x40018, 1, 4, 1, 4, [⟨31, 0, .rw, 0, none⟩]⟩,
  -- OTP_PROG_CTL (R174)
  ⟨0x4001c, 1, 4, 1, 4, [⟨31, 31, .wo, 0, none⟩,
    ⟨3, 0, .ro, 0, none⟩]⟩,
  -- OTP_RD_ADDR (R175)
  ⟨0x40020, 1, 4, 1, 4, [⟨31, 31, .ro, 0, none⟩,
    ⟨30, 30, .ro, 0, none⟩,
    ⟨29, 29, .ro, 0, none⟩,
    ⟨8, 0, .rw, 0, none⟩]⟩,
  -- OTP_RD_DLO (R175)
  ⟨0x40024, 1, 4, 1, 4, [⟨31, 0, .ro, 0, none⟩]⟩,
  -- OTP_RD_DHI (R175)
  ⟨0x40028, 1, 4, 1, 4, [⟨31, 0, .ro, 0, none⟩]⟩,
  -- OTP_LOCKS (R175)
  ⟨0x40030, 1, 4, 1, 4, [⟨8, 0, .ro, 0, none⟩]⟩,
  -- OTP_TRIPS (R175)
  ⟨0x40034, 1, 4, 1, 4, [⟨15, 8, .ro, 0, none⟩,
    ⟨7, 0, .ro, 0, none⟩]⟩,
  -- OTP_MARG (R175)
  ⟨0x40100, 16, 0x4, 1, 4, [⟨31, 0, .ro, 0, none⟩]⟩,
  -- OTP_FAIL (R175)
  ⟨0x40140, 16, 0x4, 1, 4, [⟨31, 0, .ro, 0, none⟩]⟩]

/-- The NVM block's registers. -/
def rowsNvm : List RegRow := [
  -- NVM_BOOT_STAT (R146)
  ⟨0x50000, 1, 4, 1, 4, [⟨23, 16, .ro, 0, none⟩,
    ⟨11, 11, .ro, 0, none⟩,
    ⟨9, 8, .ro, 2, none⟩,
    ⟨7, 6, .ro, 2, none⟩,
    ⟨5, 4, .ro, 2, none⟩]⟩,
  -- NVM_IMG_VER (R148)
  ⟨0x50004, 1, 4, 1, 4, [⟨31, 0, .ro, 0, none⟩]⟩,
  -- NVM_FW_SVN (R148)
  ⟨0x50008, 1, 4, 1, 4, [⟨31, 0, .ro, 0, none⟩]⟩,
  -- NVM_WEAR (R147)
  ⟨0x5000c, 1, 4, 1, 4, [⟨30, 16, .ro, 0, none⟩,
    ⟨15, 12, .ro, 0, none⟩,
    ⟨5, 0, .ro, 0, none⟩]⟩,
  -- NVM_PATCH_LD0 (R148)
  ⟨0x50010, 1, 4, 1, 4, [⟨31, 0, .ro, 0, none⟩]⟩,
  -- NVM_PATCH_LD1 (R148)
  ⟨0x50014, 1, 4, 1, 4, [⟨31, 0, .ro, 0, none⟩]⟩,
  -- NVM_PATCH_BAD0 (R148)
  ⟨0x50018, 1, 4, 1, 4, [⟨31, 0, .ro, 0, none⟩]⟩,
  -- NVM_PATCH_BAD1 (R148)
  ⟨0x5001c, 1, 4, 1, 4, [⟨31, 0, .ro, 0, none⟩]⟩,
  -- NVM_UPD_LEN (R143)
  ⟨0x50040, 1, 4, 1, 4, [⟨31, 0, .rw, 0, none⟩]⟩,
  -- NVM_UPD_CTL (R143)
  ⟨0x50044, 1, 4, 1, 4, [⟨31, 31, .wo, 0, none⟩,
    ⟨25, 24, .rw, 0, some [(1, 3)]⟩,
    ⟨17, 16, .rw, 0, some [(1, 2)]⟩,
    ⟨3, 0, .ro, 0, none⟩]⟩,
  -- NVM_UPD_DIG (R143)
  ⟨0x50060, 8, 0x4, 1, 4, [⟨31, 0, .rw, 0, none⟩]⟩,
  -- NVM_UPD_STAT (R143)
  ⟨0x50100, 1, 4, 1, 4, [⟨31, 31, .ro, 0, none⟩,
    ⟨30, 30, .ro, 0, none⟩,
    ⟨29, 28, .ro, 0, none⟩,
    ⟨27, 24, .ro, 0, none⟩,
    ⟨12, 0, .ro, 0, none⟩]⟩,
  -- NVM_UPD_OFF (R143)
  ⟨0x50104, 1, 4, 1, 4, [⟨31, 0, .ro, 0, none⟩]⟩,
  -- NVM_UPD_DATA (R143)
  ⟨0x50110, 4, 0x4, 1, 4, [⟨31, 0, .wo, 0, none⟩]⟩]

/-- The FLT block's registers. -/
def rowsFlt : List RegRow := [
  -- FLT_CTL (R701)
  ⟨0x60000, 1, 4, 1, 4, [⟨27, 16, .rwl, 1, none⟩,
    ⟨13, 12, .rwl, 0, none⟩,
    ⟨11, 10, .rwl, 0, none⟩,
    ⟨0, 0, .w1s, 0, none⟩]⟩,
  -- FLT_STAT (R701)
  ⟨0x60004, 1, 4, 1, 4, [⟨31, 31, .ro, 0, none⟩,
    ⟨30, 30, .ro, 0, none⟩,
    ⟨29, 23, .ro, 0, none⟩,
    ⟨22, 16, .ro, 0, none⟩]⟩,
  -- FLT_SEQ (R702)
  ⟨0x60008, 1, 4, 1, 4, [⟨31, 0, .ro, 0, none⟩]⟩,
  -- FLT_ACK_SEQ (R702)
  ⟨0x60010, 1, 4, 1, 4, [⟨31, 0, .rw, 0, none⟩]⟩,
  -- FLT_ACK (R702)
  ⟨0x60014, 1, 4, 1, 4, [⟨31, 31, .wo, 0, none⟩,
    ⟨27, 24, .ro, 0, none⟩,
    ⟨7, 0, .rw, 0, none⟩]⟩,
  -- FLT_CNT (R703)
  ⟨0x60020, 1, 4, 1, 4, [⟨31, 16, .rc, 0, none⟩,
    ⟨15, 15, .w1c, 0, none⟩,
    ⟨14, 8, .rc, 0, none⟩,
    ⟨7, 7, .w1c, 0, none⟩]⟩,
  -- FLT_ACT_LO (R703)
  ⟨0x60028, 1, 4, 1, 4, [⟨31, 0, .ro, 0, none⟩]⟩,
  -- FLT_ACT_HI (R703)
  ⟨0x6002c, 1, 4, 1, 4, [⟨31, 0, .ro, 0, none⟩]⟩,
  -- FLT_CAUSE (R704)
  ⟨0x60040, 8, 0x4, 1, 4, [⟨31, 0, .ro, 0, none⟩]⟩,
  -- FLT_TEST_ADDR (R702)
  ⟨0x60060, 1, 4, 1, 4, [⟨31, 0, .rw, 0, none⟩]⟩,
  -- FLT_TEST (R702)
  ⟨0x60064, 1, 4, 1, 4, [⟨31, 31, .wo, 0, none⟩,
    ⟨23, 16, .rw, 0, none⟩,
    ⟨15, 14, .rw, 0, none⟩,
    ⟨13, 8, .rw, 1, some [(1, 63)]⟩,
    ⟨7, 0, .rw, 0, none⟩]⟩,
  -- FLT_LOG_IDX (R704)
  ⟨0x60080, 1, 4, 1, 4, [⟨9, 0, .rw, 0, none⟩]⟩,
  -- FLT_LOG_W (R704)
  ⟨0x600a0, 8, 0x4, 1, 4, [⟨31, 0, .ro, 0, none⟩]⟩,
  -- FLT_SB_POP (R704)
  ⟨0x600c0, 1, 4, 1, 4, [⟨31, 31, .wo, 0, none⟩]⟩,
  -- FLT_SB_W (R704)
  ⟨0x600e0, 8, 0x4, 1, 4, [⟨31, 0, .ro, 0, none⟩]⟩,
  -- FLT_SRC (R705)
  ⟨0x61000, 256, 0x4, 1, 4, [⟨31, 31, .ro, 0, none⟩,
    ⟨30, 29, .rwl, 0, none⟩,
    ⟨28, 27, .rwl, 0, none⟩,
    ⟨26, 22, .rwl, 0xf, some [(0, 21)]⟩,
    ⟨21, 21, .rwl, 1, none⟩,
    ⟨20, 20, .rwl, 1, none⟩,
    ⟨19, 19, .rwl, 1, none⟩]⟩]

/-- The OBS block's registers. -/
def rowsObs : List RegRow := [
  -- OBS_SNAP_CTL (R734)
  ⟨0x70000, 1, 4, 1, 4, [⟨31, 24, .rwl, 0, none⟩,
    ⟨23, 18, .rwl, 0, none⟩,
    ⟨17, 16, .rwl, 0, none⟩,
    ⟨3, 3, .rwl, 1, none⟩,
    ⟨2, 2, .rwl, 0, none⟩,
    ⟨1, 1, .rwl, 1, none⟩,
    ⟨0, 0, .w1s, 0, none⟩]⟩,
  -- OBS_SNAP_STAT (R735)
  ⟨0x70004, 1, 4, 1, 4, [⟨31, 31, .ro, 0, none⟩,
    ⟨30, 30, .ro, 0, none⟩,
    ⟨29, 29, .ro, 0, none⟩,
    ⟨28, 26, .ro, 0, none⟩,
    ⟨25, 25, .ro, 0, none⟩,
    ⟨23, 16, .ro, 0, none⟩,
    ⟨15, 8, .rc, 0, none⟩,
    ⟨7, 7, .w1c, 0, none⟩]⟩,
  -- OBS_SNAP_TIME_LO (R735)
  ⟨0x70008, 1, 4, 1, 4, [⟨31, 0, .ro, 0, none⟩]⟩,
  -- OBS_SNAP_TIME_HI (R735)
  ⟨0x7000c, 1, 4, 1, 4, [⟨31, 0, .ro, 0, none⟩]⟩,
  -- OBS_SNAP_CMD (R735)
  ⟨0x70010, 1, 4, 1, 4, [⟨31, 31, .wo, 0, none⟩,
    ⟨7, 4, .ro, 0, none⟩,
    ⟨1, 0, .rw, 0, some [(1, 2)]⟩]⟩,
  -- OBS_SNAP_ADDR (R736)
  ⟨0x70100, 1, 4, 1, 4, [⟨31, 31, .rw, 0, none⟩,
    ⟨23, 0, .rw, 0, none⟩]⟩,
  -- OBS_SNAP_DATA (R736)
  ⟨0x70104, 4, 0x4, 1, 4, [⟨31, 0, .ro, 0, none⟩]⟩,
  -- OBS_MON_CFG (R737)
  ⟨0x71000, 64, 0x100, 1, 4, [⟨31, 31, .rw, 0, none⟩,
    ⟨30, 30, .rw, 0, none⟩,
    ⟨29, 26, .rw, 0, none⟩,
    ⟨25, 17, .rw, 0, none⟩,
    ⟨16, 12, .rw, 0, some [(0, 24)]⟩,
    ⟨11, 8, .rw, 0, none⟩]⟩,
  -- OBS_MON_BASE (R737)
  ⟨0x71004, 64, 0x100, 1, 4, [⟨31, 0, .rw, 0, none⟩]⟩,
  -- OBS_MON_LIMIT (R737)
  ⟨0x71008, 64, 0x100, 1, 4, [⟨31, 0, .rw, 0, none⟩]⟩,
  -- OBS_MON_CTL (R737)
  ⟨0x7100c, 64, 0x100, 1, 4, [⟨31, 31, .wo, 0, none⟩,
    ⟨30, 30, .rw, 0, none⟩,
    ⟨16, 16, .w1c, 0, none⟩,
    ⟨15, 0, .rc, 0, none⟩]⟩,
  -- OBS_MON_MIN (R737)
  ⟨0x71010, 64, 0x100, 1, 4, [⟨31, 0, .ro, 0xffffffff, none⟩]⟩,
  -- OBS_MON_MAX (R737)
  ⟨0x71014, 64, 0x100, 1, 4, [⟨31, 0, .ro, 0, none⟩]⟩,
  -- OBS_MON_SAMPLES (R737)
  ⟨0x71018, 64, 0x100, 1, 4, [⟨31, 0, .ro, 0, none⟩]⟩,
  -- OBS_MON_BIN (R737)
  ⟨0x71080, 64, 0x100, 32, 4, [⟨31, 0, .ro, 0, none⟩]⟩]

/-- The SEC block's registers. -/
def rowsSec0 : List RegRow := [
  -- SEC_CTL (R569)
  ⟨0x80000, 1, 4, 1, 4, [⟨19, 16, .rwl, 7, some [(0, 13)]⟩,
    ⟨0, 0, .w1s, 0, none⟩]⟩,
  -- SEC_STAT (R569)
  ⟨0x80004, 1, 4, 1, 4, [⟨10, 10, .ro, 0, none⟩,
    ⟨9, 9, .ro, 0, none⟩,
    ⟨8, 8, .ro, 0, none⟩,
    ⟨7, 7, .ro, 0, none⟩,
    ⟨6, 0, .ro, 0, none⟩]⟩,
  -- SEC_KLD_CTL (R570)
  ⟨0x80010, 1, 4, 1, 4, [⟨31, 31, .wo, 0, none⟩,
    ⟨17, 16, .rw, 0, some [(1, 2)]⟩,
    ⟨13, 8, .rw, 0, none⟩,
    ⟨3, 0, .ro, 0, none⟩]⟩,
  -- SEC_KLD_K (R570)
  ⟨0x80014, 4, 0x4, 1, 4, [⟨31, 0, .wo, 0, none⟩]⟩,
  -- SEC_SLOT_LO (R570)
  ⟨0x80030, 1, 4, 1, 4, [⟨31, 0, .ro, 0, none⟩]⟩,
  -- SEC_SLOT_HI (R570)
  ⟨0x80034, 1, 4, 1, 4, [⟨31, 0, .ro, 0, none⟩]⟩,
  -- SEC_MK_CTL (R570)
  ⟨0x80040, 1, 4, 1, 4, [⟨31, 31, .wo, 0, none⟩,
    ⟨3, 0, .ro, 0, none⟩]⟩,
  -- SEC_MKW (R570)
  ⟨0x80080, 32, 0x4, 1, 4, [⟨31, 0, .wo, 0, none⟩]⟩,
  -- SEC_AUTH_LAST_LO (R571)
  ⟨0x80100, 1, 4, 1, 4, [⟨31, 0, .ro, 0, none⟩]⟩,
  -- SEC_AUTH_LAST_HI (R571)
  ⟨0x80104, 1, 4, 1, 4, [⟨31, 0, .ro, 0, none⟩]⟩,
  -- SEC_AUTH_P_LO (R571)
  ⟨0x80108, 1, 4, 1, 4, [⟨31, 0, .ro, 0, none⟩]⟩,
  -- SEC_AUTH_P_HI (R571)
  ⟨0x8010c, 1, 4, 1, 4, [⟨31, 0, .ro, 0, none⟩]⟩,
  -- SEC_AUTH_STAT (R571)
  ⟨0x80110, 1, 4, 1, 4, [⟨31, 16, .rc, 0, none⟩,
    ⟨15, 15, .w1c, 0, none⟩,
    ⟨3, 3, .ro, 0, none⟩,
    ⟨2, 2, .ro, 0, none⟩,
    ⟨1, 0, .ro, 0, none⟩]⟩,
  -- SEC_LINK (R572)
  ⟨0x80200, 13, 0x4, 1, 4, [⟨5, 0, .rwl, 0, none⟩]⟩,
  -- SEC_LSESS_LO (R572)
  ⟨0x80240, 12, 0x8, 1, 4, [⟨31, 0, .ro, 0, none⟩]⟩,
  -- SEC_LSESS_HI (R572)
  ⟨0x80244, 12, 0x8, 1, 4, [⟨31, 0, .ro, 0, none⟩]⟩,
  -- SEC_LSESSP_LO (R572)
  ⟨0x802a0, 1, 4, 1, 4, [⟨31, 0, .rw, 0, none⟩]⟩,
  -- SEC_LSESSP_HI (R572)
  ⟨0x802a4, 1, 4, 1, 4, [⟨31, 0, .rw, 0, none⟩]⟩,
  -- SEC_ATT_CTL (R573)
  ⟨0x80300, 1, 4, 1, 4, [⟨31, 31, .wo, 0, none⟩,
    ⟨1, 0, .ro, 0, none⟩]⟩,
  -- SEC_ATT_NONCE (R573)
  ⟨0x80304, 8, 0x4, 1, 4, [⟨31, 0, .rw, 0, none⟩]⟩]

/-- The SEC block's registers. -/
def rowsSec1 : List RegRow := [
  -- SEC_LEP_TX (R572)
  ⟨0x80340, 13, 0x8, 1, 4, [⟨31, 0, .ro, 0, none⟩]⟩,
  -- SEC_LEP_RX (R572)
  ⟨0x80344, 13, 0x8, 1, 4, [⟨31, 0, .ro, 0, none⟩]⟩,
  -- SEC_ATT_DATA (R573)
  ⟨0x80400, 76, 0x4, 1, 4, [⟨31, 0, .ro, 0, none⟩]⟩,
  -- SEC_CERT_ADDR (R573)
  ⟨0x80600, 1, 4, 1, 4, [⟨15, 2, .rw, 0, none⟩]⟩,
  -- SEC_CERT_DATA (R573)
  ⟨0x80604, 1, 4, 1, 4, [⟨31, 0, .ro, 0, none⟩]⟩,
  -- SEC_TAG_FAIL_CNT (R573)
  ⟨0x80700, 1, 4, 1, 4, [⟨31, 31, .w1c, 0, none⟩,
    ⟨30, 0, .rc, 0, none⟩]⟩,
  -- SEC_TC_MISS (R573)
  ⟨0x80704, 1, 4, 1, 4, [⟨31, 31, .w1c, 0, none⟩,
    ⟨30, 0, .rc, 0, none⟩]⟩]

/-- The REG block's registers. -/
def rowsReg : List RegRow := [
  -- REG_CTL (R536)
  ⟨0x90000, 1, 4, 1, 4, [⟨1, 1, .rwl, 0, none⟩,
    ⟨0, 0, .w1s, 0, none⟩]⟩,
  -- REG_STAT (R536)
  ⟨0x90004, 1, 4, 1, 4, [⟨31, 16, .ro, 0x8f5, none⟩,
    ⟨10, 0, .ro, 0x400, none⟩]⟩,
  -- REG_GSUM (R537)
  ⟨0x90008, 1, 4, 1, 4, [⟨31, 16, .ro, 0, none⟩,
    ⟨15, 0, .ro, 0, none⟩]⟩,
  -- REG_LCMD (R538)
  ⟨0x9000c, 1, 4, 1, 4, [⟨31, 31, .wo, 0, none⟩,
    ⟨15, 8, .rw, 0, none⟩,
    ⟨3, 0, .ro, 0, none⟩]⟩,
  -- REG_STG_CFG (R540)
  ⟨0x90010, 1, 4, 1, 4, [⟨31, 31, .rw, 0, none⟩,
    ⟨23, 16, .rw, 0, none⟩,
    ⟨7, 0, .rw, 0, none⟩]⟩,
  -- REG_STG_GUAR (R540)
  ⟨0x90014, 1, 4, 1, 4, [⟨19, 0, .rw, 0, none⟩]⟩,
  -- REG_LATE_CNT (R537)
  ⟨0x9001c, 1, 4, 1, 4, [⟨31, 31, .w1c, 0, none⟩,
    ⟨30, 0, .rc, 0, none⟩]⟩,
  -- REG_TGT (R539)
  ⟨0x90040, 13, 0x4, 1, 4, [⟨11, 0, .rwl, 0x20, some [(2, 4095)]⟩]⟩,
  -- REG_TGTH (R539)
  ⟨0x90074, 3, 0x4, 1, 4, [⟨11, 0, .rwl, 0x40, some [(2, 4095)]⟩]⟩,
  -- REG_PLAT (R539)
  ⟨0x90080, 13, 0x4, 1, 4, [⟨31, 31, .w1c, 0, none⟩,
    ⟨15, 0, .rc, 0, none⟩]⟩,
  -- REG_L_CFG (R540)
  ⟨0x91000, 256, 0x10, 1, 4, [⟨31, 31, .rwl, 0, none⟩,
    ⟨23, 16, .rwl, 1, none⟩,
    ⟨7, 0, .rwl, 4, some [(1, 250)]⟩]⟩,
  -- REG_L_GUAR (R540)
  ⟨0x91004, 256, 0x10, 1, 4, [⟨19, 0, .rwl, 0, none⟩]⟩,
  -- REG_L_LAT (R540)
  ⟨0x91008, 256, 0x10, 1, 4, [⟨31, 31, .w1c, 0, none⟩,
    ⟨15, 0, .rc, 0, none⟩]⟩,
  -- REG_L_BYTES (R540)
  ⟨0x9100c, 256, 0x10, 1, 4, [⟨31, 31, .w1c, 0, none⟩,
    ⟨30, 0, .rc, 0, none⟩]⟩]

/-- The RGN block's registers. -/
def rowsRgn : List RegRow := [
  -- RGN_CTL (R312)
  ⟨0xa0000, 1, 4, 1, 4, [⟨19, 16, .rwl, 7, some [(0, 13)]⟩,
    ⟨0, 0, .w1s, 0, none⟩]⟩,
  -- RGN_STAT (R313)
  ⟨0xa0004, 1, 4, 1, 4, [⟨31, 31, .ro, 0, none⟩,
    ⟨30, 30, .ro, 0, none⟩,
    ⟨21, 16, .ro, 0, none⟩,
    ⟨15, 15, .w1c, 0, none⟩,
    ⟨14, 0, .rc, 0, none⟩]⟩,
  -- RGN_REJ_LAST (R313)
  ⟨0xa0008, 1, 4, 1, 4, [⟨27, 24, .ro, 0, none⟩,
    ⟨23, 12, .ro, 0, none⟩,
    ⟨7, 0, .ro, 0, none⟩]⟩,
  -- RGN_STG_B (R314)
  ⟨0xa0010, 1, 4, 1, 4, [⟨31, 31, .rw, 0, none⟩,
    ⟨13, 0, .rw, 0, none⟩]⟩,
  -- RGN_STG_S (R314)
  ⟨0xa0014, 1, 4, 1, 4, [⟨13, 0, .rw, 0, none⟩]⟩,
  -- RGN_STG_A (R314)
  ⟨0xa0018, 1, 4, 1, 4, [⟨31, 31, .rw, 0, none⟩,
    ⟨30, 28, .rw, 0, none⟩,
    ⟨27, 26, .rw, 0, none⟩,
    ⟨25, 25, .rw, 0, none⟩,
    ⟨23, 16, .rw, 0, none⟩,
    ⟨15, 14, .rw, 0, none⟩,
    ⟨6, 0, .rw, 0, none⟩]⟩,
  -- RGN_STG_Q0 (R314)
  ⟨0xa001c, 1, 4, 1, 4, [⟨31, 31, .rw, 0, none⟩,
    ⟨27, 16, .rw, 0, none⟩,
    ⟨11, 0, .rw, 0, none⟩]⟩,
  -- RGN_STG_Q1 (R314)
  ⟨0xa0020, 1, 4, 1, 4, [⟨31, 31, .rw, 0, none⟩,
    ⟨27, 16, .rw, 0, none⟩,
    ⟨11, 0, .rw, 0, none⟩]⟩,
  -- RGN_STG_T (R314)
  ⟨0xa0024, 1, 4, 1, 4, [⟨21, 16, .rw, 0, none⟩,
    ⟨15, 0, .rw, 0, none⟩]⟩,
  -- RGN_COMMIT (R315)
  ⟨0xa0028, 1, 4, 1, 4, [⟨31, 31, .wo, 0, none⟩,
    ⟨21, 16, .rw, 0, none⟩,
    ⟨3, 0, .ro, 0, none⟩]⟩,
  -- RGN_FENCE_LO (R316)
  ⟨0xa0030, 1, 4, 1, 4, [⟨31, 0, .w1c, 0, none⟩]⟩,
  -- RGN_FENCE_HI (R316)
  ⟨0xa0034, 1, 4, 1, 4, [⟨31, 0, .w1c, 0, none⟩]⟩,
  -- RGN_B (R314)
  ⟨0xa0100, 64, 0x20, 1, 4, [⟨31, 31, .rwl, 0, none⟩,
    ⟨13, 0, .rwl, 0, none⟩]⟩,
  -- RGN_S (R314)
  ⟨0xa0104, 64, 0x20, 1, 4, [⟨13, 0, .rwl, 0, none⟩]⟩,
  -- RGN_A (R314)
  ⟨0xa0108, 64, 0x20, 1, 4, [⟨31, 31, .rwl, 0, none⟩,
    ⟨30, 28, .rwl, 0, some [(0, 4)]⟩,
    ⟨27, 26, .rwl, 0, none⟩,
    ⟨25, 25, .rwl, 0, none⟩,
    ⟨23, 16, .rwl, 0, some [(0, 253)]⟩,
    ⟨15, 14, .rwl, 0, none⟩,
    ⟨6, 0, .rwl, 0, some [(0, 64)]⟩]⟩,
  -- RGN_Q0 (R314)
  ⟨0xa010c, 64, 0x20, 1, 4, [⟨31, 31, .rwl, 0, none⟩,
    ⟨27, 16, .rwl, 0, none⟩,
    ⟨11, 0, .rwl, 0, none⟩]⟩,
  -- RGN_Q1 (R314)
  ⟨0xa0110, 64, 0x20, 1, 4, [⟨31, 31, .rwl, 0, none⟩,
    ⟨27, 16, .rwl, 0, none⟩,
    ⟨11, 0, .rwl, 0, none⟩]⟩,
  -- RGN_T (R314)
  ⟨0xa0114, 64, 0x20, 1, 4, [⟨21, 16, .rwl, 0, none⟩,
    ⟨15, 0, .rwl, 0, none⟩]⟩]

/-- The PORT block's registers. -/
def rowsPort0 : List RegRow := [
  -- PORT_LINK_CFG (R258)
  ⟨0x100000, 13, 0x1000, 1, 4, [⟨31, 31, .rwl, 0, none⟩,
    ⟨27, 24, .rwl, 2, some [(0, 4)]⟩]⟩,
  -- PORT_LINK_STAT (R259)
  ⟨0x100004, 13, 0x1000, 1, 4, [⟨31, 24, .ro, 0, none⟩,
    ⟨15, 15, .ro, 0, none⟩,
    ⟨14, 14, .ro, 0, none⟩,
    ⟨13, 13, .ro, 0, none⟩,
    ⟨12, 12, .ro, 0, none⟩,
    ⟨6, 4, .ro, 0, none⟩,
    ⟨2, 0, .ro, 0, none⟩]⟩,
  -- PORT_LINK_SEQ (R260)
  ⟨0x100008, 13, 0x1000, 1, 4, [⟨27, 16, .ro, 0xfff, none⟩,
    ⟨11, 0, .ro, 0, none⟩]⟩,
  -- PORT_LINK_OUT (R260)
  ⟨0x10000c, 13, 0x1000, 1, 4, [⟨26, 16, .ro, 0, none⟩,
    ⟨11, 0, .ro, 0, none⟩]⟩,
  -- PORT_CRED01 (R260)
  ⟨0x100010, 13, 0x1000, 1, 4, [⟨31, 16, .ro, 0, none⟩,
    ⟨15, 0, .ro, 0, none⟩]⟩,
  -- PORT_CRED23 (R260)
  ⟨0x100014, 13, 0x1000, 1, 4, [⟨31, 16, .ro, 0, none⟩,
    ⟨15, 0, .ro, 0, none⟩]⟩,
  -- PORT_LINK_CNT (R261)
  ⟨0x100018, 13, 0x1000, 1, 4, [⟨31, 24, .rc, 0, none⟩,
    ⟨23, 23, .w1c, 0, none⟩,
    ⟨22, 17, .rc, 0, none⟩,
    ⟨16, 16, .w1c, 0, none⟩,
    ⟨15, 10, .rc, 0, none⟩,
    ⟨9, 9, .w1c, 0, none⟩,
    ⟨8, 3, .rc, 0, none⟩,
    ⟨2, 2, .w1c, 0, none⟩]⟩,
  -- PORT_FLIT_ERR (R262)
  ⟨0x10001c, 13, 0x1000, 1, 4, [⟨31, 31, .w1c, 0, none⟩,
    ⟨30, 0, .rc, 0, none⟩]⟩,
  -- PORT_FEC_CORR (R262)
  ⟨0x100020, 13, 0x1000, 1, 4, [⟨31, 31, .w1c, 0, none⟩,
    ⟨30, 0, .rc, 0, none⟩]⟩,
  -- PORT_FEC_UNCORR (R262)
  ⟨0x100024, 13, 0x1000, 1, 4, [⟨31, 31, .w1c, 0, none⟩,
    ⟨30, 0, .rc, 0, none⟩]⟩,
  -- PORT_ABORTS (R262)
  ⟨0x100028, 13, 0x1000, 1, 4, [⟨31, 31, .w1c, 0, none⟩,
    ⟨30, 0, .rc, 0, none⟩]⟩,
  -- PORT_ENC_FCNT_TX (R260)
  ⟨0x100030, 13, 0x1000, 1, 4, [⟨31, 0, .ro, 0, none⟩]⟩,
  -- PORT_ENC_FCNT_RX (R260)
  ⟨0x100034, 13, 0x1000, 1, 4, [⟨31, 0, .ro, 0, none⟩]⟩,
  -- PORT_LOCK (R209)
  ⟨0x100038, 13, 0x1000, 1, 4, [⟨0, 0, .w1s, 0, none⟩]⟩,
  -- PORT_LANE_CFG (R208)
  ⟨0x100100, 13, 0x1000, 1, 4, [⟨31, 31, .rwl, 0, none⟩,
    ⟨30, 30, .rwl, 0, none⟩,
    ⟨27, 24, .rwl, 6, some [(0, 10)]⟩,
    ⟨23, 20, .rwl, 6, some [(1, 15)]⟩,
    ⟨15, 0, .rwl, 0x4000, some [(1, 65535)]⟩]⟩,
  -- PORT_TX_FFE (R210)
  ⟨0x100104, 13, 0x1000, 1, 4, [⟨29, 24, .rwl, 0, none⟩,
    ⟨23, 18, .rwl, 0x3c, none⟩,
    ⟨17, 12, .rwl, 0x34, none⟩,
    ⟨11, 6, .rwl, 0x38, none⟩,
    ⟨5, 0, .rwl, 0, none⟩]⟩,
  -- PORT_LANE_STAT (R211)
  ⟨0x100108, 13, 0x1000, 1, 4, [⟨31, 31, .ro, 0, none⟩,
    ⟨30, 29, .ro, 0, none⟩,
    ⟨28, 28, .ro, 0, none⟩,
    ⟨27, 24, .ro, 8, none⟩,
    ⟨23, 23, .ro, 0, none⟩,
    ⟨17, 9, .ro, 0, none⟩,
    ⟨8, 0, .ro, 0, none⟩]⟩,
  -- PORT_LANE_MAP (R212)
  ⟨0x10010c, 13, 0x1000, 1, 4, [⟨31, 28, .ro, 7, none⟩,
    ⟨27, 24, .ro, 6, none⟩,
    ⟨23, 20, .ro, 5, none⟩,
    ⟨19, 16, .ro, 4, none⟩,
    ⟨15, 12, .ro, 3, none⟩,
    ⟨11, 8, .ro, 2, none⟩,
    ⟨7, 4, .ro, 1, none⟩,
    ⟨3, 0, .ro, 0, none⟩]⟩,
  -- PORT_LANE_TXMAP (R212)
  ⟨0x100110, 13, 0x1000, 1, 4, [⟨31, 28, .ro, 7, none⟩,
    ⟨27, 24, .ro, 6, none⟩,
    ⟨23, 20, .ro, 5, none⟩,
    ⟨19, 16, .ro, 4, none⟩,
    ⟨15, 12, .ro, 3, none⟩,
    ⟨11, 8, .ro, 2, none⟩,
    ⟨7, 4, .ro, 1, none⟩,
    ⟨3, 0, .ro, 0, none⟩]⟩,
  -- PORT_LANE_FLAG (R213)
  ⟨0x100114, 13, 0x1000, 1, 4, [⟨24, 16, .ro, 0, none⟩,
    ⟨15, 15, .ro, 0, none⟩,
    ⟨14, 14, .ro, 0, none⟩,
    ⟨8, 0, .w1c, 0, none⟩]⟩]

/-- The PORT block's registers. -/
def rowsPort1 : List RegRow := [
  -- PORT_LANE_SWAP (R214)
  ⟨0x100118, 13, 0x1000, 1, 4, [⟨31, 31, .wo, 0, none⟩,
    ⟨11, 8, .ro, 0, none⟩,
    ⟨4, 4, .rw, 0, none⟩,
    ⟨2, 0, .rw, 0, none⟩]⟩,
  -- PORT_LANE_CNT (R215)
  ⟨0x10011c, 13, 0x1000, 1, 4, [⟨31, 24, .rc, 0, none⟩,
    ⟨23, 23, .w1c, 0, none⟩,
    ⟨22, 16, .rc, 0, none⟩,
    ⟨15, 15, .w1c, 0, none⟩,
    ⟨14, 8, .rc, 0, none⟩,
    ⟨7, 7, .w1c, 0, none⟩,
    ⟨6, 0, .rc, 0, none⟩]⟩,
  -- PORT_LANE_DIAG_SEL (R216)
  ⟨0x100120, 13, 0x1000, 1, 4, [⟨3, 0, .rw, 0, none⟩]⟩,
  -- PORT_LANE_DIAG (R216)
  ⟨0x100124, 13, 0x1000, 1, 4, [⟨31, 27, .ro, 0, none⟩,
    ⟨26, 22, .ro, 0, none⟩,
    ⟨21, 14, .ro, 0, none⟩,
    ⟨13, 6, .ro, 0, none⟩,
    ⟨5, 5, .ro, 0, none⟩,
    ⟨4, 0, .ro, 0, none⟩]⟩,
  -- PORT_LANE_TEST (R217)
  ⟨0x100128, 13, 0x1000, 1, 4, [⟨0, 0, .rw, 0, none⟩]⟩,
  -- PORT_PRBS_CTL (R218)
  ⟨0x100140, 13, 0x1000, 9, 4, [⟨31, 31, .wo, 0, none⟩,
    ⟨27, 24, .rw, 0, none⟩,
    ⟨9, 8, .rw, 0, none⟩,
    ⟨5, 4, .rw, 0, none⟩,
    ⟨1, 1, .rw, 0, none⟩]⟩,
  -- PORT_PRBS_ERR (R219)
  ⟨0x100180, 13, 0x1000, 9, 4, [⟨31, 31, .w1c, 0, none⟩,
    ⟨30, 0, .rc, 0, none⟩]⟩]

/-- The PAIR block's registers. -/
def rowsPair : List RegRow := [
  -- PAIR_CFG (R598)
  ⟨0x10c400, 1, 4, 1, 4, [⟨22, 22, .rwl, 0, none⟩,
    ⟨21, 16, .rwl, 0, none⟩,
    ⟨0, 0, .w1s, 0, none⟩]⟩,
  -- PAIR_STAT (R599)
  ⟨0x10c404, 1, 4, 1, 4, [⟨31, 31, .ro, 0, none⟩,
    ⟨30, 30, .ro, 0, none⟩,
    ⟨29, 29, .ro, 0, none⟩,
    ⟨28, 28, .ro, 0, none⟩,
    ⟨27, 26, .ro, 0, none⟩,
    ⟨25, 24, .ro, 0, none⟩,
    ⟨23, 20, .ro, 0, none⟩,
    ⟨5, 0, .ro, 0, none⟩]⟩,
  -- PAIR_CURRENT_LO (R600)
  ⟨0x10c408, 1, 4, 1, 4, [⟨31, 0, .ro, 0, none⟩]⟩,
  -- PAIR_CURRENT_HI (R600)
  ⟨0x10c40c, 1, 4, 1, 4, [⟨31, 0, .ro, 0, none⟩]⟩,
  -- PAIR_RSYNC_PT_LO (R600)
  ⟨0x10c410, 1, 4, 1, 4, [⟨31, 6, .ro, 0, none⟩]⟩,
  -- PAIR_RSYNC_PT_HI (R600)
  ⟨0x10c414, 1, 4, 1, 4, [⟨7, 0, .ro, 0, none⟩]⟩,
  -- PAIR_CNT (R601)
  ⟨0x10c418, 1, 4, 1, 4, [⟨31, 24, .rc, 0, none⟩,
    ⟨23, 23, .w1c, 0, none⟩,
    ⟨22, 16, .rc, 0, none⟩,
    ⟨15, 15, .w1c, 0, none⟩]⟩,
  -- PAIR_SINGLE_CNT (R601)
  ⟨0x10c41c, 1, 4, 1, 4, [⟨31, 31, .w1c, 0, none⟩,
    ⟨30, 0, .rc, 0, none⟩]⟩,
  -- PAIR_ROLE (R602)
  ⟨0x10c800, 1, 4, 1, 4, [⟨31, 31, .wo, 0, none⟩,
    ⟨27, 24, .ro, 0, none⟩,
    ⟨1, 0, .rw, 0, some [(0, 2)]⟩]⟩,
  -- PAIR_RESYNC (R602)
  ⟨0x10c804, 1, 4, 1, 4, [⟨31, 31, .wo, 0, none⟩,
    ⟨27, 24, .ro, 0, none⟩,
    ⟨0, 0, .rw, 0, none⟩]⟩]

/-- The PC block's registers. -/
def rowsPc : List RegRow := [
  -- PC_STAT (R359)
  ⟨0x200000, 128, 0x400, 1, 4, [⟨31, 25, .ro, 0, none⟩,
    ⟨24, 18, .ro, 0, none⟩,
    ⟨17, 13, .ro, 0, none⟩,
    ⟨12, 12, .ro, 0, none⟩,
    ⟨11, 8, .ro, 0, none⟩,
    ⟨7, 7, .ro, 0, none⟩,
    ⟨6, 0, .ro, 0, none⟩]⟩,
  -- PC_ACT (R360)
  ⟨0x200004, 128, 0x400, 1, 4, [⟨31, 31, .w1c, 0, none⟩,
    ⟨30, 0, .rc, 0, none⟩]⟩,
  -- PC_HIT (R360)
  ⟨0x200008, 128, 0x400, 1, 4, [⟨31, 31, .w1c, 0, none⟩,
    ⟨30, 0, .rc, 0, none⟩]⟩,
  -- PC_RAW (R360)
  ⟨0x20000c, 128, 0x400, 1, 4, [⟨31, 31, .w1c, 0, none⟩,
    ⟨30, 0, .rc, 0, none⟩]⟩,
  -- PC_TRR (R360)
  ⟨0x200010, 128, 0x400, 1, 4, [⟨31, 31, .w1c, 0, none⟩,
    ⟨30, 0, .rc, 0, none⟩]⟩,
  -- PC_DRIFT (R676)
  ⟨0x2000e0, 128, 0x400, 3, 4, [⟨31, 0, .w1c, 0, none⟩]⟩,
  -- PC_DRIFT_LAST (R676)
  ⟨0x2000ec, 128, 0x400, 1, 4, [⟨8, 8, .ro, 0, none⟩,
    ⟨7, 7, .ro, 0, none⟩,
    ⟨6, 0, .ro, 0, none⟩]⟩,
  -- PC_TSV_MAP (R676)
  ⟨0x2000f4, 128, 0x400, 1, 4, [⟨29, 25, .ro, 0x1f, none⟩,
    ⟨24, 20, .ro, 0x1f, none⟩,
    ⟨19, 15, .ro, 0x1f, none⟩,
    ⟨14, 10, .ro, 0x1f, none⟩,
    ⟨9, 5, .ro, 0x1f, none⟩,
    ⟨4, 0, .ro, 0x1f, none⟩]⟩,
  -- PC_DLY (R675)
  ⟨0x200100, 128, 0x400, 66, 4, [⟨20, 20, .ro, 0, none⟩,
    ⟨19, 14, .ro, 0x28, none⟩,
    ⟨13, 7, .ro, 0x40, none⟩,
    ⟨6, 0, .ro, 0x40, none⟩]⟩]

/-- The CG block's registers. -/
def rowsCg : List RegRow := [
  -- CG_CTL (R353)
  ⟨0x280000, 32, 0x100, 1, 4, [⟨1, 1, .w1c, 0, none⟩,
    ⟨0, 0, .w1s, 0, none⟩]⟩,
  -- CG_PAGE (R354)
  ⟨0x280004, 32, 0x100, 1, 4, [⟨31, 24, .rwl, 0xff, none⟩,
    ⟨23, 16, .rwl, 0xa0, none⟩,
    ⟨15, 8, .rwl, 0, none⟩,
    ⟨7, 0, .rwl, 0x40, none⟩]⟩,
  -- CG_SCHED (R355)
  ⟨0x280008, 32, 0x100, 1, 4, [⟨26, 24, .rwl, 4, none⟩,
    ⟨23, 16, .rwl, 0x10, some [(1, 255)]⟩,
    ⟨15, 8, .rwl, 0x30, some [(8, 64)]⟩,
    ⟨7, 0, .rwl, 0x10, some [(0, 56)]⟩]⟩,
  -- CG_TRR (R356)
  ⟨0x28000c, 32, 0x100, 1, 4, [⟨4, 4, .rwl, 1, none⟩,
    ⟨3, 0, .rwl, 7, none⟩]⟩,
  -- CG_STAT (R357)
  ⟨0x280010, 32, 0x100, 1, 4, [⟨31, 31, .ro, 0, none⟩,
    ⟨30, 30, .ro, 0, none⟩,
    ⟨29, 29, .ro, 0, none⟩,
    ⟨17, 16, .ro, 3, none⟩,
    ⟨10, 8, .ro, 0, none⟩,
    ⟨7, 7, .ro, 0, none⟩,
    ⟨5, 4, .ro, 0, none⟩]⟩,
  -- CG_CNT (R358)
  ⟨0x280014, 32, 0x100, 1, 4, [⟨31, 24, .rc, 0, none⟩,
    ⟨23, 23, .w1c, 0, none⟩,
    ⟨22, 16, .rc, 0, none⟩,
    ⟨15, 15, .w1c, 0, none⟩,
    ⟨14, 8, .rc, 0, none⟩,
    ⟨7, 7, .w1c, 0, none⟩]⟩,
  -- CG_CAL_CMD (R672)
  ⟨0x280040, 32, 0x100, 1, 4, [⟨31, 31, .wo, 0, none⟩,
    ⟨27, 24, .rw, 0, some [(1, 4)]⟩,
    ⟨23, 20, .ro, 0, none⟩]⟩,
  -- CG_CAL_ARG (R673)
  ⟨0x280044, 32, 0x100, 1, 4, [⟨31, 30, .rw, 0, none⟩,
    ⟨29, 28, .rw, 0, none⟩,
    ⟨27, 21, .rw, 0, none⟩,
    ⟨20, 0, .rw, 0, none⟩]⟩,
  -- CG_CAL_STAT (R674)
  ⟨0x280048, 32, 0x100, 1, 4, [⟨31, 24, .rc, 0, none⟩,
    ⟨23, 23, .w1c, 0, none⟩,
    ⟨1, 1, .ro, 0, none⟩,
    ⟨0, 0, .ro, 0, none⟩]⟩,
  -- CG_CAL_CFG (R674)
  ⟨0x28004c, 32, 0x100, 1, 4, [⟨15, 8, .rwl, 0x10, none⟩,
    ⟨3, 0, .rwl, 8, some [(2, 15)]⟩]⟩]

/-- The CRM block's registers. -/
def rowsCrm : List RegRow := [
  -- CRM_CTL (R417)
  ⟨0x300000, 1, 4, 1, 4, [⟨31, 24, .rwl, 0x20, none⟩,
    ⟨19, 16, .rwl, 4, some [(0, 12)]⟩,
    ⟨1, 1, .rwl, 1, none⟩,
    ⟨0, 0, .w1s, 0, none⟩]⟩,
  -- CRM_PART (R418)
  ⟨0x300004, 1, 4, 1, 4, [⟨25, 16, .ro, 0x2c0, none⟩,
    ⟨8, 0, .rwl, 0, none⟩]⟩,
  -- CRM_STAT (R419)
  ⟨0x300008, 1, 4, 1, 4, [⟨31, 16, .ro, 0, none⟩,
    ⟨15, 15, .w1c, 0, none⟩,
    ⟨9, 9, .ro, 0, none⟩,
    ⟨8, 8, .ro, 0, none⟩,
    ⟨7, 0, .ro, 0, none⟩]⟩,
  -- CRM_CE_CNT (R420)
  ⟨0x300010, 1, 4, 1, 4, [⟨31, 31, .w1c, 0, none⟩,
    ⟨30, 0, .rc, 0, none⟩]⟩,
  -- CRM_UE_CNT (R420)
  ⟨0x300014, 1, 4, 1, 4, [⟨31, 31, .w1c, 0, none⟩,
    ⟨30, 0, .rc, 0, none⟩]⟩,
  -- CRM_PSN_CNT (R420)
  ⟨0x300018, 1, 4, 1, 4, [⟨31, 31, .w1c, 0, none⟩,
    ⟨30, 0, .rc, 0, none⟩]⟩,
  -- CRM_LAST_UE (R420)
  ⟨0x300020, 1, 4, 1, 4, [⟨31, 30, .ro, 0, none⟩,
    ⟨27, 0, .ro, 0, none⟩]⟩,
  -- CRM_FENCE (R421)
  ⟨0x300040, 8, 0x4, 1, 4, [⟨31, 0, .w1c, 0, none⟩]⟩,
  -- CRM_INJ_OFF (R422)
  ⟨0x300060, 1, 4, 1, 4, [⟨25, 6, .rw, 0, none⟩,
    ⟨5, 0, .rw, 0, none⟩]⟩,
  -- CRM_INJ_CTL (R422)
  ⟨0x300064, 1, 4, 1, 4, [⟨31, 31, .wo, 0, none⟩,
    ⟨30, 30, .ro, 0, none⟩,
    ⟨29, 28, .rw, 1, none⟩,
    ⟨27, 15, .rw, 1, none⟩,
    ⟨14, 0, .rw, 1, some [(1, 32767)]⟩]⟩]

/-- The QUE block's registers. -/
def rowsQue : List RegRow := [
  -- QUE_CTL (R452)
  ⟨0x310000, 1, 4, 1, 4, [⟨22, 22, .rwl, 1, none⟩,
    ⟨21, 16, .rwl, 0, none⟩,
    ⟨12, 8, .rwl, 0xc, some [(0, 18)]⟩,
    ⟨1, 1, .rwl, 0, none⟩,
    ⟨0, 0, .w1s, 0, none⟩]⟩,
  -- QUE_STAT (R453)
  ⟨0x310004, 1, 4, 1, 4, [⟨31, 25, .ro, 0, none⟩,
    ⟨16, 0, .ro, 0, none⟩]⟩,
  -- QUE_POOL_CMD (R454)
  ⟨0x310008, 1, 4, 1, 4, [⟨31, 31, .wo, 0, none⟩,
    ⟨19, 16, .rw, 0, none⟩,
    ⟨11, 8, .rw, 0, none⟩,
    ⟨3, 0, .ro, 0, none⟩]⟩,
  -- QUE_ENQ_CELLS (R455)
  ⟨0x310010, 1, 4, 1, 4, [⟨31, 31, .w1c, 0, none⟩,
    ⟨30, 0, .rc, 0, none⟩]⟩,
  -- QUE_DEQ_CELLS (R455)
  ⟨0x310014, 1, 4, 1, 4, [⟨31, 31, .w1c, 0, none⟩,
    ⟨30, 0, .rc, 0, none⟩]⟩,
  -- QUE_FULL_CNT (R455)
  ⟨0x310018, 1, 4, 1, 4, [⟨31, 31, .w1c, 0, none⟩,
    ⟨30, 0, .rc, 0, none⟩]⟩,
  -- QUE_PSN_CNT (R455)
  ⟨0x31001c, 1, 4, 1, 4, [⟨31, 31, .w1c, 0, none⟩,
    ⟨30, 0, .rc, 0, none⟩]⟩,
  -- QUE_TAKE (R455)
  ⟨0x310020, 1, 4, 1, 4, [⟨16, 0, .ro, 0, none⟩]⟩,
  -- QUE_TAKE_CELLS (R455)
  ⟨0x310024, 1, 4, 1, 4, [⟨27, 0, .ro, 0, none⟩]⟩,
  -- QUE_POOL_CFG (R456)
  ⟨0x310100, 16, 0x10, 1, 4, [⟨31, 31, .rwl, 0, none⟩,
    ⟨21, 16, .rwl, 0, none⟩,
    ⟨7, 0, .rwl, 0x10, none⟩]⟩,
  -- QUE_POOL_LIM (R456)
  ⟨0x310104, 16, 0x10, 1, 4, [⟨23, 0, .rwl, 0, none⟩]⟩,
  -- QUE_POOL_FREE (R456)
  ⟨0x310108, 16, 0x10, 1, 4, [⟨23, 0, .ro, 0, none⟩]⟩,
  -- QUE_POOL_LEAK (R456)
  ⟨0x31010c, 16, 0x10, 1, 4, [⟨23, 0, .ro, 0, none⟩]⟩]

/-- The TBL block's registers. -/
def rowsTbl : List RegRow := [
  -- TBL_CTL (R479)
  ⟨0x320000, 1, 4, 1, 4, [⟨0, 0, .w1s, 0, none⟩]⟩,
  -- TBL_STAT (R479)
  ⟨0x320004, 1, 4, 1, 4, [⟨20, 20, .ro, 0, none⟩,
    ⟨19, 9, .ro, 0, none⟩,
    ⟨8, 0, .ro, 0, none⟩]⟩,
  -- TBL_CMD (R480)
  ⟨0x320008, 1, 4, 1, 4, [⟨31, 31, .wo, 0, none⟩,
    ⟨19, 12, .rw, 0, none⟩,
    ⟨9, 8, .rw, 0, some [(1, 3)]⟩,
    ⟨3, 0, .ro, 0, none⟩]⟩,
  -- TBL_STG_CFG (R481)
  ⟨0x320010, 1, 4, 1, 4, [⟨31, 31, .rw, 0, none⟩,
    ⟨30, 29, .rw, 0, none⟩,
    ⟨28, 24, .rw, 0, none⟩,
    ⟨21, 16, .rw, 0, none⟩,
    ⟨13, 13, .rw, 0, none⟩,
    ⟨12, 8, .rw, 0, none⟩,
    ⟨5, 0, .rw, 0, none⟩]⟩,
  -- TBL_STG_BASE (R481)
  ⟨0x320014, 1, 4, 1, 4, [⟨27, 0, .rw, 0, none⟩]⟩,
  -- TBL_STG_SEED (R481)
  ⟨0x320018, 4, 0x4, 1, 4, [⟨31, 0, .rw, 0, none⟩]⟩,
  -- TBL_PROBE_CNT (R482)
  ⟨0x320030, 1, 4, 1, 4, [⟨31, 31, .w1c, 0, none⟩,
    ⟨30, 0, .rc, 0, none⟩]⟩,
  -- TBL_HIT_CNT (R482)
  ⟨0x320034, 1, 4, 1, 4, [⟨31, 31, .w1c, 0, none⟩,
    ⟨30, 0, .rc, 0, none⟩]⟩,
  -- TBL_FULL_CNT (R482)
  ⟨0x320038, 1, 4, 1, 4, [⟨31, 31, .w1c, 0, none⟩,
    ⟨30, 0, .rc, 0, none⟩]⟩,
  -- TBL_MOVE_CNT (R482)
  ⟨0x32003c, 1, 4, 1, 4, [⟨31, 31, .w1c, 0, none⟩,
    ⟨30, 0, .rc, 0, none⟩]⟩,
  -- TBL_PSN_CNT (R482)
  ⟨0x320040, 1, 4, 1, 4, [⟨31, 31, .w1c, 0, none⟩,
    ⟨30, 0, .rc, 0, none⟩]⟩,
  -- TBL_D_CFG (R481)
  ⟨0x320100, 256, 0x20, 1, 4, [⟨31, 31, .rwl, 0, none⟩,
    ⟨30, 29, .rwl, 0, some [(0, 2)]⟩,
    ⟨28, 24, .rwl, 4, some [(4, 28)]⟩,
    ⟨21, 16, .rwl, 0, none⟩,
    ⟨13, 13, .rwl, 0, none⟩,
    ⟨12, 8, .rwl, 0, none⟩,
    ⟨5, 0, .rwl, 1, none⟩]⟩,
  -- TBL_D_BASE (R481)
  ⟨0x320104, 256, 0x20, 1, 4, [⟨27, 0, .rwl, 0, none⟩]⟩,
  -- TBL_D_SEED (R481)
  ⟨0x320108, 256, 0x20, 4, 4, [⟨31, 0, .rwl, 0, none⟩]⟩,
  -- TBL_D_STAT (R481)
  ⟨0x320118, 256, 0x20, 1, 4, [⟨31, 31, .ro, 0, none⟩,
    ⟨30, 30, .ro, 0, none⟩,
    ⟨29, 29, .ro, 0, none⟩,
    ⟨28, 28, .ro, 0, none⟩,
    ⟨27, 0, .ro, 0, none⟩]⟩,
  -- TBL_D_LOAD (R481)
  ⟨0x32011c, 256, 0x20, 1, 4, [⟨7, 0, .rwl, 0xe0, none⟩]⟩]

/-- The CNT block's registers. -/
def rowsCnt : List RegRow := [
  -- CNT_CTL (R510)
  ⟨0x330000, 1, 4, 1, 4, [⟨22, 22, .rwl, 1, none⟩,
    ⟨21, 16, .rwl, 0, none⟩,
    ⟨14, 8, .rwl, 0xa, some [(1, 100)]⟩,
    ⟨0, 0, .w1s, 0, none⟩]⟩,
  -- CNT_STAT (R511)
  ⟨0x330004, 1, 4, 1, 4, [⟨31, 31, .ro, 0, none⟩,
    ⟨30, 30, .ro, 0, none⟩,
    ⟨5, 0, .ro, 0, none⟩]⟩,
  -- CNT_EPOCH (R511)
  ⟨0x330008, 1, 4, 1, 4, [⟨31, 0, .ro, 0, none⟩]⟩,
  -- CNT_UPD_CNT (R512)
  ⟨0x330010, 1, 4, 1, 4, [⟨31, 31, .w1c, 0, none⟩,
    ⟨30, 0, .rc, 0, none⟩]⟩,
  -- CNT_FLUSH_CNT (R512)
  ⟨0x330014, 1, 4, 1, 4, [⟨31, 31, .w1c, 0, none⟩,
    ⟨30, 0, .rc, 0, none⟩]⟩,
  -- CNT_EVICT_CNT (R512)
  ⟨0x330018, 1, 4, 1, 4, [⟨31, 31, .w1c, 0, none⟩,
    ⟨30, 0, .rc, 0, none⟩]⟩,
  -- CNT_LOST_CNT (R512)
  ⟨0x33001c, 1, 4, 1, 4, [⟨31, 31, .w1c, 0, none⟩,
    ⟨30, 0, .rc, 0, none⟩]⟩,
  -- CNT_ANC_MISS (R512)
  ⟨0x330020, 1, 4, 1, 4, [⟨31, 31, .w1c, 0, none⟩,
    ⟨30, 0, .rc, 0, none⟩]⟩,
  -- CNT_S_CFG (R513)
  ⟨0x330100, 64, 0x20, 1, 4, [⟨31, 31, .rwl, 0, none⟩,
    ⟨30, 30, .rwl, 0, none⟩,
    ⟨29, 24, .rwl, 0, none⟩,
    ⟨21, 16, .rwl, 0, none⟩,
    ⟨13, 13, .rwl, 0, none⟩,
    ⟨12, 8, .rwl, 0, some [(0, 22)]⟩]⟩,
  -- CNT_S_BASE (R513)
  ⟨0x330104, 64, 0x20, 1, 4, [⟨23, 0, .rwl, 0, none⟩]⟩,
  -- CNT_S_ANCOFF (R513)
  ⟨0x330108, 64, 0x20, 1, 4, [⟨23, 0, .rwl, 0, none⟩]⟩,
  -- CNT_S_NCTR (R513)
  ⟨0x33010c, 64, 0x20, 1, 4, [⟨29, 0, .rwl, 0, none⟩]⟩,
  -- CNT_S_SLOT (R513)
  ⟨0x330110, 64, 0x20, 1, 4, [⟨21, 0, .rwl, 0, none⟩]⟩,
  -- CNT_S_LOSTN (R513)
  ⟨0x330114, 64, 0x20, 1, 4, [⟨31, 31, .w1c, 0, none⟩,
    ⟨30, 0, .rc, 0, none⟩]⟩]

/-- The BST block's registers. -/
def rowsBst : List RegRow := [
  -- BST_CTL (R717)
  ⟨0x400000, 1, 4, 1, 4, [⟨31, 31, .wo, 0, none⟩,
    ⟨27, 24, .rw, 0, some [(1, 5)]⟩,
    ⟨23, 20, .ro, 0, none⟩,
    ⟨11, 8, .rw, 0, none⟩]⟩,
  -- BST_TGT (R718)
  ⟨0x400004, 1, 4, 1, 4, [⟨31, 25, .rw, 0, none⟩,
    ⟨24, 19, .rw, 0, none⟩,
    ⟨18, 6, .rw, 0, none⟩]⟩,
  -- BST_TGT_CRM (R718)
  ⟨0x400008, 1, 4, 1, 4, [⟨7, 0, .rw, 0, none⟩]⟩,
  -- BST_CFG (R718)
  ⟨0x400020, 1, 4, 1, 4, [⟨31, 24, .rwl, 0x18, some [(0, 168)]⟩,
    ⟨15, 12, .rwl, 3, some [(0, 6)]⟩,
    ⟨0, 0, .w1s, 0, none⟩]⟩,
  -- BST_REP_CMD (R390)
  ⟨0x400800, 1, 4, 1, 4, [⟨31, 31, .wo, 0, none⟩,
    ⟨27, 24, .rw, 0, some [(1, 3)]⟩,
    ⟨23, 20, .ro, 0, none⟩]⟩,
  -- BST_REP_ARG0 (R390)
  ⟨0x400804, 1, 4, 1, 4, [⟨31, 0, .rw, 0, none⟩]⟩,
  -- BST_REP_ARG1 (R390)
  ⟨0x400808, 1, 4, 1, 4, [⟨31, 0, .rw, 0, none⟩]⟩,
  -- BST_REP_STAT (R391)
  ⟨0x40080c, 1, 4, 1, 4, [⟨31, 14, .ro, 0, none⟩,
    ⟨13, 0, .ro, 0, none⟩]⟩,
  -- BST_REP_SOFT (R391)
  ⟨0x400810, 1, 4, 1, 4, [⟨31, 16, .ro, 0, none⟩,
    ⟨14, 14, .ro, 0, none⟩,
    ⟨13, 0, .ro, 0, none⟩]⟩,
  -- BST_STAT (R719)
  ⟨0x400900, 1, 4, 1, 4, [⟨31, 31, .ro, 0, none⟩,
    ⟨30, 30, .ro, 0, none⟩,
    ⟨28, 16, .ro, 0, none⟩,
    ⟨15, 15, .w1c, 0, none⟩,
    ⟨14, 0, .rc, 0, none⟩]⟩,
  -- BST_QUICK (R719)
  ⟨0x400904, 1, 4, 1, 4, [⟨31, 20, .ro, 0, none⟩,
    ⟨19, 12, .ro, 0, none⟩,
    ⟨11, 0, .ro, 0, none⟩]⟩,
  -- BST_REC_IDX (R719)
  ⟨0x400910, 1, 4, 1, 4, [⟨11, 0, .rw, 0, none⟩]⟩,
  -- BST_REC_LO (R719)
  ⟨0x400914, 1, 4, 1, 4, [⟨31, 0, .ro, 0, none⟩]⟩,
  -- BST_REC_HI (R719)
  ⟨0x400918, 1, 4, 1, 4, [⟨31, 0, .ro, 0, none⟩]⟩]

/-- The ECC block's registers. -/
def rowsEcc : List RegRow := [
  -- ECC_CTL (R386)
  ⟨0x410000, 1, 4, 1, 4, [⟨31, 24, .rwl, 4, none⟩,
    ⟨23, 16, .rwl, 0x18, some [(1, 168)]⟩,
    ⟨15, 8, .rwl, 0x40, none⟩,
    ⟨4, 4, .rwl, 1, none⟩,
    ⟨3, 3, .rwl, 1, none⟩,
    ⟨1, 1, .rwl, 0, none⟩,
    ⟨0, 0, .w1s, 0, none⟩]⟩,
  -- ECC_SCRUB_STAT (R387)
  ⟨0x410004, 1, 4, 1, 4, [⟨31, 16, .ro, 0, none⟩,
    ⟨15, 15, .w1c, 0, none⟩,
    ⟨12, 12, .ro, 0, none⟩,
    ⟨7, 0, .ro, 0, none⟩]⟩,
  -- ECC_CE_CNT (R388)
  ⟨0x410010, 1, 4, 1, 4, [⟨31, 31, .w1c, 0, none⟩,
    ⟨30, 0, .rc, 0, none⟩]⟩,
  -- ECC_UE_CNT (R388)
  ⟨0x410014, 1, 4, 1, 4, [⟨31, 31, .w1c, 0, none⟩,
    ⟨30, 0, .rc, 0, none⟩]⟩,
  -- ECC_PSN_CNT (R388)
  ⟨0x410018, 1, 4, 1, 4, [⟨31, 31, .w1c, 0, none⟩,
    ⟨30, 0, .rc, 0, none⟩]⟩,
  -- ECC_PROMPT_DROP (R388)
  ⟨0x41001c, 1, 4, 1, 4, [⟨31, 31, .w1c, 0, none⟩,
    ⟨30, 0, .rc, 0, none⟩]⟩,
  -- ECC_LAST_UE_LO (R388)
  ⟨0x410020, 1, 4, 1, 4, [⟨31, 6, .ro, 0, none⟩,
    ⟨5, 4, .ro, 0, none⟩,
    ⟨1, 0, .ro, 0, none⟩]⟩,
  -- ECC_LAST_UE_HI (R388)
  ⟨0x410024, 1, 4, 1, 4, [⟨7, 0, .ro, 0, none⟩]⟩,
  -- ECC_INJ_ALO (R389)
  ⟨0x410030, 1, 4, 1, 4, [⟨31, 6, .rw, 0, none⟩]⟩,
  -- ECC_INJ_AHI (R389)
  ⟨0x410034, 1, 4, 1, 4, [⟨7, 0, .rw, 0, none⟩]⟩,
  -- ECC_INJ_PAT (R389)
  ⟨0x410038, 1, 4, 1, 4, [⟨31, 16, .rw, 0, none⟩,
    ⟨15, 0, .rw, 1, none⟩]⟩,
  -- ECC_INJ_CTL (R389)
  ⟨0x41003c, 1, 4, 1, 4, [⟨31, 31, .wo, 0, none⟩,
    ⟨30, 30, .ro, 0, none⟩,
    ⟨29, 27, .rw, 1, none⟩,
    ⟨26, 21, .rw, 0x3f, none⟩,
    ⟨20, 15, .rw, 0, none⟩,
    ⟨14, 0, .rw, 1, some [(1, 32767)]⟩]⟩]

/-- Every register of R739. -/
def all : List RegRow :=
  rowsGlb ++ rowsClk ++ rowsPwr ++ rowsThm ++ rowsOtp ++ rowsNvm ++ rowsFlt ++ rowsObs ++ rowsSec0 ++ rowsSec1 ++ rowsReg ++ rowsRgn ++ rowsPort0 ++ rowsPort1 ++ rowsPair ++ rowsPc ++ rowsCg ++ rowsCrm ++ rowsQue ++ rowsTbl ++ rowsCnt ++ rowsBst ++ rowsEcc

/-- The rows of the blocks that address `a` may lie in (R738). -/
def near (a : Nat) : List RegRow :=
  if a < 0x10000 then rowsGlb
  else if a < 0x20000 then rowsClk
  else if a < 0x30000 then rowsPwr
  else if a < 0x40000 then rowsThm
  else if a < 0x50000 then rowsOtp
  else if a < 0x60000 then rowsNvm
  else if a < 0x70000 then rowsFlt
  else if a < 0x80000 then rowsObs
  else if a < 0x90000 then rowsSec0 ++ rowsSec1
  else if a < 0xa0000 then rowsReg
  else if a < 0x100000 then rowsRgn
  else if a < 0x200000 then rowsPort0 ++ rowsPort1 ++ rowsPair
  else if a < 0x280000 then rowsPc
  else if a < 0x300000 then rowsCg
  else if a < 0x310000 then rowsCrm
  else if a < 0x320000 then rowsQue
  else if a < 0x330000 then rowsTbl
  else if a < 0x400000 then rowsCnt
  else if a < 0x410000 then rowsBst
  else rowsEcc

end RegTable

end Sys2Proof.Machine
end

