-- ==== Sys2Proof/Machine/Tab.lean ====
section
/-! DEFINITION. Sparse tables: a list of (key, entry) pairs in one canonical form, keys strictly
rising and no entry equal to what an unlisted key reads as. Registers, memory and the records of
the part's many units are held so, so that equal contents are equal data. -/

namespace Sys2Proof.Machine

/-- A sparse table from numbers to entries. -/
abbrev Tab (α : Type) := List (Nat × α)

namespace Tab

variable {α : Type}

/-- What key `k` reads as; `d k` where the table lists no entry. -/
def get (d : Nat → α) : Tab α → Nat → α
  | [], k => d k
  | (i, v) :: t, k => if i = k then v else get d t k

/-- The table with key `k` taken out. -/
def drop : Tab α → Nat → Tab α
  | [], _ => []
  | (i, v) :: t, k => if i = k then drop t k else (i, v) :: drop t k

/-- The table with `(k, v)` entered in order. -/
def insert : Tab α → Nat → α → Tab α
  | [], k, v => [(k, v)]
  | (i, w) :: t, k, v =>
    if i = k then (k, v) :: t else if k < i then (k, v) :: (i, w) :: t else (i, w) :: insert t k v

/-- Key `k` made to read as `v`: the entry is taken out where `v` is what an unlisted key reads as. -/
def put [DecidableEq α] (d : Nat → α) (t : Tab α) (k : Nat) (v : α) : Tab α :=
  if v = d k then drop t k else insert t k v

/-- Every key of the table lies above `b`. -/
def above (b : Nat) (t : Tab α) : Bool := t.all fun e => b < e.1

/-- The canonical form. -/
def wf [DecidableEq α] (d : Nat → α) : Tab α → Bool
  | [] => true
  | (i, v) :: t => above i t && (v ≠ d i) && wf d t

end Tab

end Sys2Proof.Machine
end

