-- ==== Sys2Proof/Machine/State.lean ====
section
/-! DEFINITION. The state of the part: every register, table, queue, buffer and pin the spec gives
it, as plain data, and the commands that wait. -/

namespace Sys2Proof.Machine

/-- The identity of the part (R1, R4): stepping letter and digit, grade, layer groups. -/
structure Part where
  stepMaj : Nat
  stepMin : Nat
  grade : Nat
  lgrp : Nat
  deriving DecidableEq, Repr

/-- Output and input pins (R62, R64, R66, R77). ALERT_N is low while the sideband queue holds a
message (R686), so it has no field of its own. -/
structure Pins where
  pwrOk : Bool
  resetN : Bool
  /-- A RESET_N release that came before PWR_OK and has not taken effect (R67). -/
  relPending : Bool
  thermtripLow : Bool
  coreVsel : Nat
  pwrEnCore : Bool
  pwrEnDram : Bool
  /-- The lane transmitters are in electrical idle or off, whatever each port asks (R77, R96). -/
  lanesIdle : Bool
  /-- SB_ADDR straps sampled at release (R76). -/
  sbAddr : Nat
  /-- Dynamic address assigned by SETDASA or ENTDAA (R76). -/
  sbDyn : Option Nat
  deriving DecidableEq, Repr

/-- Device time, the oscillator and the clock sources (chapter 04). -/
structure Clk where
  /-- Device time in ticks, modulo 2^64 (R102). -/
  time : Nat
  /-- Upper half latched by a read of CLK_TIME_LO (R103). -/
  timeShadow : Nat
  /-- Ticks counted on the oscillator since the last resync (R104). -/
  estTicks : Nat
  oscRunning : Bool
  /-- Consecutive windows in agreement, out of range, and without an edge (R88). -/
  agreeWin : Nat
  outWin : Nat
  noEdgeWin : Nat
  /-- Temperature correction in force, in 1/80 of 0.01% (R91). -/
  tempCorr : Int
  /-- The reading of TS-B56, the sensor nearest Samovar, last taken before or while VDD_CORE is off (R91, R617). -/
  aoTemp : Int
  /-- The root runs, locked or in holdover (R84, R96). -/
  rootRunning : Bool
  /-- Device time at which REFCLK was declared lost (R105). -/
  lossTime : Nat
  /-- A source switch passing the multiplexer (R95): the source it goes to. -/
  mcSwitch : Option Nat
  spiSwitch : Option Nat
  /-- Ports and channel groups asked to quiesce, and those whose gate is closed (R100). -/
  portAsk : List Nat
  cgAsk : List Nat
  portClosed : List Nat
  cgClosed : List Nat
  deriving DecidableEq, Repr

/-- A fault message (R678). `test` marks a test message (R697). -/
structure Msg where
  source : Nat
  kind : Nat
  sev : Nat
  addr : Nat
  time : Nat
  injected : Bool := false
  replayed : Bool := false
  overflow : Bool := false
  seq : Nat := 0
  test : Bool := false
  deriving DecidableEq, Repr

/-- A mode request (R27): its precedence number of R28, the mode and the level it asks for, and
the message that caused it (R699). -/
structure ModeReq where
  prec : Nat
  mode : Nat
  level : Nat
  cause : Option Msg := none
  deriving DecidableEq, Repr

/-- A transition of the mode sequencer in progress (R40). `req` is the request it serves. -/
structure Trans where
  goal : Nat
  req : ModeReq
  deriving DecidableEq, Repr

/-- A level change in progress (R38, R63): the target, the next channel group to switch, whether
VDD_CORE is still rising, and the request it serves. -/
structure LvlChange where
  target : Nat
  nextCg : Nat
  waitV : Bool
  req : ModeReq
  deriving DecidableEq, Repr

/-- The mode sequencer (R27). The mode and level themselves stand in GLB_MODE (R50). -/
structure Seq where
  reqs : List ModeReq
  trans : Option Trans
  lvl : Option LvlChange
  /-- Mode and level before DRAIN (R40). -/
  preDrainMode : Nat
  preDrainLevel : Nat
  /-- The sleep mode a DRAIN leads to; none when discarded (R42). -/
  sleepTarget : Option Nat
  /-- The mode THERMAL-HOLD returns to (R40). -/
  preHold : Nat
  /-- The management controller is restarting (R30). -/
  mcRestart : Bool
  deriving DecidableEq, Repr

/-- An open action entry (R689): its slot, the message that opened it, the fence target, the last
SEQ that joined, and the device time at which its grace timer reaches zero. -/
structure Act where
  slot : Nat
  msg : Msg
  target : Option Nat
  lastSeq : Nat
  expires : Nat
  deriving DecidableEq, Repr

/-- The fault collector (chapter 23). -/
structure Flt where
  /-- Messages raised and not yet accepted, oldest first (R690). -/
  outbox : List Msg
  /-- Sources whose next message carries OVERFLOW (R690). -/
  lostSrc : List Nat
  /-- The log ring: entry i holds the message that last took index i (R687). -/
  log : Tab (Option Msg)
  portQ : Tab (List Msg)
  sbQ : List Msg
  fwQ : List Msg
  acts : List Act
  /-- A DEGRADED request held until SERVICE, and its mark (R694). -/
  degHeld : Bool
  degMarked : Bool
  frozen : Bool
  /-- Device time of the last FLT_OVERFLOW of each queue, plus 1 (R691). -/
  ovfTime : Tab Nat
  deriving DecidableEq, Repr

/-! ### Requests -/

/-- What is special about a response: the RETRY_LATER of R242, which is never outstanding; an ABORTED of R240 or R247,
which PORTn_ABORTS counts when it is sent (R262). -/
inductive RespKind
  | plain
  | limit
  | aborted
  deriving DecidableEq, Repr

/-- A response message (R268). `port` 0–11 is a host port, 12 the pair link's MRES, 15 the
sideband. -/
structure Resp where
  port : Nat
  op : Nat
  reqId : Nat
  tag : Nat
  status : Nat
  rflags : Nat := 0
  pmask : Nat := 0
  result : Nat := 0
  data : List Byte := []
  kind : RespKind := .plain
  deriving DecidableEq, Repr

/-- Where an accepted request stands: held by a FENCE or by ORDERED (R266, R283), by a region
commit (R306), by a key load (R544), by a role change (R594), in its label's share queue (R524), at
its decoder for want of share-queue room (R526), behind an older request of its port to the same
line, queue, table or set (R272, R440, R469, R491), with accesses in flight, waiting for the
partner's commits (R271), for a bucket lock (R468) or for the AUTH counter's persist write (R562), a
FENCE (R283), or executing at the partner (R583). -/
inductive Stage
  | heldFence | heldOrdered | heldRegion | heldKey | heldRole | heldShare | heldRoom | heldBehind
  | running | heldMirror | heldLock | heldPersist | fence | forwarded
  deriving DecidableEq, Repr

/-- One line delivered to a request: its place in the request, its 64 bytes, and poison. -/
structure LineIn where
  idx : Nat
  data : List Byte
  poison : Bool
  deriving DecidableEq, Repr

/-- An accepted, unanswered request (R242). `id` rises in decode order. -/
structure Txn where
  id : Nat
  port : Nat
  op : Nat
  head : ReqHead
  payload : List Byte
  stage : Stage
  /-- The label charged (R267). -/
  label : Nat
  /-- The request was decoded with every check of R270 up to step 8 passed. -/
  passed : Bool := false
  charge : Nat := 0
  /-- Line accesses not yet answered, and mirrored commits awaited (R271). -/
  left : Nat := 0
  mirrorLeft : Nat := 0
  lines : List LineIn := []
  poison : Bool := false
  result : Nat := 0
  rflags : Nat := 0
  status : Nat := 0
  urg : Nat := 0
  /-- Device time at which step 8 was passed, for age and latency (R528, R530). -/
  t8 : Nat := 0
  /-- Exchange number of a MEXEC executed for the partner (R583); `port` is then 12, or 13 once the
  partner is lost and its MRES is to be discarded (R587). -/
  xid : Nat := 0
  /-- A REFCLK loss caught the request unanswered (R98). -/
  lost : Bool := false
  deriving DecidableEq, Repr

/-- The sideband's one message slot (R292). -/
inductive SbSlot
  | free | forming | formed (r : Resp)
  deriving DecidableEq, Repr

/-- A message of VC 0 that waits behind a held decoder (R526), and whether it was received in a mode that admits it
(R49). -/
structure InMsg where
  op : Nat
  head : ReqHead
  data : List Byte
  early : Bool
  deriving DecidableEq, Repr

/-- The request decoders. -/
structure Req where
  txns : List Txn
  /-- Responses formed and not yet framed, in completion order (R276). -/
  out : List Resp
  nextId : Nat
  sb : SbSlot
  /-- Messages of VC 0 that wait behind a held decoder (R526), by port, oldest first. -/
  inbox : Tab (List InMsg)
  /-- A region commit in progress that holds requests (R306): the region, the old span's and new span's
  (window, base, size), and the staged words B to T as they stood at GO. -/
  commit : Option (Nat × (Nat × Nat × Nat) × (Nat × Nat × Nat) × List Word)
  /-- The first request number decoded after that commit's hold began (R306). -/
  commitId : Nat
  deriving DecidableEq, Repr

/-! ### Line accesses and the channel controllers -/

/-- What a merge does to its line (R327): WRP or ATOM. -/
inductive MergeOp
  | wrp (mask : Nat) (data : List Byte)
  | atom (op : Nat) (signed : Bool) (off : Nat) (a b : Nat)
  deriving DecidableEq, Repr

inductive AccKind
  | read | write | merge
  deriving DecidableEq, Repr

/-- A line access on its way to or inside a target (R318). `data` of a write is what memory will
hold (the ciphertext in a keyed region). `ini` is the fabric's initiator: 0–11 ports, 12 the pair
link, 13 queue, 14 table, 15 counter engine, 16 maintenance (R14). -/
structure Acc where
  seq : Nat
  txn : Nat
  ini : Nat
  kind : AccKind
  line : Nat
  idx : Nat := 0
  data : List Byte := []
  poison : Bool := false
  mop : Option MergeOp := none
  urg : Nat := 0
  /-- A write forwarded by the partner, which ages against the PAIR target (R516). -/
  ages : Bool := false
  noalloc : Bool := false
  /-- Bytes written of a Crema line (R398). -/
  mask : Nat := 0
  /-- Device time of entry into the controller (R330). -/
  born : Nat := 0
  /-- The line's tag entry as it stood before a younger write replaced it (R272, R550): some none, it was lost. -/
  tag : Option (Option (List Byte)) := none
  deriving DecidableEq, Repr

/-- Bank state (R317, R325, R336, R339): open row, refresh debt, refresh counter, recovering, in-order
mode, column commands served since the activate, activation table (physical row, count), physical rows whose targeted
refresh is due, targeted refreshes in the epoch, and the physical rows that the last one restored (R340). -/
structure Bank where
  openRow : Option Nat := none
  debt : Int := 0
  refRow : Nat := 0
  recovering : Bool := false
  inOrder : Bool := false
  hits : Nat := 0
  acts : List (Nat × Nat) := []
  trrDue : List Nat := []
  trrN : Nat := 0
  trrRows : List Nat := []
  deriving DecidableEq, Repr

/-- A pseudo-channel controller (R317). `issued` lists the accesses whose read command has issued
and whose data has not returned, oldest first; `wissued` the same of writes; `burst3` the write bursts
issued while a read of urgency 3 waits (R329). -/
structure Pc where
  rq : List Acc := []
  wq : List Acc := []
  mb : List Acc := []
  issued : List Nat := []
  wissued : List Nat := []
  wmode : Bool := false
  selfRef : Bool := false
  burst3 : Nat := 0
  banks : Tab Bank := []
  /-- Scrub walk: next place of the walk, reads owed, places skipped while their row was in remap transit (R372, R374). -/
  scrubPos : Nat := 0
  owed : Nat := 0
  skipped : List Nat := []
  deriving DecidableEq, Repr

/-- A row remap (R381): target, spare, the 16 lines (data, poison) once read, and whose it is: 0 house
firmware's or BST_REP_CMD's, 1 a ROW_TEST's move to the spare, 2 its move back (R711). -/
structure Remap where
  pc : Nat
  bank : Nat
  row : Nat
  spare : Nat
  lines : Option (List (List Byte × Bool))
  bist : Nat := 0
  deriving DecidableEq, Repr

/-- A channel group (R317): recent scheduler disagreements, blocked fence clears, consecutive CA failures of a bank's
command by 64 * pseudo-channel + bank, a drain in progress, prompt-scrub queue, row table, remap buffer, rate limits. -/
structure Cg where
  mism : List Nat := []
  parityA : Bool := false
  parityB : Bool := false
  schedFail : Bool := false
  caFail : Bool := false
  caRun : Tab Nat := []
  draining : Bool := false
  prompt : List Nat := []
  /-- (pc, bank, row, corrections) of R380. -/
  rowTab : List (Nat × Nat × Nat × Nat) := []
  remap : Option Remap := none
  ceTime : Nat := 0
  tagTime : Nat := 0
  deriving DecidableEq, Repr

/-- The repair entry kinds of R377 in force. -/
structure Repair where
  kind : Nat
  pc : Nat
  bank : Nat
  target : Nat
  spare : Nat
  deriving DecidableEq, Repr

/-- Repair, scrub and pin records (chapter 12). -/
structure Ecc where
  repairs : List Repair
  retired : List Repair
  soft : List Nat
  ramKept : List Nat
  /-- Corrections of the running 1 ms window by 36 * pc + symbol, and positions reported (R384). -/
  pinCnt : Tab Nat
  pinRaised : List Nat
  passStart : Nat
  /-- Pseudo-channels whose walk of this pass is done (R372). -/
  passDone : List Nat
  deriving DecidableEq, Repr

/-- The Crema tier (chapter 13): the stored 13-bit words by internal offset, banks fenced under
R410, spare lines, patrol places, window counts, and rate limits. -/
structure Crm where
  store : Tab (BitVec 13)
  fence410 : List Nat
  spares : Tab Nat
  patrolPos : Tab Nat
  ceWin : Tab Nat
  suspect : List Nat
  ceTime : Tab Nat
  late : List Nat
  /-- Lines to patrol within 1 µs (R412). -/
  prompt : List Nat
  deriving DecidableEq, Repr

/-! ### The crypto unit -/

/-- A tag-cache line (R551): its 64 bytes, dirty, lost. -/
structure TagLine where
  data : List Byte
  dirty : Bool
  lost : Bool
  deriving DecidableEq, Repr

/-- The crypto unit (chapter 18): key slots, the management key, written key words and blob words,
a load in progress (slot, 1 LOAD or 2 CLEAR), the tag cache, rate limits, AUTH counters LAST and P,
and a report being formed. -/
structure Sec where
  slots : Tab (Option Nat)
  mkey : Option Nat
  kldWords : Tab Word
  mkWords : Tab Word
  load : Option (Nat × Nat)
  tagCache : Tab (Option TagLine)
  last : Nat
  p : Nat
  tcTime : Nat
  authTime : Nat
  attest : Bool
  deriving DecidableEq, Repr

/-! ### The regulator -/

/-- The regulator (chapter 17), per label: bytes counted in the window, G′ of the window, held
requests (id, charge), deficit; the slice and its share pool in 1/75 byte, the GUAR bytes of the
slice, K in 1/1200 byte per ns as last computed (R520), rate limits, a label commit waiting for
its window start (label, CFG word, GUAR word), whether K has been computed at all (R536), and the configuration
(WEIGHT, WIN, G) under which a disabled label's held requests are released (R527). -/
structure Rgl where
  counts : Tab Nat
  gEff : Tab Nat
  shareQ : Tab (List (Nat × Nat))
  deficit : Tab Nat
  slice : Nat
  pool : Int
  guar : Nat
  k : Nat
  defTime : Nat
  defHeld : Bool
  fullTime : Nat
  commit : Option (Nat × Word × Word)
  ran : Bool
  old : Tab (Option (Nat × Nat × Nat))
  deriving DecidableEq, Repr

/-! ### The pair -/

/-- A message on the pair link (R577). -/
inductive PairMsg
  | mwr (xid line : Nat) (keyed poison copy : Bool) (urg label : Nat) (entry data : List Byte)
  | mexec (xid op : Nat) (head : ReqHead) (payload : List Byte)
  | mcmt (xid status : Nat)
  | mres (xid : Nat) (r : Resp)
  | cdelta (csid index dp db : Nat)
  | cset (csid index : Nat) (lost : Bool) (epoch pkts bytes : Nat)
  | cmark (time : Nat)
  | qckpt (qid state pool : Nat) (prot : Bool) (limit cells pkts bytes : Nat)
  | hb (role mode : Nat) (single : Bool) (current : Nat)
  | hello (role mode : Nat) (single : Bool) (current : Nat)
  | leave (mode : Nat)
  | role (role : Nat) (ack : Bool)
  | rsync (code region : Nat)
  deriving DecidableEq, Repr

/-- A resynchronisation (R590–R592). As source: the region being copied, its next line, the regions
still to copy, and whether the counters are still to be sent. As destination: the region being
received, the highest line received (the region's first line before any), and the regions not yet
started. -/
structure Resync where
  outRgn : Option Nat := none
  outNext : Nat := 0
  outTodo : List Nat := []
  outCnt : Bool := false
  inRgn : Option Nat := none
  inPoint : Nat := 0
  inTodo : List Nat := []
  /-- All done was not yet received (R590). -/
  inOpen : Bool := false
  deriving DecidableEq, Repr

/-- The redundant pair (chapter 19): messages waiting on the pair link, pending MWRs (xid, line,
request), pending MEXECs (xid, request), the copy in progress, a role change in progress, what
HELLO told of the partner, and what has been reported once. -/
structure Pair where
  out : List PairMsg
  nextXid : Nat
  pendW : List (Nat × Nat × Nat)
  pendX : List (Nat × Nat)
  resync : Option Resync
  /-- A role change under way (R594): the role this part takes, and whether the partner asked. -/
  roleAsk : Option Nat
  roleFar : Bool
  /-- HELLO sent, and received, since the pair was last apart (R575). -/
  helloSent : Bool
  helloGot : Bool
  /-- MWRs received that wait for a merge's line lock (R327, R579). -/
  waitW : List PairMsg
  /-- Mode last reported by the partner, its SINGLE_WR and CURRENT mask (R575, R586). -/
  farMode : Nat
  farSingle : Bool
  farCurrent : Nat
  /-- Regions DIVERGED (R589). -/
  diverged : Nat
  conflict : Bool
  noShadow : Bool
  mapTime : Nat
  lastMark : Nat
  /-- Queues protected at the previous sweep (R585). -/
  prevProt : List Nat
  authRole : Bool
  deriving DecidableEq, Repr

/-! ### The queue engine -/

/-- A queue's state (R430). STATE: 0 DISABLED, 1 ENABLED, 2 DRAINING, 3 FLUSHING. HEAD and TAIL are
16 * page + offset. `hnext` is the page after the head page when known; `hlost` its lost flag. -/
structure QRec where
  state : Nat := 0
  pool : Nat := 0
  head : Nat := 0
  tail : Nat := 0
  hnext : Option Nat := none
  hlost : Bool := false
  cells : Nat := 0
  bytes : Nat := 0
  pkts : Nat := 0
  limit : Nat := 0
  opn : Bool := false
  inexact : Bool := false
  prot : Bool := false
  deriving DecidableEq, Repr

/-- A pool's free list (R427, R429): its cache, most recently placed first, each index with the place of the Crema
cache it stands at; the next place; the depth of its stack, BUMP, LEAKED, and whether QUE_POOL_LOW is raised. -/
structure QPool where
  cache : List (Nat × Nat) := []
  top : Nat := 0
  depth : Nat := 0
  bump : Nat := 0
  leaked : Nat := 0
  low : Bool := false
  deriving DecidableEq, Repr

/-- A DEQ whose cells are unlinked and whose reads are outstanding (R434): its request, queue,
cells still to read (16 * page + offset), what has been read, and the cells taken. -/
structure DeqOp where
  txn : Nat
  qid : Nat
  pool : Nat
  cells : List Nat
  data : List Byte
  pmask : Nat
  taken : Nat
  aborted : Bool
  /-- The line-0 reads of a DEQ with PKT, done at its queue (R434). -/
  first : List (List Byte × Bool) := []
  /-- The queue's counts have been set to 0 since: nothing is left to subtract. -/
  gone : Bool := false
  deriving DecidableEq, Repr

/-- A drain-table entry (R437): queue, timer code, expired. -/
structure DrainEnt where
  qid : Nat
  code : Nat
  timedOut : Bool
  deriving DecidableEq, Repr

/-- The queue engine (chapter 14). `freeing` holds pages (pool, page) waiting for their cells'
reads (R426); `saved` the queue state saved on entry to a retain mode (R450). -/
structure Que where
  qs : Tab QRec
  pools : Tab QPool
  drains : List DrainEnt
  deqs : List DeqOp
  freeing : List (Nat × Nat)
  saved : Option (Tab QRec × Tab QPool)
  deriving DecidableEq, Repr

/-! ### The table engine -/

/-- A displacement in progress (R465): its request and table, the moves still to make in order, each
(source bucket, source way, destination bucket, destination way, the entry's FLAGS, FP and way bytes
as found), moves made, and whether the search has restarted. -/
structure Disp where
  txn : Nat
  tid : Nat
  moves : List (Nat × Nat × Nat × Nat × List Byte)
  made : Nat
  restarted : Bool
  deriving DecidableEq, Repr

/-- The table engine (chapter 15): signed counts of entries (R481), tables above LOAD_TH and tables
being emptied, rate limits of TBL_BUCKET_POISON, displacements, host line accesses that wait for a
bucket lock (R470), and the command in progress: OP, TID, copy point, RGN and OFFSET of a MOVE's
destination (R474, R475). -/
structure Tbl where
  count : Tab Int
  high : List Nat
  emptying : List Nat
  psnTime : Tab Nat
  disp : List Disp
  waiting : List Acc
  cmd : Option (Nat × Nat × Nat × Nat × Nat)
  deriving DecidableEq, Repr

/-! ### The counter engine -/

/-- A rebuild in progress (R498, R499): its request, set and counter. The scan's reads all happen at
its end, so that every index lies at or above the scan position until then (assumption 22). -/
structure Rebuild where
  txn : Nat
  set : Nat
  ctr : Nat
  deriving DecidableEq, Repr

/-- What waits for a fenced record (R502): a delta, a set-value of the partner (R503), or the re-base of a
counter whose slot deltas were lost (R500). -/
inductive Held
  | delta (dp db : Nat)
  | value (lost : Bool) (epoch pkts bytes : Nat)
  | slotLost
  deriving DecidableEq, Repr

/-- The counter engine (chapter 16): the ancestry cache by (set, counter) (R487), what is in transit to a
fenced record (set, counter, what) (R502), the rebuild, the slots saved on retain entry (R506), and a
sweep that starts when the late one ends (R504). -/
structure Cnt where
  cache : Tab (Option (Nat × Nat × Nat))
  transit : List (Nat × Nat × Held)
  rebuild : Option Rebuild
  saved : Option (Tab (BitVec 13))
  sweepDue : Bool
  deriving DecidableEq, Repr

/-! ### Ports -/

/-- A receiver lane (R186, R196, R198): CTLE code and taps h1 to h16 with their trained values, the tap
at its window edge, the last LM0 SEED and the descrambler's state, LANE codes of the last LM0s, the last STATE and the
frames in a row that showed it, commas missed in a row (R188), PRBS31 errors of this millisecond and of the last ones,
and milliseconds in the spare role. -/
structure LaneRx where
  ctle : Nat := 0
  ctleTrn : Nat := 0
  taps : List Int := []
  tapsTrn : List Int := []
  clamp : Option Nat := none
  seed : Option Nat := none
  descr : Nat := 0
  codes : List Nat := []
  st : Nat := 0
  stN : Nat := 0
  miss : Nat := 0
  errs : List Nat := []
  spareMs : Nat := 0
  deriving DecidableEq, Repr

/-- A port or the pair link: its lanes (R176–R203) and its link layer (R220–R254). -/
structure Link where
  lanes : Tab LaneRx := []
  /-- Scrambler state of logical lane k, and of the spare-role lane under key 15 (R181). -/
  scr : Tab Nat := []
  /-- Number of the frame being transmitted (R183). -/
  frame : Nat := 0
  /-- Physical transmit lane in spare role (R176). -/
  txSpare : Nat := 8
  /-- REQ_LANE sent, and whether software asked for it (R199). -/
  reqLane : Option Nat := none
  reqSw : Bool := false
  /-- Announced swap of this transmitter (R200), and requests that wait: the far side's, software's. -/
  txAnn : Option (Nat × Nat) := none
  farReq : Option Nat := none
  swReq : Option Nat := none
  /-- Swap announced by the far transmitter (R201). -/
  farAnn : Option (Nat × Nat) := none
  /-- FRAME and RX_FLAG last received (R183–R185). -/
  farFrame : Nat := 0
  farFlag : Nat := 0
  /-- The far end stands by: STATE standby on every logical lane in 2 consecutive frames (R194). -/
  farStand : Bool := false
  /-- Shift register of the pattern generator of each physical lane (R204). -/
  gens : Tab Nat := []
  /-- Flits that fill the frame being transmitted, newest first; on the pair link the two frames (R223). -/
  txFlits : List Flit := []
  /-- Flits received since a comma was missed (R188). -/
  heldIn : List Flit := []
  /-- The INIT exchange (R245): a good INIT received, one with SEEN sent, the far INIT, refused once. -/
  seen : Bool := false
  sentSeen : Bool := false
  farInit : Option Flit := none
  initFail : Bool := false
  /-- Unacknowledged flits, oldest first, the one to be resent next, and the last SEQ covered (R234). -/
  replay : List Flit := []
  resend : Option Nat := none
  covered : Nat := 0xFFF
  /-- Responses and events in unacknowledged flits, by SEQ (R242, R247). -/
  unresp : List (Nat × Resp) := []
  unev : List (Nat × Msg) := []
  /-- The SEQ at which the replay in progress, or the last one, started (R234). -/
  rstart : Option Nat := none
  nak : Bool := false
  nakDue : Bool := false
  /-- The message being received (R228): its VC, slots so far, slots to come. -/
  rxMsg : Option (Nat × List Nat × Nat) := none
  /-- Slots of messages begun and not yet sent: code, data, and the response or event they end. -/
  txSlots : List (Nat × Nat × Option Resp × Option Msg) := []
  /-- Slots freed, reported and last far CR_CNT, per VC (R237). -/
  freed : Tab Nat := []
  reported : Tab Nat := []
  farCr : Tab Nat := []
  /-- Open transmit run, pending receive run, consecutive mismatches (R252, R253). -/
  txRun : List Flit := []
  rxRun : List Flit := []
  mism : Nat := 0
  /-- The next phase's key is asked for, or ready (R254). -/
  keyAsked : Bool := false
  keyReady : Bool := false
  stall : Bool := false
  /-- FCNT 0xFFFF_FFFF has been used under the current transmit key (R254). -/
  wrap : Bool := false
  /-- Flits sent since the last HOLD flit (R248). -/
  holdN : Nat := 0
  /-- The flit last handed to the lanes. -/
  sent : Option Flit := none
  /-- ABORTED responses that go first after a reset (R247). -/
  aborted : List Resp := []
  /-- Whether each of the last heads sent was management or event (R238). -/
  heads : List Bool := []
  /-- Mode code of the last HOLD flit received (R248). -/
  holdMode : Option Nat := none
  /-- Pattern bits inverted by injection, by physical lane (R206). -/
  inj : Tab Nat := []
  /-- Headers of the last flits received and sent, newest first (R724). -/
  rxHdrs : List Nat := []
  txHdrs : List Nat := []
  deriving DecidableEq, Repr

/-! ### Fuses, flash and boot -/

/-- An OTP word (R149, R150): its data, and how its stored bits decode: 0 clean, 1 with one corrected
bit, 2 uncorrectable. -/
structure OtpWord where
  data : Nat := 0
  ecc : Nat := 0
  deriving DecidableEq, Repr

/-- The OTP array and controller (chapter 06): the array, the values latched at release, words
corrected at boot and programmed in this run, the operation in progress (word, data), a re-read pass that waits for it
and one that runs (R163), the band of TS-B17, the trims read at release (CLK_OSC.TRIM and the words of CLK_OSC_TC), and
what JTAG has entered (R155, R170). -/
structure Otp where
  words : Tab OtpWord
  latch : Tab Nat
  corr : List Nat
  done : List Nat
  prog : Option (Nat × Nat)
  rereadDue : Bool
  rereadRun : Bool
  band : Nat
  trims : List Nat
  jtag : Nat
  scan : Bool
  debug : Bool
  deriving DecidableEq, Repr

/-- A flash record write in progress (R126): slot, SEQ, erase count, payload, sectors still to erase,
pages still to program (flash offset and bytes), and whether it only erases ahead for the next persist
record. -/
structure RecWrite where
  slot : Nat
  seq : Nat
  erases : Nat
  payload : List Byte
  sectors : List Nat
  pages : List (Nat × List Byte)
  pre : Bool
  deriving DecidableEq, Repr

/-- An update session (R142): interface, slot written, SEQ and erase count, payload length, bytes
received, bytes buffered, sectors still to erase, journal BEGIN appended, FINISH running, header programming. -/
structure Session where
  src : Nat
  slot : Nat
  seq : Nat
  erases : Nat
  len : Nat
  off : Nat
  buf : List Byte
  sectors : List Nat
  begun : Bool
  fin : Bool
  hdr : Bool
  deriving DecidableEq, Repr

/-- Flash and its records (chapter 05): the flash bytes that do not read 0xFF, a record write, an update
session, the erase counts of journal halves whose header is not yet programmed, house firmware's copy of the persist
payload (R564), pairs whose record house firmware owes, and the P and outcome of the last persist record. -/
structure Nvm where
  flash : Tab Byte
  wr : Option RecWrite
  upd : Option Session
  erases : Tab Nat
  /-- Payloads kept in RAM after a pair stopped, by pair (R130). -/
  ram : Tab (List Byte)
  persist : List Byte
  owed : List Nat
  stored : Option (Nat × Bool)
  deriving DecidableEq, Repr

/-- The boot (R113, R137, R140): the ROM runs, the boot halt, SFDP read, house firmware running, the firmware and
image slots shut out (R124), the image's slot, the section and record reached, a waiting POLL, the calibration slot
chosen, and the image applied. -/
structure Boot where
  rom : Bool
  halt : Bool
  sfdp : Bool
  fwRun : Bool
  fwBad : List Nat
  imgBad : List Nat
  /-- Slot chosen for firmware and for the image, to be verified. -/
  fwSel : Option Nat
  imgSel : Option Nat
  /-- R133 applied to the firmware, and to the image, in use. -/
  fwBypass : Bool
  imgBypass : Bool
  /-- Of the firmware in use: whether its signature holds under vendor keys 0 and 1, and its SVN (R131, R144). -/
  fwSig : (Bool × Bool) × Nat
  img : Option Nat
  sect : Nat
  record : Nat
  poll : Bool
  cal : Option Nat
  /-- The repairs and the calibration record are switched in (R378, R668). -/
  calUsed : Bool
  applied : Bool
  deriving DecidableEq, Repr

/-! ### Kettle, power states, calibration and self-test -/

/-- A thermal sensor (R605–R609), in units of 0.125 °C: last passing sample and its device time, last
code as converted, whether a sample has completed and whether the latest passed, consecutive failing
samples, FAILED, a substitute in effect, passing samples still wanted after a rearm, whether the rate
check is skipped next, consecutive samples with one code, and the neighbours' largest passing reading
at each of their samples since, each with that run's length then. -/
structure Sns where
  pass : Option Int := none
  passAt : Nat := 0
  raw : Nat := 0
  sampled : Bool := false
  ok : Bool := false
  fails : Nat := 0
  failed : Bool := false
  sub : Bool := false
  rearm : Nat := 0
  fresh : Bool := true
  run : Nat := 0
  hist : List (Nat × Int) := []
  deriving DecidableEq, Repr

/-- Kettle (chapter 20): the sensors; per zone the device time plus 1 of the last change of L and of the
last THROTTLE, and L plus 1 before a suppressed change; refresh bands by layer group (R335); trips that
stand, HOLD_EXIT asked for; zones reported lost; consecutive breaching samples by pair of regions, of
voltage and of temperature; temperatures at each group's last correction, and groups whose CAL_DRIFT is
raised. -/
structure Thm where
  sns : Tab Sns
  zoneTime : Tab Nat
  thrTime : Tab Nat
  thrHeld : Tab Nat
  band : Tab Nat
  tripA : Bool
  tripB : Bool
  exitAsked : Bool
  lost : List Nat
  vBad : Tab Nat
  tBad : Tab Nat
  calRec : Tab (Option Int)
  calRaised : List Nat
  deriving DecidableEq, Repr

/-- Power states and Samovar (chapter 21): held events (R632), expiries held (R695), the sleep entry in
progress (R633) and its steps done (0 none, 1 drained, 2 saved, 3 past PNR), WAKE_N low, the sleep timer
(count and the device time of its load), the save area's register words, the save block that failed,
the core dies' self-refresh rates (0 Base, 1 Double, 2 High), and the device time at which a wake last drove
PWR_EN_CORE and PWR_EN_DRAM high (R70; none: since RESET_N release). -/
structure Pwr where
  held : List Msg
  heldExp : List Nat
  entry : Option ModeReq
  stage : Nat
  wakeLow : Bool
  timer : Option (Nat × Nat)
  save : Option (Tab Word)
  failBlock : Option Nat
  srRate : Tab Nat
  coreRose : Option Nat
  dramRose : Option Nat
  deriving DecidableEq, Repr

/-- A pending calibration command (R664): operation, level, pseudo-channel, lane, value. -/
structure CalCmd where
  op : Nat
  level : Nat
  pc : Nat
  lane : Nat
  value : Nat
  deriving DecidableEq, Repr

/-- Calibration (chapter 22): the setting of lane k at level l of pseudo-channel p under key
264 p + 66 l + k (R669), the pending command of each group, edge-monitor disagreements of the running
1 ms under key 4 (66 p + k) + 2 direction + side (R663), the record loaded (settings and TSV maps),
whether settings have changed since a record was last written, and each port's next logical lane to
re-train (R667). -/
structure Cal where
  set : Tab Nat
  cmd : Tab (Option CalCmd)
  mon : Tab Nat
  loaded : Option (Tab Nat × List Nat)
  dirty : Bool
  turn : Tab Nat
  deriving DecidableEq, Repr

/-- A self-test in progress (R710–R714): operation, target, spare, algorithm bits, elements done, phase
(0 data moving to the spare, 1 elements, 2 data moving back), failing bits recorded and beyond the limit,
started by house firmware, and in a retention pause. For a Crema test `bank` is the Crema bank and `row` its line. -/
structure Test where
  op : Nat
  pc : Nat := 0
  bank : Nat := 0
  row : Nat := 0
  spare : Nat := 0
  alg : Nat := 0
  elem : Nat := 0
  phase : Nat := 1
  recs : Nat := 0
  lost : Nat := 0
  house : Bool := false
  pause : Bool := false
  deriving DecidableEq, Repr

/-- Self-test (chapter 24): tests in progress, the failure records, oldest first, and by channel group the
next spare row of the periodic tests (R715): place 16 * (banks * pc in group + bank) + spare. -/
structure Bst where
  tests : List Test
  recs : List Nat
  house : Tab (Option Nat)
  deriving DecidableEq, Repr

/-- Reasons to stop with a fault. No command raises one: every stop of this model is named in
NOTES.md. Safe: the machine stops. -/
inductive Fault
  /-- An access outside the part's state; raised by no command. Safe. -/
  | noSuchState
  deriving DecidableEq, Repr

/-- Reasons to have no meaning. -/
inductive Refusal
  /-- The command has no meaning yet; raised by its own arm of `exec`. Safe. -/
  | notModelled (mnemonic : String)
  deriving DecidableEq, Repr

/-- Everything a snapshot latches (R723, R724): the whole part but the observation block. -/
structure Chip where
  part : Part
  /-- The registers that differ from the register table's reset value (R11). -/
  regs : Tab Word
  pins : Pins
  clk : Clk
  seq : Seq
  flt : Flt
  req : Req
  /-- Transfers in the handshake fabric, in the order presented (R15). -/
  fabric : List Acc
  nextSeq : Nat
  /-- The initiator that each target granted last (R15, R724): 0–31 channel groups, 32 Crema. -/
  grant : Tab Nat
  pcs : Tab Pc
  cgs : Tab Cg
  ecc : Ecc
  /-- DRAM: the byte at request address A under key A, check byte i of line l under key
  2^40 + 8 l + i (R361). -/
  dram : List Host.Cell
  crm : Crm
  sec : Sec
  rgl : Rgl
  que : Que
  tbl : Tbl
  cnt : Cnt
  pair : Pair
  links : Tab Link
  otp : Otp
  nvm : Nvm
  boot : Boot
  thm : Thm
  pwr : Pwr
  cal : Cal
  bst : Bst
  /-- The number of free values drawn so far: the model's own field, not the spec's. -/
  draws : Nat
  deriving DecidableEq, Repr

/-- The observation block (chapter 25): the held snapshot, the device time plus 1 of the last RELEASE (R726), of the last
SNAP_MISSED (R733) and of each monitor's last MON_LIMIT (R731). -/
structure Obs where
  snap : Option Chip
  freed : Nat
  missTime : Nat
  limTime : Tab Nat
  deriving DecidableEq, Repr

/-- The register file's arbitration cycle, one tick of the time base (R24): the registers as they stood when it began;
software's writes in it (the address, the highest rank that wrote it, and what a read of it gives in this cycle); and
whether a forced CLK_SRC.SEL lost to a write and is owed again (R25). -/
structure Cycle where
  base : Tab Word
  writes : List (Nat × Nat × Nat)
  srcAgain : Bool
  deriving DecidableEq, Repr

/-- The state of the part, and the commands waiting, first in, first out. -/
structure State extends Chip where
  obs : Obs
  cyc : Cycle
  pending : List Instr
  deriving DecidableEq, Repr

/-! ### The state right after reset -/

def Seq.reset : Seq :=
  { reqs := [], trans := none, lvl := none, preDrainMode := 0, preDrainLevel := 0, sleepTarget := none,
    preHold := 0, mcRestart := false }

def Flt.reset : Flt :=
  { outbox := [], lostSrc := [], log := [], portQ := [], sbQ := [], fwQ := [], acts := [], degHeld := false,
    degMarked := false, frozen := false, ovfTime := [] }

def Req.reset : Req := { txns := [], out := [], nextId := 1, sb := .free, inbox := [], commit := none, commitId := 0 }

def Ecc.reset : Ecc :=
  { repairs := [], retired := [], soft := [], ramKept := [], pinCnt := [], pinRaised := [], passStart := 0, passDone := [] }

def Crm.reset : Crm :=
  { store := [], fence410 := [], spares := [], patrolPos := [], ceWin := [], suspect := [], ceTime := [], late := [],
    prompt := [] }

def Sec.reset : Sec :=
  { slots := [], mkey := none, kldWords := [], mkWords := [], load := none, tagCache := [], last := 0, p := 0,
    tcTime := 0, authTime := 0, attest := false }

def Rgl.reset : Rgl :=
  { counts := [], gEff := [], shareQ := [], deficit := [], slice := 0, pool := 0, guar := 0, k := 0, defTime := 0,
    defHeld := false, fullTime := 0, commit := none, ran := false, old := [] }

def Que.reset : Que := { qs := [], pools := [], drains := [], deqs := [], freeing := [], saved := none }

def Tbl.reset : Tbl :=
  { count := [], high := [], emptying := [], psnTime := [], disp := [], waiting := [], cmd := none }

def Cnt.reset : Cnt := { cache := [], transit := [], rebuild := none, saved := none, sweepDue := false }

def Pair.reset : Pair :=
  { out := [], nextXid := 0, pendW := [], pendX := [], resync := none, roleAsk := none, roleFar := false,
    helloSent := false, helloGot := false, waitW := [], farMode := 0, farSingle := false, farCurrent := 0, diverged := 0,
    conflict := false, noShadow := false, mapTime := 0, lastMark := 0, prevProt := [], authRole := false }

def Boot.reset : Boot :=
  { rom := false, halt := false, sfdp := false, fwRun := false, fwBad := [], imgBad := [], fwSel := none, imgSel := none,
    fwBypass := false, imgBypass := false, fwSig := ((false, false), 0), img := none, sect := 0, record := 0,
    poll := false, cal := none, calUsed := false, applied := false }

def Thm.reset : Thm :=
  { sns := [], zoneTime := [], thrTime := [], thrHeld := [], band := [], tripA := false, tripB := false, exitAsked := false,
    lost := [], vBad := [], tBad := [], calRec := [], calRaised := [] }

def Pwr.reset : Pwr :=
  { held := [], heldExp := [], entry := none, stage := 0, wakeLow := false, timer := none, save := none,
    failBlock := none, srRate := [], coreRose := none, dramRose := none }

def Cal.reset : Cal := { set := [], cmd := [], mon := [], loaded := none, dirty := false, turn := [] }

def Nvm.reset : Nvm :=
  { flash := [], wr := none, upd := none, erases := [], ram := [], persist := List.replicate 128 0, owed := [], stored := none }

def Otp.reset : Otp :=
  { words := [], latch := [], corr := [], done := [], prog := none, rereadDue := false, rereadRun := false, band := 0,
    trims := [], jtag := 0, scan := false, debug := false }

def Clk.reset : Clk :=
  { time := 0, timeShadow := 0, estTicks := 0, oscRunning := false, agreeWin := 0, outWin := 0, noEdgeWin := 0, tempCorr := 0,
    aoTemp := 0, rootRunning := false, lossTime := 0, mcSwitch := none, spiSwitch := none, portAsk := [], cgAsk := [], portClosed := [],
    cgClosed := [] }

/-- The pins with RESET_N released, as R66 and R77 leave them. -/
def Pins.reset : Pins :=
  { pwrOk := true, resetN := true, relPending := false, thermtripLow := false, coreVsel := 3, pwrEnCore := true,
    pwrEnDram := true, lanesIdle := false, sbAddr := 0, sbDyn := none }

def Bst.reset : Bst := { tests := [], recs := [], house := [] }

/-- GLB_ID of a part (R4). -/
def Part.id (p : Part) : Word :=
  BitVec.ofNat 32 (0x6A + 16 * p.lgrp * 2 ^ 8 + p.lgrp * 2 ^ 16 + p.grade * 2 ^ 20 + p.stepMin * 2 ^ 24 + p.stepMaj * 2 ^ 28)

/-- A part with every block at its reset state, and blank fuses and flash. -/
def Chip.fresh (p : Part) : Chip :=
  { part := p, regs := [(Ra.GLB_ID, p.id)], pins := Pins.reset, clk := Clk.reset, seq := Seq.reset, flt := Flt.reset,
    req := Req.reset, fabric := [], nextSeq := 0, grant := [], pcs := [], cgs := [], ecc := Ecc.reset, dram := [],
    crm := Crm.reset, sec := Sec.reset, rgl := Rgl.reset, que := Que.reset, tbl := Tbl.reset, cnt := Cnt.reset,
    pair := Pair.reset, links := [], otp := Otp.reset, nvm := Nvm.reset, boot := Boot.reset, thm := Thm.reset,
    pwr := Pwr.reset, cal := Cal.reset, bst := Bst.reset, draws := 0 }

def Obs.reset : Obs := { snap := none, freed := 0, missTime := 0, limTime := [] }

/-- The part right after RESET_N release with blank fuses and flash: an AMY6416-N of stepping B0, in BOOT (R4, R50). OTP_LC
and OTP_TRIPS stand as the boot read of blank words leaves them (R153, R155, R160); the session values of R556, which are
random, stand at 0 (assumption 5). -/
def State.reset : State :=
  let c := Chip.fresh { stepMaj := 1, stepMin := 0, grade := 0, lgrp := 4 }
  let regs := c.regs ++ [(Ra.OTP_LC, 0x400), (Ra.OTP_TRIPS, 0x695A)]
  { c with
    regs
    obs := Obs.reset
    cyc := { base := regs, writes := [], srcAgain := false }
    pending := [] }

end Sys2Proof.Machine
end

