-- ==== Sys2Proof/Machine/Ops.lean ====
section
/-! DEFINITION. The named operations over the register file (R10–R12, R23–R25), the raising of
fault messages (R678–R680, R690), mode requests (R27) and free values. -/

namespace Sys2Proof.Machine

/-! ### The register table -/

/-- The address lies in this row; the indices it names. -/
def RegRow.index (r : RegRow) (a : Nat) : Option (Nat × Nat) :=
  let x := a - r.base
  let y := x % r.stride1
  if r.base ≤ a ∧ x / r.stride1 < r.count1 ∧ y / r.stride2 < r.count2 ∧ y % r.stride2 = 0
  then some (x / r.stride1, y / r.stride2) else none

/-- The row of the register at address `a` (R739); none names no register (R738). -/
def regRow (a : Nat) : Option RegRow := (RegTable.near a).find? fun r => (r.index a).isSome

/-- The block ranges of R738. -/
def inBlock (a : Nat) : Bool :=
  let a := a % 0x1000000
  decide (a < 0xB0000) || (decide (0x100000 ≤ a) && decide (a < 0x10D000)) ||
  (decide (0x200000 ≤ a) && decide (a < 0x220000)) || (decide (0x280000 ≤ a) && decide (a < 0x282000)) ||
  (decide (0x300000 ≤ a) && decide (a < 0x340000)) || (decide (0x400000 ≤ a) && decide (a < 0x420000))

/-- Default severity of a source: 0 NOTE, 1 CORRECTED, 2 ACTION, 3 FATAL (the owners' event tables:
R48, R70, R105, R145, R171, R207, R257, R311, R352, R385, R416, R451, R478, R509, R535, R568, R597,
R622, R652, R700, R716, R733). -/
def srcSev (n : Nat) : Nat :=
  if n ∈ [13, 19, 47, 144, 157, 239, 246] then 3
  else if n ∈ [40, 136, 152, 235] then 1
  else if 104 ≤ n ∧ n ≤ 135 then 1
  else if 48 ≤ n ∧ n ≤ 99 then (if n % 4 = 1 ∨ n % 4 = 3 then 2 else 0)
  else if n ∈ [3, 7, 12, 15, 17, 21, 22, 35, 41, 43, 101, 102, 137, 138, 140, 153, 154, 171, 172,
    177, 190, 200, 201, 205, 206, 217, 233, 234, 237, 241, 243] then 2
  else 0

/-- Escalation rule of a source: 0 none, 1 fence, 2 DEGRADED, 3 LOCKDOWN (the same tables). -/
def srcEsc (n : Nat) : Nat :=
  if n ∈ [13, 19, 47, 144, 157, 239, 246] then 3
  else if n ∈ [3, 7, 12, 22] then 2
  else if n = 154 ∨ (104 ≤ n ∧ n ≤ 135) then 1
  else 0

/-- Sources whose severity and escalation their owner fixes (R705). -/
def srcFixed (n : Nat) : Bool := n ∈ [19, 47, 144, 157, 239, 248, 249, 250]

/-- The value of the word whose fields hold their reset values (R11). -/
def RegRow.resetWord (r : RegRow) : Nat :=
  r.fields.foldl (fun w f => setBits w f.hi f.lo f.reset) 0

/-- What a register that nothing has changed since RESET_N release holds (R11, R705). -/
def resetWord (a : Nat) : Word :=
  match regRow a with
  | none => 0
  | some r =>
    let w := r.resetWord
    if r.base = Ra.FLT_SRC 0 then
      let n := (a - Ra.FLT_SRC 0) / 4
      BitVec.ofNat 32
        (setBits (setBits (setBits w 31 31 (b2n (srcFixed n))) 30 29 (srcSev n)) 28 27 (srcEsc n))
    else BitVec.ofNat 32 w

/-! ### Hardware access to registers -/

/-- The word that the register at `a` holds. -/
def State.reg (s : State) (a : Nat) : Word := Tab.get resetWord s.regs a

/-- A hardware update of a whole register. -/
def State.setReg (s : State) (a : Nat) (w : Word) : State :=
  { s with regs := Tab.put resetWord s.regs a w }

/-- The value of a field. -/
def State.rd (s : State) (f : Fld) : Nat := bits (s.reg f.addr).toNat f.hi f.lo

/-- A one-bit field is 1. -/
def State.on (s : State) (f : Fld) : Bool := s.rd f == 1

/-- A hardware update of a field (R25). -/
def State.wr (s : State) (f : Fld) (v : Nat) : State :=
  s.setReg f.addr (BitVec.ofNat 32 (setBits (s.reg f.addr).toNat f.hi f.lo v))

/-- A new arbitration cycle begins (R24). -/
def State.newCycle (s : State) : State := { s with cyc := { base := s.regs, writes := [], srcAgain := false } }

/-- Software has written the register in this cycle. -/
def State.writtenNow (s : State) (a : Nat) : Bool := s.cyc.writes.any fun (e : Nat × Nat × Nat) => e.1 == a

/-- A hardware update of an RW or RWL field: software's write of the same cycle stands (R25). -/
def State.wrRw (s : State) (f : Fld) (v : Nat) : State := if s.writtenNow f.addr then s else s.wr f v

/-- The largest value of a field. -/
def Fld.max (f : Fld) : Nat := 2 ^ (f.hi - f.lo + 1) - 1

/-- A count that saturates at its maximum, and its OVF bit. The spec says only that the bit is set when the count
saturates (R52, R106): the model sets it at the event that the maximum can no longer count (DESIGN CHOICE,
assumption 51). -/
def State.count (s : State) (f ovf : Fld) (n : Nat) : State :=
  if s.rd f + n ≤ f.max then s.wr f (s.rd f + n) else (s.wr f f.max).wr ovf 1

/-- A bit of a register's field. -/
def State.wrBit (s : State) (f : Fld) (i : Nat) (b : Bool) : State :=
  s.wr f (setBits (s.rd f) i i (b2n b))

/-! ### Free values -/

/-- The next free value (R7, assumption 3). -/
def State.free (s : State) : Nat := Config.freeDraw s.draws

/-- The state after a free value is drawn. -/
def State.drawn (s : State) : State := { s with draws := s.draws + 1 }

/-! ### Fault messages -/

/-- The severity of a kind: fixed by its owner, else the source's FLT_SRCn.SEV (R679, R705). -/
def State.sevOf (s : State) (source kind : Nat) : Nat :=
  if 104 ≤ source ∧ source ≤ 135 then
    if kind ∈ [4, 5, 6] then 2
    else if kind ∈ [7, 8, 9] then 0
    else s.rd (Fd.FLT_SRC_SEV source)
  else s.rd (Fd.FLT_SRC_SEV source)

/-- The time stamp of a message raised now (R680). -/
def State.stamp (s : State) : Nat := s.clk.time

/-- The message joins its source's outbox of 4 messages; where it is full the message is discarded,
counted, and the next message sent from that source carries OVERFLOW (R690). -/
def State.post (s : State) (m : Msg) : State :=
  if (s.flt.outbox.filter fun x => x.source == m.source).length < 4 then
    { s with flt := { s.flt with
        outbox := s.flt.outbox ++ [{ m with overflow := m.overflow || decide (m.source ∈ s.flt.lostSrc) }]
        lostSrc := s.flt.lostSrc.filter (· != m.source) } }
  else
    ({ s with flt := { s.flt with lostSrc := m.source :: s.flt.lostSrc.filter (· != m.source) } }).count
      Fd.FLT_CNT_LOST Fd.FLT_CNT_LOST_OVF 1

/-! ### House firmware's acknowledgements (R692) -/

/-- The open entry an acknowledgement closes: its source, and its FIRST_SEQ to LAST_SEQ range holds the SEQ (R692). -/
def Act.covers (a : Act) (source seq now : Nat) : Bool :=
  a.msg.source == source && decide ((seq + 2 ^ 32 - a.msg.seq) % 2 ^ 32 ≤ (a.lastSeq + 2 ^ 32 - a.msg.seq) % 2 ^ 32) &&
    decide (now < a.expires)

/-- The first open entry that an acknowledgement closes is closed (R692). -/
def Flt.ack (f : Flt) (source seq now : Nat) : Flt :=
  match f.acts.find? fun (a : Act) => a.covers source seq now with
  | some a => { f with acts := f.acts.filter fun (x : Act) => x.slot != a.slot }
  | none => f

/-- House firmware has completed its action for the messages `p` holds of: it acknowledges them and is done with them
(R692). -/
def State.fwAck (s : State) (p : Msg → Bool) : State :=
  if s.boot.fwRun ∧ !s.seq.mcRestart then
    let l := s.flt.fwQ.filter fun (m : Msg) => !m.test && p m
    let f := l.foldl (fun (f : Flt) (m : Msg) => f.ack m.source m.seq s.clk.time) s.flt
    { s with flt := { f with fwQ := s.flt.fwQ.filter fun (m : Msg) => m.test || !p m } }
  else s

/-! ### Mode and level -/

/-- The current mode (R36). -/
def State.mode (s : State) : Nat := s.rd Fd.GLB_MODE_MODE

/-- The current performance level (R37). -/
def State.level (s : State) : Nat := s.rd Fd.GLB_MODE_LEVEL

def mBOOT := 0x0
def mSELFTEST := 0x1
def mCALIBRATE := 0x2
def mSERVICE := 0x3
def mDEGRADED := 0x4
def mDRAIN := 0x5
def mSTANDBY := 0x6
def mRETAIN := 0x7
def mRETAINP := 0x8
def mDEEP := 0x9
def mHOLD := 0xA
def mLOCKDOWN := 0xB

/-- LOCKDOWN by Trip B (R43). -/
def State.tripB (s : State) : Bool := s.on Fd.GLB_MODE_TRIPB

/-- VDD_CORE is off (R64). -/
def State.coreOff (s : State) : Bool := s.mode ∈ [mRETAIN, mRETAINP, mDEEP]

/-- The part is held in reset (R43, R67): PWR_OK is low, a release has not yet taken effect, or RESET_N is low
outside LOCKDOWN by Trip B. -/
def State.inReset (s : State) : Bool := !s.pins.pwrOk || s.pins.relPending || (!s.pins.resetN && !s.tripB)

/-- What a command does to a part that is not held in reset; in reset, nothing (R67). -/
def State.act (s t : State) : Host.Outcome State Fault Refusal := .next (if s.inReset then s else t)

/-! ### Raising a message -/

/-- A message raised while VDD_CORE is off joins Samovar's held-event queue of 16; with the queue full it
takes the last one's place, with OVERFLOW (R632). -/
def State.hold (s : State) (m : Msg) : State :=
  let m := { m with replayed := true }
  let h := if s.pwr.held.length < 16 then s.pwr.held ++ [m] else s.pwr.held.dropLast ++ [{ m with overflow := true }]
  { s with pwr := { s.pwr with held := h } }

/-- A block raises a message of `source` and `kind` with the address its owner lays down (R678). -/
def State.raise (s : State) (source kind addr : Nat) (injected : Bool := false) : State :=
  let m : Msg := { source, kind, sev := s.sevOf source kind, addr := addr % 2 ^ 40, time := s.stamp, injected }
  if s.coreOff then s.hold m else s.post m

/-! ### Mode requests -/

/-- GLB_MODE_STAT records the last request event (R52). -/
def State.modeStat (s : State) (prec result : Nat) : State :=
  (s.wr Fd.GLB_MODE_STAT_REQ_SRC prec).wr Fd.GLB_MODE_STAT_RESULT result

/-- A request is accepted as pending (R46, R52). -/
def State.askMode (s : State) (r : ModeReq) : State :=
  ({ s with seq := { s.seq with reqs := s.seq.reqs ++ [r] } }).modeStat r.prec 4

/-- A request is refused or discarded: MODE_REQ_REFUSED, and DISCARDS counts it (R45, R46, R52).
`result` is 2 DISCARDED or 3 ILLEGAL. -/
def State.refuseMode (s : State) (r : ModeReq) (result : Nat) : State :=
  ((s.modeStat r.prec result).count Fd.GLB_MODE_STAT_DISCARDS Fd.GLB_MODE_STAT_DISC_OVF 1).raise 2 1
    (r.mode % 16 + r.level % 4 * 16 + r.prec * 256 + result * 4096)

/-- MODE_CHANGE (R48): new and old mode, new and old level. -/
def State.modeChange (s : State) (oldMode oldLevel : Nat) : State :=
  s.raise 1 1 (s.mode + oldMode * 16 + s.level * 256 + oldLevel * 1024)

/-! ### Records house firmware owes -/

/-- House firmware owes a record of a pair (R126): 3 soft-repair, 4 persist. -/
def State.owe (s : State) (pair : Nat) : State :=
  if s.nvm.owed.contains pair then s else { s with nvm := { s.nvm with owed := s.nvm.owed ++ [pair] } }

/-- House firmware's copy of the persist payload takes bytes at an offset (R564), and is owed to flash. -/
def State.setPersist (s : State) (off : Nat) (bytes : List Byte) : State :=
  let p := s.nvm.persist
  { s with nvm := { s.nvm with persist := p.take off ++ bytes ++ p.drop (off + bytes.length) } }.owe 4

/-! ### Ports -/

/-- The record of port n; 12 is the pair link. -/
def State.link (s : State) (n : Nat) : Link := Tab.get (fun _ => {}) s.links n

def State.setLink (s : State) (n : Nat) (l : Link) : State :=
  { s with links := Tab.put (fun _ => {}) s.links n l }

/-! ### Fences -/

def State.cgFenced (s : State) (g : Nat) : Bool := s.on (Fd.CG_CTL_FENCE g)

def State.bankFenced (s : State) (b : Nat) : Bool :=
  bit (s.rd (Fd.CRM_FENCE_FENCE (b / 32))) (b % 32)

/-- The register that holds the fence bit of a region (R316). -/
def rgnFenceFld (r : Nat) : Fld := if r < 32 then Fd.RGN_FENCE_LO_FENCE else Fd.RGN_FENCE_HI_FENCE

def State.rgnFenced (s : State) (r : Nat) : Bool := bit (s.rd (rgnFenceFld r)) (r % 32)

/-- A fence of a channel group, Crema bank or region is in force (R694). -/
def State.anyFence (s : State) : Bool :=
  (List.range 32).any s.cgFenced || (List.range 8).any (fun k => s.rd (Fd.CRM_FENCE_FENCE k) != 0) ||
  s.rd Fd.RGN_FENCE_LO_FENCE != 0 || s.rd Fd.RGN_FENCE_HI_FENCE != 0

/-- A request for DEGRADED at precedence 4 under the holding rule of R694: made in SERVICE, held in
every other mode but DEGRADED. `mark`: an ESC = 2 expiry (R695). -/
def State.askDegraded (s : State) (mark : Bool) (cause : Option Msg := none) : State :=
  if s.mode = mSERVICE then s.askMode { prec := 4, mode := mDEGRADED, level := s.level, cause }
  else if s.mode = mDEGRADED then s
  else { s with flt := { s.flt with degHeld := true, degMarked := s.flt.degMarked || mark } }

end Sys2Proof.Machine
end

