-- ==== Sys2Proof/Machine/Dram.lean ====
section
/-! DEFINITION. DRAM: the interleave and the bank, row and column of an address (R295, R319), the
Reed-Solomon line code (R361–R364), poison stores (R365), and one decoded read of a line with its
counters, events, injection and prompt scrub (R367, R370, R371, R375, R380, R384, R385). -/

namespace Sys2Proof.Machine

/-! ### Addresses -/

/-- DRAM size D in bytes (R293): 16 GiB for each layer group. -/
def State.dramSize (s : State) : Nat := s.part.lgrp * 0x400000000

/-- The pseudo-channel of a DRAM address (R295). -/
def pcOf (a : Nat) : Nat :=
  Nat.xor (Nat.xor (bits a 14 8) (bits a 21 15)) (Nat.xor (bits a 28 22) (bits a 35 29))

/-- The granule index within the pseudo-channel (R295). -/
def localOf (a : Nat) : Nat := bits a 35 15

/-- The row of a DRAM address (R319). -/
def rowOf (a : Nat) : Nat := bits (localOf a) 18 6

/-- The bank within the pseudo-channel (R319). -/
def bankOf (a : Nat) : Nat :=
  16 * bits (localOf a) 20 19 + Nat.xor (bits (localOf a) 5 2) (bits (localOf a) 9 6)

/-- The line within the row (R319). -/
def colOf (a : Nat) : Nat := 4 * bits (localOf a) 1 0 + bits a 7 6

/-- The address of granule `loc`, byte `b`, of pseudo-channel `pc` (R295, R296). -/
def addrOf (pc loc b : Nat) : Nat :=
  loc * 32768 + b +
    256 * Nat.xor (Nat.xor pc (bits loc 6 0)) (Nat.xor (bits loc 13 7) (bits loc 20 14))

/-- The line addresses of the 16 lines of a row, in column order (R319, R320). -/
def rowLines (pc bank row : Nat) : List Nat :=
  (List.range 16).map fun c =>
    let loc := (bank / 16) * 0x80000 + row * 64 + Nat.xor (bank % 16) (row % 16) * 4 + c / 4
    addrOf pc loc (64 * (c % 4)) / 64

/-! ### The code -/

/-- Multiplication by α in GF(2^16) (R362). -/
def gfX (a : Nat) : Nat := if a < 32768 then 2 * a else Nat.xor (2 * a) 0x1100B

/-- `a · b` in GF(2^16), over the low `n` bits of `b`. -/
def gfMulN : Nat → Nat → Nat → Nat
  | 0, _, _ => 0
  | n + 1, a, b => Nat.xor (if b % 2 = 1 then a else 0) (gfMulN n (gfX a) (b / 2))

def gfMul (a b : Nat) : Nat := gfMulN 16 a b

/-- α^p. -/
def alphaPow : Nat → Nat
  | 0 => 1
  | p + 1 => gfX (alphaPow p)

/-- One step of the division by g(x) = x^4 + 0xF x^3 + 0x36 x^2 + 0x78 x + 0x40 (R362). -/
def rsStep (r : Nat × Nat × Nat × Nat) (sym : Nat) : Nat × Nat × Nat × Nat :=
  let f := Nat.xor sym r.1
  (Nat.xor r.2.1 (gfMul f 0xF), Nat.xor r.2.2.1 (gfMul f 0x36), Nat.xor r.2.2.2 (gfMul f 0x78),
    gfMul f 0x40)

/-- The four check symbols of 32 data symbols (R362). -/
def rsCheck (data : List Nat) : List Nat :=
  let r := data.foldl rsStep (0, 0, 0, 0)
  [r.1, r.2.1, r.2.2.1, r.2.2.2]

/-- c(α^k) of 36 symbols (R362). -/
def rsSyn (k : Nat) (syms : List Nat) : Nat :=
  syms.foldl (fun acc x => Nat.xor (gfMul acc (alphaPow k)) x) 0

def syndrome (syms : List Nat) : List Nat := (List.range 4).map fun k => rsSyn k syms

/-- The poison constant P (R363). -/
def poisonSyms : List Nat := [0x9E37, 0x79B9, 0x7F4A, 0x7C15]

/-- S_P, the syndrome of P (R363). -/
def poisonSyn : List Nat := syndrome (List.replicate 32 0 ++ poisonSyms)

def xorL (a b : List Nat) : List Nat := List.zipWith Nat.xor a b

/-- The position j of the one symbol error whose syndrome this is, if any (R363). -/
def oneSymbol (syn : List Nat) : Option Nat :=
  match syn with
  | [s0, s1, s2, s3] =>
    if s0 = 0 then none
    else (List.range 36).find? fun j =>
      let q := alphaPow (35 - j)
      decide (gfMul s0 q = s1) && decide (gfMul s1 q = s2) && decide (gfMul s2 q = s3)
  | _ => none

/-- The outcomes of R363. -/
inductive Decode
  | clean | corrected (pos : Nat) | storedPoison | uncorrectable
  deriving DecidableEq, Repr

def classify (syn : List Nat) : Decode :=
  if syn = [0, 0, 0, 0] then .clean
  else match oneSymbol syn with
    | some j => .corrected j
    | none =>
      let r := xorL syn poisonSyn
      if r = [0, 0, 0, 0] ∨ (oneSymbol r).isSome then .storedPoison else .uncorrectable

/-- Symbol j of a line number: DQ j over the 16 beats (R361). -/
def symOf (line j : Nat) : Nat :=
  (List.range 16).foldl (fun acc t => acc + b2n (bit line (32 * t + j)) * 2 ^ t) 0

/-- The 32 data symbols of 64 bytes (R361). -/
def dataSyms (data : List Byte) : List Nat :=
  let n := leNat data
  (List.range 32).map (symOf n)

/-- The line number that 32 data symbols spell (R361). -/
def symsLine (syms : List Nat) : Nat :=
  (List.range 32).foldl (fun acc j => acc +
    (List.range 16).foldl (fun a t => a + b2n (bit (nth 0 syms j) t) * 2 ^ (32 * t + j)) 0) 0

/-! ### Memory -/

/-- What an unlisted byte of DRAM reads as (assumption 2). -/
def dramZero : Nat → Byte := fun _ => 0

/-- The canonical form of DRAM: keys strictly rising, no byte listed that an unlisted one reads as. -/
def Memory.wf (m : List Host.Cell) : Bool := Tab.wf dramZero m

/-- The byte of DRAM under a key. -/
def State.memByte (s : State) (k : Nat) : Byte := Tab.get dramZero s.dram k

/-- A byte of DRAM written. -/
def State.setByte (s : State) (k : Nat) (b : Byte) : State :=
  { s with dram := Tab.put dramZero s.dram k b }

/-- Bytes written upwards from a key. -/
def State.setBytes (s : State) (k : Nat) : List Byte → State
  | [] => s
  | b :: bs => State.setBytes (s.setByte k b) (k + 1) bs

/-- `n` bytes of DRAM upwards from a key. -/
def State.memBytes (s : State) (k n : Nat) : List Byte := (List.range n).map fun i => s.memByte (k + i)

/-- The key of a line's check bytes. -/
def checkKey (line : Nat) : Nat := 2 ^ 40 + 8 * line

/-- The 36 symbols stored for a line (R361). -/
def State.rawSyms (s : State) (line : Nat) : List Nat :=
  dataSyms (s.memBytes (64 * line) 64) ++
    (List.range 4).map fun k => leNat (s.memBytes (checkKey line + 2 * k) 2)

/-- The 64 bytes of a store: cut or padded with zeros to a line. -/
def line64 (data : List Byte) : List Byte := (List.range 64).map fun i => nth 0 data i

/-- A clean line stored with its check symbols (R361, R362). -/
def State.storeLine (s : State) (line : Nat) (data : List Byte) : State :=
  let d := line64 data
  (s.setBytes (64 * line) d).setBytes (checkKey line) ((rsCheck (dataSyms d)).flatMap (leBytes 2))

/-- A poison store (R365). -/
def State.poisonStore (s : State) (line : Nat) : State :=
  (s.setBytes (64 * line) (List.replicate 64 0)).setBytes (checkKey line)
    (poisonSyms.flatMap (leBytes 2))

/-! ### Records -/

def State.pc (s : State) (p : Nat) : Pc := Tab.get (fun _ => {}) s.pcs p

def State.setPc (s : State) (p : Nat) (x : Pc) : State :=
  { s with pcs := Tab.put (fun _ => {}) s.pcs p x }

def State.cg (s : State) (g : Nat) : Cg := Tab.get (fun _ => {}) s.cgs g

def State.setCg (s : State) (g : Nat) (x : Cg) : State :=
  { s with cgs := Tab.put (fun _ => {}) s.cgs g x }

def Pc.bank (p : Pc) (b : Nat) : Bank := Tab.get (fun _ => {}) p.banks b

def Pc.setBank (p : Pc) (b : Nat) (x : Bank) : Pc :=
  { p with banks := Tab.put (fun _ => {}) p.banks b x }

/-- The line is locked by a merge (R327). -/
def Pc.locked (p : Pc) (line : Nat) : Bool := p.mb.any fun m => m.line == line

/-- The row of a line is in remap transit (R381): its group, remap, place, and the buffer. -/
def State.inTransit (s : State) (line : Nat) : Option (Nat × Remap × Nat × List (List Byte × Bool)) :=
  let a := 64 * line
  let g := pcOf a / 4
  match (s.cg g).remap with
  | some r => match r.lines with
    | some ls => if r.pc = pcOf a ∧ r.bank = bankOf a ∧ r.row = rowOf a then some (g, r, colOf a, ls) else none
    | none => none
  | none => none

/-- What a write-queue entry writes: the array, or the remap buffer while the row is in transit
(R381). -/
def State.writeDram (s : State) (line : Nat) (data : List Byte) (poison : Bool) : State :=
  match s.inTransit line with
  | some (g, r, c, ls) =>
    s.setCg g { s.cg g with remap := some { r with lines := some (setNth ls c (line64 data, poison)) } }
  | none => if poison then s.poisonStore line else s.storeLine line data

/-- A rate limit: nothing raised within the last `ticks` ticks; `last` is the time of the last one
plus 1, or 0. -/
def rateOk (last now ticks : Nat) : Bool := last == 0 || decide (last + ticks ≤ now + 1)

/-- One millisecond in ticks (R102). -/
def msTicks : Nat := 175000

/-- A row-level event's address (R385, R352). -/
def rowAddr (pc bank row : Nat) : Nat := pc + bank * 128 + row * 8192

/-- A correction with a real part counts in its row's entry of the row table; at CE_ROW_TH the row
becomes a remap candidate (R380). -/
def State.rowCorrected (s : State) (pc bank row : Nat) : State :=
  let g := pc / 4
  let c := s.cg g
  let th := s.rd Fd.ECC_CTL_CE_ROW_TH
  let hit := c.rowTab.find? fun e => e.1 == pc && e.2.1 == bank && e.2.2.1 == row
  let low := c.rowTab.foldl (fun m e => min m e.2.2.2) 0xFFFFFFFF
  let n := match hit with
    | some e => e.2.2.2 + 1
    | none => if c.rowTab.length < 32 then 1 else low + 1
  let rest := match hit with
    | some e => c.rowTab.erase e
    | none => if c.rowTab.length < 32 then c.rowTab
      else match c.rowTab.find? (fun e => e.2.2.2 == low) with
        | some e => c.rowTab.erase e
        | none => c.rowTab
  let s := s.setCg g { c with rowTab := rest ++ [(pc, bank, row, n)] }
  if th ≠ 0 ∧ n = th then s.raise 139 1 (rowAddr pc bank row) else s

/-- A correction with a real part counts by symbol position; PIN_SUSPECT once per position (R384). -/
def State.pinCorrected (s : State) (pc pos : Nat) : State :=
  let k := 36 * pc + pos
  let n := Tab.get (fun _ => 0) s.ecc.pinCnt k + 1
  let th := s.rd Fd.ECC_CTL_PIN_TH
  let s := { s with ecc := { s.ecc with pinCnt := Tab.put (fun _ => 0) s.ecc.pinCnt k n } }
  if th ≠ 0 ∧ n = th ∧ k ∉ s.ecc.pinRaised then
    { s with ecc := { s.ecc with pinRaised := k :: s.ecc.pinRaised } }.raise 138 1 (pc + pos * 2 ^ 26)
  else s

/-- A line enters its channel group's prompt-scrub queue of 16 (R375). -/
def State.promptScrub (s : State) (pc line : Nat) : State :=
  let g := pc / 4
  let c := s.cg g
  if s.on Fd.ECC_CTL_PROMPT_EN then
    if line ∈ c.prompt then s
    else if c.prompt.length < 16 then s.setCg g { c with prompt := c.prompt ++ [line] }
    else s.count Fd.ECC_PROMPT_DROP_COUNT Fd.ECC_PROMPT_DROP_OVF 1
  else s

/-- DRAM_CE, at most once per channel group per millisecond (R385). -/
def State.raiseCe (s : State) (pc line access kind : Nat) : State :=
  let c := s.cg (pc / 4)
  if rateOk c.ceTime s.clk.time msTicks then
    (s.setCg (pc / 4) { c with ceTime := s.clk.time + 1 }).raise 136 kind (line * 64 + access)
      (kind != 1)
  else s

/-- DRAM_UE and its address registers (R367, R388). -/
def State.raiseUe (s : State) (line access kind : Nat) : State :=
  let a := line * 64
  (((((s.wr Fd.ECC_LAST_UE_LO_ADDR (bits a 31 6)).wr Fd.ECC_LAST_UE_LO_KIND kind).wr
    Fd.ECC_LAST_UE_LO_ACCESS access).wr Fd.ECC_LAST_UE_HI_ADDR (bits a 39 32))).raise 137 kind
      (a + access) (kind != 1)

/-- What a decoded read gives: the state, the data (zeros when poisoned), and the decode. -/
structure LineRead where
  s : State
  data : List Byte
  out : Decode
  /-- Some part of the error is real (R371). -/
  real : Bool
  deriving DecidableEq, Repr

def LineRead.poison (r : LineRead) : Bool := r.out = .storedPoison || r.out = .uncorrectable

/-- The error of symbol j: its xor pattern at position j. -/
def symError (j v : Nat) : List Nat := (List.range 36).map fun i => if i = j then v % 65536 else 0

/-- The injector's pattern for a read of this line and access, if it is armed and matches (R370). -/
def State.injection (s : State) (line access : Nat) : Option (List Nat) :=
  if s.on Fd.ECC_INJ_CTL_ARMED ∧
      line * 64 = s.rd Fd.ECC_INJ_ALO_ADDR * 64 + s.rd Fd.ECC_INJ_AHI_ADDR * 2 ^ 32 ∧
      access < 3 ∧ bit (s.rd Fd.ECC_INJ_CTL_SRC) access then
    let a := symError (s.rd Fd.ECC_INJ_CTL_POS_A) (s.rd Fd.ECC_INJ_PAT_VALUE_A)
    if s.rd Fd.ECC_INJ_CTL_POS_B = 63 then some a
    else some (xorL a (symError (s.rd Fd.ECC_INJ_CTL_POS_B) (s.rd Fd.ECC_INJ_PAT_VALUE_B)))
  else none

/-- A matching read uses up one of COUNT; at 0 the injector disarms (R370). COUNT that software writes in the same cycle
stands (R25). -/
def State.injected (s : State) : State :=
  let n := s.rd Fd.ECC_INJ_CTL_COUNT - 1
  let own := !s.writtenNow Ra.ECC_INJ_CTL
  let s := s.wrRw Fd.ECC_INJ_CTL_COUNT n
  if n = 0 ∧ own then s.wr Fd.ECC_INJ_CTL_ARMED 0 else s

/-- The counters, events and queues of a decode (R367, R371, R375, R380, R384, R385). `access`: 0
demand, 1 merge, 2 scrub, 3 remap copy. -/
def State.decoded (s : State) (line access : Nat) (out : Decode) (inj real : Bool) : State :=
  let a := line * 64
  let pc := pcOf a
  let kind := if !inj then 1 else if real then 3 else 2
  match out with
  | .clean => s
  | .storedPoison => s.count Fd.ECC_PSN_CNT_COUNT Fd.ECC_PSN_CNT_OVF 1
  | .corrected pos =>
    let s := if real then
        ((s.count Fd.ECC_CE_CNT_COUNT Fd.ECC_CE_CNT_OVF 1).pinCorrected pc pos).rowCorrected pc
          (bankOf a) (rowOf a)
      else s
    let s := if real ∧ access ≤ 1 then s.promptScrub pc line else s
    s.raiseCe pc line access kind
  | .uncorrectable =>
    let s := if real then s.count Fd.ECC_UE_CNT_COUNT Fd.ECC_UE_CNT_OVF 1 else s
    let s := if real ∧ access ≤ 1 then s.promptScrub pc line else s
    let p := s.pc pc
    let s := s.setPc pc (p.setBank (bankOf a) { p.bank (bankOf a) with recovering := true })
    let s := s.raiseUe line access kind
    if real then s.raise 139 1 (rowAddr pc (bankOf a) (rowOf a)) else s

/-- A read of a line of the array through the decoder (R363). `flips` are the errors the environment adds
on the way from the cells: pairs of a symbol and its xor pattern. -/
def State.readArray (s : State) (line access : Nat) (flips : List (Nat × Nat)) : LineRead :=
  let raw := flips.foldl (fun x f => xorL x (symError f.1 f.2)) (s.rawSyms line)
  let inj := s.injection line access
  let syms := match inj with
    | some e => xorL raw e
    | none => raw
  let syn := syndrome syms
  let out := classify syn
  let real := syndrome raw != [0, 0, 0, 0]
  let s := if inj.isSome then s.injected else s
  let fixed := match out with
    | .corrected j => xorL syms (symError j (nth 0 syn 0))
    | _ => syms
  let data := match out with
    | .clean | .corrected _ => leBytes 64 (symsLine (fixed.take 32))
    | _ => List.replicate 64 0
  { s := s.decoded line access out inj.isSome real, data, out, real }

/-- A read of a DRAM line: from the array, or from the remap buffer while its row is in transit
(R381). -/
def State.readLine (s : State) (line access : Nat) (flips : List (Nat × Nat)) : LineRead :=
  match s.inTransit line with
  | some (_, _, c, ls) =>
    let e := nth (List.replicate 64 0, true) ls c
    { s, data := if e.2 then List.replicate 64 0 else e.1
      out := if e.2 then .storedPoison else .clean, real := false }
  | none => s.readArray line access flips

/-! ### Leaving self-refresh (R344) and gates (R101) -/

/-- The banks of a pseudo-channel. -/
def State.bankCount (s : State) : Nat := 16 * s.part.lgrp

/-- Every bank recovers, with its debt at 0 (R325, R344). -/
def State.recoverAll (s : State) (k : Nat) : State :=
  (List.range s.bankCount).foldl (fun s b =>
    let p := s.pc k
    s.setPc k (p.setBank b { p.bank b with recovering := true, debt := 0 })) s

/-- A pseudo-channel leaves self-refresh (R344). -/
def State.exitSelfRef (s : State) (k : Nat) : State :=
  if (s.pc k).selfRef then (s.setPc k { s.pc k with selfRef := false }).recoverAll k else s

/-- A reason for self-refresh holds: a fence, THERMAL-HOLD or a retain mode, REFCLK lost, or a closed
gate (R344). -/
def State.selfRefDue (s : State) (g : Nat) : Bool :=
  s.cgFenced g || s.mode == mHOLD || s.mode == mRETAIN || s.mode == mRETAINP ||
    s.on Fd.CLK_STAT_HOLD || s.clk.cgAsk.contains g || s.clk.cgClosed.contains g

/-- A group's gate opens, and it leaves self-refresh (R101). -/
def State.openCg (s : State) (g : Nat) : State :=
  let s := { s with clk := { s.clk with cgClosed := s.clk.cgClosed.filter (· != g) } }
  if s.selfRefDue g then s else (List.range 4).foldl (fun s i => s.exitSelfRef (4 * g + i)) s

/-- A transfer that reaches a gated channel group that is not fenced opens its gate (R101). -/
def State.reachCg (s : State) (g : Nat) : State :=
  if s.clk.cgClosed.contains g ∧ !s.cgFenced g then s.openCg g else s

end Sys2Proof.Machine
end

