-- ==== Sys2Proof/Machine/Crema.lean ====
section
/-! DEFINITION. The Crema tier: the 13-bit code (R394–R396), banks and lines (R393), writes without
merging (R398), decoded reads (R397, R411–R413, R415, R416), partitions (R403) and bank fences
(R414). -/

namespace Sys2Proof.Machine

/-- Bank of an internal offset (R393). -/
def cBank (off : Nat) : Nat := Nat.xor (bits off 13 6) (bits off 21 14)

/-- Line within the bank (R393). -/
def cBline (off : Nat) : Nat := bits off 25 14

/-- The internal offset of line `bl` of bank `b` (R393). -/
def cOffset (b bl : Nat) : Nat := (bl * 256 + Nat.xor b (bl % 256)) * 64

/-- Hamming positions of data bits 0–7 (R394). -/
def cPos : List Nat := [3, 5, 6, 7, 9, 10, 11, 12]

/-- The xor of the positions of the set data bits. -/
def cData (d : Nat) : Nat :=
  (List.range 8).foldl (fun acc i => if bit d i then Nat.xor acc (nth 0 cPos i) else acc) 0

/-- The stored word of a byte (R394): the check bits C0–C3 are the bits of `cData`, since each is
the parity of the data bits whose position has its bit set. -/
def cEncode (b : Byte) : BitVec 13 :=
  let d := b.toNat
  let c := cData d
  BitVec.ofNat 13 (d + c * 256 + popCount 12 (d + c * 256) % 2 * 4096)

/-- The stored-poison word (R396). -/
def cPoison : BitVec 13 := 0x1F00

/-- The classes of R395. -/
inductive CDecode
  | clean (d : Byte) | corrected (d : Byte) | storedPoison | uncorrectable
  deriving DecidableEq, Repr

/-- The decoder (R395). -/
def cDecode (w : BitVec 13) : CDecode :=
  let x := w.toNat
  let s := Nat.xor (cData (x % 256)) (bits x 11 8)
  let p := popCount 13 x % 2
  let d := x % 256
  if s = 0 then (if p = 0 then .clean (BitVec.ofNat 8 d) else .corrected (BitVec.ofNat 8 d))
  else if p = 0 then .uncorrectable
  else if s ≤ 12 then
    .corrected (BitVec.ofNat 8 ((List.range 8).foldl (fun acc i =>
      if nth 0 cPos i = s then Nat.xor acc (2 ^ i) else acc) d))
  else if w = cPoison then .storedPoison else .uncorrectable

/-- What an unwritten Crema byte holds after initialisation: 0x00 with its check bits (R408). -/
def cZero : Nat → BitVec 13 := fun _ => 0

def State.cWord (s : State) (off : Nat) : BitVec 13 := Tab.get cZero s.crm.store off

def State.setCWord (s : State) (off : Nat) (w : BitVec 13) : State :=
  { s with crm := { s.crm with store := Tab.put cZero s.crm.store off w } }

/-- Bytes written upwards from an offset, each encoded on its own (R398). -/
def State.cWrite (s : State) (off : Nat) : List Byte → State
  | [] => s
  | b :: bs => State.cWrite (s.setCWord off (cEncode b)) (off + 1) bs

/-- Poison stored in each of `n` bytes (R398). -/
def State.cPoisonBytes (s : State) (off : Nat) : Nat → State
  | 0 => s
  | n + 1 => State.cPoisonBytes (s.setCWord off cPoison) (off + 1) n

/-- The selected bytes of a line written, or poisoned (R279, R398). -/
def State.cWriteMask (s : State) (off mask : Nat) (data : List Byte) (poison : Bool) : State :=
  (List.range 64).foldl (fun s i =>
    if bit mask i then s.setCWord (off + i) (if poison then cPoison else cEncode (nth 0 data i))
    else s) s

/-! ### Partitions (R403) -/

/-- Start of the pinned user area. -/
def State.userBase (s : State) : Nat := 0x400000 + s.rd Fd.CRM_PART_CNT_SIZE * 0x10000

/-- U (R293, R403). -/
def State.userSize (s : State) : Nat := (704 - s.rd Fd.CRM_PART_CNT_SIZE) * 0x10000

/-- Start of the Crema window (R293). -/
def cremaWin : Nat := 0x8000000000

/-- The internal offset of a request address in the Crema window (R403). -/
def State.userOff (s : State) (a : Nat) : Nat := s.userBase + (a - cremaWin)

/-- Internal offset of queue q's record and of counter slot s (R403). -/
def queueOff (q : Nat) : Nat := 32 * q

def slotOff (n : Nat) : Nat := 0x400000 + 8 * n

/-! ### Decoded reads -/

/-- The location of a byte in an event's address (R416). -/
def cLoc (off access : Nat) : Nat :=
  cBank off + cBline off * 256 + off % 64 * 2 ^ 20 + access * 2 ^ 26

/-- A corrected byte with a real part counts in its bank's window; CREMA_BANK_SUSPECT at CE_BANK_TH,
once per window (R413). -/
def State.bankCorrected (s : State) (b : Nat) : State :=
  let n := Tab.get (fun _ => 0) s.crm.ceWin b + 1
  let th := s.rd Fd.CRM_CTL_CE_BANK_TH
  let s := { s with crm := { s.crm with ceWin := Tab.put (fun _ => 0) s.crm.ceWin b n } }
  if th ≠ 0 ∧ th ≤ n ∧ b ∉ s.crm.suspect then
    { s with crm := { s.crm with suspect := b :: s.crm.suspect } }.raise 154 1 b
  else s

/-- One byte decoded: counters, events, prompt patrol (R411–R416). `access`: 0 port, 1 engine, 2
patrol, 3 maintenance. Gives the byte and whether it is poisoned. -/
def State.cByte (s : State) (off access : Nat) (flip inj : BitVec 13) : State × Byte × Bool :=
  let raw := s.cWord off ^^^ flip
  let w := raw ^^^ inj
  let isInj := inj != 0
  let realErr := match cDecode raw with
    | .clean _ => false
    | _ => true
  let kind := if !isInj then 1 else if realErr then 3 else 2
  let b := cBank off
  match cDecode w with
  | .clean d => (s, d, false)
  | .corrected d =>
    let s := if kind ≠ 2 then
        (s.count Fd.CRM_CE_CNT_COUNT Fd.CRM_CE_CNT_OVF 1).bankCorrected b else s
    let t := Tab.get (fun _ => 0) s.crm.ceTime b
    if rateOk t s.clk.time msTicks then
      ({ s with crm := { s.crm with ceTime := Tab.put (fun _ => 0) s.crm.ceTime b (s.clk.time + 1) } }.raise
        152 kind (cLoc off access) isInj, d, false)
    else (s, d, false)
  | .storedPoison => (s.count Fd.CRM_PSN_CNT_COUNT Fd.CRM_PSN_CNT_OVF 1, 0, true)
  | .uncorrectable =>
    let s := if kind ≠ 2 then s.count Fd.CRM_UE_CNT_COUNT Fd.CRM_UE_CNT_OVF 1 else s
    let s := (s.wr Fd.CRM_LAST_UE_KIND kind).wr Fd.CRM_LAST_UE_LOC (cLoc off access)
    let s := if kind ≠ 2 ∧ access ≤ 1 ∧ off / 64 ∉ s.crm.prompt then
        { s with crm := { s.crm with prompt := s.crm.prompt ++ [off / 64] } } else s
    (s.raise 153 kind (cLoc off access) isInj, 0, true)

/-- The injector applies to this read of a line: the byte it flips and how (R415). -/
def State.cInjection (s : State) (line access : Nat) : Option (Nat × BitVec 13) :=
  if s.on Fd.CRM_INJ_CTL_ARMED ∧ s.rd Fd.CRM_INJ_OFF_LINE = line ∧ access < 2 ∧
      bit (s.rd Fd.CRM_INJ_CTL_SRC) access then
    some (s.rd Fd.CRM_INJ_OFF_BYTE, BitVec.ofNat 13 (s.rd Fd.CRM_INJ_CTL_FLIP))
  else none

/-- A matching read uses up one of COUNT (R415), unless software writes it in the same cycle (R25). -/
def State.cInjected (s : State) : State :=
  let n := s.rd Fd.CRM_INJ_CTL_COUNT - 1
  let own := !s.writtenNow Ra.CRM_INJ_CTL
  let s := s.wrRw Fd.CRM_INJ_CTL_COUNT n
  if n = 0 ∧ own then s.wr Fd.CRM_INJ_CTL_ARMED 0 else s

/-- A read of `n` bytes from an offset within one line (R397): the bytes, and which are poisoned.
`flips` are errors the environment adds: pairs of a byte of the line and an xor pattern. -/
def State.cRead (s : State) (off n access : Nat) (flips : List (Nat × Nat)) :
    State × List Byte × List Bool :=
  let inj := s.cInjection (off / 64) access
  let s := if inj.isSome then s.cInjected else s
  (List.range n).foldl (fun (r : State × List Byte × List Bool) i =>
    let o := off + i
    let f := flips.foldl (fun (x : BitVec 13) e => if e.1 = o % 64 then x ^^^ BitVec.ofNat 13 e.2 else x) 0
    let j := match inj with
      | some (k, p) => if k = o % 64 then p else 0
      | none => 0
    let (s, d, p) := r.1.cByte o access f j
    (s, r.2.1 ++ [d], r.2.2 ++ [p])) (s, [], [])

/-- The patrol of one line (R411): corrected bytes written back, uncorrectable ones poisoned. -/
def State.cPatrol (s : State) (line : Nat) (flips : List (Nat × Nat)) : State :=
  (List.range 64).foldl (fun s i =>
    let o := line * 64 + i
    let f := flips.foldl (fun (x : BitVec 13) e => if e.1 = i then x ^^^ BitVec.ofNat 13 e.2 else x) 0
    let r := s.cByte o 2 f 0
    match cDecode (s.cWord o ^^^ f) with
    | .corrected d => r.1.setCWord o (cEncode d)
    | .uncorrectable => r.1.setCWord o cPoison
    | _ => r.1) s

/-! ### Bank fences -/

/-- CRM_STAT.FENCED_N counts the fenced banks (R419). -/
def State.fencedN (s : State) : State :=
  s.wr Fd.CRM_STAT_FENCED_N (min 255 ((List.range 256).filter s.bankFenced).length)

/-- A bank's fence comes into force (R414): CREMA_BANK_FENCED and the request of R694. A bank already
fenced stays as it is. -/
def State.fenceBank (s : State) (b : Nat) : State :=
  if s.bankFenced b then s
  else (((s.wrBit (Fd.CRM_FENCE_FENCE (b / 32)) (b % 32) true).fencedN).raise 155 1 b).askDegraded false

end Sys2Proof.Machine
end

