-- ==== Sys2Proof/Machine/Regions.lean ====
section
/-! DEFINITION. The region table as the registers hold it (R297–R301, R314): lookup, spans, the
allowed set, tag areas, the checks of R303, and region fences (R316). -/

namespace Sys2Proof.Machine

/-- A region entry's values (R297). -/
structure Rgn where
  valid : Bool
  win : Nat
  base : Nat
  size : Nat
  kind : Nat
  ret : Nat
  mirror : Bool
  label : Nat
  page : Nat
  key : Nat
  q0 : Nat × Nat × Nat
  q1 : Nat × Nat × Nat
  tsr : Nat
  tsoff : Nat
  deriving DecidableEq, Repr

/-- The entry of region n (R314). -/
def State.rgn (s : State) (n : Nat) : Rgn where
  valid := s.on (Fd.RGN_A_VALID n)
  win := s.rd (Fd.RGN_B_WIN n)
  base := s.rd (Fd.RGN_B_BASE n)
  size := s.rd (Fd.RGN_S_SIZE n)
  kind := s.rd (Fd.RGN_A_KIND n)
  ret := s.rd (Fd.RGN_A_RET n)
  mirror := s.on (Fd.RGN_A_MIRROR n)
  label := s.rd (Fd.RGN_A_LABEL n)
  page := s.rd (Fd.RGN_A_PAGE n)
  key := s.rd (Fd.RGN_A_KEY n)
  q0 := (s.rd (Fd.RGN_Q0_EN n), s.rd (Fd.RGN_Q0_MASK n), s.rd (Fd.RGN_Q0_MATCH n))
  q1 := (s.rd (Fd.RGN_Q1_EN n), s.rd (Fd.RGN_Q1_MASK n), s.rd (Fd.RGN_Q1_MATCH n))
  tsr := s.rd (Fd.RGN_T_TSR n)
  tsoff := s.rd (Fd.RGN_T_TSOFF n)

/-- The staged entry (R304, R314). -/
def State.rgnStaged (s : State) : Rgn where
  valid := s.on Fd.RGN_STG_A_VALID
  win := s.rd Fd.RGN_STG_B_WIN
  base := s.rd Fd.RGN_STG_B_BASE
  size := s.rd Fd.RGN_STG_S_SIZE
  kind := s.rd Fd.RGN_STG_A_KIND
  ret := s.rd Fd.RGN_STG_A_RET
  mirror := s.on Fd.RGN_STG_A_MIRROR
  label := s.rd Fd.RGN_STG_A_LABEL
  page := s.rd Fd.RGN_STG_A_PAGE
  key := s.rd Fd.RGN_STG_A_KEY
  q0 := (s.rd Fd.RGN_STG_Q0_EN, s.rd Fd.RGN_STG_Q0_MASK, s.rd Fd.RGN_STG_Q0_MATCH)
  q1 := (s.rd Fd.RGN_STG_Q1_EN, s.rd Fd.RGN_STG_Q1_MASK, s.rd Fd.RGN_STG_Q1_MATCH)
  tsr := s.rd Fd.RGN_STG_T_TSR
  tsoff := s.rd Fd.RGN_STG_T_TSOFF

def kPLAIN := 0
def kBUFFER := 1
def kTABLE := 2
def kCOUNTER := 3
def kTAGSTORE := 4

/-- First byte of a region's span and one past its last (R297). -/
def Rgn.start (r : Rgn) : Nat := if r.win = 0 then r.base * 0x4000000 else cremaWin + r.base * 0x10000

def Rgn.stop (r : Rgn) : Nat :=
  if r.win = 0 then (r.base + r.size) * 0x4000000 else cremaWin + (r.base + r.size) * 0x10000

def Rgn.has (r : Rgn) (a : Nat) : Bool := r.valid && decide (r.start ≤ a) && decide (a < r.stop)

/-- The region an address lies in (R299); at most one matches while the table is consistent. -/
def State.rgnOf (s : State) (a : Nat) : Option Nat := (List.range 64).find? fun n => (s.rgn n).has a

/-- The requester lies in the allowed set (R298). -/
def Rgn.allows (r : Rgn) (q : Nat) : Bool :=
  (r.q0.1 == 1 && Nat.land q r.q0.2.1 == r.q0.2.2) || (r.q1.1 == 1 && Nat.land q r.q1.2.1 == r.q1.2.2)

/-- The tag area of a keyed region, given its TAGSTORE region (R301): first byte and length. -/
def Rgn.tagArea (r ts : Rgn) : Nat × Nat := (ts.start + r.tsoff * 0x100000, 9 * r.size * 0x100000)

def overlap (a b : Nat × Nat) : Bool := decide (a.1 < b.1 + b.2) && decide (b.1 < a.1 + a.2)

/-- The key permitted, the mirror permitted (R300). -/
def Rgn.kindInWin (r : Rgn) : Bool := r.win == 0 || r.kind == kPLAIN || r.kind == kTABLE

def Rgn.keyPermitted (r : Rgn) : Bool := r.key == 0 || (r.win == 0 && r.kind != kTAGSTORE)

def Rgn.mirrorPermitted (r : Rgn) : Bool := !r.mirror || (r.kind != kBUFFER && r.kind != kCOUNTER)

/-- The checks of R303 on entry `n` of a table `tab`, in order: none, or the RESULT of the first
failure. -/
def rgnCheck (s : State) (tab : Nat → Rgn) (n : Nat) : Option Nat :=
  let r := tab n
  let others := (List.range 64).filter fun m => m != n && (tab m).valid
  let span := (r.start, r.stop - r.start)
  if !r.valid then none
  else if 4 < r.kind then some 6
  else if 253 < r.label then some 10
  else if r.size = 0 ∨ (if r.win = 0 then s.dramSize / 0x4000000 < r.base + r.size
      else s.userSize / 0x10000 < r.base + r.size) then some 4
  else if others.any fun m => overlap span ((tab m).start, (tab m).stop - (tab m).start) then some 5
  else if !r.kindInWin then some 6
  else if 64 < r.key ∨ !r.keyPermitted then some 7
  else if r.key ≠ 0 ∧ (r.tsr = n ∨ !(tab r.tsr).valid ∨ (tab r.tsr).win ≠ 0 ∨
      (tab r.tsr).kind ≠ kTAGSTORE ∨
      (tab r.tsr).stop < (r.tagArea (tab r.tsr)).1 + (r.tagArea (tab r.tsr)).2 ∨
      others.any fun m => (tab m).key != 0 &&
        overlap (r.tagArea (tab r.tsr)) ((tab m).tagArea (tab (tab m).tsr))) then some 8
  else if !r.mirrorPermitted ∨ (r.mirror ∧ !s.on (Fd.PORT_LANE_CFG_EN 12)) ∨
      (r.mirror ∧ r.key ≠ 0 ∧ !(tab r.tsr).mirror) then some 9
  else none

/-- Every valid entry of the table passes (R303). -/
def State.rgnConsistent (s : State) : Bool :=
  (List.range 64).all fun n => (rgnCheck s s.rgn n).isNone

/-- A region's fence comes into force by escalation (R316, R693): its bit is set, RGN_FENCED is
raised, and DEGRADED is requested (R694). -/
def State.fenceRgn (s : State) (n : Nat) : State :=
  if s.rgnFenced n then s
  else ((s.wrBit (rgnFenceFld n) (n % 32) true).raise 11 1 n).askDegraded false

/-- A region entry's registers written (R306 step 4). -/
def State.putRgn (s : State) (n : Nat) (r : Rgn) : State :=
  let s := ((s.wr (Fd.RGN_B_WIN n) r.win).wr (Fd.RGN_B_BASE n) r.base).wr (Fd.RGN_S_SIZE n) r.size
  let s := (((s.wr (Fd.RGN_A_VALID n) (b2n r.valid)).wr (Fd.RGN_A_KIND n) r.kind).wr
    (Fd.RGN_A_RET n) r.ret).wr (Fd.RGN_A_MIRROR n) (b2n r.mirror)
  let s := ((s.wr (Fd.RGN_A_LABEL n) r.label).wr (Fd.RGN_A_PAGE n) r.page).wr (Fd.RGN_A_KEY n) r.key
  let s := ((s.wr (Fd.RGN_Q0_EN n) r.q0.1).wr (Fd.RGN_Q0_MASK n) r.q0.2.1).wr (Fd.RGN_Q0_MATCH n) r.q0.2.2
  let s := ((s.wr (Fd.RGN_Q1_EN n) r.q1.1).wr (Fd.RGN_Q1_MASK n) r.q1.2.1).wr (Fd.RGN_Q1_MATCH n) r.q1.2.2
  (s.wr (Fd.RGN_T_TSR n) r.tsr).wr (Fd.RGN_T_TSOFF n) r.tsoff

end Sys2Proof.Machine
end

