-- ==== Sys2Proof/Machine/LinePipe.lean ====
section
/-! DEFINITION. The fabric's transfers of engines and the maintenance port (R14–R17), the view of DRAM that keeps the
ordering of R272 (queued writes first), and the crypto line pipe: key derivation (R541, R543), memory encryption (R548), the tag store and its
cache (R549–R553). -/

namespace Sys2Proof.Machine

/-! ### Transfers of the engines (R14–R17) -/

/-- The fabric's target of a line: its channel group, or 32 for Crema. -/
def lineTarget (line : Nat) : Nat := if 2 ^ 33 ≤ line then 32 else pcOf (64 * line) / 4

/-- Every access queued at a pseudo-channel. -/
def Pc.accs (p : Pc) : List Acc := p.rq ++ p.wq ++ p.mb

/-- The bank of an access. -/
def Acc.bank (a : Acc) : Nat := bankOf (64 * a.line)

def Acc.row (a : Acc) : Nat := rowOf (64 * a.line)

/-- A bank whose queues hold nothing recovers no longer and leaves in-order mode (R325, R326). -/
def State.settleBank (s : State) (k b : Nat) : State :=
  let p := s.pc k
  if p.accs.any fun a => a.bank == b then s
  else s.setPc k (p.setBank b { p.bank b with recovering := false, inOrder := false })

/-- An access enters a bank's queue: in-order mode begins when its row equals that of an older one
while the bank recovers or the part boots (R325). -/
def State.enterBank (s : State) (k : Nat) (a : Acc) : State :=
  let p := s.pc k
  let x := p.bank a.bank
  if !x.inOrder ∧ (x.recovering ∨ s.mode = mBOOT ∨ s.mode = mSELFTEST ∨ s.mode = mCALIBRATE) ∧
      p.accs.any fun o => o.bank == a.bank && o.row == a.row then
    let c := Fd.CG_CNT_INORDER (k / 4)
    (s.setPc k (p.setBank a.bank { x with inOrder := true })).count c (Fd.CG_CNT_INO_OVF (k / 4)) 1
  else s

/-- The physical row that serves a row under the repair map: a spare row s stands at 8,192 + s, after the addressable
rows (R320, R335; the order of the spares is DEDUCED, assumption 64). -/
def State.physRow (s : State) (k b row : Nat) : Nat :=
  match s.ecc.repairs.find? fun (r : Repair) => r.kind == 1 && r.pc == k && r.bank == b && r.target == row with
  | some r => 8192 + r.spare
  | none => row

/-- The physical neighbours of a physical row among the 8,208 of a bank: at distance 1, and at distance 2 with NEIGH2
(R340). -/
def neighbours (two : Bool) (row : Nat) : List Nat :=
  let d := if two then 2 else 1
  (List.range (2 * d + 1)).filterMap fun i =>
    if i ≠ d ∧ d ≤ row + i ∧ row + i < 8208 + d then some (row + i - d) else none

/-- An activate of a physical row counts in the bank's activation table (R339); at a multiple of ACT_TH the row's
targeted refresh is due (R340). -/
def State.actCount (s : State) (k b row : Nat) : State :=
  let p := s.pc k
  let x := p.bank b
  let low := x.acts.foldl (fun m e => min m e.2) 0xFFFFFFFF
  let n := match x.acts.find? (·.1 == row) with
    | some e => e.2 + 1
    | none => if x.acts.length < 64 then 1 else low + 1
  let rest := if x.acts.any (·.1 == row) then x.acts.filter (·.1 != row)
    else if x.acts.length < 64 then x.acts
    else match x.acts.find? (fun e => e.2 == low) with
      | some e => x.acts.erase e
      | none => x.acts
  let due := n % (512 * (s.rd (Fd.CG_TRR_ACT_TH (k / 4)) + 1)) = 0
  s.setPc k (p.setBank b { x with
    acts := rest ++ [(row, n)]
    trrDue := if due then x.trrDue ++ [row] else x.trrDue })

/-- An activate for an access: the row opens, and PCn_ACT counts (R339, R360). -/
def State.activate (s : State) (k b row : Nat) : State :=
  let s := s.actCount k b (s.physRow k b row)
  let p := s.pc k
  let s := s.setPc k (p.setBank b { p.bank b with openRow := some row, hits := 0 })
  s.count (Fd.PC_ACT_COUNT k) (Fd.PC_ACT_OVF k) 1

/-- The page-class timer of a line's region (R332). -/
def State.pageTimer (s : State) (line : Nat) : Nat :=
  let g := pcOf (64 * line) / 4
  let c := match s.rgnOf (64 * line) with
    | some n => (s.rgn n).page
    | none => 0
  match c with
  | 0 => s.rd (Fd.CG_PAGE_T0 g)
  | 1 => s.rd (Fd.CG_PAGE_T1 g)
  | 2 => s.rd (Fd.CG_PAGE_T2 g)
  | _ => s.rd (Fd.CG_PAGE_T3 g)

/-- The controller's part of an engine's read, served in the step that makes it (DESIGN CHOICE, assumption 63): PCn_RAW
where it had to wait for a write or merge (R323), the activate or the row hit, and the page policy (R332). -/
def State.serveRead (s : State) (line : Nat) : State :=
  let k := pcOf (64 * line)
  let b := bankOf (64 * line)
  let row := rowOf (64 * line)
  let p := s.pc k
  let s := if (p.wq.any fun w => w.line == line) || p.locked line then
      s.count (Fd.PC_RAW_COUNT k) (Fd.PC_RAW_OVF k) 1 else s
  let s := s.enterBank k { seq := s.nextSeq, txn := 0, ini := 16, kind := .read, line }
  let s := if (p.bank b).openRow = some row then s.count (Fd.PC_HIT_COUNT k) (Fd.PC_HIT_OVF k) 1
    else s.activate k b row
  let p := s.pc k
  let x := p.bank b
  let hit := (p.rq ++ p.wq ++ p.mb).any fun o => bankOf (64 * o.line) == b && rowOf (64 * o.line) == row &&
    !p.issued.contains o.seq && !p.wissued.contains o.seq
  s.setPc k (p.setBank b { x with
    hits := x.hits + 1, openRow := if s.pageTimer line = 0 ∧ !hit then none else x.openRow })

/-- The fabric carries a transfer of an engine's or the maintenance port to its target (R14): a gated group's gate opens
(R101), and the target's arbiter has granted it (R16). -/
def State.carry (s : State) (ini line : Nat) : State :=
  let s := if line < 2 ^ 33 then s.reachCg (pcOf (64 * line) / 4) else s
  { s with grant := Tab.put (fun _ => 0) s.grant (lineTarget line) ini }

/-! ### Queued writes -/

/-- The newest queued write of a line, if any. -/
def State.queued (s : State) (line : Nat) : Option Acc :=
  ((s.pc (pcOf (64 * line))).wq.filter fun a => a.line == line).getLast?

/-- The write queue's entries of a line whose burst is complete leave it and are in DRAM (R321). -/
def State.burstDone (s : State) (pc : Nat) (a : Acc) : State :=
  let p := s.pc pc
  (s.setPc pc { p with wq := p.wq.filter (·.seq != a.seq), wissued := p.wissued.filter (· != a.seq) }).writeDram
    a.line a.data a.poison

/-- Banks whose queues have emptied (R325, R326). -/
def State.settleAll (s : State) (k : Nat) : State := (s.pc k).banks.foldl (fun s e => s.settleBank k e.1) s

/-- Every write-queue entry of a pseudo-channel is written to DRAM, in entry order (R321). -/
def State.flushWq (s : State) (pc : Nat) : State :=
  ((s.pc pc).wq.foldl (fun s a => s.burstDone pc a) s).settleAll pc

/-- A line write takes a write-queue entry at its place in the order of entry (R321). An older unissued write of the line
with no read or merge between is replaced in place, unless the bank is in in-order mode (R322, R326). Entries past the
64th are transfers that their initiator still holds (R15, R318): they take part in the line's order but are no
candidates (`Pc.writable`). -/
def State.pushWq (s : State) (a : Acc) : State :=
  let k := pcOf (64 * a.line)
  let p := s.pc k
  let old := p.wq.find? fun e => e.line == a.line && decide (e.seq < a.seq) && !p.wissued.contains e.seq &&
    !((p.rq ++ p.mb).any fun r => r.line == a.line && decide (e.seq < r.seq) && decide (r.seq < a.seq)) &&
    !(p.bank (bankOf (64 * a.line))).inOrder
  match old with
  | some e => s.setPc k { p with
      wq := p.wq.map fun x => if x.seq = e.seq then
        { x with data := a.data, poison := a.poison, urg := max x.urg a.urg, ages := x.ages || a.ages } else x }
  | none => s.setPc k { p with
      wq := (p.wq.filter fun x => decide (x.seq < a.seq)) ++ [{ a with born := s.clk.time }] ++
        p.wq.filter fun x => decide (a.seq < x.seq) }

/-- The write-queue entries proper: 64 (R317). -/
def Pc.writable (p : Pc) : List Acc := p.wq.take 64

/-- A read of a line as it stands after every queued write of it (R272): stored symbols of the
queued write, or the array's. -/
def State.readCurrent (s : State) (line access : Nat) (flips : List (Nat × Nat)) : LineRead :=
  match s.queued line with
  | some a =>
    if a.poison then { s, data := List.replicate 64 0, out := .storedPoison, real := false }
    else { s, data := line64 a.data, out := .clean, real := false }
  | none => s.readLine line access flips

/-- Reads and merges of a line that will read what an engine writes now use its current tag entry. -/
def Pc.freeTags (p : Pc) (line : Nat) : Pc :=
  let f (a : Acc) : Acc := if a.line = line then { a with tag := none } else a
  { p with rq := p.rq.map f, mb := p.mb.map f }

/-- A write a fabric initiator makes without a request: a write-queue entry. To a line that a merge has locked it is
ordered before the merge's read, older queued writes first (DESIGN CHOICE, assumption 63). -/
def State.writeCurrent (s : State) (line ini : Nat) (data : List Byte) (poison : Bool) (urg : Nat := 0)
    (ages : Bool := false) : State :=
  let s := s.carry ini line
  let k := pcOf (64 * line)
  if (s.pc k).locked line then
    let s := (((s.pc k).wq.filter fun w => w.line == line).foldl (fun s w => s.burstDone k w) s).writeDram line data poison
    s.setPc k ((s.pc k).freeTags line)
  else
    let a : Acc := { seq := s.nextSeq, txn := 0, ini, kind := .write, line, data, poison, urg, ages }
    ({ s with nextSeq := s.nextSeq + 1 }.enterBank k a).pushWq a

/-! ### Keys -/

/-- The first 16 bytes of HMAC-SM3 of label and context under a key of `n` bytes (R541). -/
def kdf (n key : Nat) (label : List Nat) (ctx : List Byte) : Nat :=
  Config.hmacSm3 (leBytes n key) (label.map (BitVec.ofNat 8) ++ ctx) % 2 ^ 128

/-- K1, K2 and Km of a slot key (R543): labels "AMYX1", "AMYX2", "AMYXM". -/
def keyData (k : Nat) : Nat := kdf 16 k [0x41, 0x4D, 0x59, 0x58, 0x31] []

def keyTweak (k : Nat) : Nat := kdf 16 k [0x41, 0x4D, 0x59, 0x58, 0x32] []

def keyTag (k : Nat) : Nat := kdf 16 k [0x41, 0x4D, 0x59, 0x58, 0x4D] []

/-- Multiplication by x in GF(2^128) as XTS multiplies (R548). -/
def xtsX (t : Nat) : Nat :=
  if t < 2 ^ 127 then 2 * t else Nat.xor (2 * t - 2 ^ 128) 0x87

/-- The tweak T0 of a line (R548). -/
def tweak0 (k addr v : Nat) : Nat := Config.sm4Enc (keyTweak k) (addr / 64 + v * 2 ^ 40)

/-- The four 16-byte blocks of a line passed through `f` with the line's tweaks (R548). -/
def xtsBlocks (f : Nat → Nat) : Nat → Nat → List Byte → List Byte
  | 0, _, _ => []
  | n + 1, t, data =>
    leBytes 16 (Nat.xor (f (Nat.xor (leNat (data.take 16)) t)) t) ++
      xtsBlocks f n (xtsX t) (data.drop 16)

def encryptLine (k addr v : Nat) (data : List Byte) : List Byte :=
  xtsBlocks (Config.sm4Enc (keyData k)) 4 (tweak0 k addr v) (line64 data)

def decryptLine (k addr v : Nat) (cipher : List Byte) : List Byte :=
  xtsBlocks (Config.sm4Dec (keyData k)) 4 (tweak0 k addr v) (line64 cipher)

/-- The tag of a line (R548). -/
def lineTag (k addr v : Nat) (cipher : List Byte) : Nat :=
  Config.cmacSm4 (keyTag k) (line64 cipher ++ leBytes 8 addr ++ [BitVec.ofNat 8 v]) % 2 ^ 64

def State.slotKey (s : State) (slot : Nat) : Option Nat := Tab.get (fun _ => none) s.sec.slots slot

/-! ### The tag store -/

/-- The address of the tag entry of the line at address `a` of region `n` (R549). -/
def State.tagEntry (s : State) (n a : Nat) : Nat :=
  let r := s.rgn n
  (r.tagArea (s.rgn r.tsr)).1 + 9 * ((a - r.start) / 64)

/-- The tag-store lines an entry lies in (R549). -/
def tagLines (e : Nat) : List Nat := if e / 64 = (e + 8) / 64 then [e / 64] else [e / 64, (e + 8) / 64]

def State.tagLine (s : State) (l : Nat) : Option TagLine := Tab.get (fun _ => none) s.sec.tagCache l

def State.setTagLine (s : State) (l : Nat) (t : Option TagLine) : State :=
  { s with sec := { s.sec with tagCache := Tab.put (fun _ => none) s.sec.tagCache l t } }

/-- A tag-cache line leaves the cache; a dirty one is written to DRAM (R551). A dirty line whose
channel group is fenced, and a lost line (R552), stay. -/
def State.evictTag (s : State) (l : Nat) : State :=
  match s.tagLine l with
  | none => s
  | some t =>
    if t.lost ∨ (t.dirty ∧ s.cgFenced (pcOf (64 * l) / 4)) then s
    else if t.dirty then (s.setTagLine l none).writeCurrent l 16 t.data false
    else s.setTagLine l none

/-- A dirty tag-cache line is written to DRAM and stays in the cache, clean (R551). -/
def State.cleanTag (s : State) (l : Nat) : State :=
  match s.tagLine l with
  | some t =>
    if t.dirty ∧ !t.lost ∧ !s.cgFenced (pcOf (64 * l) / 4) then
      (s.setTagLine l (some { t with dirty := false })).writeCurrent l 16 t.data false
    else s
  | none => s

/-- Every dirty line of the tag cache is written (R551). -/
def State.cleanTags (s : State) : State := s.sec.tagCache.foldl (fun s e => s.cleanTag e.1) s

/-- A tag-store line is brought into the cache (R551); one that reads as poisoned is lost, and
TAG_STORE_LOST is raised (R552). -/
def State.fetchTag (s : State) (l : Nat) : State × TagLine :=
  match s.tagLine l with
  | some t => (s, t)
  | none =>
    let s := s.count Fd.SEC_TC_MISS_COUNT Fd.SEC_TC_MISS_OVF 1
    let s := if 65536 ≤ s.sec.tagCache.length then (match s.sec.tagCache with
        | e :: _ => s.evictTag e.1
        | [] => s) else s
    let r := s.readCurrent l 0 []
    let t : TagLine := { data := r.data, dirty := false, lost := r.poison }
    let s := r.s.setTagLine l (some t)
    (if r.poison then s.raise 234 1 (l * 64) else s, t)

/-- The tag entry's nine bytes, or none where a line it lies in is lost (R552). -/
def State.readTag (s : State) (e : Nat) : State × Option (List Byte) :=
  let (s, t0) := s.fetchTag (e / 64)
  let (s, t1) := s.fetchTag ((e + 8) / 64)
  if t0.lost ∨ t1.lost then (s, none)
  else (s, some ((List.range 9).map fun i =>
    if (e + i) / 64 = e / 64 then nth 0 t0.data ((e + i) % 64) else nth 0 t1.data ((e + i) % 64)))

/-- The tag entry written in the cache; a lost line is rebuilt as zeros but for the new entry
(R552). -/
def State.writeTag (s : State) (e : Nat) (entry : List Byte) : State :=
  (tagLines e).foldl (fun s l =>
    let (s, t) := s.fetchTag l
    let d := if t.lost then List.replicate 64 0 else t.data
    let d := (List.range 9).foldl (fun d i =>
      if (e + i) / 64 = l then setNth d ((e + i) % 64) (nth 0 entry i) else d) d
    s.setTagLine l (some { data := d, dirty := true, lost := false })) s

/-- A byte of a cached tag-store line reads with an error (R551, R552, R568): 1 corrected, 2
uncorrectable, which loses the line. -/
def State.tagError (s : State) (l err : Nat) : State :=
  match s.tagLine l with
  | none => s
  | some t =>
    if err = 1 then
      (if rateOk s.sec.tcTime s.clk.time msTicks then
        { s with sec := { s.sec with tcTime := s.clk.time + 1 } }.raise 235 1 (l * 64)
      else s)
    else if err = 2 ∧ !t.lost then (s.setTagLine l (some { t with lost := true })).raise 234 1 (l * 64)
    else s

/-- MEM_TAG_FAIL, at most once per channel group per millisecond; every mismatch counts (R553). The
bank of the line recovers (R325). -/
def State.tagFail (s : State) (a : Nat) : State :=
  let s := s.count Fd.SEC_TAG_FAIL_CNT_COUNT Fd.SEC_TAG_FAIL_CNT_OVF 1
  let p := s.pc (pcOf a)
  let s := s.setPc (pcOf a) (p.setBank (bankOf a) { p.bank (bankOf a) with recovering := true })
  let c := s.cg (pcOf a / 4)
  if rateOk c.tagTime s.clk.time msTicks then
    (s.setCg (pcOf a / 4) { c with tagTime := s.clk.time + 1 }).raise 233 1 (a / 64 * 64)
  else s

/-- A write numbered `seq` is about to replace the tag entry of a line: reads and merges of the line that go before it keep
the entry that belongs to what they will read (R272, R550). -/
def State.keepTag (s : State) (a seq : Nat) : State :=
  let k := pcOf a
  let due (x : Acc) : Bool := x.line == a / 64 && decide (x.seq < seq) && x.tag.isNone
  match s.rgnOf a with
  | none => s
  | some n =>
    if (s.rgn n).key = 0 ∨ !(((s.pc k).rq ++ (s.pc k).mb).any due) then s
    else
      let (s, e) := s.readTag (s.tagEntry n a)
      let keep (x : Acc) : Acc := if due x then { x with tag := some e } else x
      s.setPc k { s.pc k with rq := (s.pc k).rq.map keep, mb := (s.pc k).mb.map keep }

/-- A stored line passes the line pipe on its way to a reader (R553): the data, and poison. `kept`: the tag entry the
reader kept, if a younger write has replaced it. -/
def State.pipeRead (s : State) (a : Nat) (cipher : List Byte) (poison : Bool)
    (kept : Option (Option (List Byte)) := none) : State × List Byte × Bool :=
  match s.rgnOf a with
  | none => (s, cipher, poison)
  | some n =>
    let r := s.rgn n
    if r.key = 0 ∨ poison then (s, cipher, poison)
    else match s.slotKey (r.key - 1) with
      | none => (s, List.replicate 64 0, true)
      | some k =>
        let (s, e) := match kept with
          | some e => (s, e)
          | none => s.readTag (s.tagEntry n a)
        match e with
        | none => (s, List.replicate 64 0, true)
        | some bs =>
          let v := (nth 0 bs 0).toNat
          if leNat (bs.drop 1) = lineTag k a v cipher then (s, decryptLine k a v cipher, false)
          else (s.tagFail a, List.replicate 64 0, true)

/-- A line passes the line pipe on its way to memory: encrypted under the next version, its entry
updated in the same step (R550). Gives what memory will hold, and the version and tag to forward to
a partner (R555). A poison store leaves the entry unchanged. Under a slot emptied meanwhile (R170) what is stored is
free: no plaintext leaves the part. -/
def State.pipeWrite (s : State) (a : Nat) (data : List Byte) (poison : Bool) :
    State × List Byte × List Byte :=
  match s.rgnOf a with
  | none => (s, data, [])
  | some n =>
    let r := s.rgn n
    if r.key = 0 ∨ poison then (s, data, [])
    else match s.slotKey (r.key - 1) with
      | none => (s.drawn, leBytes 64 s.free, [])
      | some k =>
        let e := s.tagEntry n a
        let (s, old) := s.readTag e
        let v := match old with
          | some bs => ((nth 0 bs 0).toNat + 1) % 256
          | none => 1
        let c := encryptLine k a v data
        let entry := BitVec.ofNat 8 v :: leBytes 8 (lineTag k a v c)
        (s.writeTag e entry, c, entry)

/-- The tag entry of a keyed line lies in a fenced channel group (R552). -/
def State.tagFenced (s : State) (n a : Nat) : Bool :=
  let r := s.rgn n
  r.key != 0 && (tagLines (s.tagEntry n a)).any fun l => s.cgFenced (pcOf (64 * l) / 4)

/-! ### Memory as the engines reach it -/

/-- The line at a request address as the engine of fabric port `ini` reads it: data and poison. -/
def State.memRead (s : State) (a ini : Nat) : State × List Byte × Bool :=
  let a := a / 64 * 64
  let s := s.carry ini (a / 64)
  if a < cremaWin then
    let r := (s.serveRead (a / 64)).readCurrent (a / 64) 0 []
    r.s.pipeRead a r.data r.poison
  else
    let (s, d, p) := s.cRead (s.userOff a) 64 1 []
    if p.any id then (s, List.replicate 64 0, true) else (s, d, false)

/-- An engine's read of a line that is to stand for what memory holds: one that only injection poisons is read again
without it (the corners of R446 and R471). -/
def State.memReadReal (s : State) (a ini : Nat) : State × List Byte × Bool :=
  let e := s.rd Fd.ECC_INJ_CTL_ARMED
  let c := s.rd Fd.CRM_INJ_CTL_ARMED
  let x := s.memRead a ini
  if x.2.2 ∧ (e = 1 ∨ c = 1) then
    let e := x.1.rd Fd.ECC_INJ_CTL_ARMED
    let c := x.1.rd Fd.CRM_INJ_CTL_ARMED
    let y := ((x.1.wr Fd.ECC_INJ_CTL_ARMED 0).wr Fd.CRM_INJ_CTL_ARMED 0).memRead a ini
    ((y.1.wr Fd.ECC_INJ_CTL_ARMED e).wr Fd.CRM_INJ_CTL_ARMED c, y.2)
  else x

/-- A whole line written by an engine, clean or poisoned. -/
def State.memWrite (s : State) (a ini : Nat) (data : List Byte) (poison : Bool) : State :=
  let a := a / 64 * 64
  if a < cremaWin then
    let (s, c, _) := (s.keepTag a s.nextSeq).pipeWrite a data poison
    s.writeCurrent (a / 64) ini c poison
  else if poison then (s.carry ini (a / 64)).cPoisonBytes (s.userOff a) 64
  else (s.carry ini (a / 64)).cWrite (s.userOff a) (line64 data)

/-- Bytes [off, off + n) of a line replaced. -/
def patch (line : List Byte) (off : Nat) (bs : List Byte) : List Byte :=
  (List.range 64).map fun i => if off ≤ i ∧ i < off + bs.length then nth 0 bs (i - off) else nth 0 line i

/-- A read of `n` bytes at any address, a line at a time: the bytes, and poison of any line. -/
def State.memReadN (s : State) (a n ini : Nat) : State × List Byte × Bool :=
  let lines := (List.range ((a + n + 63) / 64 - a / 64)).map fun i => (a / 64 + i) * 64
  let r := lines.foldl (fun (x : State × List Byte × Bool) l =>
    let (s, d, p) := x.1.memRead l ini
    (s, x.2.1 ++ d, x.2.2 || p)) (s, [], false)
  (r.1, (r.2.1.drop (a % 64)).take n, r.2.2)

/-- The channel group, Crema bank of a line's address is fenced. -/
def State.lineFenced (s : State) (a : Nat) : Bool :=
  if a < cremaWin then s.cgFenced (pcOf a / 4) else s.bankFenced (cBank (s.userOff a))

end Sys2Proof.Machine
end

