-- ==== Sys2Proof/Machine/Monitor.lean ====
section
/-! DEFINITION. The monitor units' sampling: bins, counts, limits (R728–R732). -/

namespace Sys2Proof.Machine

/-- Ticks in nanoseconds (R102: a tick is 40/7 ns). -/
def tickNs (t : Nat) : Nat := t * 40 / 7

/-- The bin of a value (R730). -/
def monBin (log2 : Bool) (base wexp v : Nat) : Nat :=
  if log2 then (if v ≤ base then 0 else min 31 (Nat.log2 (v - base) + 1))
  else if v < base + 2 ^ wexp then 0 else min 31 ((v - base) / 2 ^ wexp)

/-- One count of monitor `m` goes up; the first count to saturate sets OVF and raises MON_OVF
(R731). -/
def State.monCount (s : State) (m : Nat) (f : Fld) : State :=
  if s.rd f < 0xFFFFFFFF then s.wr f (s.rd f + 1)
  else if s.on (Fd.OBS_MON_CTL_OVF m) then s
  else (s.wr (Fd.OBS_MON_CTL_OVF m) 1).raise 254 1 m

/-- One sample of value `v` by monitor `m` (R731, R732). -/
def State.monSample (s : State) (m v : Nat) : State :=
  if s.on (Fd.OBS_MON_CTL_FREEZE m) then
    let f := Fd.OBS_MON_CTL_SKIPPED m
    if s.rd f < 0xFFFF then s.wr f (s.rd f + 1) else s
  else
    let v := min v 0xFFFFFFFF
    let s := s.wr (Fd.OBS_MON_MIN_MIN m) (min v (s.rd (Fd.OBS_MON_MIN_MIN m)))
    let s := s.wr (Fd.OBS_MON_MAX_MAX m) (max v (s.rd (Fd.OBS_MON_MAX_MAX m)))
    let s := s.monCount m (Fd.OBS_MON_SAMPLES_COUNT m)
    let b := monBin (s.on (Fd.OBS_MON_CFG_LOG2 m)) (s.rd (Fd.OBS_MON_BASE_BASE m))
      (s.rd (Fd.OBS_MON_CFG_WEXP m)) v
    let s := s.monCount m (Fd.OBS_MON_BIN_COUNT m b)
    let lim := s.rd (Fd.OBS_MON_LIMIT_LIMIT m)
    let t := Tab.get (fun _ => 0) s.obs.limTime m
    if lim ≠ 0 ∧ lim < v ∧ rateOk t s.clk.time msTicks then
      { s with obs := { s.obs with limTime := Tab.put (fun _ => 0) s.obs.limTime m (s.clk.time + 1) } }.raise
        253 1 (m + v * 256)
    else s

/-- The enabled monitors: those whose CFG register has changed from reset and whose EN is 1. -/
def State.monitors (s : State) : List Nat :=
  s.regs.filterMap fun e =>
    if Ra.OBS_MON_CFG 0 ≤ e.1 ∧ e.1 ≤ Ra.OBS_MON_CFG 63 ∧ e.1 % 256 = 0 ∧ bit e.2.toNat 31 then
      some ((e.1 - Ra.OBS_MON_CFG 0) / 256) else none

/-- Every enabled monitor of a quantity and index samples a value (R728). -/
def State.monitor (s : State) (qty index v : Nat) : State :=
  s.monitors.foldl (fun s m =>
    if s.rd (Fd.OBS_MON_CFG_QTY m) = qty ∧ (qty = 5 ∨ s.rd (Fd.OBS_MON_CFG_INDEX m) = index) then
      s.monSample m v else s) s

/-- CLR: MIN to its maximum, MAX, SAMPLES, the bins, OVF and SKIPPED to zero (R732). -/
def State.monClear (s : State) (m : Nat) : State :=
  let s := ((s.wr (Fd.OBS_MON_MIN_MIN m) 0xFFFFFFFF).wr (Fd.OBS_MON_MAX_MAX m) 0).wr
    (Fd.OBS_MON_SAMPLES_COUNT m) 0
  let s := (s.wr (Fd.OBS_MON_CTL_OVF m) 0).wr (Fd.OBS_MON_CTL_SKIPPED m) 0
  (List.range 32).foldl (fun s b => s.wr (Fd.OBS_MON_BIN_COUNT m b) 0) s

end Sys2Proof.Machine
end

