-- ==== Sys2Proof/Machine/Resp.lean ====
section
/-! DEFINITION. Responses (R264, R268, R269): forming one, its latency (R530, R534), the mirroring of
a written line (R578, R591), and the delivery of lines to a request (R271, R277, R281). -/

namespace Sys2Proof.Machine

def stOK := 0
def stPOISON := 1
def stNOTFOUND := 2
def stEXISTS := 3
def stFULL := 4
def stEMPTY := 5
def stDRAINING := 6
def stFENCED := 7
def stREJ_REGION := 8
def stREJ_AUTH := 9
def stREJ_LABEL := 10
def stRETRY := 11
def stABORTED := 12

/-- Opcode codes (R263). -/
def opRD64 := 0x01
def opRD128 := 0x02
def opRD256 := 0x03
def opWR64 := 0x05
def opWR128 := 0x06
def opWR256 := 0x07
def opWRP := 0x08
def opATOM := 0x09
def opPROBE := 0x10
def opINSERT := 0x11
def opDELETE := 0x12
def opENQ := 0x18
def opDEQ := 0x19
def opQSTAT := 0x1A
def opQCTL := 0x1B
def opCUPD := 0x20
def opCREAD := 0x21
def opCCLR := 0x22
def opCREBUILD := 0x23
def opFENCE := 0x30
def opSNAP := 0x31
def opMGMT_RD := 0x38
def opMGMT_WR := 0x39
def opAUTH := 0x3F

def isRead (op : Nat) : Bool := op == opRD64 || op == opRD128 || op == opRD256
def isWrite (op : Nat) : Bool := op == opWR64 || op == opWR128 || op == opWR256
def isLine (op : Nat) : Bool := isRead op || isWrite op || op == opWRP || op == opATOM
def isTable (op : Nat) : Bool := op == opPROBE || op == opINSERT || op == opDELETE
def isQueue (op : Nat) : Bool := op == opENQ || op == opDEQ || op == opQSTAT || op == opQCTL
def isCounter (op : Nat) : Bool := op == opCUPD || op == opCREAD || op == opCCLR || op == opCREBUILD
def isMgmt (op : Nat) : Bool := op == opMGMT_RD || op == opMGMT_WR || op == opAUTH

/-- Lines of a line read or write (R277, R278). -/
def opLines (op : Nat) : Nat :=
  if op = opRD128 ∨ op = opWR128 then 2 else if op = opRD256 ∨ op = opWR256 then 4 else 1

def State.txn (s : State) (id : Nat) : Option Txn := s.req.txns.find? fun t => t.id == id

/-- The request with its record replaced. -/
def State.setTxn (s : State) (t : Txn) : State :=
  { s with req := { s.req with txns := s.req.txns.map fun x => if x.id = t.id then t else x } }

def State.dropTxn (s : State) (id : Nat) : State :=
  { s with req := { s.req with txns := s.req.txns.filter fun x => x.id != id } }

/-- REJ_REGION is counted, and its request recorded (R313). -/
def State.rejRegion (s : State) (r : Resp) : State :=
  if r.status = stREJ_REGION then
    (((s.count Fd.RGN_STAT_REJ_CNT Fd.RGN_STAT_REJ_OVF 1).wr Fd.RGN_REJ_LAST_PORT r.port).wr
      Fd.RGN_REJ_LAST_REQ_ID r.reqId).wr Fd.RGN_REJ_LAST_OPCODE r.op
  else s

/-- A response goes to where its request came from (R18, R292, R583). -/
def State.sendResp (s : State) (r : Resp) (xid : Nat) : State :=
  let s := s.rejRegion r
  if r.port = 12 then { s with pair := { s.pair with out := s.pair.out ++ [.mres xid r] } }
  else if r.port = 13 then s
  else if r.port = 15 then { s with req := { s.req with sb := .formed r } }
  else { s with req := { s.req with out := s.req.out ++ [r] } }

/-- The latency target of a request in 16 ns units: its port's for line and management opcodes, its
engine's otherwise (R528). -/
def State.target (s : State) (t : Txn) : Nat :=
  if isTable t.op then s.rd (Fd.REG_TGTH_TGT 1)
  else if isQueue t.op then s.rd (Fd.REG_TGTH_TGT 0)
  else if isCounter t.op then s.rd (Fd.REG_TGTH_TGT 2)
  else s.rd (Fd.REG_TGT_TGT (min t.port 12))

/-- A maximum kept in a register with its OVF bit (R534). -/
def State.keepMax (s : State) (f ovf : Fld) (v : Nat) : State :=
  if f.max < v then (s.wr f f.max).wr ovf 1 else if s.rd f < v then s.wr f v else s

/-- The latency of a request that passed step 8, when its response forms: label and port maxima,
REG_LATE_CNT, and the latency monitors (R530, R534, R729). -/
def State.latency (s : State) (t : Txn) : State :=
  if t.passed ∧ !t.lost ∧ t.port ≤ 12 then
    let lat := s.clk.time - t.t8
    let s := s.keepMax (Fd.REG_L_LAT_MAX t.label) (Fd.REG_L_LAT_OVF t.label) lat
    let s := s.keepMax (Fd.REG_PLAT_MAX t.port) (Fd.REG_PLAT_OVF t.port) lat
    let s := if s.target t * 112 < lat * 40 then
        s.count Fd.REG_LATE_CNT_COUNT Fd.REG_LATE_CNT_OVF 1 else s
    let ns := tickNs lat
    let s := if t.port < 12 then s.monitor 1 t.port ns else s
    let s := s.monitor 2 t.label ns
    let s := if isQueue t.op then s.monitor 3 0 ns else if isTable t.op then s.monitor 3 1 ns
      else if isCounter t.op then s.monitor 3 2 ns else s
    s.monitor 4 t.op ns
  else s

/-- The response of an accepted request is formed and the request is answered. -/
def State.respond (s : State) (t : Txn) (status : Nat) (result : Nat := 0) (data : List Byte := [])
    (pmask : Nat := 0) (rflags : Nat := 0) : State :=
  ((s.latency t).dropTxn t.id).sendResp
    { port := t.port, op := t.op, reqId := t.head.reqId, tag := t.head.tag, status, rflags, pmask,
      result, data := if status ≤ stPOISON then data else [] } t.xid

/-- The pair is joined (R575). -/
def State.joined (s : State) : Bool := s.on Fd.PAIR_STAT_JOINED

/-- The region's copies run single: not joined, diverged, or the source still copies it (R589,
R591). Gives whether a write to the line completes SINGLE, and whether it is forwarded. -/
def State.mirrorMode (s : State) (n line : Nat) : Bool × Bool :=
  if !s.joined ∨ bit s.pair.diverged n then (true, false)
  else match s.pair.resync with
    | some r =>
      if r.outRgn = some n then (true, decide (line + 1 < r.outNext))
      else if n ∈ r.outTodo then (true, false)
      else (false, true)
    | none => (false, true)

/-- A write completes SINGLE (R580, R587): SINGLE_WR is set, and PAIR_SINGLE_CNT counts the write once (R601). -/
def State.singleWrite (s : State) (first : Bool) : State :=
  let s := s.wr Fd.PAIR_STAT_SINGLE_WR 1
  if first then s.count Fd.PAIR_SINGLE_CNT_COUNT Fd.PAIR_SINGLE_CNT_OVF 1 else s

/-- A line written into a mirrored region, as stored, is forwarded to the partner (R578); the write
waits for its MCMT unless the region runs single-copy (R579, R591). `id` 0: an engine's own write. -/
def State.mirrorLine (s : State) (id a : Nat) (stored entry : List Byte) (poison : Bool) : State :=
  match s.rgnOf a with
  | none => s
  | some n =>
    if !(s.rgn n).mirror then s
    else
      let (single, fwd) := s.mirrorMode n (a / 64)
      let s := if single then s.singleWrite ((s.txn id).all fun t => !bit t.rflags 0) else s
      let s := match s.txn id with
        | some t => s.setTxn { t with
            rflags := if single then setBits t.rflags 0 0 1 else t.rflags
            mirrorLeft := if fwd ∧ !single then t.mirrorLeft + 1 else t.mirrorLeft }
        | none => s
      if fwd then
        let x := s.pair.nextXid % 65536
        let lab := ((s.txn id).map (·.label)).getD 254
        let u := ((s.txn id).map (·.urg)).getD 0
        { s with pair := { s.pair with
            nextXid := s.pair.nextXid + 1
            out := s.pair.out ++ [.mwr x (a / 64) (!entry.isEmpty) poison false u lab entry stored]
            pendW := s.pair.pendW ++ [(x, a / 64, if single then 0 else id)] } }
      else s

/-- An engine's line write, mirrored where its region is (R578). -/
def State.engineWrite (s : State) (id a ini : Nat) (data : List Byte) (poison : Bool) : State :=
  let a := a / 64 * 64
  if a < cremaWin then
    let (s, c, e) := (s.keepTag a s.nextSeq).pipeWrite a data poison
    (s.writeCurrent (a / 64) ini c poison).mirrorLine id a c e poison
  else (s.memWrite a ini data poison).mirrorLine id a data [] poison

/-- The PMASK and data of a line read, its lines in address order (R277, R281). -/
def readResult (n : Nat) (lines : List LineIn) : Nat × List Byte :=
  let l (i : Nat) := (lines.find? fun x => x.idx == i).getD { idx := i, data := [], poison := true }
  ((List.range n).foldl (fun m i => m + b2n (l i).poison * 2 ^ i) 0,
    (List.range n).flatMap fun i => if (l i).poison then List.replicate 64 0 else line64 (l i).data)

/-- The response of a request whose accesses are all answered and commits received (R271). -/
def State.complete (s : State) (t : Txn) : State :=
  if t.status ≠ stOK then s.respond t t.status t.result [] 0 t.rflags
  else if isRead t.op then
    let (m, d) := readResult (opLines t.op) t.lines
    s.respond t (if m = 0 then stOK else stPOISON) 0 d m
  else if t.poison then s.respond t stPOISON
  else s.respond t stOK t.result [] 0 t.rflags

/-- After an access of a request is answered: it completes, waits for the partner, or goes on. -/
def State.settle (s : State) (id : Nat) : State :=
  match s.txn id with
  | none => s
  | some t =>
    if t.left = 0 ∧ (t.stage = .running ∨ t.stage = .heldMirror) then
      (if t.mirrorLeft = 0 then s.complete t else s.setTxn { t with stage := .heldMirror })
    else s

/-- One access of a request is answered, with what `f` records. -/
def State.answered (s : State) (id : Nat) (f : Txn → Txn) : State :=
  match s.txn id with
  | none => s
  | some t => (s.setTxn { f t with left := t.left - 1 }).settle id

/-- A line delivered to a read. -/
def State.deliver (s : State) (a : Acc) (data : List Byte) (poison : Bool) : State :=
  s.answered a.txn fun t => { t with lines := t.lines ++ [{ idx := a.idx, data, poison }] }

/-- An access answered ABORTED by a fence drain (R351). -/
def State.aborted (s : State) (id : Nat) : State :=
  s.answered id fun t => { t with status := stABORTED }

end Sys2Proof.Machine
end

