-- ==== Sys2Proof/Machine/Regulator.lean ====
section
/-! DEFINITION. The regulator: capacity and shrink factor (R520, R521), guarantees (R518), charges
and classes (R514, R515, R519), the share pool and its queues (R523–R526), urgency (R528), label
commits and the admission check (R531–R533). -/

namespace Sys2Proof.Machine

/-! ### Capacity -/

/-- 1,200 × k_cg ÷ f of an unthrottled group, by level (R520). -/
def kLevel (lvl : Nat) : Nat := nth 0 [168, 140, 120, 84] lvl

/-- The throttle factor f (R520). -/
def kThrottle (thr lvl : Nat) : Nat :=
  nth 0 (nth [] [[1024, 1024, 1024, 1024], [1024, 1024, 1024, 1024], [975, 1024, 1024, 1024],
    [585, 702, 819, 1024], [325, 390, 455, 650], [172, 206, 240, 344], [88, 106, 124, 177],
    [45, 54, 63, 90]] thr) lvl

/-- Every pseudo-channel of a group is in self-refresh (R357). -/
def State.cgSelfRef (s : State) (g : Nat) : Bool := (List.range 4).all fun i => (s.pc (4 * g + i)).selfRef

/-- The level whose rate a group counts with: a level change's target from its start (R521), a spread
drop relative to it (R620). -/
def State.kEff (s : State) (g : Nat) : Nat :=
  match s.seq.lvl with
  | some l => if bit (s.rd Fd.THM_DROP_DROP) (g / 2) then min 3 (l.target + 1) else l.target
  | none => s.rd (Fd.CG_STAT_EFF_LEVEL g)

/-- 1,200 × K (R520). -/
def State.capacity (s : State) : Nat :=
  (List.range 32).foldl (fun k g =>
    if s.cgFenced g ∨ s.cgSelfRef g then k
    else k + kLevel (s.kEff g) * kThrottle (s.rd (Fd.CG_STAT_THR_LVL g)) (s.kEff g)) 0

/-- A sum of G ÷ WIN over (EN, WIN, G) triples, as a fraction (R521). -/
def gSum (l : List (Bool × Nat × Nat)) : Nat × Nat :=
  l.foldl (fun x e => if e.1 ∧ e.2.1 ≠ 0 then
    let d := Nat.lcm x.2 e.2.1
    (x.1 * (d / x.2) + e.2.2 * (d / e.2.1), d) else x) (0, 1)

/-- A label is enabled (R533, R540). -/
def State.labelEn (s : State) (l : Nat) : Bool := l == 254 || s.on (Fd.REG_L_CFG_EN l)

/-- The labels' (EN, WIN, G). -/
def State.labels (s : State) : List (Bool × Nat × Nat) :=
  (List.range 256).map fun l => (s.labelEn l, s.rd (Fd.REG_L_CFG_WIN l), s.rd (Fd.REG_L_GUAR_G l))

/-- ΣG in GB/s, exact. -/
def State.sumG (s : State) : Nat × Nat := gSum s.labels

/-- The shrink factor from 1,200 K and ΣG (R521). -/
def shrink (k : Nat) (g : Nat × Nat) : Nat :=
  if g.1 = 0 then 1024 else min 1024 (1024 * 4 * k * g.2 / (6000 * g.1))

/-- ΣG ≤ 0.8 × K at a level, every group unthrottled (R531). -/
def withinLimit (lvl : Nat) (g : Nat × Nat) : Bool :=
  decide (6000 * g.1 ≤ 4 * (32 * kLevel lvl * 1024) * g.2)

/-- The admission limit in GB/s, rounded down (R537). -/
def admitLimit (lvl : Nat) : Nat := 4 * (32 * kLevel lvl * 1024) / 6000

/-- REG_GSUM shows ΣG rounded up and the limit at LVL_LOW (R537). -/
def State.showG (s : State) : State :=
  let g := s.sumG
  (s.wr Fd.REG_GSUM_GSUM (ceilDiv g.1 g.2)).wr Fd.REG_GSUM_LIMIT
    (admitLimit (s.rd Fd.GLB_LEVEL_LIM_LVL_LOW))

/-- REG_DEFICIT (R535), at most once per 100 µs; a suppressed one waits for the limit's end. -/
def State.raiseDeficit (s : State) : State :=
  if rateOk s.rgl.defTime s.clk.time 17500 then
    { s with rgl := { s.rgl with defTime := s.clk.time + 1, defHeld := false } }.raise 216 1
      (s.rd Fd.REG_STAT_SHRINK + s.rd Fd.REG_STAT_KEFF * 65536)
  else { s with rgl := { s.rgl with defHeld := true } }

/-- K and S are recomputed (R520, R521); best-effort, S stays 1,024 (R532). -/
def State.computeK (s : State) : State :=
  let k := s.capacity
  let old := s.rd Fd.REG_STAT_SHRINK
  let new := if s.on Fd.REG_CTL_ENFORCE then shrink k s.sumG else 1024
  let s := { s with rgl := { s.rgl with k } }
  let s := (s.wr Fd.REG_STAT_KEFF (k / 1200)).wr Fd.REG_STAT_SHRINK new
  if new ≠ old then s.raiseDeficit else s

/-- A recomputation, from the first computation on (R521, R536). -/
def State.recompute (s : State) : State := if s.rgl.ran then s.computeK else s

/-- The first computation: at the entry to SERVICE from CALIBRATE (R536), and where the regulator is powered again. -/
def State.regStart (s : State) : State := { s with rgl := { s.rgl with ran := true } }.computeK

/-- The configuration that releases a label's requests (R527, corner): (WEIGHT, WIN, G), of a disabled label with
requests held the one in force before. -/
def State.lCfg (s : State) (l : Nat) : Nat × Nat × Nat :=
  (if s.labelEn l then none else Tab.get (fun _ => none) s.rgl.old l).getD
    (s.rd (Fd.REG_L_CFG_WEIGHT l), s.rd (Fd.REG_L_CFG_WIN l), if s.labelEn l then s.rd (Fd.REG_L_GUAR_G l) else 0)

/-! ### Charges -/

/-- G′ of a label in bytes (R518). -/
def State.gEff (s : State) (l : Nat) : Nat := Tab.get (fun _ => 0) s.rgl.gEff l

/-- A label's DRAM count in its window (R517). -/
def State.lCount (s : State) (l : Nat) : Nat := Tab.get (fun _ => 0) s.rgl.counts l

def State.addCount (s : State) (l n : Nat) : State :=
  { s with rgl := { s.rgl with counts := Tab.put (fun _ => 0) s.rgl.counts l (s.lCount l + n) } }

/-- REG_Ln_BYTES (R534, R540). -/
def State.labelBytes (s : State) (l n : Nat) : State :=
  s.count (Fd.REG_L_BYTES_COUNT l) (Fd.REG_L_BYTES_OVF l) (ceilDiv n 256)

/-- Bytes released as GUAR in this slice (R523). -/
def State.addGuar (s : State) (n : Nat) : State :=
  { s with rgl := { s.rgl with guar := s.rgl.guar + n } }

/-- Bytes released from the share pool (R523). -/
def State.usePool (s : State) (n : Nat) : State :=
  { s with rgl := { s.rgl with pool := s.rgl.pool - 75 * n } }

/-- A charge made during execution (R514); `crema`: the Crema account (R515). -/
def State.charge (s : State) (l n : Nat) (crema : Bool) : State :=
  let s := s.labelBytes l n
  if crema ∨ l = 254 then (if crema then s else s.addCount l n).addGuar n
  else
    let guar := decide (s.lCount l < s.gEff l)
    let s := s.addCount l n
    if guar then s.addGuar n else s.usePool n

/-- A label's share queue: (request, charge), oldest first (R524). -/
def State.shareQ (s : State) (l : Nat) : List (Nat × Nat) := Tab.get (fun _ => []) s.rgl.shareQ l

def State.setShareQ (s : State) (l : Nat) (q : List (Nat × Nat)) : State :=
  { s with rgl := { s.rgl with shareQ := Tab.put (fun _ => []) s.rgl.shareQ l q } }

/-- Requests held in all share queues. -/
def State.shareHeld (s : State) : Nat := s.rgl.shareQ.foldl (fun n e => n + e.2.length) 0

/-- A share queue has room (R526). -/
def State.shareRoom (s : State) (l : Nat) : Bool :=
  decide (s.shareHeld < 8192) && decide ((s.shareQ l).length < 2048)

/-- What the regulator decides of a request that passed step 8 (R519, R524, R526). -/
inductive Gate
  | go | held | noRoom
  deriving DecidableEq, Repr

/-- A request of `n` bytes is charged and judged (R514, R518, R519, R524, R526, R532). -/
def State.passLabel (s : State) (id l n : Nat) (crema : Bool) : State × Gate :=
  let s := s.labelBytes l n
  if crema then (s.addGuar n, .go)
  else
    let guar := decide (s.lCount l < s.gEff l)
    let s := s.addCount l n
    if !s.on Fd.REG_CTL_ENFORCE ∨ l = 254 ∨ guar then (s.addGuar n, .go)
    else if 0 < s.rgl.pool ∧ s.shareHeld = 0 then (s.usePool n, .go)
    else if s.shareRoom l then (s.setShareQ l (s.shareQ l ++ [(id, n)]), .held)
    else (s, .noRoom)

/-- REG_SHARE_FULL, at most once per millisecond (R526). -/
def State.shareFull (s : State) (l port : Nat) : State :=
  if rateOk s.rgl.fullTime s.clk.time msTicks then
    { s with rgl := { s.rgl with fullTime := s.clk.time + 1 } }.raise 219 1 (l + port % 16 * 256)
  else s

/-- A slice begins: its pool is K × 256 less the GUAR bytes and overdraft of the last (R523). None begins during a
REFCLK hold (R517). -/
def State.sliceStart (s : State) : State :=
  if s.on Fd.CLK_STAT_HOLD then s
  else { s with rgl := { s.rgl with
      slice := s.rgl.slice + 1
      pool := 16 * s.rgl.k - 75 * s.rgl.guar + min s.rgl.pool 0
      guar := 0 } }

/-- Data requests may be released in this mode (the corner of R527). -/
def State.releasing (s : State) : Bool := !(s.mode ∈ [mHOLD, mDRAIN, mLOCKDOWN])

/-- One label's turn of a round (R524): heads released while the deficit covers them and the pool is
above zero. Gives the requests released. -/
def State.shareTurn (s : State) (l : Nat) : List (Nat × Nat) → State × List Nat
  | [] => ({ s with rgl := { s.rgl with deficit := Tab.put (fun _ => 0) s.rgl.deficit l 0 } }.setShareQ l [], [])
  | (id, n) :: q =>
    let d := Tab.get (fun _ => 0) s.rgl.deficit l
    if n ≤ d ∧ 0 < s.rgl.pool then
      let s := { s with rgl := { s.rgl with deficit := Tab.put (fun _ => 0) s.rgl.deficit l (d - n) } }
      let r := ((s.usePool n).setShareQ l q).shareTurn l q
      (r.1, id :: r.2)
    else (s.setShareQ l ((id, n) :: q), [])

/-- One round of deficit round-robin in ascending label order (R524). -/
def State.shareRound (s : State) : State × List Nat :=
  (s.rgl.shareQ.map (·.1)).foldl (fun (x : State × List Nat) l =>
    let s := x.1
    let w := (s.lCfg l).1
    if w = 0 then x
    else
      let s := { s with rgl := { s.rgl with
        deficit := Tab.put (fun _ => 0) s.rgl.deficit l (Tab.get (fun _ => 0) s.rgl.deficit l + 256 * w) } }
      let r := s.shareTurn l (s.shareQ l)
      (r.1, x.2 ++ r.2)) (s, [])

/-- Rounds while the pool is above zero and a label with weight holds a request. -/
def State.shareRounds (s : State) : Nat → State × List Nat
  | 0 => (s, [])
  | k + 1 =>
    if 0 < s.rgl.pool ∧ s.releasing ∧
        s.rgl.shareQ.any (fun e => (s.lCfg e.1).1 != 0) then
      let r := s.shareRound
      let t := r.1.shareRounds k
      (t.1, r.2 ++ t.2)
    else (s, [])

/-- Every queued request of a label judged again at its window start (R525): those released, and
those that stay. -/
def State.rejudge (s : State) (l : Nat) : List (Nat × Nat) → State × List Nat × List (Nat × Nat)
  | [] => (s, [], [])
  | (id, n) :: q =>
    if s.lCount l < s.gEff l then
      let r := ((s.addCount l n).addGuar n).rejudge l q
      (r.1, id :: r.2.1, r.2.2)
    else
      let r := (s.addCount l n).rejudge l q
      (r.1, r.2.1, (id, n) :: r.2.2)

/-- RESULT of a label commit and REG_LCMD_DONE (R533, R535). -/
def State.lcmdDone (s : State) (l result : Nat) : State :=
  (s.wr Fd.REG_LCMD_RESULT result).raise 218 1 (l + result * 256)

/-- A pending commit of the label takes effect at its window start (R533). -/
def State.labelApply (s : State) (l : Nat) : State :=
  match s.rgl.commit with
  | some (m, cfg, g) =>
    if m = l then
      let old := if s.labelEn l ∧ !(s.shareQ l).isEmpty then some (s.lCfg l) else none
      let s := { s with rgl := { s.rgl with old := Tab.put (fun _ => none) s.rgl.old l old } }
      let s := (s.setReg (Ra.REG_L_CFG l) cfg).setReg (Ra.REG_L_GUAR l) g
      ({ s with rgl := { s.rgl with commit := none } }.showG.recompute).lcmdDone l 1
    else s
  | none => s

/-- A window of the label may start now: at a slice whose number is a multiple of WIN, outside a REFCLK hold (R517). -/
def State.windowDue (s : State) (l : Nat) : Bool :=
  !s.on Fd.CLK_STAT_HOLD && decide (s.rgl.slice % (s.lCfg l).2.1 = 0)

/-- A label's window starts (R517, R518, R525, R533): the requests released. -/
def State.windowStart (s : State) (l : Nat) : State × List Nat :=
  if !s.windowDue l then (s, [])
  else
    let s := s.labelApply l
    let g := (s.lCfg l).2.2 * s.rd Fd.REG_STAT_SHRINK / 1024 * 256
    let s := { s with rgl := { s.rgl with
      counts := Tab.put (fun _ => 0) s.rgl.counts l 0
      gEff := Tab.put (fun _ => 0) s.rgl.gEff l g } }
    if s.releasing then
      let r := s.rejudge l (s.shareQ l)
      (r.1.setShareQ l r.2.2, r.2.1)
    else (s, [])

/-- REG_LCMD GO (R533): refused with a result, or pending until the label's window start. -/
def State.labelCommit (s : State) : State :=
  let l := s.rd Fd.REG_LCMD_LABEL
  let cfg := s.reg Ra.REG_STG_CFG
  let g := s.reg Ra.REG_STG_GUAR
  let en := bit cfg.toNat 31
  let win := bits cfg.toNat 7 0
  let labels := setNth s.labels l (en, win, bits g.toNat 19 0)
  if s.rgl.commit.isSome then s.lcmdDone l 3
  else if !s.on Fd.REG_CTL_ENFORCE then s.lcmdDone l 6
  else if l = 254 ∨ (l = 255 ∧ (s.pair.resync.isSome ∨ (!en ∧ s.on (Fd.PORT_LANE_CFG_EN 12)))) then
    s.lcmdDone l 7
  else if win = 0 ∨ 250 < win then s.lcmdDone l 5
  else if !withinLimit (s.rd Fd.GLB_LEVEL_LIM_LVL_LOW) (gSum labels) then s.lcmdDone l 4
  else { s with rgl := { s.rgl with commit := some (l, cfg, g) } }.wr Fd.REG_LCMD_RESULT 2

/-- The REGULATION section's check (R531, R532). -/
def State.regulationCheck (s : State) : Bool :=
  (List.range 256).all (fun l =>
    let w := s.rd (Fd.REG_L_CFG_WIN l)
    decide (1 ≤ w) && decide (w ≤ 250)) &&
  (List.range 16).all (fun p =>
    decide (2 ≤ (if p ≤ 12 then s.rd (Fd.REG_TGT_TGT p) else s.rd (Fd.REG_TGTH_TGT (p - 13))))) &&
  (!s.on (Fd.PORT_LANE_CFG_EN 12) || s.labelEn 255) &&
  withinLimit (s.rd Fd.GLB_LEVEL_LIM_LVL_LOW) s.sumG

/-! ### Urgency (R528) -/

/-- The age in ticks at which a percentage of a target in 16 ns units is reached. -/
def ageTick (tgt pct : Nat) : Nat := ceilDiv (16 * tgt * pct * 7) 4000

/-- The urgency that an age in ticks gives against a target. -/
def ageUrg (tgt age : Nat) : Nat :=
  if ageTick tgt 90 ≤ age then 3 else if ageTick tgt 75 ≤ age then 2 else if ageTick tgt 50 ≤ age then 1 else 0

/-- The urgency of a request now. -/
def State.urgency (s : State) (t : Txn) : Nat :=
  if 12 < t.port then 0
  else max (ageUrg (s.target t) (s.clk.time - t.t8)) (b2n (bit t.head.flags 3))

/-- The urgency the regulator holds for a queued access at this moment (R331): its request's, or that of the age of a
write forwarded by the partner (R516). -/
def State.accUrg (s : State) (a : Acc) : Nat :=
  if a.ages then max a.urg (ageUrg (s.rd (Fd.REG_TGT_TGT 12)) (s.clk.time - a.born)) else a.urg

/-- The accesses made for a request carry its urgency. -/
def Acc.age (id u : Nat) (a : Acc) : Acc := if a.txn = id ∧ id ≠ 0 then { a with urg := u } else a

/-- A request's urgency rises to what its age gives, and with it that of its accesses. -/
def State.urgencyRise (s : State) (id : Nat) : State :=
  match s.txn id with
  | none => s
  | some t =>
    let u := max t.urg (s.urgency t)
    if u = t.urg then s
    else
      let s := s.setTxn { t with urg := u }
      { s with
        fabric := s.fabric.map (Acc.age id u)
        pcs := s.pcs.map fun e => (e.1, { e.2 with
          rq := e.2.rq.map (Acc.age id u), wq := e.2.wq.map (Acc.age id u)
          mb := e.2.mb.map (Acc.age id u) }) }

end Sys2Proof.Machine
end

