-- ==== Sys2Proof/Machine/Queue.lean ====
section
/-! DEFINITION. The queue engine: pools and the free list (R423–R429), ENQ, DEQ, QSTAT and QCTL
(R431–R436), drains, flushes and walks (R437, R438), lost chains (R443–R446), takeover, save and
restore (R449, R450). -/

namespace Sys2Proof.Machine

/-! ### Pools -/

def State.q (s : State) (n : Nat) : QRec := Tab.get (fun _ => {}) s.que.qs n

def State.setQ (s : State) (n : Nat) (r : QRec) : State :=
  { s with que := { s.que with qs := Tab.put (fun _ => {}) s.que.qs n r } }

def State.pool (s : State) (p : Nat) : QPool := Tab.get (fun _ => {}) s.que.pools p

def State.setPool (s : State) (p : Nat) (r : QPool) : State :=
  { s with que := { s.que with pools := Tab.put (fun _ => {}) s.que.pools p r } }

/-- The region of a pool (R423). -/
def State.poolRgn (s : State) (p : Nat) : Nat := s.rd (Fd.QUE_POOL_CFG_RGN p)

/-- N and M of a pool (R424). -/
def State.poolN (s : State) (p : Nat) : Nat := 16384 * (s.rgn (s.poolRgn p)).size

def State.poolM (s : State) (p : Nat) : Nat := s.poolN p - s.poolN p / 1024

/-- F (R429). -/
def State.poolFree (s : State) (p : Nat) : Nat :=
  let r := s.pool p
  r.cache.length + 1024 * r.depth + (s.poolM p - r.bump)

/-- Pages in use (R429). -/
def State.poolUsed (s : State) (p : Nat) : Nat := s.poolM p - s.poolFree p - (s.pool p).leaked

/-- The address of page `g` of a pool, and of a cell slot (16 * page + offset) (R424). -/
def State.pageAddr (s : State) (p g : Nat) : Nat := (s.rgn (s.poolRgn p)).start + 4096 * g

def State.cellAddr (s : State) (p c : Nat) : Nat := (s.rgn (s.poolRgn p)).start + 256 * c

/-- QUE_POOL_LOW once until F rises above the mark (R451). -/
def State.poolLow (s : State) (p : Nat) : State :=
  let r := s.pool p
  let isLow := decide (s.poolFree p * 256 < s.rd (Fd.QUE_POOL_CFG_LOW_TH p) * s.poolM p)
  if isLow ∧ !r.low then (s.setPool p { r with low := true }).raise 170 1 p
  else if !isLow ∧ r.low then s.setPool p { r with low := false }
  else s

/-- Pages added to LEAKED (R446). -/
def State.leak (s : State) (p n : Nat) : State :=
  if n = 0 then s
  else
    let r := s.pool p
    ((s.setPool p { r with leaked := r.leaked + n }).raise 173 1 (p + min n 0xFFFFFF * 65536)).poolLow p

/-! ### The cache in Crema (R427, R446) -/

/-- The internal offset of place `i` of a pool's cache. Which place an index takes is not stated (assumption 66). -/
def cacheOff (p i : Nat) : Nat := 0x200000 + 0x20000 * p + 4 * (i % 32768)

/-- An index is placed in the cache; in a fenced bank it is dropped (R446). -/
def State.cachePut (s : State) (p g : Nat) : State :=
  let r := s.pool p
  let off := cacheOff p r.top
  if s.bankFenced (cBank off) then (s.setPool p { r with top := r.top + 1 }).leak p 1
  else (s.cWrite off (leBytes 4 g)).setPool p { r with cache := (r.top, g) :: r.cache, top := r.top + 1 }

/-- A place of the cache can be read: its bank serves, and its bytes decode (R446). -/
def State.cacheRead (s : State) (p i : Nat) : State × Bool :=
  let off := cacheOff p i
  if s.bankFenced (cBank off) then (s, false)
  else
    let (s, _, bad) := s.cRead off 4 1 []
    (s, !bad.any id)

/-- The index placed most recently is taken; one that cannot be read is lost (R427, R446). -/
def State.cacheTake (s : State) (p : Nat) : Nat → State × Option Nat
  | 0 => (s, none)
  | k + 1 =>
    let r := s.pool p
    match r.cache with
    | [] => (s, none)
    | (i, g) :: rest =>
      let (s, ok) := (s.setPool p { r with cache := rest, top := i }).cacheRead p i
      if ok then (s, some g) else (s.leak p 1).cacheTake p k

/-- The stack page at depth `d` touches a fenced channel group (R445). -/
def State.stackFenced (s : State) (p d : Nat) : Bool :=
  (List.range 16).any fun i => s.lineFenced (s.pageAddr p (s.poolM p + d) + 256 * i)

/-- A refill (R428): the top stack page, or the next pages from BUMP. Entries of poisoned stack lines
are lost (R446). -/
def State.refill (s : State) (p : Nat) : State :=
  let r := s.pool p
  if 0 < r.depth then
    if s.stackFenced p (r.depth - 1) then s
    else
      let base := s.pageAddr p (s.poolM p + r.depth - 1)
      let (s, idx, bad) := (List.range 64).foldl (fun (x : State × List Nat × Nat) i =>
        let (s, d, psn) := (x.1.charge 254 64 false).memRead (base + 64 * i) 13
        if psn then (s, x.2.1, x.2.2 + 16)
        else (s, x.2.1 ++ (List.range 16).map (fun k => leNat ((d.drop (4 * k)).take 4)), x.2.2)) (s, [], 0)
      let r := s.pool p
      (idx.foldl (fun s g => s.cachePut p g) (s.setPool p { r with depth := r.depth - 1 })).leak p bad
  else
    let n := min 1024 (s.poolM p - r.bump)
    (List.range n).reverse.foldl (fun s i => s.cachePut p (r.bump + i)) (s.setPool p { r with bump := r.bump + n })

/-- A spill (R428): the 1,024 indices placed least recently become a stack page. Where some cannot be read they are
lost (R446), and the page waits for the next spill. -/
def State.spill (s : State) (p : Nat) : State :=
  let r := s.pool p
  if r.cache.length < 1024 ∨ s.stackFenced p r.depth then s
  else
    let keep := r.cache.length - 1024
    let (s, good) := (r.cache.drop keep).foldr (fun (e : Nat × Nat) (x : State × List (Nat × Nat)) =>
      let (s, ok) := x.1.cacheRead p e.1
      (s, if ok then e :: x.2 else x.2)) (s, [])
    if good.length < 1024 then
      let r := s.pool p
      (s.setPool p { r with cache := r.cache.take keep ++ good }).leak p (1024 - good.length)
    else
      let idx := (good.map (·.2)).reverse
      let base := s.pageAddr p (s.poolM p + r.depth)
      let s := (List.range 64).foldl (fun s i =>
        (s.charge 254 64 false).memWrite (base + 64 * i) 13 (((idx.drop (16 * i)).take 16).flatMap (leBytes 4)) false) s
      let r := s.pool p
      s.setPool p { r with cache := r.cache.take keep, depth := r.depth + 1 }

/-- An allocation (R427); none when no page can be had. With the cache empty and BUMP spent, the
stack refills the cache first (R428). -/
def State.allocPage (s : State) (p : Nat) : State × Option Nat :=
  let s := if (s.pool p).cache.isEmpty ∧ s.poolM p ≤ (s.pool p).bump then s.refill p else s
  let (s, g) := s.cacheTake p (s.pool p).cache.length
  match g with
  | some g => (s.poolLow p, some g)
  | none =>
    let r := s.pool p
    if r.bump < s.poolM p then ((s.setPool p { r with bump := r.bump + 1 }).poolLow p, some r.bump)
    else (s, none)

/-- A page can be allocated within the pool's limit (R433). -/
def State.canAlloc (s : State) (p : Nat) : Bool :=
  let lim := s.rd (Fd.QUE_POOL_LIM_LIMIT p)
  (lim == 0 || s.poolUsed p != lim) && s.poolFree p != 0

/-- A page placed in the cache (R427); with the cache full it is lost (R445). -/
def State.freePage (s : State) (p g : Nat) : State :=
  let r := s.pool p
  let full := match r.cache.getLast? with
    | some (i, _) => decide (i + 32768 ≤ r.top)
    | none => false
  if full then s.leak p 1 else (s.cachePut p g).poolLow p

/-- A page waits for its cells' reads (R426). -/
def State.releasePage (s : State) (p g : Nat) : State :=
  { s with que := { s.que with freeing := s.que.freeing ++ [(p, g)] } }

/-- A reclaim (R429). -/
def State.reclaim (s : State) (p : Nat) : State := (s.setPool p {}).poolLow p

/-! ### Queue records -/

/-- RESULT of ENQ, DEQ and QSTAT (R431). -/
def QRec.result (r : QRec) : Nat := r.cells + b2n r.opn * 2 ^ 28 + b2n r.inexact * 2 ^ 29 + r.pkts * 2 ^ 32

/-- The queue's counts have been set to 0: its DEQs under way subtract nothing more. -/
def State.noSubtract (s : State) (n : Nat) : State :=
  { s with que := { s.que with deqs := s.que.deqs.map fun (d : DeqOp) => if d.qid = n then { d with gone := true } else d } }

/-- A byte of Crema is in error beyond correction, or stored as poison, whatever the injector adds (R415). -/
def State.cLost (s : State) (off : Nat) : Bool :=
  match cDecode (s.cWord off) with
  | .storedPoison => true
  | .uncorrectable => true
  | _ => false

/-- The queue's 32 bytes of Crema state are read, and decode or not; a byte really uncorrectable loses the queue, one
that only injection makes so ends the request alone (R443, the corner of R446). -/
def State.queueLost (s : State) (n : Nat) : State × Bool :=
  let (s, _, p) := s.cRead (queueOff n) 32 1 []
  if p.any id ∧ !((List.range 32).any fun i => s.cLost (queueOff n + i)) then (s, true)
  else if p.any id then
    let pool := (s.q n).pool
    let s := { s with que := { s.que with drains := s.que.drains.filter (·.qid != n) } }
    let s := (List.range 32).foldl (fun s i => s.setCWord (queueOff n + i) 0) s
    (((s.setQ n {}).noSubtract n).raise 172 1 (n + pool * 65536), true)
  else (s, false)

/-- With CELLS 0 and no subtraction pending, BYTES, PKTS and INEXACT are 0 (R443). -/
def State.settleQ (s : State) (n : Nat) : State :=
  let r := s.q n
  if r.cells = 0 ∧ !(s.que.deqs.any fun d => d.qid == n && !d.cells.isEmpty && !d.gone && !d.aborted) then
    s.setQ n { r with bytes := 0, pkts := 0, inexact := false }
  else s

/-- The queue becomes DISABLED; its last page is freed once its reads are done; QUE_DRAINED
(R437, R438). -/
def State.disabled (s : State) (n : Nat) (flushed : Bool) : State :=
  let r := s.q n
  let late := s.que.drains.any fun d => d.qid == n && d.timedOut
  let s := s.releasePage r.pool (r.tail / 16)
  let s := { s with que := { s.que with drains := s.que.drains.filter (·.qid != n) } }
  ((s.setQ n {}).noSubtract n).raise 168 1 (n + r.pool * 65536 + b2n flushed * 2 ^ 20 + b2n late * 2 ^ 21)

/-- The rest of the chain is lost (R444): `cells` lost, `pages` leaked; HEAD = TAIL. -/
def State.chainLost (s : State) (n cells pages : Nat) : State :=
  let r := s.q n
  let s := (s.noSubtract n).setQ n { r with
    head := r.tail, hnext := none, hlost := false, cells := 0, bytes := 0, pkts := 0, opn := false
    inexact := false }
  (s.raise 171 1 (n + r.pool * 65536 + min cells 0xFFFFF * 2 ^ 20)).leak r.pool pages

/-- The NEXT of the head page is read, unless known or the head page is the tail page (R444); a link in a fenced channel
group waits. A foreign word loses the chain at once; a poisoned one when cell 15 is taken. -/
def State.linkRead (s : State) (n : Nat) : State :=
  let r := s.q n
  let a := s.cellAddr r.pool (r.head / 16 * 16 + 15)
  if r.hnext.isSome ∨ r.hlost ∨ r.head / 16 = r.tail / 16 ∨ s.lineFenced a then s
  else
    let (s, d, psn) := s.memReadReal a 13
    let r := s.q n
    if psn then s.setQ n { r with hlost := true }
    else
      let w := leNat (d.take 8)
      if bits w 63 48 ≠ n then s.chainLost n r.cells ((r.head % 16 + r.cells - r.tail % 16) / 16)
      else s.setQ n { r with hnext := some (w % 2 ^ 24) }

/-- HEAD advances by one cell, into the next page after cell 15 (R426, R444). -/
def State.advance (s : State) (n : Nat) : State :=
  let r := s.q n
  let r := { r with cells := r.cells - 1 }
  if r.head % 16 < 15 then s.setQ n { r with head := r.head + 1 }
  else
    let s := s.releasePage r.pool (r.head / 16)
    match r.hnext with
    | some g => s.setQ n { r with head := 16 * g, hnext := none, hlost := false }
    | none => (s.setQ n r).chainLost n r.cells ((r.cells - r.tail % 16) / 16)

/-- Up to `k` cells unlinked from the head: their slots, in order (R434). -/
def State.unlink (s : State) (n : Nat) : Nat → State × List Nat
  | 0 => (s, [])
  | k + 1 =>
    let s := s.linkRead n
    let r := s.q n
    if r.cells = 0 then (s, [])
    else
      let c := r.head
      let (s, rest) := (s.advance n).unlink n k
      (s, c :: rest)

/-! ### ENQ (R431–R433) -/

/-- LEN, SOP, EOP of a cell word (R425). -/
def cellLen (w : Nat) : Nat := bits w 31 24
def cellSop (w : Nat) : Bool := bit w 32
def cellEop (w : Nat) : Bool := bit w 33

/-- OPEN after the marks of the cells, and whether they follow R432. -/
def marks (opn : Bool) : List Nat → Bool × Bool
  | [] => (opn, true)
  | w :: ws =>
    let ok := cellSop w != opn
    let r := marks ((opn || cellSop w) && !cellEop w) ws
    (r.1, ok && r.2)

/-- The cell words of an ENQ's data. -/
def cellWords (c : Nat) (data : List Byte) : List Nat :=
  (List.range c).map fun i => leNat ((data.drop (256 * i)).take 8)

/-- The slots an ENQ of `c` cells takes given the page allocated, if it needs one. -/
def enqSlots (tail c : Nat) (page : Option Nat) : List Nat :=
  (List.range c).map fun i =>
    if tail % 16 + i < 16 then tail + i else 16 * page.getD 0 + (tail % 16 + i - 16)

/-- One cell stored at a slot: its word with QID and NEXT, then its data (R425, R431). -/
def State.storeCell (s : State) (id n pool slot next : Nat) (cell : List Byte) : State :=
  let w := leNat (cell.take 8)
  let w := n * 2 ^ 48 + b2n (cellEop w) * 2 ^ 33 + b2n (cellSop w) * 2 ^ 32 + cellLen w * 2 ^ 24 +
    (if slot % 16 = 15 then next else 0)
  let bytes := leBytes 8 w ++ (cell.drop 8).take 248
  let a := s.cellAddr pool slot
  (List.range 4).foldl (fun s i => s.engineWrite id (a + 64 * i) 13 ((bytes.drop (64 * i)).take 64) false) s

/-- A queue opcode reaches its queue: FENCED where the bank of its state is fenced (R446), POISON where the state does
not decode (R443), else `f`. -/
def State.atQueue (s : State) (t : Txn) (f : State → Nat → QRec → State) : State :=
  let n := t.head.spec % 65536
  if s.bankFenced (cBank (queueOff n)) then s.respond t stFENCED
  else
    let (s, lost) := s.queueLost n
    if lost then s.respond t stPOISON else f s n (s.q n)

/-- ENQ at its queue, in the order of R433. -/
def State.enq (s : State) (t : Txn) : State :=
  let c := t.head.lenArg % 8
  let ws := cellWords c t.payload
  s.atQueue t fun s n r =>
    let (opn, marked) := marks r.opn ws
    let lens := ws.all fun w => decide (1 ≤ cellLen w) && decide (cellLen w ≤ 248)
    let need := decide (16 ≤ r.tail % 16 + c)
    let badMark := s.on Fd.QUE_CTL_MARK_CHK && !marked
    if r.state = 0 then s.respond t stREJ_REGION
    else if 2 ≤ r.state then s.respond t stDRAINING
    else if !lens ∨ badMark then
      (if badMark then s.raise 174 1 (n + r.pool * 65536) else s).respond t stABORTED 0 [] 0 4
    else if (r.limit ≠ 0 ∧ r.limit < r.cells + c) ∨ (need ∧ !s.canAlloc r.pool) then
      (s.count Fd.QUE_FULL_CNT_COUNT Fd.QUE_FULL_CNT_OVF 1).respond t stFULL
    else
      let (s, page) := if need then s.allocPage r.pool else (s, none)
      let slots := enqSlots r.tail c page
      if need ∧ page.isNone then
        (s.count Fd.QUE_FULL_CNT_COUNT Fd.QUE_FULL_CNT_OVF 1).respond t stFULL
      else if slots.any fun x => s.lineFenced (s.cellAddr r.pool x) then
        (match page with
          | some g => s.freePage r.pool g
          | none => s).respond t stFENCED
      else
        let s := (List.range c).foldl (fun s i =>
          s.storeCell t.id n r.pool (nth 0 slots i) (page.getD 0) ((t.payload.drop (256 * i)).take 256)) s
        let tail := if need then 16 * page.getD 0 + (r.tail % 16 + c - 16) else r.tail + c
        let r' := { r with
          tail := tail
          cells := r.cells + c
          bytes := r.bytes + (ws.map cellLen).foldl (· + ·) 0
          pkts := r.pkts + (ws.filter cellEop).length
          opn := opn
          hnext := if need ∧ r.head / 16 = r.tail / 16 then page else r.hnext }
        ((s.setQ n r').count Fd.QUE_ENQ_CELLS_COUNT Fd.QUE_ENQ_CELLS_OVF c).respond t stOK r'.result

/-! ### DEQ (R434, R443, R445) -/

/-- A cell as read: its 256 bytes with NEXT zero, its word, and whether it is poisoned; a foreign QID
poisons it whole (R443). The word is none when line 0 is poisoned or foreign. `first`: line 0, where read before. -/
def State.readCell (s : State) (n pool slot : Nat) (first : Option (List Byte × Bool)) :
    State × List Byte × Option Nat × Bool :=
  let a := s.cellAddr pool slot
  let (s, d0, p0) := match first with
    | some x => (s, x)
    | none => s.memRead a 13
  let (s, d1, p1) := s.memRead (a + 64) 13
  let (s, d2, p2) := s.memRead (a + 128) 13
  let (s, d3, p3) := s.memRead (a + 192) 13
  let z (d : List Byte) (p : Bool) := if p then List.replicate 64 0 else d
  let w := leNat (d0.take 8)
  if p0 then (s, List.replicate 64 0 ++ z d1 p1 ++ z d2 p2 ++ z d3 p3, none, true)
  else if bits w 63 48 ≠ n then (s, List.replicate 256 0, none, true)
  else (s, leBytes 8 (w / 2 ^ 24 * 2 ^ 24) ++ d0.drop 8 ++ z d1 p1 ++ z d2 p2 ++ z d3 p3, some w,
    p1 || p2 || p3)

/-- The counts of one read cell leave the queue (R434, R443). -/
def State.subtract (s : State) (n : Nat) (w : Option Nat) : State :=
  let r := s.q n
  match w with
  | some w => s.setQ n { r with bytes := r.bytes - cellLen w, pkts := r.pkts - b2n (cellEop w) }
  | none => s.setQ n { r with bytes := r.bytes - 248, inexact := true }

/-- The cells of a DEQ all read: the response (R434). -/
def State.deqDone (s : State) (d : DeqOp) : State :=
  let s := { s with que := { s.que with deqs := s.que.deqs.filter (·.txn != d.txn) } }
  let s := s.settleQ d.qid
  let s := s.count Fd.QUE_DEQ_CELLS_COUNT Fd.QUE_DEQ_CELLS_OVF d.taken
  let s := if d.aborted then s else s.count Fd.QUE_PSN_CNT_COUNT Fd.QUE_PSN_CNT_OVF (popCount 4 d.pmask)
  let res := (s.q d.qid).result
  match s.txn d.txn with
  | some t =>
    if d.aborted then s.respond t stABORTED
    else s.respond t (if d.pmask = 0 then stOK else stPOISON) res d.data d.pmask
  | none => s

/-- The next cell of a DEQ is read: its counts are subtracted and its data kept (R434). -/
def State.deqCell (s : State) (d : DeqOp) : State :=
  match d.cells with
  | [] => s.deqDone d
  | c :: rest =>
    let aborted := s.lineFenced (s.cellAddr d.pool c)
    let (s, data, w, psn) := if aborted then (s, List.replicate 256 0, none, true)
      else s.readCell d.qid d.pool c d.first.head?
    let s := if d.aborted ∨ d.gone then s else s.subtract d.qid w
    let i := d.data.length / 256
    let d' := { d with cells := rest, first := d.first.drop 1, data := d.data ++ data, pmask := d.pmask + b2n psn * 2 ^ i }
    let s := { s with que := { s.que with deqs := s.que.deqs.map fun x => if x.txn = d.txn then d' else x } }
    if rest.isEmpty then s.deqDone d' else s

/-- The line-0 reads of a DEQ with PKT, of every candidate cell (R434). -/
def State.pktReads (s : State) (pool : Nat) : List Nat → State × List (List Byte × Bool)
  | [] => (s, [])
  | c :: rest =>
    let (s, x) := s.memRead (s.cellAddr pool c) 13
    let (s, xs) := s.pktReads pool rest
    (s, x :: xs)

/-- The number of cells a DEQ with PKT takes: up to the first EOP of its candidates (R434, R443). -/
def pktCells (n : Nat) : List (List Byte × Bool) → Nat
  | [] => 0
  | (d, psn) :: rest =>
    let w := leNat (d.take 8)
    if !psn ∧ bits w 63 48 = n ∧ cellEop w then 1 else pktCells n rest + 1

/-- The slots of the first `k` cells from the head, across at most one known page end. -/
def candidates (r : QRec) (k : Nat) : List Nat :=
  (List.range k).map fun i =>
    if r.head % 16 + i < 16 then r.head + i else 16 * r.hnext.getD 0 + (r.head % 16 + i - 16)

/-- DEQ at its queue (R434). A DRAINING queue whose last cell leaves becomes DISABLED (R437). -/
def State.deq (s : State) (t : Txn) : State :=
  let pkt := bit t.head.spec 16
  s.atQueue t fun s n r =>
    if r.state = 0 then s.respond t stREJ_REGION
    else if r.state = 3 then s.respond t stDRAINING
    else if r.cells = 0 then s.respond t stEMPTY
    else
      let past := 16 ≤ r.head % 16 + min (t.head.lenArg % 8) r.cells
      let cut := past && r.head / 16 != r.tail / 16 && r.hnext.isNone && !r.hlost &&
        s.lineFenced (s.cellAddr r.pool (r.head / 16 * 16 + 15))
      let s := if past then s.linkRead n else s
      let r := s.q n
      let k := min (t.head.lenArg % 8) r.cells
      let k := if r.hlost then min k (16 - r.head % 16) else k
      let cand := candidates r k
      if r.cells = 0 then s.respond t stEMPTY
      else if cut ∨ cand.any fun x => s.lineFenced (s.cellAddr r.pool x) then s.respond t stFENCED
      else
        let (s, first) := if pkt then s.pktReads r.pool cand else (s, [])
        let k := if pkt then pktCells n first else k
        let (s, cells) := s.unlink n k
        let gone := (s.q n).cells + cells.length != r.cells
        let s := if r.state = 2 ∧ (s.q n).cells = 0 then s.disabled n false else s
        let d : DeqOp := { txn := t.id, qid := n, pool := r.pool, cells, data := [], pmask := 0, taken := cells.length,
                           aborted := false, first := first.take cells.length,
                           gone := gone || (s.q n).state == 0 }
        let s := { s with que := { s.que with deqs := s.que.deqs ++ [d] } }
        let s := s.setTxn { t with stage := .running, left := 1 }
        if pkt then cells.foldl (fun s _ => match s.que.deqs.find? (·.txn == t.id) with
          | some d => s.deqCell d
          | none => s) s else s

/-! ### QSTAT and QCTL (R435, R436) -/

def State.qstat (s : State) (t : Txn) : State :=
  s.atQueue t fun s _ r =>
    let w := r.head + r.tail * 2 ^ 28 + r.bytes * 2 ^ 56 + r.limit * 2 ^ 92 + r.pool * 2 ^ 120 +
      r.state * 2 ^ 124 + b2n r.prot * 2 ^ 126
    s.respond t stOK r.result (leBytes 16 w)

/-- Every DEQ of the queue whose response is not formed completes ABORTED (R438). -/
def State.abortDeqs (s : State) (n : Nat) : State :=
  (s.que.deqs.filter (·.qid == n)).foldl (fun s d => s.deqDone { d with aborted := true, taken := 0 }) s

/-- The queue moves to FLUSHING (R438). -/
def State.flushing (s : State) (n : Nat) : State := (s.setQ n { s.q n with state := 3 }).abortDeqs n

def State.drainEnt (s : State) (n code : Nat) : State :=
  if s.que.drains.any (·.qid == n) then s
  else { s with que := { s.que with drains := s.que.drains ++ [{ qid := n, code, timedOut := false }] } }

/-- The common checks of a QCTL at its queue, then `f`. -/
def State.qctl (s : State) (t : Txn) (f : State → Nat → QRec → State × Nat) : State :=
  s.atQueue t fun s n r =>
    let (s, st) := f s n r
    let s := if st = stFULL then s.count Fd.QUE_FULL_CNT_COUNT Fd.QUE_FULL_CNT_OVF 1 else s
    s.respond t st (if st = stOK then (s.q n).state else 0)

/-- QCTL ENABLE (R436). -/
def State.qEnable (s : State) (t : Txn) : State :=
  s.qctl t fun s n r =>
    let lim := bits t.head.addr 31 4
    let prot := bit t.head.addr 32
    let p := t.head.addr % 16
    if 2 ≤ r.state then (s, stDRAINING)
    else if r.state = 1 then (s.setQ n { r with limit := lim, prot := prot }, stOK)
    else if !s.canAlloc p then (s, stFULL)
    else
      let (s, g) := s.allocPage p
      match g with
      | none => (s, stFULL)
      | some g => (s.setQ n { state := 1, pool := p, head := 16 * g, tail := 16 * g, limit := lim, prot := prot }, stOK)

/-- QCTL DISABLE (R437). -/
def State.qDisable (s : State) (t : Txn) : State :=
  s.qctl t fun s n r =>
    let c := t.head.lenArg % 32
    let code := if c = 31 then s.rd Fd.QUE_CTL_DRAIN_TO else c
    if 2 ≤ r.state then (s, stDRAINING)
    else if r.state = 0 then (s, stREJ_REGION)
    else if r.cells = 0 then (s.disabled n false, stOK)
    else if 64 ≤ s.que.drains.length then (s, stRETRY)
    else ((s.setQ n { r with state := 2 }).drainEnt n code, stOK)

/-- QCTL FLUSH (R438). -/
def State.qFlush (s : State) (t : Txn) : State :=
  s.qctl t fun s n r =>
    if r.state = 3 then (s, stDRAINING)
    else if r.state = 0 then (s, stREJ_REGION)
    else if r.state = 1 ∧ 64 ≤ s.que.drains.length then (s, stRETRY)
    else ((s.drainEnt n 0).flushing n, stOK)

/-- QCTL SET_LIMIT (R436). -/
def State.qSetLimit (s : State) (t : Txn) : State :=
  s.qctl t fun s n r =>
    if r.state = 0 then (s, stREJ_REGION) else (s.setQ n { r with limit := bits t.head.addr 31 4 }, stOK)

/-- QCTL SET_PROT (R436). -/
def State.qSetProt (s : State) (t : Txn) : State :=
  s.qctl t fun s n r =>
    if r.state = 0 then (s, stREJ_REGION) else (s.setQ n { r with prot := bit t.head.addr 32 }, stOK)

/-- One step of a flush walk (R438): the head page is freed once its next is known; at the tail page
the queue becomes DISABLED. A lost link stops the walk (R444). -/
def State.walk (s : State) (n : Nat) : State :=
  let r := s.q n
  if r.state ≠ 3 then s
  else if r.head / 16 = r.tail / 16 then s.disabled n true
  else
    let s := s.linkRead n
    let r := s.q n
    if r.head / 16 = r.tail / 16 then s.disabled n true
    else if r.hlost then
      let left := r.cells - (16 - r.head % 16)
      (((s.releasePage r.pool (r.head / 16)).setQ n { r with cells := left }).chainLost n left
        ((left - r.tail % 16) / 16)).disabled n true
    else match r.hnext with
      | some g => (s.releasePage r.pool (r.head / 16)).setQ n
          { r with head := 16 * g, hnext := none, cells := r.cells - (16 - r.head % 16) }
      | none => s

/-- A page whose cells' reads are all done returns to the free list (R426). -/
def State.pageFree (s : State) (p g : Nat) : State :=
  if s.que.freeing.contains (p, g) ∧
      !(s.que.deqs.any fun d => d.pool == p && d.cells.any fun c => c / 16 == g) then
    { s with que := { s.que with freeing := s.que.freeing.erase (p, g) } }.freePage p g
  else s

/-- Queues of a pool that are not DISABLED (R429). -/
def State.poolBusy (s : State) (p : Nat) : Bool := s.que.qs.any fun e => e.2.state != 0 && e.2.pool == p

/-! ### Save, restore and takeover (R449, R450) -/

/-- The state can be saved to SAVE_RGN (R450). `cls`: the kept class, or 0 in RETAIN. -/
def State.queSavable (s : State) (cls : Nat) : Bool :=
  let r := s.rgn (s.rd Fd.QUE_CTL_SAVE_RGN)
  s.on Fd.QUE_CTL_SAVE_EN && r.valid && r.key == 0 && r.win == 0 && r.kind == kPLAIN && decide (cls ≤ r.ret)

/-- A pool's cache goes to its stack, a page at a time (R450). What is less than a page stays with the saved state
(assumption 66). -/
def State.spillAll (s : State) (p : Nat) : Nat → State
  | 0 => s
  | k + 1 => if (s.pool p).cache.length < 1024 then s else (s.spill p).spillAll p k

/-- The write of an engine's state to `n` lines from `a` (R450, R506), whose layout is not stated; false where one lies in
a fenced channel group. -/
def State.saveLines (s : State) (a n ini : Nat) : State × Bool :=
  (List.range n).foldl (fun (x : State × Bool) i =>
    if x.1.lineFenced (a + 64 * i) then (x.1, false)
    else (x.1.drawn.memWrite (a + 64 * i) ini (leBytes 64 x.1.free) false, x.2)) (s, true)

/-- Those lines read back at the wake: whether all came back. -/
def State.loadLines (s : State) (a n ini : Nat) : State × Bool :=
  (List.range n).foldl (fun (x : State × Bool) i =>
    if x.1.lineFenced (a + 64 * i) then (x.1, false)
    else
      let r := x.1.memRead (a + 64 * i) ini
      (r.1, x.2 && !r.2.2)) (s, true)

/-- Lines of the queue engine's save: 2 MiB and 16 bytes per pool (R450). -/
def queSaveLines : Nat := 32772

/-- The entry's spill of every cache and the save (R450); one that fails is reported (R451). -/
def State.queSave (s : State) (cls : Nat) : State :=
  if s.queSavable cls then
    let s := (List.range 16).foldl (fun s p => if s.on (Fd.QUE_POOL_CFG_VALID p) then s.spillAll p 33 else s) s
    let (s, ok) := s.saveLines (s.rgn (s.rd Fd.QUE_CTL_SAVE_RGN)).start queSaveLines 13
    if ok then { s with que := { s.que with saved := some (s.que.qs, s.que.pools) } }
    else { s with que := { s.que with saved := none } }.raise 177 1 0
  else { s with que := { s.que with saved := none } }

/-- Every queue DISABLED and every pool reclaimed; QUE_STATE_LOST with 0xFFFF (R450). -/
def State.queLost (s : State) : State :=
  { s with que := { s.que with qs := [], pools := [], drains := [], deqs := [], freeing := [] } }.raise
    172 1 0xFFFF

/-- The restore at wake (R450); a read that fails loses the queues (R451). In RETAIN-PARTIAL a pool whose region is not
kept is reclaimed and its queues become DISABLED. -/
def State.queRestore (s : State) (cls : Nat) : State :=
  match s.que.saved with
  | none => s.queLost
  | some (qs, ps) =>
    let kept (p : Nat) : Bool := decide (cls ≤ (s.rgn (s.poolRgn p)).ret)
    let (s, ok) := s.loadLines (s.rgn (s.rd Fd.QUE_CTL_SAVE_RGN)).start queSaveLines 13
    if !ok then (s.raise 177 1 0).queLost
    else { s with que := { s.que with
        qs := qs.filter fun e => kept e.2.pool
        pools := ps.filter fun e => kept e.1
        saved := none } }

/-- A checkpointed queue of a lost partner comes into force, ENABLED and empty (R449). -/
def State.takeQueue (s : State) (n pool limit cells : Nat) : State × Bool :=
  if (s.q n).state ≠ 0 ∨ !s.on (Fd.QUE_POOL_CFG_VALID pool) ∨ !s.canAlloc pool then
    (s.raise 176 1 (n + pool * 65536), false)
  else
    let (s, g) := s.allocPage pool
    match g with
    | none => (s.raise 176 1 (n + pool * 65536), false)
    | some g => ((s.setQ n { state := 1, pool := pool, head := 16 * g, tail := 16 * g, limit := limit, prot := true }).wr
        Fd.QUE_TAKE_CELLS_CELLS (s.rd Fd.QUE_TAKE_CELLS_CELLS + cells), true)

end Sys2Proof.Machine
end

