-- ==== Sys2Proof/Machine/Table.lean ====
section
/-! DEFINITION. The table engine: descriptors (R457, R458), buckets and hashes (R459–R461), PROBE,
INSERT with displacement and DELETE (R462–R467), locks (R468–R470), poison and fences (R471, R472),
table commands (R474, R475) and emptying (R476). -/

namespace Sys2Proof.Machine

/-! ### Descriptors -/

/-- A table's attributes (R457). -/
structure Desc where
  valid : Bool
  rgn : Nat
  off : Nat
  bsize : Nat
  log2nb : Nat
  keylen : Nat
  reslen : Nat
  init : Bool
  seed : List Nat
  deriving DecidableEq, Repr

def State.desc (s : State) (t : Nat) : Desc where
  valid := s.on (Fd.TBL_D_CFG_VALID t)
  rgn := s.rd (Fd.TBL_D_CFG_RGN t)
  off := s.rd (Fd.TBL_D_BASE_OFFSET t)
  bsize := s.rd (Fd.TBL_D_CFG_BSIZE t)
  log2nb := s.rd (Fd.TBL_D_CFG_LOG2NB t)
  keylen := s.rd (Fd.TBL_D_CFG_KEYLEN t)
  reslen := s.rd (Fd.TBL_D_CFG_RESLEN t)
  init := s.on (Fd.TBL_D_CFG_INIT t)
  seed := (List.range 4).map fun k => s.rd (Fd.TBL_D_SEED_SEED t k)

/-- The staged entry (R480). -/
def State.descStaged (s : State) : Desc where
  valid := s.on Fd.TBL_STG_CFG_VALID
  rgn := s.rd Fd.TBL_STG_CFG_RGN
  off := s.rd Fd.TBL_STG_BASE_OFFSET
  bsize := s.rd Fd.TBL_STG_CFG_BSIZE
  log2nb := s.rd Fd.TBL_STG_CFG_LOG2NB
  keylen := s.rd Fd.TBL_STG_CFG_KEYLEN
  reslen := s.rd Fd.TBL_STG_CFG_RESLEN
  init := s.on Fd.TBL_STG_CFG_INIT
  seed := (List.range 4).map fun k => s.rd (Fd.TBL_STG_SEED_SEED k)

/-- Bucket size B, buckets NB, way size W (R457, R459). -/
def Desc.bytes (d : Desc) : Nat := 64 * 2 ^ d.bsize

def Desc.nb (d : Desc) : Nat := 2 ^ d.log2nb

def Desc.way (d : Desc) : Nat := (d.bytes - 16) / 4

/-- The table base and its footprint (R457, R458). -/
def State.tblBase (s : State) (d : Desc) : Nat := (s.rgn d.rgn).start + 256 * d.off

def State.tblSpan (s : State) (d : Desc) : Nat × Nat := (s.tblBase d, d.nb * d.bytes)

/-- The table lies in the Crema window (R481). -/
def State.pinned (s : State) (d : Desc) : Bool := d.valid && (s.rgn d.rgn).win == 1

/-- The valid descriptors, in ascending order. -/
def State.tables (s : State) : List Nat :=
  s.regs.filterMap fun e =>
    if Ra.TBL_D_CFG 0 ≤ e.1 ∧ e.1 ≤ Ra.TBL_D_CFG 255 ∧ e.1 % 32 = 0 ∧ bit e.2.toNat 31 then
      some ((e.1 - Ra.TBL_D_CFG 0) / 32) else none

/-- The configuration check of R458 on descriptor `d` as table `t`: none, or the RESULT of R480 for
what fails (5 REGION, 6 RANGE, 7 OVERLAP, 8 WAY_SIZE; judged in that order, assumption 20). -/
def State.descCheck (s : State) (t : Nat) (d : Desc) : Option Nat :=
  let r := s.rgn d.rgn
  let sp := s.tblSpan d
  if !r.valid ∨ r.kind ≠ kTABLE then some 5
  else if 2 < d.bsize ∨ d.log2nb < 4 ∨ 28 < d.log2nb ∨ d.keylen = 0 ∨ 48 < d.keylen ∨ 16 < d.reslen ∨
      r.stop < sp.1 + sp.2 then some 6
  else if s.tables.any fun u => u != t && overlap sp (s.tblSpan (s.desc u)) then some 7
  else if d.way < d.keylen + d.reslen then some 8
  else none

/-! ### Hash (R460) -/

/-- First choice, second choice and fingerprint of a key. -/
def Desc.hash (d : Desc) (key : List Byte) : Nat × Nat × Nat :=
  let x := Config.sm3 (d.seed.flatMap (leBytes 4) ++ key)
  let h1 := x % 2 ^ 64 % d.nb
  let h2 := x / 2 ^ 64 % 2 ^ 64 % d.nb
  (h1, if h2 = h1 then Nat.xor h1 1 else h2, bits x 135 128)

/-! ### Buckets (R459, R461) -/

def wayValid (b : List Byte) (w : Nat) : Bool := bit (nth 0 b w).toNat 0

def wayFp (b : List Byte) (w : Nat) : Nat := (nth 0 b (4 + w)).toNat

/-- The W bytes of a way. -/
def Desc.wayBytes (d : Desc) (b : List Byte) (w : Nat) : List Byte := (b.drop (16 + d.way * w)).take d.way

/-- The way that holds a key, if any (R461). -/
def Desc.find (d : Desc) (b key : List Byte) (fp : Nat) : Option Nat :=
  (List.range 4).find? fun w => wayValid b w && wayFp b w == fp && (d.wayBytes b w).take d.keylen == key

/-- The lowest free way. -/
def freeWay (b : List Byte) : Option Nat := (List.range 4).find? fun w => !wayValid b w

/-- A bucket with bytes replaced from an offset. -/
def splice (b : List Byte) (off : Nat) (x : List Byte) : List Byte :=
  b.take off ++ x ++ b.drop (off + x.length)

/-- A way written: FLAGS, FP and its bytes. -/
def Desc.setWay (d : Desc) (b : List Byte) (w flags fp : Nat) (x : List Byte) : List Byte :=
  splice (splice (splice b w [BitVec.ofNat 8 flags]) (4 + w) [BitVec.ofNat 8 fp]) (16 + d.way * w)
    ((List.range d.way).map fun i => nth 0 x i)

/-- The FLAGS, FP and bytes of a way, as one list. -/
def Desc.entry (d : Desc) (b : List Byte) (w : Nat) : List Byte :=
  nth 0 b w :: nth 0 b (4 + w) :: d.wayBytes b w

/-- The bucket is being moved and lies below the copy point (R475): the copy's RGN and OFFSET. -/
def State.movedTo (s : State) (t b : Nat) : Option (Nat × Nat) :=
  match s.tbl.cmd with
  | some (3, u, cp, r, o) => if u = t ∧ b < cp then some (r, o) else none
  | _ => none

/-- The address at which a bucket is served (R457, R475). -/
def State.bucketAddr (s : State) (t b : Nat) : Nat :=
  let d := s.desc t
  match s.movedTo t b with
  | some (r, o) => (s.rgn r).start + 256 * o + d.bytes * b
  | none => s.tblBase d + d.bytes * b

/-- A bucket as delivered, and whether any line of it is poisoned (R471). -/
def State.readBucket (s : State) (t b : Nat) : State × List Byte × Bool :=
  s.memReadN (s.bucketAddr t b) (s.desc t).bytes 14

/-- A bucket is written whole, for the mirror too (R467, R473): DELETE's charge of 3 × B is two buckets read and one
written. -/
def State.writeBucketAt (s : State) (id a : Nat) (new : List Byte) : State :=
  (List.range (new.length / 64)).foldl (fun s i => s.engineWrite id (a + 64 * i) 14 ((new.drop (64 * i)).take 64) false) s

/-- The bucket is in a fenced channel group or Crema bank (R472). -/
def State.bucketFenced (s : State) (t b : Nat) : Bool :=
  (List.range ((s.desc t).bytes / 64)).any fun i => s.lineFenced (s.bucketAddr t b + 64 * i)

/-! ### Locks (R468, R470) -/

/-- The table and bucket a line lies in, if any: the served footprints, and while a table moves both
of its footprints. -/
def State.bucketOf (s : State) (a : Nat) : Option (Nat × Nat) :=
  s.tables.findSome? fun t =>
    let d := s.desc t
    let sp := s.tblSpan d
    if sp.1 ≤ a ∧ a < sp.1 + sp.2 then some (t, (a - sp.1) / d.bytes)
    else match s.tbl.cmd with
      | some (3, u, _, r, o) =>
        let b := (s.rgn r).start + 256 * o
        if u = t ∧ b ≤ a ∧ a < b + sp.2 then some (t, (a - b) / d.bytes) else none
      | _ => none

/-- Host line accesses in flight: in the fabric, a read queue or a merge buffer. -/
def State.hostAccs (s : State) : List Acc :=
  (s.fabric ++ s.pcs.flatMap fun e => e.2.rq ++ e.2.mb).filter fun a => a.ini ≤ 12

/-- The bucket locks that line accesses in flight hold: bucket and whether exclusive (R470). -/
def State.lineLocks (s : State) : List ((Nat × Nat) × Bool) :=
  s.hostAccs.filterMap fun a => (s.bucketOf (64 * a.line)).map fun b => (b, a.kind != .read)

/-- Lock entries in use (R479). -/
def State.locksUsed (s : State) : Nat := (s.lineLocks.map (·.1)).eraseDups.length

/-- A lock on a bucket can be taken (R468). -/
def State.lockFree (s : State) (b : Nat × Nat) (excl : Bool) : Bool :=
  let l := s.lineLocks
  !(l.any fun e => e.1 == b && (excl || e.2)) &&
    (l.any (fun e => e.1 == b) || decide (s.locksUsed < 1024))

/-- Line accesses enter the fabric, or wait for their bucket's lock (R470). -/
def State.present (s : State) (a : Acc) : State :=
  match s.bucketOf (64 * a.line) with
  | some b =>
    if s.lockFree b (a.kind != .read) ∧ !(s.tbl.waiting.any fun w => s.bucketOf (64 * w.line) == some b) then
      { s with fabric := s.fabric ++ [a] }
    else { s with tbl := { s.tbl with waiting := s.tbl.waiting ++ [a] } }
  | none => { s with fabric := s.fabric ++ [a] }

/-! ### Counts and events -/

def State.entries (s : State) (t : Nat) : Int := Tab.get (fun _ => 0) s.tbl.count t

/-- A poisoned bucket found (R471). -/
def State.bucketPoison (s : State) (t b : Nat) : State :=
  let s := s.count Fd.TBL_PSN_CNT_COUNT Fd.TBL_PSN_CNT_OVF 1
  if rateOk (Tab.get (fun _ => 0) s.tbl.psnTime t) s.clk.time msTicks then
    { s with tbl := { s.tbl with
      psnTime := Tab.put (fun _ => 0) s.tbl.psnTime t (s.clk.time + 1) } }.raise 184 1 (t + b * 256)
  else s

/-- The engine's count of entries changes; TBL_LOAD_HIGH once until the count falls below
(R478, R481). -/
def State.addEntry (s : State) (t b : Nat) (n : Int) : State :=
  let c := s.entries t + n
  let th := s.rd (Fd.TBL_D_LOAD_LOAD_TH t)
  let mark : Int := th * 4 * (s.desc t).nb
  let isHigh := decide (th ≠ 0) && decide (mark < 256 * c)
  let was := decide (t ∈ s.tbl.high)
  let s := { s with tbl := { s.tbl with
    count := Tab.put (fun _ => 0) s.tbl.count t c
    high := if isHigh then (if was then s.tbl.high else t :: s.tbl.high)
      else if 256 * c < mark ∨ th = 0 then s.tbl.high.filter (· != t) else s.tbl.high } }
  if isHigh ∧ !was then s.raise 188 1 (t + b * 256) else s

/-- TBL_CMD ends (R474, R478). -/
def State.cmdDone (s : State) (t op result : Nat) : State :=
  (s.wr Fd.TBL_CMD_RESULT result).raise 187 1 (t + op * 256 + result * 4096)

/-! ### Operations -/

/-- TID of a table request. -/
def Txn.tid (t : Txn) : Nat := t.head.spec % 256

/-- Requests of a table that are executing or waiting to (R474). -/
def State.tblOps (s : State) (t : Nat) : List Txn :=
  s.req.txns.filter fun x => isTable x.op && x.tid == t && (x.stage == .heldLock || x.stage == .running)

/-- Requests of a table that are not complete: those, and the ones that wait for the partner (R473, R474). -/
def State.tblLive (s : State) (t : Nat) : Bool :=
  !(s.tblOps t).isEmpty || s.req.txns.any fun x => isTable x.op && x.tid == t && x.stage == .heldMirror

/-- A RETIRE completes once the operations before it have (R474). -/
def State.retireCheck (s : State) (t : Nat) : State :=
  match s.tbl.cmd with
  | some (2, u, _) =>
    if u = t ∧ !s.tblLive t then
      { s with tbl := { s.tbl with cmd := none } }.cmdDone t 2 1
    else s
  | _ => s

/-- The RETIRE in progress completes if nothing of its table is left. -/
def State.retireSettle (s : State) : State :=
  match s.tbl.cmd with
  | some (2, u, _) => s.retireCheck u
  | _ => s

/-- The engine's answer to an operation: at once, or with the partner's commits of what it wrote
(R473). -/
def State.tblAnswer (s : State) (id status : Nat) (result : Nat := 0) (data : List Byte := []) : State :=
  match s.txn id with
  | none => s
  | some t =>
    let s := { s with tbl := { s.tbl with disp := s.tbl.disp.filter (·.txn != id) } }
    let s := if status = stFULL then s.count Fd.TBL_FULL_CNT_COUNT Fd.TBL_FULL_CNT_OVF 1 else s
    let s := if t.mirrorLeft = 0 then s.respond t status result data 0 t.rflags
      else s.setTxn { t with status, result, left := 0, stage := .heldMirror }
    s.retireCheck t.tid

/-- RESULT of a table opcode (R462). -/
def tblResult (way choice moves b : Nat) (replaced : Bool) : Nat :=
  way + choice * 4 + b2n replaced * 8 + moves % 16 * 16 + b * 2 ^ 32

/-- The two candidate buckets of a key as read. -/
structure Cands where
  h1 : Nat
  h2 : Nat
  fp : Nat
  key : List Byte
  b1 : List Byte
  b2 : List Byte
  p1 : Bool
  p2 : Bool
  /-- Ways that hold the key, in clean buckets. -/
  w1 : Option Nat
  w2 : Option Nat
  deriving DecidableEq, Repr

/-- Both candidate buckets are read; each poisoned one is a finding (R471). -/
def State.cands (s : State) (t : Txn) : State × Cands :=
  let d := s.desc t.tid
  let key := t.payload.take d.keylen
  let (h1, h2, fp) := d.hash key
  let (s, b1, p1) := s.readBucket t.tid h1
  let (s, b2, p2) := s.readBucket t.tid h2
  let s := if p1 then s.bucketPoison t.tid h1 else s
  let s := if p2 then s.bucketPoison t.tid h2 else s
  (s, { h1, h2, fp, key, b1, b2, p1, p2
        w1 := if p1 then none else d.find b1 key fp
        w2 := if p2 then none else d.find b2 key fp })

/-- An older operation of the port on the table still waits or displaces (R469). -/
def State.tblBehind (s : State) (t : Txn) : Bool :=
  (s.tblOps t.tid).any fun x => x.port == t.port && decide (x.id < t.id)

/-- A request that cannot have its locks waits (R468). -/
def State.tblWait (s : State) (t : Txn) : State := s.setTxn { t with stage := .heldLock }

/-- The head checks at execution (R462, R472, R474), then `f`. -/
def State.tblOp (s : State) (t : Txn) (excl : Bool) (f : State → Txn → State) : State :=
  let d := s.desc t.tid
  let (h1, h2, _) := d.hash (t.payload.take d.keylen)
  if !d.valid then s.tblAnswer t.id stREJ_REGION
  else if !s.on (Fd.TBL_D_STAT_READY t.tid) then s.tblAnswer t.id stRETRY
  else if s.bucketFenced t.tid h1 ∨ s.bucketFenced t.tid h2 then s.tblAnswer t.id stFENCED
  else if s.tblBehind t ∨ !s.lockFree (t.tid, h1) excl ∨ !s.lockFree (t.tid, h2) excl then s.tblWait t
  else
    let t := { t with stage := .running, left := 1 }
    f (s.setTxn t) t

/-- PROBE at its table (R463, R471). -/
def State.probe (s : State) (t : Txn) : State :=
  s.tblOp t false fun s t =>
    let d := s.desc t.tid
    let s := s.count Fd.TBL_PROBE_CNT_COUNT Fd.TBL_PROBE_CNT_OVF 1
    let (s, c) := s.cands t
    let hit (s : State) (b : List Byte) (w ch h : Nat) : State :=
      (s.count Fd.TBL_HIT_CNT_COUNT Fd.TBL_HIT_CNT_OVF 1).tblAnswer t.id stOK (tblResult w ch 0 h false)
        ((List.range 16).map fun i =>
          if i < d.reslen then nth 0 (d.wayBytes b w) (d.keylen + i) else 0)
    match c.w1, c.w2 with
    | some w, w2 => hit (if w2.isSome then s.raise 186 1 (t.tid + c.h1 * 256) else s) c.b1 w 0 c.h1
    | none, some w => hit s c.b2 w 1 c.h2
    | none, none => s.tblAnswer t.id (if c.p1 ∨ c.p2 then stPOISON else stNOTFOUND)

/-- DELETE at its table (R467, R471). -/
def State.delete (s : State) (t : Txn) : State :=
  s.tblOp t true fun s t =>
    let d := s.desc t.tid
    let (s, c) := s.cands t
    let del (s : State) (b : List Byte) (w ch h : Nat) : State :=
      ((s.writeBucketAt t.id (s.bucketAddr t.tid h) (d.setWay b w 0 0 [])).addEntry t.tid h (-1)).tblAnswer
        t.id stOK (tblResult w ch 0 h false)
    match c.w1, c.w2 with
    | some w, _ => del s c.b1 w 0 c.h1
    | none, some w => del s c.b2 w 1 c.h2
    | none, none => s.tblAnswer t.id (if c.p1 ∨ c.p2 then stPOISON else stNOTFOUND)

/-- The result slot of an INSERT: the slot after the key's (R462, R464). -/
def insertResult (d : Desc) (payload : List Byte) : List Byte :=
  (payload.drop (16 * ceilDiv d.keylen 16)).take d.reslen

/-- An INSERT ends: the key is present, and with REPLACE its result is overwritten in place (R464). -/
def State.insertPresent (s : State) (t : Txn) (moves : Nat) (b : List Byte) (w ch h : Nat) : State :=
  let d := s.desc t.tid
  if bit t.head.spec 8 then
    (s.writeBucketAt t.id (s.bucketAddr t.tid h)
      (splice b (16 + d.way * w + d.keylen) (insertResult d t.payload))).tblAnswer t.id stOK
        (tblResult w ch moves h true)
  else s.tblAnswer t.id stEXISTS (tblResult w ch moves h false)

/-- An INSERT ends: the entry is placed (R464). -/
def State.insertPlace (s : State) (t : Txn) (moves : Nat) (b : List Byte) (w ch h fp : Nat)
    (key : List Byte) : State :=
  let d := s.desc t.tid
  ((s.writeBucketAt t.id (s.bucketAddr t.tid h)
    (d.setWay b w 1 fp (key ++ insertResult d t.payload))).addEntry t.tid h 1).tblAnswer t.id stOK
      (tblResult w ch moves h false)

/-! ### Displacement (R465) -/

/-- A node of the search: the path of (bucket, way, entry) taken, last first. -/
abbrev Path := List (Nat × Nat × List Byte)

/-- The other choice bucket of an entry that lies in bucket `b`. -/
def Desc.other (d : Desc) (b : Nat) (entry : List Byte) : Nat :=
  let (h1, h2, _) := d.hash ((entry.drop 2).take d.keylen)
  if h1 = b then h2 else h1

/-- The entries of a bucket, as the ends of a path. -/
def Desc.expand (d : Desc) (b : Nat) (data : List Byte) (p : Path) : List Path :=
  (List.range 4).map fun w => (b, w, d.entry data w) :: p

/-- The breadth-first search: paths to try, buckets read so far, reads left. Gives the path whose
last entry's successor has a free way, with that successor and way. -/
def State.search (s : State) (t : Nat) : Nat → List Path → List Nat → Nat →
    State × Option (Path × Nat × Nat)
  | 0, _, _, _ => (s, none)
  | _, [], _, _ => (s, none)
  | fuel + 1, p :: ps, seen, reads =>
    let d := s.desc t
    match p with
    | [] => (s, none)
    | (b, _, e) :: _ =>
      let nx := d.other b e
      if nx ∈ seen ∨ s.bucketFenced t nx then s.search t fuel ps seen reads
      else if reads = 0 then (s, none)
      else
        let (s, data, psn) := s.readBucket t nx
        if psn then (s.bucketPoison t nx).search t fuel ps (nx :: seen) (reads - 1)
        else match freeWay data with
          | some w => (s, some (p, nx, w))
          | none =>
            if p.length < 8 then s.search t fuel (ps ++ d.expand nx data p) (nx :: seen) (reads - 1)
            else s.search t fuel ps (nx :: seen) (reads - 1)

/-- The moves of a path from its free end backwards (R465). -/
def pathMoves : Path → Nat → Nat → List (Nat × Nat × Nat × Nat × List Byte)
  | [], _, _ => []
  | (b, w, e) :: p, dst, dway => (b, w, dst, dway, e) :: pathMoves p b w

/-- A displacement search from two full candidate buckets (R465, R466): the moves planned, or FULL and
TBL_DISPLACE_FAIL. -/
def State.displace (s : State) (t : Txn) (c : Cands) (made : Nat) (restarted : Bool) : State :=
  let d := s.desc t.tid
  let (s, r) := s.search t.tid 2048 (d.expand c.h1 c.b1 [] ++ d.expand c.h2 c.b2 []) [c.h1, c.h2] 256
  match r with
  | none => (s.raise 185 1 (t.tid + c.h1 * 256)).tblAnswer t.id stFULL (tblResult 0 0 made 0 false)
  | some (p, dst, w) =>
    { s with tbl := { s.tbl with
      disp := s.tbl.disp.filter (·.txn != t.id) ++ [⟨t.id, t.tid, pathMoves p dst w, made, restarted⟩] } }

/-- INSERT on its two candidate buckets: present, placed, or both full, when `full` says what
follows (R464, R471). -/
def State.insertTry (s : State) (t : Txn) (moves : Nat) (full : State → Cands → State) : State :=
  let (s, c) := s.cands t
  match c.w1, c.w2 with
  | some w, _ => s.insertPresent t moves c.b1 w 0 c.h1
  | none, some w => s.insertPresent t moves c.b2 w 1 c.h2
  | none, none =>
    if c.p1 ∨ c.p2 then s.tblAnswer t.id stPOISON
    else match freeWay c.b1, freeWay c.b2 with
      | some w, _ => s.insertPlace t moves c.b1 w 0 c.h1 c.fp c.key
      | none, some w => s.insertPlace t moves c.b2 w 1 c.h2 c.fp c.key
      | none, none => full s c

/-- INSERT at its table (R464–R466). -/
def State.insert (s : State) (t : Txn) : State :=
  s.tblOp t true fun s t =>
    s.insertTry t 0 fun s c =>
      if s.tbl.disp.any fun x => x.tid == t.tid then s.tblWait t else s.displace t c 0 false

/-- A failed check: the search restarts once, else FULL and TBL_DISPLACE_FAIL (R465). -/
def State.displaceFail (s : State) (t : Txn) (x : Disp) : State :=
  let (h1, h2, _) := (s.desc t.tid).hash (t.payload.take (s.desc t.tid).keylen)
  if x.restarted then (s.raise 185 1 (t.tid + h1 * 256)).tblAnswer t.id stFULL (tblResult 0 0 x.made 0 false)
  else if s.bucketFenced t.tid h1 ∨ s.bucketFenced t.tid h2 then s.tblAnswer t.id stFENCED
  else s.insertTry t x.made fun s c => s.displace t c x.made true

/-- One displacement move, or once the moves are made the placing of the new entry (R465). A move
whose buckets are locked waits. -/
def State.displacementMove (s : State) (id : Nat) : State :=
  match s.tbl.disp.find? (·.txn == id), s.txn id with
  | some x, some t =>
    let d := s.desc x.tid
    match x.moves with
    | [] =>
      let (h1, h2, _) := d.hash (t.payload.take d.keylen)
      if s.bucketFenced x.tid h1 ∨ s.bucketFenced x.tid h2 then s.tblAnswer id stFENCED
      else if !s.lockFree (x.tid, h1) true ∨ !s.lockFree (x.tid, h2) true then s
      else s.insertTry t x.made fun s _ => s.displaceFail t x
    | (b, w, b2, w2, e) :: rest =>
      if !s.lockFree (x.tid, b) true ∨ !s.lockFree (x.tid, b2) true then s
      else if s.bucketFenced x.tid b ∨ s.bucketFenced x.tid b2 then s.displaceFail t x
      else
        let (s, src, p1) := s.readBucket x.tid b
        let (s, dst, p2) := s.readBucket x.tid b2
        let s := if p1 then s.bucketPoison x.tid b else s
        let s := if p2 then s.bucketPoison x.tid b2 else s
        if p1 ∨ p2 ∨ d.entry src w ≠ e ∨ wayValid dst w2 then s.displaceFail t x
        else
          let s := s.writeBucketAt id (s.bucketAddr x.tid b2)
            (d.setWay dst w2 (nth 0 e 0).toNat (nth 0 e 1).toNat (e.drop 2))
          let s := s.writeBucketAt id (s.bucketAddr x.tid b) (d.setWay src w 0 0 [])
          let s := (s.count Fd.TBL_MOVE_CNT_COUNT Fd.TBL_MOVE_CNT_OVF 1).charge t.label (2 * d.bytes)
            (s.pinned d)
          { s with tbl := { s.tbl with disp := s.tbl.disp.map fun y =>
              if y.txn = id then { x with moves := rest, made := x.made + 1 } else y } }
  | _, _ => s

/-- A table request executes (R462). -/
def State.tableExec (s : State) (t : Txn) : State :=
  if t.op = opPROBE then s.probe t else if t.op = opINSERT then s.insert t else s.delete t

/-- The waiting accesses of a request that can have their locks enter the fabric (R470). -/
def State.grantLines (s : State) (id : Nat) : State :=
  let w := s.tbl.waiting.filter (·.txn == id)
  w.foldl (fun s a =>
    match s.bucketOf (64 * a.line) with
    | some b =>
      if s.lockFree b (a.kind != .read) ∧
          (s.tbl.waiting.find? fun x => s.bucketOf (64 * x.line) == some b) = some a then
        { s with
          tbl := { s.tbl with waiting := s.tbl.waiting.erase a }
          fabric := s.fabric ++ [a] }
      else s
    | none => { s with
        tbl := { s.tbl with waiting := s.tbl.waiting.erase a }
        fabric := s.fabric ++ [a] }) s

/-- TBL_LOCK_STALL of a waiting operation (R478). -/
def State.lockStall (s : State) (id : Nat) : State :=
  match s.txn id with
  | some t =>
    if isTable t.op ∧ (t.stage = .heldLock ∨ s.tbl.disp.any (·.txn == id)) then
      let d := s.desc t.tid
      s.raise 190 1 (t.tid + (d.hash (t.payload.take d.keylen)).1 * 256)
    else match s.tbl.waiting.find? (·.txn == id) with
      | some a => match s.bucketOf (64 * a.line) with
        | some (u, b) => s.raise 190 1 (u + b * 256)
        | none => s
      | none => s
  | none => s

/-! ### Commands (R474, R475) -/

/-- A descriptor's registers written. -/
def State.putDesc (s : State) (t : Nat) (d : Desc) : State :=
  let s := ((s.wr (Fd.TBL_D_CFG_VALID t) (b2n d.valid)).wr (Fd.TBL_D_CFG_RGN t) d.rgn).wr
    (Fd.TBL_D_BASE_OFFSET t) d.off
  let s := ((s.wr (Fd.TBL_D_CFG_BSIZE t) d.bsize).wr (Fd.TBL_D_CFG_LOG2NB t) d.log2nb).wr
    (Fd.TBL_D_CFG_KEYLEN t) d.keylen
  let s := (s.wr (Fd.TBL_D_CFG_RESLEN t) d.reslen).wr (Fd.TBL_D_CFG_INIT t) (b2n d.init)
  (List.range 4).foldl (fun s k => s.wr (Fd.TBL_D_SEED_SEED t k) (nth 0 d.seed k)) s

/-- A descriptor comes into use: its count is 0, INEXACT clears, and it is READY unless its buckets
are to be emptied (R474, R476, R481). -/
def State.tblUse (s : State) (t : Nat) : State :=
  let s := { s with tbl := { s.tbl with
    count := Tab.put (fun _ => 0) s.tbl.count t 0
    high := s.tbl.high.filter (· != t) } }
  let s := s.wr (Fd.TBL_D_STAT_INEXACT t) 0
  if (s.desc t).init then
    { s with tbl := { s.tbl with emptying := s.tbl.emptying.filter (· != t) ++ [t] } }.wr
      (Fd.TBL_D_STAT_READY t) 0
  else s.wr (Fd.TBL_D_STAT_READY t) 1

/-- The mode permits table commands (R480). -/
def State.tblMode (s : State) : Bool := s.mode == mSERVICE || s.mode == mDEGRADED

/-- TBL_CMD OP 1 (R474). BUSY, MODE, INVALID_STATE and the checks of R458 are judged in that order
(assumption 20). -/
def State.tblDefine (s : State) : State :=
  let t := s.rd Fd.TBL_CMD_TID
  let d := { s.descStaged with valid := true }
  if s.tbl.cmd.isSome then s.cmdDone t 1 3
  else if !s.tblMode then s.cmdDone t 1 9
  else if (s.desc t).valid then s.cmdDone t 1 4
  else match s.descCheck t d with
    | some e => s.cmdDone t 1 e
    | none => ((s.putDesc t d).tblUse t).cmdDone t 1 1

/-- TBL_CMD OP 2 (R474). -/
def State.tblRetire (s : State) : State :=
  let t := s.rd Fd.TBL_CMD_TID
  if s.tbl.cmd.isSome then s.cmdDone t 2 3
  else if !s.tblMode then s.cmdDone t 2 9
  else if !(s.desc t).valid then s.cmdDone t 2 4
  else
    let s := ((s.wr (Fd.TBL_D_CFG_VALID t) 0).wr (Fd.TBL_D_STAT_READY t) 0).wr Fd.TBL_CMD_RESULT 2
    { s with tbl := { s.tbl with
      cmd := some (2, t, 0, 0, 0)
      emptying := s.tbl.emptying.filter (· != t) } }.retireCheck t

/-- TBL_CMD OP 3 (R474, R475). -/
def State.tblMove (s : State) : State :=
  let t := s.rd Fd.TBL_CMD_TID
  let old := s.desc t
  let d := { s.descStaged with valid := true }
  if s.tbl.cmd.isSome then s.cmdDone t 3 3
  else if !s.tblMode then s.cmdDone t 3 9
  else if !old.valid ∨ { d with rgn := old.rgn, off := old.off } ≠ old then s.cmdDone t 3 4
  else match s.descCheck t d with
    | some e => s.cmdDone t 3 e
    | none =>
      { s with tbl := { s.tbl with cmd := some (3, t, 0, d.rgn, d.off) } }.wr (Fd.TBL_D_STAT_MOVING t) 1
        |>.wr Fd.TBL_CMD_RESULT 2

/-- One bucket of a moving table is copied; after the last the descriptor takes the new place
(R475). A fenced or locked bucket is waited for. -/
def State.bucketCopy (s : State) : State :=
  match s.tbl.cmd with
  | some (3, t, cp, r, o) =>
    let d := s.desc t
    let dst := (s.rgn r).start + 256 * o + d.bytes * cp
    if !s.lockFree (t, cp) true ∨ s.bucketFenced t cp ∨
        (List.range (d.bytes / 64)).any (fun i => s.lineFenced (dst + 64 * i)) then s
    else
      let (s, data, psn) := (List.range (d.bytes / 64)).foldl (fun (x : State × List Byte × Bool) i =>
        let r := x.1.memReadReal (s.bucketAddr t cp + 64 * i) 14
        (r.1, x.2.1 ++ r.2.1, x.2.2 || r.2.2)) (s, [], false)
      let s := if psn then s.bucketPoison t cp else s
      let s := (List.range (d.bytes / 64)).foldl (fun s i =>
        s.engineWrite 0 (dst + 64 * i) 14 ((data.drop (64 * i)).take 64) psn) s
      if cp + 1 < d.nb then { s with tbl := { s.tbl with cmd := some (3, t, cp + 1, r, o) } }
      else
        let s := (s.putDesc t { d with rgn := r, off := o }).wr (Fd.TBL_D_STAT_MOVING t) 0
        { s with tbl := { s.tbl with cmd := none } }.cmdDone t 3 1
  | _ => s

/-- Every bucket of a table is written empty, and READY rises (R476). -/
def State.tblEmpty (s : State) (t : Nat) : State :=
  if t ∈ s.tbl.emptying then
    let d := s.desc t
    let s := (List.range (d.nb * d.bytes / 64)).foldl (fun s i =>
      s.engineWrite 0 (s.tblBase d + 64 * i) 14 (List.replicate 64 0) false) s
    { s with tbl := { s.tbl with emptying := s.tbl.emptying.filter (· != t) } }.wr
      (Fd.TBL_D_STAT_READY t) 1
  else s

/-- A valid table names a region: its descriptor, or the place it moves to (R307, R475). -/
def State.tblNames (s : State) (n : Nat) : Bool :=
  (s.tables.any fun t => (s.desc t).rgn == n) ||
    (match s.tbl.cmd with
      | some (3, _, _, r, _) => r == n
      | _ => false)

/-- A host write has written a line of a table's bucket (R470). -/
def State.hostTouch (s : State) (a : Nat) : State :=
  match s.bucketOf a with
  | some (t, _) => s.wr (Fd.TBL_D_STAT_INEXACT t) 1
  | none => s

end Sys2Proof.Machine
end

