-- ==== Sys2Proof/Machine/Counter.lean ====
section
/-! DEFINITION. The counter engine: sets, records and ancestry (R483–R487), hot slots and flushes
(R488–R490), CUPD, CREAD, CCLR and CREBUILD (R493–R499), re-bases (R500), fences (R502), checkpoints
(R503, R504) and power states (R506, R507). -/

namespace Sys2Proof.Machine

/-! ### Sets -/

/-- A counter set's attributes (R483). -/
structure CSet where
  valid : Bool
  ckpt : Bool
  rgn : Nat
  ancRgn : Nat
  hot : Bool
  log2 : Nat
  off : Nat
  ancOff : Nat
  nctr : Nat
  slotBase : Nat
  deriving DecidableEq, Repr

def State.cset (s : State) (n : Nat) : CSet where
  valid := s.on (Fd.CNT_S_CFG_VALID n)
  ckpt := s.on (Fd.CNT_S_CFG_CKPT n)
  rgn := s.rd (Fd.CNT_S_CFG_RGN n)
  ancRgn := s.rd (Fd.CNT_S_CFG_ANC_RGN n)
  hot := s.on (Fd.CNT_S_CFG_HOT n)
  log2 := s.rd (Fd.CNT_S_CFG_LOG2NSLOT n)
  off := s.rd (Fd.CNT_S_BASE_OFFSET n)
  ancOff := s.rd (Fd.CNT_S_ANCOFF_ANCOFF n)
  nctr := s.rd (Fd.CNT_S_NCTR_NCTR n)
  slotBase := s.rd (Fd.CNT_S_SLOT_SLOT_BASE n)

def CSet.nslot (c : CSet) : Nat := 2 ^ c.log2

/-- The slot and tag of a counter (R488). -/
def CSet.slot (c : CSet) (i : Nat) : Nat := c.slotBase + i % c.nslot

def CSet.tag (c : CSet) (i : Nat) : Nat := i / c.nslot

def State.recAddr (s : State) (c : CSet) (i : Nat) : Nat := (s.rgn c.rgn).start + 4096 * c.off + 32 * i

def State.ancAddr (s : State) (c : CSet) (i : Nat) : Nat :=
  (s.rgn c.ancRgn).start + 4096 * c.ancOff + 16 * i

/-- The valid sets. -/
def State.csets (s : State) : List Nat := (List.range 64).filter fun n => (s.cset n).valid

/-- The ENGINES section's check of the counter sets (R484). -/
def State.counterCheck (s : State) : Bool :=
  let ok (n : Nat) : Bool :=
    let c := s.cset n
    let r := s.rgn c.rgn
    let a := s.rgn c.ancRgn
    let span (c : CSet) : Nat × Nat := (s.recAddr c 0, 32 * c.nctr)
    let aspan (c : CSet) : Nat × Nat := (s.ancAddr c 0, 16 * c.nctr)
    let others := (s.csets.filter (· != n)).map s.cset
    r.valid && r.kind == kCOUNTER && r.win == 0 && decide ((span c).1 + (span c).2 ≤ r.stop) &&
    a.valid && a.kind == kPLAIN && decide ((aspan c).1 + (aspan c).2 ≤ a.stop) &&
    decide (1 ≤ c.nctr) && decide (c.nctr ≤ 2 ^ 29) && decide (c.log2 ≤ 22) &&
    others.all (fun d => !overlap (span c) (span d) && !overlap (aspan c) (aspan d)) &&
    (!c.hot || (decide (c.slotBase + c.nslot ≤ s.rd Fd.CRM_PART_CNT_SIZE * 8192) &&
      decide (c.slotBase % c.nslot = 0) && decide (c.nctr ≤ 32768 * c.nslot) &&
      others.all fun d => !d.hot || !overlap (c.slotBase, c.nslot) (d.slotBase, d.nslot))) &&
    (!c.ckpt || s.on (Fd.PORT_LANE_CFG_EN 12))
  s.csets.all ok && decide ((s.csets.map fun n => (s.cset n).nctr).foldl (· + ·) 0 ≤ 2 ^ 29)

/-! ### Operations that may meet an injected error -/

/-- An operation under way: the state, and the first read whose poison was injected only (in Crema?,
its address). Such an operation completes POISON with no effect (R500). -/
structure CRun where
  s : State
  bad : Option (Bool × Nat)
  deriving DecidableEq, Repr

/-- A demand read of this line would meet an injected error and no real one (R370, R371). -/
def State.injOnly (s : State) (a : Nat) : Bool :=
  (s.queued (a / 64)).isNone && (s.injection (a / 64) 0).isSome &&
    syndrome (s.rawSyms (a / 64)) == [0, 0, 0, 0]

/-- `n` bytes at a request address; a poison that is injected only ends the operation. -/
def CRun.read (x : CRun) (a n : Nat) : CRun × List Byte × Bool :=
  let only := decide (a < cremaWin) && x.s.injOnly a
  let (s, d, p) := x.s.memReadN a n 15
  ({ s, bad := if x.bad.isNone ∧ p ∧ only then some (false, a) else x.bad }, d, p)

/-- `n` bytes of Crema at an internal offset, with their poison. -/
def CRun.cread (x : CRun) (off n : Nat) : CRun × List Byte × List Bool :=
  let only := (x.s.cInjection (off / 64) 1).isSome &&
    (List.range n).all fun i => match cDecode (x.s.cWord (off + i)) with
      | .clean _ => true
      | _ => false
  let (s, d, p) := x.s.cRead off n 1 []
  ({ s, bad := if x.bad.isNone ∧ p.any id ∧ only then some (true, off) else x.bad }, d, p)

def CRun.upd (x : CRun) (f : State → State) : CRun := { x with s := f x.s }

/-! ### Records (R485, R500) -/

structure CRec where
  pkts : Nat
  bytes : Nat
  lost : Bool
  epoch : Nat
  deriving DecidableEq, Repr

def w64 (x : Nat) : Nat := x % 2 ^ 64

def CRec.enc (r : CRec) : List Byte :=
  leBytes 8 r.pkts ++ leBytes 8 r.bytes ++ leBytes 4 (b2n r.lost) ++ leBytes 4 r.epoch ++ leBytes 8 0

def decRec (d : List Byte) : CRec where
  pkts := leNat (d.take 8)
  bytes := leNat ((d.drop 8).take 8)
  lost := bit (leNat ((d.drop 16).take 4)) 0
  epoch := leNat ((d.drop 20).take 4)

/-- A record read; none when poisoned. -/
def CRun.readRec (x : CRun) (n i : Nat) : CRun × Option CRec :=
  let (x, d, p) := x.read (x.s.recAddr (x.s.cset n) i) 32
  (x, if p then none else some (decRec d))

/-- The loss epoch issued to a re-base, and its counters (R500). -/
def State.epochUp (s : State) (n i : Nat) (slotLost : Bool) : State :=
  let s := s.wr Fd.CNT_EPOCH_EPOCH (min (s.rd Fd.CNT_EPOCH_EPOCH + 1) 0xFFFFFFFF)
  let s := s.count Fd.CNT_LOST_CNT_COUNT Fd.CNT_LOST_CNT_OVF 1
  let s := s.count (Fd.CNT_S_LOSTN_COUNT n) (Fd.CNT_S_LOSTN_OVF n) 1
  s.raise 200 1 (n + i * 64 + b2n slotLost * 2 ^ 35)

/-- A record written over what its line holds. The other record of a poisoned line is lost with it,
and is re-based to zero (assumption 21). -/
def CRun.writeRec (x : CRun) (n i : Nat) (r : CRec) : CRun :=
  let c := x.s.cset n
  let a := x.s.recAddr c i
  let (s, line, p) := x.s.memRead a 15
  if p then
    let j := if a % 64 = 0 then i + 1 else i - 1
    let s := if j < c.nctr then s.epochUp n j false else s
    let other : CRec := if j < c.nctr then ⟨0, 0, true, s.rd Fd.CNT_EPOCH_EPOCH⟩ else ⟨0, 0, false, 0⟩
    let line := if a % 64 = 0 then r.enc ++ other.enc else other.enc ++ r.enc
    { x with s := s.memWrite a 15 line false }
  else { x with s := s.memWrite a 15 (patch line (a % 64) r.enc) false }

/-- A re-base (R500): the counter's new value, LOST, and a new epoch. -/
def CRun.rebase (x : CRun) (n i p b : Nat) (slotLost : Bool) : CRun :=
  let x := x.upd fun s => s.epochUp n i slotLost
  x.writeRec n i ⟨w64 p, w64 b, true, x.s.rd Fd.CNT_EPOCH_EPOCH⟩

/-- A delta added to a record in one read-modify-write; a poisoned record is re-based to it (R490,
R500). -/
def CRun.addRec (x : CRun) (n i p b : Nat) : CRun :=
  let (x, r) := x.readRec n i
  match r with
  | some r => x.writeRec n i { r with pkts := w64 (r.pkts + p), bytes := w64 (r.bytes + b) }
  | none => x.rebase n i p b false

/-- The base is kept and marked lost: the deltas of its slot are gone (R500). -/
def CRun.slotRebase (x : CRun) (n i : Nat) : CRun :=
  let (x, r) := x.readRec n i
  match r with
  | some r => x.rebase n i r.pkts r.bytes true
  | none => x.rebase n i 0 0 true

/-- The pair link carries the deltas and set-values of a CKPT set while the pair is joined
(R503, R584). -/
def State.sendPair (s : State) (m : PairMsg) : State :=
  if s.joined then { s with pair := { s.pair with out := s.pair.out ++ [m] } } else s

def State.forwardDelta (s : State) (n i p b : Nat) : State :=
  if (s.cset n).ckpt ∧ (p ≠ 0 ∨ b ≠ 0) then s.sendPair (.cdelta n i p b) else s

def State.forwardSet (s : State) (n i : Nat) (r : CRec) : State :=
  if (s.cset n).ckpt then s.sendPair (.cset n i r.lost r.epoch r.pkts r.bytes) else s

/-! ### Slots (R488–R490) -/

/-- A slot as read. -/
inductive Slot
  | tagLost | empty | held (tag dp db : Nat) | deltaLost (tag : Nat)
  deriving DecidableEq, Repr

def CRun.readSlot (x : CRun) (k : Nat) : CRun × Slot :=
  let (x, d, p) := x.cread (slotOff k) 8
  let w := leNat (d.drop 6)
  (x, if (p.drop 6).any id then .tagLost
    else if !bit w 15 then .empty
    else if p.any id then .deltaLost (w % 32768)
    else .held (w % 32768) (leNat (d.take 2)) (leNat ((d.drop 2).take 4)))

def CRun.writeSlot (x : CRun) (k tag dp db : Nat) (valid : Bool) : CRun :=
  x.upd fun s => s.cWrite (slotOff k) (leBytes 2 dp ++ leBytes 4 db ++ leBytes 2 (tag + b2n valid * 32768))

/-- The slot emptied. -/
def CRun.emptySlot (x : CRun) (k : Nat) : CRun := x.upd fun s => s.cWrite (slotOff k) (List.replicate 8 0)

/-- The record of a counter lies in a fenced channel group (R502). -/
def State.recFenced (s : State) (n i : Nat) : Bool := s.lineFenced (s.recAddr (s.cset n) i)

/-- A counter's record or slot is fenced (R502). -/
def State.ctrFenced (s : State) (n i : Nat) : Bool :=
  s.recFenced n i || ((s.cset n).hot && s.bankFenced (cBank (slotOff ((s.cset n).slot i))))

def CRun.counted (x : CRun) (f ovf : Fld) : CRun := x.upd fun s => s.count f ovf 1

/-- In transit to a fenced record (R502). -/
def State.cntHold (s : State) (n i : Nat) (h : Held) : State :=
  { s with cnt := { s.cnt with transit := s.cnt.transit ++ [(n, i, h)] } }

/-- A delta leaves its slot for the record: counted, forwarded and added, its accesses charged to L254; in transit
while the record is fenced (R490, R502, R503). -/
def CRun.flushDelta (x : CRun) (n i dp db : Nat) : CRun :=
  let x := (x.counted Fd.CNT_FLUSH_CNT_COUNT Fd.CNT_FLUSH_CNT_OVF).upd fun s =>
    (s.charge 254 128 false).forwardDelta n i dp db
  if x.s.recFenced n i then x.upd fun s => s.cntHold n i (.delta dp db) else x.addRec n i dp db

/-- The owner of a slot whose deltas are lost is re-based before the slot changes hands (R500); a fenced record waits
for its release, for no re-base results from a fence (R502). -/
def CRun.evictLost (x : CRun) (n i : Nat) : CRun :=
  (if x.s.recFenced n i then x.upd fun s => s.cntHold n i .slotLost else x.slotRebase n i).counted
    Fd.CNT_EVICT_CNT_COUNT Fd.CNT_EVICT_CNT_OVF

/-- A flush of counter `i`, leaving the slot held (R490). Lost deltas and a lost tag word are dealt
with first (R500). -/
def CRun.flush (x : CRun) (n i : Nat) : CRun :=
  let c := x.s.cset n
  if !c.hot then x
  else
    let (x, sl) := x.readSlot (c.slot i)
    match sl with
    | .tagLost =>
      let x := (x.emptySlot (c.slot i)).upd fun s => s.raise 201 1 (c.slot i)
      x.slotRebase n i
    | .deltaLost tag =>
      if tag = c.tag i then (x.writeSlot (c.slot i) tag 0 0 true).slotRebase n i else x
    | .held tag dp db =>
      if tag = c.tag i ∧ (dp ≠ 0 ∨ db ≠ 0) then
        (x.flushDelta n i dp db).writeSlot (c.slot i) tag 0 0 true
      else x
    | .empty => x

/-- CUPD's update of one counter (R495). -/
def CRun.update (x : CRun) (n i p b : Nat) : CRun :=
  let c := x.s.cset n
  let x := x.counted Fd.CNT_UPD_CNT_COUNT Fd.CNT_UPD_CNT_OVF
  if !c.hot then (x.addRec n i p b).upd fun s => s.forwardDelta n i p b
  else
    let k := c.slot i
    let (x, sl) := x.readSlot k
    let (x, dp, db) : CRun × Nat × Nat := match sl with
      | .tagLost => (((x.upd fun s => s.raise 201 1 k)).slotRebase n i, 0, 0)
      | .empty => (x, 0, 0)
      | .deltaLost tag =>
        if tag = c.tag i then (x.slotRebase n i, 0, 0)
        else (x.evictLost n (tag * c.nslot + (k - c.slotBase)), 0, 0)
      | .held tag dp db =>
        if tag = c.tag i then (x, dp, db)
        else ((x.flushDelta n (tag * c.nslot + (k - c.slotBase)) dp db).counted
          Fd.CNT_EVICT_CNT_COUNT Fd.CNT_EVICT_CNT_OVF, 0, 0)
    let dp := dp + p
    let db := db + b
    if 0x8000 ≤ dp ∨ 0x80000000 ≤ db then
      (x.flushDelta n i dp db).writeSlot k (c.tag i) 0 0 true
    else x.writeSlot k (c.tag i) dp db true

/-! ### Ancestry (R486, R487) -/

/-- An ancestry entry's three indices, or none when it is invalid (R486). -/
def CSet.ancestors (c : CSet) (i : Nat) (d : List Byte) : Option (List (Option Nat)) :=
  let a := (List.range 3).map fun k => leNat ((d.drop (4 * k)).take 4)
  let named := a.filter (· != 0xFFFFFFFF)
  if leNat ((d.drop 12).take 4) = 0 ∧ named.all (fun x => decide (x < c.nctr) && x != i) ∧ named.Nodup then
    some (a.map fun x => if x = 0xFFFFFFFF then none else some x)
  else none

/-- What an operation finds of a counter's ancestry. -/
inductive Anc
  | poisoned | invalid | ok (a : List (Option Nat))
  deriving DecidableEq, Repr

def ancKey (n i : Nat) : Nat := n * 2 ^ 30 + i

/-- The entry is read from memory and cached (R487). -/
def CRun.fetchAnc (x : CRun) (n i : Nat) : CRun × Anc :=
  let c := x.s.cset n
  let x := x.counted Fd.CNT_ANC_MISS_COUNT Fd.CNT_ANC_MISS_OVF
  let (x, d, p) := x.read (x.s.ancAddr c i) 16
  if p then (x.upd fun s => s.raise 203 1 (n + i * 64), .poisoned)
  else
    let w := leNat d
    let full := decide (262144 ≤ x.s.cnt.cache.length)
    (x.upd fun s => { s with cnt := { s.cnt with
      cache := Tab.put (fun _ => none) (if full then s.cnt.cache.drop 1 else s.cnt.cache) (ancKey n i)
        (some (w % 2 ^ 64, w / 2 ^ 64, 0)) } },
      match c.ancestors i d with
      | some a => .ok a
      | none => .invalid)

/-- A counter's ancestry (R487): the cached entry; where memory holds another by now, a free value
says which of the two is used. -/
def CRun.anc (x : CRun) (n i : Nat) : CRun × Anc :=
  let c := x.s.cset n
  match Tab.get (fun _ => none) x.s.cnt.cache (ancKey n i) with
  | none => x.fetchAnc n i
  | some (lo, hi, _) =>
    let d := leBytes 8 lo ++ leBytes 8 hi
    let cached : Anc := match c.ancestors i d with
      | some a => .ok a
      | none => .invalid
    if (x.s.memReadN (x.s.ancAddr c i) 16 15).2 = (d, false) then (x, cached)
    else
      let f := x.s.free % 2
      let x := x.upd State.drawn
      if f = 0 then (x, cached) else x.fetchAnc n i

/-- The cached entry is removed (R487). -/
def State.dropAnc (s : State) (n i : Nat) : State :=
  { s with cnt := { s.cnt with cache := Tab.put (fun _ => none) s.cnt.cache (ancKey n i) none } }

/-! ### Requests (R493–R499) -/

/-- CSID and index of a counter request. -/
def Txn.csid (t : Txn) : Nat := t.head.spec % 64

def Txn.ctr (t : Txn) : Nat := t.head.addr % 2 ^ 29

/-- An operation ends: on an injected-only poison POISON, with no effect but that read's (R500). -/
def State.cEnd (s : State) (t : Txn) (x : CRun) (status : Nat) (result : Nat := 0)
    (data : List Byte := []) : State :=
  match x.bad with
  | some (true, off) => (s.cRead off 8 1 []).1.respond t stPOISON
  | some (false, a) => (s.memReadN a 16 15).1.respond t stPOISON
  | none => x.s.respond t status result data

/-- The ancestors a list names. -/
def named (a : List (Option Nat)) : List Nat := a.filterMap id

/-- X's rebuild is in progress and the update of an ancestor reaches it through a child not yet
scanned (R499). -/
def State.rebuilding (s : State) (n i : Nat) : Bool :=
  match s.cnt.rebuild with
  | some r => r.set == n && r.ctr == i
  | none => false

/-- CUPD (R494). -/
def State.cupd (s : State) (t : Txn) : State :=
  let n := t.csid
  let i := t.ctr
  let c := s.cset n
  let x : CRun := { s, bad := none }
  if c.nctr ≤ i then s.respond t stNOTFOUND
  else
    let noanc := bit t.head.spec 6
    let p := bits t.head.spec 15 8
    let b := t.head.lenArg
    if s.ctrFenced n i ∨ (!noanc ∧ s.lineFenced (s.ancAddr c i)) then s.respond t stFENCED
    else
      let (x, a) := if noanc then (x, Anc.ok []) else x.anc n i
      match a with
      | .poisoned => s.cEnd t x stPOISON
      | .invalid => s.cEnd t (x.upd fun s => s.raise 202 1 (n + i * 64)) stNOTFOUND
      | .ok a =>
        if (named a).any fun j => x.s.ctrFenced n j then s.cEnd t x stFENCED
        else s.cEnd t ((i :: (named a).filter fun j => !x.s.rebuilding n j).foldl
          (fun x j => x.update n j p b) x) stOK

/-- A counter flushed and read (R496, R500): its record; a poisoned one is re-based to zero. -/
def CRun.flushRead (x : CRun) (n i : Nat) : CRun × CRec :=
  let x := x.flush n i
  let (x, r) := x.readRec n i
  match r with
  | some r => (x, r)
  | none =>
    let x := x.rebase n i 0 0 false
    (x, ⟨0, 0, true, x.s.rd Fd.CNT_EPOCH_EPOCH⟩)

/-- Several counters flushed and read at one instant; an absent one reads as zero. -/
def CRun.flushReads (x : CRun) (n : Nat) : List (Option Nat) → CRun × List CRec
  | [] => (x, [])
  | none :: l =>
    let r := x.flushReads n l
    (r.1, ⟨0, 0, false, 0⟩ :: r.2)
  | some i :: l =>
    let (x, c) := x.flushRead n i
    let r := x.flushReads n l
    (r.1, c :: r.2)

/-- CREAD (R496). -/
def State.cread (s : State) (t : Txn) : State :=
  let n := t.csid
  let i := t.ctr
  let c := s.cset n
  let x : CRun := { s, bad := none }
  if c.nctr ≤ i then s.respond t stNOTFOUND
  else
    let anc := bit t.head.spec 6
    if s.ctrFenced n i ∨ (anc ∧ s.lineFenced (s.ancAddr c i)) then s.respond t stFENCED
    else
      let (x, a) := if anc then x.anc n i else (x, Anc.ok [])
      match a with
      | .poisoned => s.cEnd t x stPOISON
      | .invalid => s.cEnd t (x.upd fun s => s.raise 202 1 (n + i * 64)) stNOTFOUND
      | .ok a =>
        if (named a).any fun j => x.s.ctrFenced n j then s.cEnd t x stFENCED
        else
          let (x, rs) := x.flushReads n (some i :: a)
          let lost := (List.range rs.length).foldl (fun m k =>
            m + b2n (nth ⟨0, 0, false, 0⟩ rs k).lost * 2 ^ k) 0
          s.cEnd t x stOK (lost + (nth ⟨0, 0, false, 0⟩ rs 0).epoch * 2 ^ 32)
            (rs.flatMap fun r => leBytes 8 r.pkts ++ leBytes 8 r.bytes)

/-- A counter's record is set and its slot emptied where it holds the counter (R497, R498, R584). -/
def CRun.setCtr (x : CRun) (n i : Nat) (r : CRec) : CRun :=
  let c := x.s.cset n
  let x := x.writeRec n i r
  if !c.hot then x
  else
    let (x, sl) := x.readSlot (c.slot i)
    match sl with
    | .held tag _ _ | .deltaLost tag => if tag = c.tag i then x.emptySlot (c.slot i) else x
    | _ => x

/-- CCLR (R497). -/
def State.cclr (s : State) (t : Txn) : State :=
  let n := t.csid
  let i := t.ctr
  let c := s.cset n
  let x : CRun := { s, bad := none }
  if c.nctr ≤ i then s.respond t stNOTFOUND
  else
    let sub := bit t.head.spec 6
    if s.ctrFenced n i ∨ (sub ∧ s.lineFenced (s.ancAddr c i)) then s.respond t stFENCED
    else
      let (x, a) := if sub then x.anc n i else (x, Anc.ok [])
      match a with
      | .poisoned => s.cEnd t x stPOISON
      | .invalid => s.cEnd t (x.upd fun s => s.raise 202 1 (n + i * 64)) stNOTFOUND
      | .ok a =>
        if (named a).any fun j => x.s.ctrFenced n j then s.cEnd t x stFENCED
        else
          let (x, r) := x.flushRead n i
          let x := ((x.setCtr n i ⟨0, 0, false, 0⟩).upd fun s => s.dropAnc n i).upd fun s =>
            s.forwardSet n i ⟨0, 0, false, 0⟩
          let x := ((named a).filter fun j => !x.s.rebuilding n j).foldl (fun x j =>
            let (x, y) := x.flushRead n j
            let y := { y with pkts := w64 (y.pkts + (2 ^ 64 - r.pkts)), bytes := w64 (y.bytes + (2 ^ 64 - r.bytes)) }
            (x.writeRec n j y).upd fun s => s.forwardSet n j y) x
          s.cEnd t x stOK (r.pkts % 2 ^ 32 + r.bytes % 2 ^ 32 * 2 ^ 32)

/-- CREBUILD starts its scan (R498). -/
def State.crebuild (s : State) (t : Txn) : State :=
  let n := t.csid
  let i := t.ctr
  let c := s.cset n
  if c.nctr ≤ i then s.respond t stNOTFOUND
  else if s.cnt.rebuild.isSome then s.respond t stRETRY
  else if s.ctrFenced n i then s.respond t stFENCED
  else
    let s := (s.wr Fd.CNT_STAT_REBUILD 1).wr Fd.CNT_STAT_REBUILD_SET n
    { s with cnt := { s.cnt with rebuild := some ⟨t.id, n, i⟩ } }.setTxn { t with stage := .running, left := 1 }

/-- The result of a scan so far. -/
structure Scan where
  x : CRun
  sum : CRec
  kids : Nat
  psn : Bool
  fenced : Bool
  deriving DecidableEq, Repr

/-- One ancestry entry of the scan (R498): a child's value is added. The scan's reads are charged to L254. -/
def Scan.step (n i : Nat) (c : CSet) (z : Scan) (k : Nat) : Scan :=
  if z.psn ∨ z.fenced then z
  else
    let a := z.x.s.ancAddr c k
    if z.x.s.lineFenced a then { z with fenced := true }
    else
      let (x, d, p) := (z.x.upd fun s => s.charge 254 64 false).read a 16
      if p then { z with x := x.upd fun s => s.raise 203 1 (n + k * 64), psn := true }
      else if leNat (d.take 4) ≠ i then { z with x }
      else if x.s.ctrFenced n k then { z with x, fenced := true }
      else
        let (x, r) := (x.upd fun s => s.charge 254 64 false).flushRead n k
        { z with
          x
          sum := ⟨w64 (z.sum.pkts + r.pkts), w64 (z.sum.bytes + r.bytes), z.sum.lost || r.lost,
            max z.sum.epoch (if r.lost then r.epoch else 0)⟩
          kids := z.kids + 1 }

/-- The scan ends: the counter takes the sum of its children at that instant (R498, R499). -/
def State.rebuildEnd (s : State) : State :=
  match s.cnt.rebuild with
  | none => s
  | some r =>
    let s := { s with cnt := { s.cnt with rebuild := none } }.wr Fd.CNT_STAT_REBUILD 0
    match s.txn r.txn with
    | none => s
    | some t =>
      let c := s.cset r.set
      let z := (List.range c.nctr).foldl (Scan.step r.set r.ctr c)
        ⟨{ s, bad := none }, ⟨0, 0, false, 0⟩, 0, false, false⟩
      if z.psn then s.cEnd t z.x stPOISON
      else if z.fenced ∨ s.ctrFenced r.set r.ctr then s.cEnd t z.x stFENCED
      else if z.kids = 0 then s.cEnd t z.x stNOTFOUND
      else s.cEnd t ((z.x.setCtr r.set r.ctr z.sum).upd fun s => s.forwardSet r.set r.ctr z.sum) stOK
        z.kids

/-- A counter request executes. -/
def State.counterExec (s : State) (t : Txn) : State :=
  if t.op = opCUPD then s.cupd t else if t.op = opCREAD then s.cread t
  else if t.op = opCCLR then s.cclr t else s.crebuild t

/-! ### Flushes outside requests -/

/-- A step of the engine's own: an injected-only poison leaves everything as it was (R500). -/
def State.cOwn (s : State) (x : CRun) : State :=
  match x.bad with
  | some (true, off) => (s.cRead off 8 1 []).1
  | some (false, a) => (s.memReadN a 16 15).1
  | none => x.s

/-- One counter's slot is flushed (R490). -/
def State.counterFlush (s : State) (n i : Nat) : State :=
  if s.ctrFenced n i then s else s.cOwn ((⟨s, none⟩ : CRun).flush n i)

/-- The counters whose slots a set's partition lists, from the stored words. -/
def State.heldSlots (s : State) (n : Nat) : List Nat :=
  let c := s.cset n
  if !c.hot then []
  else
    let ks := (s.crm.store.filterMap fun e =>
      if slotOff c.slotBase ≤ e.1 ∧ e.1 < slotOff (c.slotBase + c.nslot) then some ((e.1 - slotOff 0) / 8)
      else none).eraseDups
    ks.filterMap fun k =>
      match ((⟨s, none⟩ : CRun).readSlot k).2 with
      | .held tag _ _ | .deltaLost tag => some (tag * c.nslot + (k - c.slotBase))
      | _ => none

/-- Every held slot of a set is flushed. -/
def State.flushSet (s : State) (n : Nat) : State := (s.heldSlots n).foldl (fun s i => s.counterFlush n i) s

/-- A slot of the set still holds a delta. -/
def State.setDirty (s : State) (n : Nat) : Nat :=
  ((s.heldSlots n).filter fun i =>
    match ((⟨s, none⟩ : CRun).readSlot ((s.cset n).slot i)).2 with
    | .held _ dp db => dp != 0 || db != 0
    | _ => false).length

/-- What waited for a record reaches it (R500, R502, R503). -/
def CRun.land (x : CRun) (n i : Nat) : Held → CRun
  | .delta dp db => x.addRec n i dp db
  | .value lost epoch pkts bytes => x.setCtr n i { pkts, bytes, lost, epoch }
  | .slotLost => x.slotRebase n i

/-- What is in transit to a record whose fence is released reaches it (R502). -/
def State.flushTransit (s : State) : State :=
  s.cnt.transit.foldl (fun s e =>
    if s.ctrFenced e.1 e.2.1 then s
    else
      let s := { s with cnt := { s.cnt with transit := s.cnt.transit.erase e } }
      s.cOwn ((⟨s, none⟩ : CRun).land e.1 e.2.1 e.2.2)) s

/-! ### Checkpoint sweeps (R503, R504, R584, R585) -/

/-- The checkpoint of a queue (R585). -/
def State.queueCkpt (s : State) (q : Nat) : PairMsg :=
  let x := s.q q
  .qckpt q x.state x.pool x.prot x.limit x.cells x.pkts x.bytes

/-- The end of a sweep, while the pair is joined: the mark, then the protected queues and those protected at the sweep
before but no longer (R503, R584, R585). -/
def State.sweepMark (s : State) : State :=
  if !s.joined then s
  else
    let s := s.sendPair (.cmark s.clk.time)
    let prot := (s.que.qs.filter fun (e : Nat × QRec) => e.2.prot).map (·.1)
    let old := s.pair.prevProt.filter fun q => !prot.contains q
    let s := (prot ++ old).foldl (fun s q => s.sendPair (s.queueCkpt q)) s
    { s with pair := { s.pair with prevProt := prot } }

/-- A sweep under way flushes every CKPT slot that holds a delta; it ends unless a fence keeps one back, and a sweep
that was due meanwhile follows it (R503, R504). -/
def State.sweepRun (s : State) : State :=
  if !s.on Fd.CNT_STAT_SWEEP then s
  else
    let sets := s.csets.filter fun n => (s.cset n).ckpt
    let s := sets.foldl (fun s n => s.flushSet n) s
    if sets.any fun n => s.setDirty n != 0 then s
    else
      let again := s.cnt.sweepDue
      let s := ({ s with cnt := { s.cnt with sweepDue := false } }.wr Fd.CNT_STAT_SWEEP 0).sweepMark
      if again then s.sweepMark else s

/-- CHECKPOINT_SWEEP (R503, R504): a sweep starts; where the one before is not complete, CNT_CKPT_LATE, and it starts
when that one ends. -/
def State.sweep (s : State) : State :=
  if s.on Fd.CNT_STAT_SWEEP then
    ({ s with cnt := { s.cnt with sweepDue := true } }.raise 204 1 0).sweepRun
  else (s.wr Fd.CNT_STAT_SWEEP 1).sweepRun

/-- A fence is released: what waited for it reaches the records, and a sweep it kept back goes on (R502, R504). -/
def State.cntUnfence (s : State) : State := s.flushTransit.sweepRun

/-! ### Messages from the partner (R584) -/

/-- The set takes checkpoint messages (R504). -/
def State.ckptSet (s : State) (n : Nat) : Bool := (s.cset n).valid && (s.cset n).ckpt

/-- A message for a set that is not valid and CKPT is discarded (R504). -/
def State.ckptGap (s : State) (reason : Nat) : State :=
  s.raise 205 1 (reason + s.pair.lastMark % 2 ^ 40 / 256 * 256)

/-- A delta received (R503). -/
def State.cdeltaIn (s : State) (n i p b : Nat) : State :=
  if s.ckptSet n ∧ i < (s.cset n).nctr then
    (if s.ctrFenced n i then s.cntHold n i (.delta p b)
    else s.cOwn ((⟨s, none⟩ : CRun).addRec n i p b))
  else s.ckptGap 2

/-- A set-value received (R503); where the counter's record or slot is fenced it takes the place of what waits for it.
-/
def State.csetIn (s : State) (n i : Nat) (r : CRec) : State :=
  if s.ckptSet n ∧ i < (s.cset n).nctr then
    (if s.ctrFenced n i then
      { s with cnt := { s.cnt with
        transit := s.cnt.transit.filter fun e => !(e.1 == n && e.2.1 == i) } }.cntHold n i
          (.value r.lost r.epoch r.pkts r.bytes)
    else s.cOwn ((⟨s, none⟩ : CRun).setCtr n i r))
  else s.ckptGap 2

/-! ### Power states (R506, R507) -/

/-- The slots can be saved to SAVE_RGN; `cls` is the kept class, 0 in RETAIN (R507). -/
def State.cntSavable (s : State) (cls : Nat) : Bool :=
  let r := s.rgn (s.rd Fd.CNT_CTL_SAVE_RGN)
  s.on Fd.CNT_CTL_SAVE_EN && r.valid && r.key == 0 && r.win == 0 && r.kind == kPLAIN &&
    decide (28 * 0x100000 ≤ r.stop - r.start) && decide (cls ≤ r.ret)

/-- The stored words of the counter-slot partition. -/
def State.slotWords (s : State) : Tab (BitVec 13) :=
  s.crm.store.filter fun e => decide (slotOff 0 ≤ e.1) && decide (e.1 < s.userBase)

/-- Every slot emptied. -/
def State.clearSlots (s : State) : State :=
  { s with crm := { s.crm with
    store := s.crm.store.filter fun e => !(decide (slotOff 0 ≤ e.1) && decide (e.1 < s.userBase)) } }

/-- Every slot is flushed in DRAIN when there is to be no save (R507). -/
def State.flushAll (s : State) : State := s.csets.foldl (fun s n => s.flushSet n) s

/-- Deltas still unflushed. -/
def State.unflushed (s : State) : Nat :=
  (s.csets.map s.setDirty).foldl (· + ·) 0 + s.cnt.transit.length

/-- Where the partition is saved, and its lines (R403, R506): 8,192 slots of 8 bytes per unit of C. -/
def State.cntSaveAt (s : State) : Nat := (s.rgn (s.rd Fd.CNT_CTL_SAVE_RGN)).start + 4 * 0x100000

def State.cntSaveLines (s : State) : Nat := 1024 * s.rd Fd.CRM_PART_CNT_SIZE

/-- The slots are gone: CNT_SAVE_FAIL with the deltas they held (R509). -/
def State.slotsLost (s : State) : State :=
  let n := s.unflushed
  ({ s.clearSlots with cnt := { s.cnt with saved := none, transit := [] } }).raise 206 1 (min n 0xFFFFFFFF)

/-- The save of retain entry (R506); one that fails loses the slots (R509). -/
def State.cntSave (s : State) (cls : Nat) : State :=
  if s.cntSavable cls then
    let (s, ok) := s.saveLines s.cntSaveAt s.cntSaveLines 15
    if ok then { s with cnt := { s.cnt with saved := some s.slotWords } } else s.slotsLost
  else { s with cnt := { s.cnt with saved := none } }

/-- The restore at wake (R506): in RETAIN-PARTIAL the slots of sets whose region was not kept are
emptied. A read that fails loses the slots (R509). -/
def State.cntRestore (s : State) (cls : Nat) : State :=
  let s := s.clearSlots
  let s := { s with cnt := { s.cnt with cache := [] } }
  match s.cnt.saved with
  | none => s
  | some w =>
    let (s, ok) := s.loadLines s.cntSaveAt s.cntSaveLines 15
    let s := w.foldl (fun s e => s.setCWord e.1 e.2) s
    if !ok then s.slotsLost
    else
      let s := { s with cnt := { s.cnt with saved := none } }
      (s.csets.filter fun n => decide ((s.rgn (s.cset n).rgn).ret < cls)).foldl (fun s n =>
        let c := s.cset n
        if c.hot then { s with crm := { s.crm with
          store := s.crm.store.filter fun e =>
            !(decide (slotOff c.slotBase ≤ e.1) && decide (e.1 < slotOff (c.slotBase + c.nslot))) } }
        else s) s

end Sys2Proof.Machine
end

