-- ==== Sys2Proof/Machine/Obs.lean ====
section
/-! DEFINITION. Snapshots: triggers and waves (R720–R722), holding and release (R725, R726), and the
commands of the observation block on them. -/

namespace Sys2Proof.Machine

/-- A wave latches every block of the part (R721, R723). -/
def State.wave (s : State) (cause src : Nat) : State :=
  let s := { s with obs := { s.obs with snap := some s.toChip } }
  let s := ((s.wr Fd.OBS_SNAP_STAT_HELD 1).wr Fd.OBS_SNAP_STAT_UNLOCKED 0).wr Fd.OBS_SNAP_STAT_PRIOR 0
  let s := ((s.wr Fd.OBS_SNAP_STAT_CAUSE cause).wr Fd.OBS_SNAP_STAT_CAUSE_SRC src).wr
    Fd.OBS_SNAP_STAT_EST (s.rd Fd.CLK_STAT_TIME_EST)
  let s := (s.wr Fd.OBS_SNAP_TIME_LO_TIME s.clk.time).wr Fd.OBS_SNAP_TIME_HI_TIME (s.clk.time / 2 ^ 32)
  s.raise 251 1 (cause + src * 256)

/-- SNAP_MISSED, counted, at most once per millisecond (R722, R733). -/
def State.missed (s : State) (cause : Nat) : State :=
  let s := s.count Fd.OBS_SNAP_STAT_MISSED Fd.OBS_SNAP_STAT_MISS_OVF 1
  if rateOk s.obs.missTime s.clk.time msTicks then
    { s with obs := { s.obs with missTime := s.clk.time + 1 } }.raise 252 1 cause
  else s

/-- The held snapshot's time (R735), which stays readable after a RELEASE. -/
def State.snapTime (s : State) : Nat :=
  s.rd Fd.OBS_SNAP_TIME_LO_TIME + s.rd Fd.OBS_SNAP_TIME_HI_TIME * 2 ^ 32

/-- The wave of the held snapshot is in progress: it was started in this tick (R721, R722; the tick is DEDUCED, assumption
65). -/
def State.waving (s : State) : Bool :=
  s.on Fd.OBS_SNAP_STAT_HELD && !s.on Fd.OBS_SNAP_STAT_PRIOR && s.snapTime == s.clk.time

/-- A trigger arrives while a snapshot is held, or coincides with a RELEASE (R722, R726). -/
def State.tooLate (s : State) : Bool :=
  s.obs.freed == s.clk.time + 1 || (s.on Fd.OBS_SNAP_STAT_HELD && !s.waving)

/-- A trigger shares the wave in progress: the lowest cause code is recorded, in SNAP_TAKEN too while it waits (R722). -/
def State.share (s : State) (cause src : Nat) : State :=
  if s.rd Fd.OBS_SNAP_STAT_CAUSE ≤ cause then s
  else
    let s := (s.wr Fd.OBS_SNAP_STAT_CAUSE cause).wr Fd.OBS_SNAP_STAT_CAUSE_SRC src
    { s with flt := { s.flt with outbox := s.flt.outbox.map fun (m : Msg) =>
      if m.source = 251 ∧ m.time = s.stamp ∧ !m.test then { m with addr := cause + src * 256 } else m } }

/-- A trigger (R720, R722): a wave, a share of the one in progress, a miss, or nothing while VDD_CORE is off. -/
def State.trigger (s : State) (cause src : Nat) : State :=
  if s.coreOff then s
  else if s.tooLate then s.missed cause
  else if s.waving then s.share cause src
  else s.wave cause src

/-- A SNAP request at step 9 (R284). -/
def State.snapRequest (s : State) (t : Txn) : State :=
  if s.tooLate then (s.missed 3).respond t stEXISTS s.snapTime
  else
    let s := if s.waving then s.share 3 t.port else s.wave 3 t.port
    s.respond t stOK s.snapTime

/-- No snapshot is held; what it recorded reads as reset (R725). -/
def State.dropSnap (s : State) : State :=
  let miss := s.rd Fd.OBS_SNAP_STAT_MISSED
  let ovf := s.rd Fd.OBS_SNAP_STAT_MISS_OVF
  let s := { s with obs := { s.obs with snap := none } }.setReg Ra.OBS_SNAP_STAT 0
  (s.wr Fd.OBS_SNAP_STAT_MISSED miss).wr Fd.OBS_SNAP_STAT_MISS_OVF ovf

/-- OP 1 of R726. -/
def State.snapUnlock (s : State) : State :=
  if s.on Fd.OBS_SNAP_STAT_HELD then (s.wr Fd.OBS_SNAP_STAT_UNLOCKED 1).wr Fd.OBS_SNAP_CMD_RESULT 1
  else s.wr Fd.OBS_SNAP_CMD_RESULT 2

/-- OP 2 of R726. -/
def State.snapRelease (s : State) : State :=
  if s.on Fd.OBS_SNAP_STAT_HELD then
    let s := s.dropSnap
    { s with obs := { s.obs with freed := s.clk.time + 1 } }.wr Fd.OBS_SNAP_CMD_RESULT 1
  else s.wr Fd.OBS_SNAP_CMD_RESULT 2

/-- SNAP_N (R75, R720): a falling edge with the pulse of R75. -/
def execSnapPin (s : State) : Host.Outcome State Fault Refusal :=
  s.act (if s.on Fd.OBS_SNAP_CTL_PIN_EN then s.trigger 1 0 else s)

/-- UNLOCK (R726). -/
def execSnapUnlock (s : State) : Host.Outcome State Fault Refusal := s.act s.snapUnlock

/-- RELEASE (R726). -/
def execSnapRelease (s : State) : Host.Outcome State Fault Refusal := s.act s.snapRelease

/-- CLR (R732). -/
def execMonClr (m : Nat) (s : State) : Host.Outcome State Fault Refusal :=
  s.act (if m < 64 then s.monClear m else s)

end Sys2Proof.Machine
end

