-- ==== Sys2Proof/Machine/Request.lean ====
section
/-! DEFINITION. Requests: heads (R265), the checks of R270 in order, holds (R266, R283, R306, R544,
R594), charges (R514), release to the fabric or an engine, and FENCE and ORDERED (R282, R283). -/

namespace Sys2Proof.Machine

/-- The request head that 128 bits spell (R265): opcode and fields. -/
def parseHead (w : Nat) : Nat × ReqHead :=
  (bits w 7 0, { reqId := bits w 19 8, tag := bits w 31 20, label := bits w 39 32, addr := bits w 79 40
                 lenArg := bits w 95 80, flags := bits w 103 96, spec := bits w 127 104 })

/-- The 128 bits of a request head (R265). -/
def headWord (op : Nat) (h : ReqHead) : Nat :=
  op % 256 + h.reqId % 4096 * 2 ^ 8 + h.tag % 4096 * 2 ^ 20 + h.label % 256 * 2 ^ 32 +
    h.addr % 2 ^ 40 * 2 ^ 40 + h.lenArg % 65536 * 2 ^ 80 + h.flags % 256 * 2 ^ 96 + h.spec % 2 ^ 24 * 2 ^ 104

/-- Request data slots of an opcode (R263). -/
def reqSlots (op : Nat) (h : ReqHead) : Nat :=
  if op = opWR64 ∨ op = opAUTH then 4
  else if op = opWR128 then 8 else if op = opWR256 then 16 else if op = opWRP then 5
  else if op = opATOM ∨ op = opMGMT_WR then 1
  else if op = opPROBE ∨ op = opDELETE then ceilDiv (h.lenArg % 64) 16
  else if op = opINSERT then ceilDiv (h.lenArg % 64) 16 + 1
  else if op = opENQ then 16 * (h.lenArg % 8)
  else 0

def fORDERED (h : ReqHead) : Bool := bit h.flags 0
def fMIRROR (h : ReqHead) : Bool := bit h.flags 1
def fNOALLOC (h : ReqHead) : Bool := bit h.flags 2

/-- Defined opcodes of R263. -/
def opDefined (op : Nat) : Bool :=
  isLine op || isTable op || isQueue op || isCounter op || isMgmt op || op == opFENCE || op == opSNAP

/-- Step 2 of R270: the head breaks its card's ranges. -/
def malformed (op : Nat) (h : ReqHead) : Bool :=
  if isRead op ∨ isWrite op then h.addr % (64 * opLines op) != 0
  else if op = opWRP then h.addr % 64 != 0
  else if op = opATOM then h.addr % 8 != 0 || decide (6 < h.spec % 16)
  else if isTable op then h.lenArg % 64 == 0 || decide (48 < h.lenArg % 64)
  else if op = opENQ then h.lenArg % 8 == 0 || decide (4 < h.lenArg % 8) || bits h.spec 23 16 != 0
  else if op = opDEQ then h.lenArg % 8 == 0 || decide (4 < h.lenArg % 8) || bits h.spec 23 17 != 0
  else if op = opQCTL then
    decide (4 < bits h.spec 18 16) ||
      (bits h.spec 18 16 == 1 && decide (18 < h.lenArg % 32) && decide (h.lenArg % 32 < 31))
  else if op = opCUPD then bits h.addr 39 29 != 0 || bit h.spec 7 || bits h.spec 23 16 != 0
  else if op = opCREAD ∨ op = opCCLR then bits h.addr 39 29 != 0 || bits h.spec 23 7 != 0
  else if op = opCREBUILD then bits h.addr 39 29 != 0 || bits h.spec 23 6 != 0
  else if op = opMGMT_RD ∨ op = opMGMT_WR then
    h.lenArg % 8 == 0 || decide (4 < h.lenArg % 8) || h.addr % 4 != 0
  else !opDefined op

/-- Responses of a port that the host has not accepted: in unacknowledged flits, begun, or waiting, those of a
reset first. -/
def State.unaccepted (s : State) (port : Nat) : List Resp :=
  let l := s.link port
  l.unresp.map (·.2) ++ l.txSlots.filterMap (·.2.2.1) ++ l.aborted ++ s.req.out.filter fun (r : Resp) => r.port == port

/-- Transactions outstanding on a port: from decoding until the host accepts the flit that carries the
response; a RETRY_LATER of R242 does not count. -/
def State.outstanding (s : State) (port : Nat) : Nat :=
  (s.req.txns.filter fun t => t.port == port).length +
    ((s.unaccepted port).filter fun (r : Resp) => r.kind != .limit).length

/-- Status of a data request by the mode (R49); none where it is accepted. `early`: received before the entry to
DRAIN. -/
def State.dataMode (s : State) (early : Bool := false) : Option Nat :=
  let m := s.mode
  if m = mSERVICE ∨ m = mDEGRADED ∨ (m = mDRAIN ∧ early = true) then none
  else if m = mLOCKDOWN then some stABORTED
  else some stRETRY

/-- The ports receive nothing in this mode (R49). -/
def State.deaf (s : State) : Bool := s.mode == mSTANDBY || s.coreOff || s.tripB

/-! ### Step 6 -/

/-- The kinds a line opcode's card permits (R277–R280). -/
def lineKind (op kind : Nat) : Bool :=
  if isRead op then kind != kTAGSTORE else kind == kPLAIN || kind == kTABLE

/-- A region admits a request (R270 step 6, R298, R545): allowed set, MIRROR flag, and a loaded key. -/
def State.rgnAdmits (s : State) (h : ReqHead) (n : Nat) : Bool :=
  let r := s.rgn n
  r.valid && r.allows h.reqId && (!fMIRROR h || r.mirror) &&
    (r.key == 0 || (s.slotKey (r.key - 1)).isSome)

/-- Step 6 of R270: refused with a status and RFLAGS, or the target region if it has one. -/
def State.step6 (s : State) (op : Nat) (h : ReqHead) : Except (Nat × Nat) (Option Nat) :=
  let need (n : Nat) (ok : Bool) : Except (Nat × Nat) (Option Nat) :=
    if ok ∧ s.rgnAdmits h n then .ok (some n) else .error (stREJ_REGION, 0)
  if isLine op then
    match s.rgnOf h.addr with
    | some n => need n (lineKind op (s.rgn n).kind)
    | none => .error (stREJ_REGION, 0)
  else if isTable op then
    let d := s.desc (h.spec % 256)
    match need d.rgn d.valid with
    | .ok r => if h.lenArg % 64 = d.keylen then .ok r else .error (stABORTED, 4)
    | .error e => .error e
  else if isQueue op then
    let q := s.q (h.spec % 65536)
    let disabled := q.state == 0
    let sub := bits h.spec 18 16
    if op = opQSTAT ∧ disabled then .ok none
    else
      let pool := if op = opQCTL ∧ sub = 0 ∧ disabled then h.addr % 16 else q.pool
      need (s.poolRgn pool) (s.on (Fd.QUE_POOL_CFG_VALID pool) && !fMIRROR h &&
        (!disabled || (op == opQCTL && sub == 0)))
  else if isCounter op then
    let c := s.cset (h.spec % 64)
    need c.rgn (c.valid && !fMIRROR h)
  else .ok none

/-- Step 7 of R270 (R267): the label charged, or none. -/
def State.step7 (s : State) (h : ReqHead) (rgn : Option Nat) : Option Nat :=
  let l := if h.label = 255 then (match rgn with
    | some n => (s.rgn n).label
    | none => 0) else h.label
  if l = 254 ∨ (s.on Fd.REG_CTL_ENFORCE ∧ !s.labelEn l) then none else some l

/-- The line addresses of a line request (R277–R280). -/
def lineAddrs (op : Nat) (h : ReqHead) : List Nat :=
  (List.range (opLines op)).map fun i => h.addr / 64 * 64 + 64 * i

/-- Step 8 of R270: the target is fenced (R316, R351, R414, R472, R552). -/
def State.step8 (s : State) (op : Nat) (h : ReqHead) (payload : List Byte) (rgn : Option Nat) : Bool :=
  (match rgn with
    | some n => s.rgnFenced n
    | none => false) ||
  (if isLine op then
    (lineAddrs op h).any fun a => s.lineFenced a || (match rgn with
      | some n => s.tagFenced n a
      | none => false)
  else if isTable op then
    let t := h.spec % 256
    let (h1, h2, _) := (s.desc t).hash (payload.take (s.desc t).keylen)
    s.bucketFenced t h1 || s.bucketFenced t h2
  else false)

/-! ### Charges (R514) -/

/-- The ancestors a counter request is charged for, as the engine's cache or memory holds them. -/
def State.ancCount (s : State) (n i : Nat) : Nat :=
  let c := s.cset n
  let d := match Tab.get (fun _ => none) s.cnt.cache (ancKey n i) with
    | some (lo, hi, _) => leBytes 8 lo ++ leBytes 8 hi
    | none => (s.memReadN (s.ancAddr c i) 16 15).2.1
  match c.ancestors i d with
  | some a => (named a).length
  | none => 0

/-- The bytes a request's card states, and whether they go to the Crema account (R515). -/
def State.cardCharge (s : State) (op : Nat) (h : ReqHead) (payload : List Byte) : Nat × Bool :=
  let crema := decide (cremaWin ≤ h.addr)
  if isRead op ∨ isWrite op then (64 * opLines op, crema)
  else if op = opWRP then
    let mask := leNat (payload.take 8) % 2 ^ 64
    (if crema then 64 * ceilDiv (popCount 64 mask) 64
      else if bit h.spec 0 then 64
      else if mask = 0 then 0 else if mask = 2 ^ 64 - 1 then 64 else 128, crema)
  else if op = opATOM then (if crema then 64 else 128, crema)
  else if isTable op then
    let d := s.desc (h.spec % 256)
    ((if op = opPROBE then 2 else if op = opINSERT then 4 else 3) * d.bytes, s.pinned d)
  else if op = opENQ ∨ op = opDEQ then (256 * (h.lenArg % 8), false)
  else if isQueue op then (64, false)
  else if isCounter op then
    let n := h.spec % 64
    let i := h.addr % 2 ^ 29
    let k := s.ancCount n i
    (if op = opCUPD then 64 * (1 + if bit h.spec 6 then 0 else k)
      else if op = opCREBUILD then 128
      else 128 * (1 + if bit h.spec 6 then k else 0), false)
  else (0, false)

/-! ### Holds before step 6 -/

/-- A FENCE covers an earlier or later request (R282). -/
def fenceCovers (f t : Txn) : Bool :=
  let sc := f.head.lenArg % 4
  (bit sc 0 || f.port == t.port) && (bit sc 1 || f.head.reqId == t.head.reqId)

/-- An earlier FENCE that still waits covers the request (R283). -/
def State.fenced (s : State) (t : Txn) : Bool :=
  s.req.txns.any fun f => f.op == opFENCE && decide (f.id < t.id) && fenceCovers f t

/-- An earlier request of its port and REQ_ID is unanswered (R266). -/
def State.orderWaits (s : State) (t : Txn) : Bool :=
  fORDERED t.head && s.req.txns.any fun x =>
    x.port == t.port && x.head.reqId == t.head.reqId && decide (x.id < t.id)

/-- The address lies in a span (window, base, size) of a region commit. -/
def inSpan (sp : Nat × Nat × Nat) (a : Nat) : Bool :=
  let g := if sp.1 = 0 then 0x4000000 else 0x10000
  let b := (if sp.1 = 0 then 0 else cremaWin) + sp.2.1 * g
  decide (b ≤ a) && decide (a < b + sp.2.2 * g)

/-- A heavy region commit holds the request: one decoded since the commit's GO (R306). -/
def State.commitHolds (s : State) (t : Txn) : Bool :=
  isLine t.op && decide (s.req.commitId ≤ t.id) && (match s.req.commit with
    | some (_, o, n, _) => inSpan o t.head.addr || inSpan n t.head.addr
    | none => false)

/-- The region a request would use, before any check. -/
def State.rgnNamed (s : State) (t : Txn) : Option Nat :=
  if isLine t.op then s.rgnOf t.head.addr
  else if isTable t.op then some (s.desc t.tid).rgn
  else if isQueue t.op then some (s.poolRgn (s.q (t.head.spec % 65536)).pool)
  else if isCounter t.op then some (s.cset (t.head.spec % 64)).rgn
  else none

/-- A key load or clear holds the request (R544). -/
def State.keyHolds (s : State) (t : Txn) : Bool :=
  match s.sec.load, s.rgnNamed t with
  | some (slot, _), some n => (s.rgn n).valid && (s.rgn n).key == slot + 1
  | _, _ => false

/-- The request writes a mirrored region (R594). -/
def State.mirroredWrite (s : State) (t : Txn) : Bool :=
  (isWrite t.op || t.op == opWRP || t.op == opATOM || t.op == opINSERT || t.op == opDELETE) &&
    (match s.rgnNamed t with
      | some n => (s.rgn n).mirror
      | none => false)

/-- A role change holds the request (R594). -/
def State.roleHolds (s : State) (t : Txn) : Bool := s.pair.roleAsk.isSome && s.mirroredWrite t

/-! ### Forwarding to the partner (R583, R592) -/

/-- This part is the destination of a copy and the region is not copied yet at the line (R592). -/
def State.staleAt (s : State) (n line : Nat) : Bool :=
  match s.pair.resync with
  | some r => if r.inRgn = some n then decide (r.inPoint ≤ line) else r.inTodo.contains n
  | none => false

/-- The request executes at the partner as MEXEC. -/
def State.goesAway (s : State) (t : Txn) : Bool :=
  if t.port = 12 ∨ !s.joined then false
  else match s.rgnNamed t with
    | none => false
    | some n =>
      (s.rgn n).mirror && s.rgnFenced n == false &&
      ((s.rd Fd.PAIR_STAT_ROLE == 2 &&
          (t.op == opWRP || t.op == opATOM || t.op == opINSERT || t.op == opDELETE)) ||
        (if isLine t.op then (lineAddrs t.op t.head).any fun a => s.staleAt n (a / 64)
          else isTable t.op && (s.staleAt n 0 || s.staleAt n (2 ^ 40))))

/-- MEXEC is sent; its MRES will answer (R583). -/
def State.sendAway (s : State) (t : Txn) : State :=
  let x := s.pair.nextXid % 65536
  ({ s with pair := { s.pair with
      nextXid := s.pair.nextXid + 1
      out := s.pair.out ++ [PairMsg.mexec x t.op t.head t.payload]
      pendX := s.pair.pendX ++ [(x, t.id)] } }).setTxn { t with stage := .forwarded }

/-! ### Release -/

/-- What a merge does (R279, R280). -/
def mergeOf (t : Txn) : MergeOp :=
  if t.op = opWRP then .wrp (leNat (t.payload.take 8) % 2 ^ 64) (line64 (t.payload.drop 16))
  else .atom (t.head.spec % 16) (bit t.head.spec 4) (t.head.addr % 64) (leNat (t.payload.take 8))
    (leNat ((t.payload.drop 8).take 8))

/-- The line accesses of a request (R277–R280, R318, R327, R398). -/
def lineAccs (t : Txn) : List Acc :=
  let mk (i : Nat) (kind : AccKind) : Acc :=
    { seq := 0, txn := t.id, ini := t.port, kind, line := t.head.addr / 64 + i, idx := i, urg := t.urg
      noalloc := fNOALLOC t.head }
  let crema := decide (cremaWin ≤ t.head.addr)
  let psn := bit t.head.spec 0
  if isRead t.op then (List.range (opLines t.op)).map fun i => mk i .read
  else if isWrite t.op then (List.range (opLines t.op)).map fun i =>
    { mk i .write with data := (t.payload.drop (64 * i)).take 64, poison := psn, mask := 2 ^ 64 - 1 }
  else if t.op = opWRP then
    let mask := leNat (t.payload.take 8) % 2 ^ 64
    let data := line64 (t.payload.drop 16)
    if crema then (if mask = 0 then [] else [{ mk 0 .write with data, poison := psn, mask }])
    else if psn then [{ mk 0 .write with poison := true, mask := 2 ^ 64 - 1 }]
    else if mask = 0 then []
    else if mask = 2 ^ 64 - 1 then [{ mk 0 .write with data, mask }]
    else [{ mk 0 .merge with mop := some (mergeOf t) }]
  else [{ mk 0 .merge with mop := some (mergeOf t) }]

/-- The accesses of a line request enter the fabric (R15, R318, R470). -/
def State.startLine (s : State) (t : Txn) : State :=
  let accs := lineAccs t
  let s := s.setTxn { t with stage := .running, left := accs.length }
  let s := accs.foldl (fun s a =>
    { s with nextSeq := s.nextSeq + 1 }.present { a with seq := s.nextSeq, born := s.clk.time }) s
  if accs.isEmpty then s.settle t.id else s

/-- FENCE at step 9: it completes at once when it has nothing to wait for (R283). -/
def State.startFence (s : State) (t : Txn) : State :=
  if s.req.txns.any fun x => decide (x.id < t.id) && fenceCovers t x then s.setTxn { t with stage := .fence }
  else s.respond t stOK

/-- Step 9 of R270. -/
def State.dispatch (s : State) (t : Txn) : State :=
  if s.goesAway t then s.sendAway t
  else if isLine t.op then s.startLine t
  else if isTable t.op then s.tableExec t
  else if t.op = opENQ then s.enq t
  else if t.op = opDEQ then s.deq t
  else if t.op = opQSTAT then s.qstat t
  else if t.op = opQCTL then
    (match bits t.head.spec 18 16 with
      | 0 => s.qEnable t
      | 1 => s.qDisable t
      | 2 => s.qFlush t
      | 3 => s.qSetLimit t
      | _ => s.qSetProt t)
  else if isCounter t.op then s.counterExec t
  else if t.op = opFENCE then s.startFence t
  else s.snapRequest t

/-- What a request serialises on: its lines, table, queue or counter set (R272, R440, R469, R491). -/
def Txn.keys (t : Txn) : List Nat :=
  if isLine t.op then (lineAddrs t.op t.head).map (· / 64)
  else if isTable t.op then [2 ^ 40 + t.tid]
  else if isQueue t.op then [2 ^ 41 + t.head.spec % 65536]
  else if isCounter t.op then [2 ^ 42 + t.head.spec % 64]
  else []

/-- The request has not yet been released to its target. -/
def Txn.unreleased (t : Txn) : Bool :=
  t.stage == .heldFence || t.stage == .heldOrdered || t.stage == .heldRegion || t.stage == .heldKey ||
    t.stage == .heldRole || t.stage == .heldShare || t.stage == .heldRoom || t.stage == .heldBehind ||
    t.stage == .forwarded

/-- An older request of the port on the same target is not yet released. -/
def State.behind (s : State) (t : Txn) : Bool :=
  s.req.txns.any fun x => x.port == t.port && decide (x.id < t.id) && x.unreleased &&
    x.keys.any fun k => t.keys.contains k

/-- A request the regulator lets go is released, or waits behind an older one. -/
def State.letGo (s : State) (id : Nat) : State :=
  match s.txn id with
  | some t => if s.behind t then s.setTxn { t with stage := .heldBehind } else s.dispatch t
  | none => s

/-- Requests that waited behind others and need no longer are released, in decode order. -/
def State.releaseBehind (s : State) : State :=
  (s.req.txns.filter fun t => t.stage == .heldBehind).foldl (fun s t => s.letGo t.id) s

/-- Requests released, in order, and those behind them. -/
def State.letGoAll (s : State) (ids : List Nat) : State :=
  (ids.foldl (fun s id => s.letGo id) s).releaseBehind

/-! ### The checks in order (R270) -/

/-- Steps 6 to 9 of a decoded request, after the holds; a management request is left ready for its port. -/
def State.checkReq (s : State) (id : Nat) : State :=
  match s.txn id with
  | none => s
  | some t =>
    if s.fenced t then s.setTxn { t with stage := .heldFence }
    else if t.op ≠ opAUTH ∧ s.orderWaits t then s.setTxn { t with stage := .heldOrdered }
    else if isMgmt t.op then s.setTxn { t with stage := .running }
    else if s.commitHolds t then s.setTxn { t with stage := .heldRegion }
    else if s.keyHolds t then s.setTxn { t with stage := .heldKey }
    else if s.roleHolds t then s.setTxn { t with stage := .heldRole }
    else match s.step6 t.op t.head with
      | .error (st, fl) =>
        s.respond t st 0 [] 0 fl
      | .ok rgn => match s.step7 t.head rgn with
        | none => s.respond t stREJ_LABEL
        | some l =>
          if s.step8 t.op t.head t.payload rgn then s.respond t stFENCED
          else
            let (n, crema) := s.cardCharge t.op t.head t.payload
            let t := { t with
              label := l, passed := true, charge := n, t8 := s.clk.time
              urg := if bit t.head.flags 3 then 1 else 0 }
            let s := s.setTxn t
            if n = 0 then s.letGo id
            else match s.passLabel id l n crema with
              | (s, .go) => s.letGo id
              | (s, .held) => s.setTxn { t with stage := .heldShare }
              | (s, .noRoom) => (s.setTxn { t with stage := .heldRoom }).shareFull l t.port

/-- An answer to a request that never became outstanding. -/
def State.refuse (s : State) (port op : Nat) (h : ReqHead) (status rflags xid : Nat) (kind : RespKind := .plain) :
    State :=
  s.sendResp { port, op, reqId := h.reqId, tag := h.tag, status, rflags, kind } xid

/-- A data request reaches its decoder (R270 steps 1 to 3), from a port or, with an exchange number,
from the partner (R583). `early`: received in a mode that admits it (R49). -/
def State.decodeReq (s : State) (port op : Nat) (h : ReqHead) (payload : List Byte) (xid : Nat := 0)
    (early : Bool := false) : State :=
  if port < 12 ∧ 2048 ≤ s.outstanding port then s.refuse port op h stRETRY 0 xid .limit
  else if malformed op h ∨ isMgmt op then s.refuse port op h stABORTED 4 xid
  else match s.dataMode early with
    | some st => s.refuse port op h st 0 xid
    | none =>
      let t : Txn := { id := s.req.nextId, port, op, head := h, payload, stage := .running, label := 0, xid }
      ({ s with req := { s.req with txns := s.req.txns ++ [t], nextId := s.req.nextId + 1 } }).checkReq t.id

/-- A request held for share-queue room holds its port's VC 0 (R526). -/
def State.blocked (s : State) (port : Nat) : Bool :=
  s.req.txns.any fun t => t.port == port && t.stage == .heldRoom

def State.inbox (s : State) (port : Nat) : List InMsg :=
  Tab.get (fun _ => []) s.req.inbox port

def State.setInbox (s : State) (port : Nat) (l : List InMsg) : State :=
  { s with req := { s.req with inbox := Tab.put (fun _ => []) s.req.inbox port l } }

/-- Slots of a VC taken out of a port's receive buffer (R237). -/
def State.freeSlots (s : State) (n vc k : Nat) : State :=
  let l := s.link n
  s.setLink n { l with freed := Tab.put (fun _ => 0) l.freed vc (Tab.get (fun _ => 0) l.freed vc + k) }

/-- A data request is taken out of its port's receive buffer. -/
def State.takeReq (s : State) (port op : Nat) (h : ReqHead) (payload : List Byte) (early : Bool) : State :=
  (s.freeSlots port 0 (1 + reqSlots op h)).decodeReq port op h payload 0 early

/-- The port's flit clock is gated, so that it receives nothing (R100, R101). -/
def State.portGated (s : State) (port : Nat) : Bool := s.clk.portClosed.contains port

/-- A data request arrives on a host port (R49, R526). -/
def State.request (s : State) (port op : Nat) (h : ReqHead) (payload : List Byte) : State :=
  if 12 ≤ port ∨ s.deaf ∨ s.portGated port then s
  else
    let early := s.dataMode.isNone
    if s.blocked port then s.setInbox port (s.inbox port ++ [{ op, head := h, data := payload, early }])
    else s.takeReq port op h payload early

/-- Waiting messages of a port are decoded while its decoder is free. -/
def State.drainInbox (s : State) (port : Nat) : List InMsg → State
  | [] => s.setInbox port []
  | m :: l =>
    if s.blocked port then s.setInbox port (m :: l)
    else (s.takeReq port m.op m.head m.data m.early).drainInbox port l

/-- Requests held for room enter their share queue where there is room, and their ports go on. -/
def State.roomRelease (s : State) : State :=
  let s := (s.req.txns.filter fun t => t.stage == .heldRoom).foldl (fun s t =>
    if s.shareRoom t.label then
      (s.setShareQ t.label (s.shareQ t.label ++ [(t.id, t.charge)])).setTxn { t with stage := .heldShare }
    else s) s
  (List.range 12).foldl (fun s p => s.drainInbox p (s.inbox p)) s

/-- Every request held at a stage goes through its checks again, in decode order. -/
def State.releaseStage (s : State) (st : Stage) : State :=
  ((s.req.txns.filter fun t => t.stage == st).foldl (fun s t => s.checkReq t.id) s).releaseBehind

/-! ### Commands -/

/-- A request of one opcode whose SPEC bits are fixed. -/
def headSpec (h : ReqHead) (hi lo v : Nat) : ReqHead := { h with spec := setBits h.spec hi lo v }

/-- RD64 (R277). -/
def execRd64 (port : Nat) (head : ReqHead) (s : State) : Host.Outcome State Fault Refusal :=
  s.act (s.request port opRD64 head [])

/-- RD128 (R277). -/
def execRd128 (port : Nat) (head : ReqHead) (s : State) : Host.Outcome State Fault Refusal :=
  s.act (s.request port opRD128 head [])

/-- RD256 (R277). -/
def execRd256 (port : Nat) (head : ReqHead) (s : State) : Host.Outcome State Fault Refusal :=
  s.act (s.request port opRD256 head [])

/-- WR64 (R278). -/
def execWr64 (port : Nat) (head : ReqHead) (data : List Byte) (s : State) :
    Host.Outcome State Fault Refusal := s.act (s.request port opWR64 head data)

/-- WR128 (R278). -/
def execWr128 (port : Nat) (head : ReqHead) (data : List Byte) (s : State) :
    Host.Outcome State Fault Refusal := s.act (s.request port opWR128 head data)

/-- WR256 (R278). -/
def execWr256 (port : Nat) (head : ReqHead) (data : List Byte) (s : State) :
    Host.Outcome State Fault Refusal := s.act (s.request port opWR256 head data)

/-- WRP (R279). -/
def execWrp (port : Nat) (head : ReqHead) (data : List Byte) (s : State) :
    Host.Outcome State Fault Refusal := s.act (s.request port opWRP head data)

/-- FADD (R280). -/
def execAtomFadd (port : Nat) (head : ReqHead) (data : List Byte) (s : State) :
    Host.Outcome State Fault Refusal := s.act (s.request port opATOM (headSpec head 3 0 0) data)

/-- CAS (R280). -/
def execAtomCas (port : Nat) (head : ReqHead) (data : List Byte) (s : State) :
    Host.Outcome State Fault Refusal := s.act (s.request port opATOM (headSpec head 3 0 1) data)

/-- SWAP (R280). -/
def execAtomSwap (port : Nat) (head : ReqHead) (data : List Byte) (s : State) :
    Host.Outcome State Fault Refusal := s.act (s.request port opATOM (headSpec head 3 0 2) data)

/-- MIN (R280). -/
def execAtomMin (port : Nat) (head : ReqHead) (data : List Byte) (s : State) :
    Host.Outcome State Fault Refusal := s.act (s.request port opATOM (headSpec head 3 0 3) data)

/-- MAX (R280). -/
def execAtomMax (port : Nat) (head : ReqHead) (data : List Byte) (s : State) :
    Host.Outcome State Fault Refusal := s.act (s.request port opATOM (headSpec head 3 0 4) data)

/-- AND (R280). -/
def execAtomAnd (port : Nat) (head : ReqHead) (data : List Byte) (s : State) :
    Host.Outcome State Fault Refusal := s.act (s.request port opATOM (headSpec head 3 0 5) data)

/-- OR (R280). -/
def execAtomOr (port : Nat) (head : ReqHead) (data : List Byte) (s : State) :
    Host.Outcome State Fault Refusal := s.act (s.request port opATOM (headSpec head 3 0 6) data)

/-- PROBE (R463). -/
def execTblProbe (port : Nat) (head : ReqHead) (data : List Byte) (s : State) :
    Host.Outcome State Fault Refusal := s.act (s.request port opPROBE head data)

/-- INSERT (R464). -/
def execTblInsert (port : Nat) (head : ReqHead) (data : List Byte) (s : State) :
    Host.Outcome State Fault Refusal := s.act (s.request port opINSERT head data)

/-- DELETE (R467). -/
def execTblDelete (port : Nat) (head : ReqHead) (data : List Byte) (s : State) :
    Host.Outcome State Fault Refusal := s.act (s.request port opDELETE head data)

/-- ENQ (R431). -/
def execEnq (port : Nat) (head : ReqHead) (data : List Byte) (s : State) :
    Host.Outcome State Fault Refusal := s.act (s.request port opENQ head data)

/-- DEQ (R434). -/
def execDeq (port : Nat) (head : ReqHead) (s : State) : Host.Outcome State Fault Refusal :=
  s.act (s.request port opDEQ head [])

/-- QSTAT (R435). -/
def execQstat (port : Nat) (head : ReqHead) (s : State) : Host.Outcome State Fault Refusal :=
  s.act (s.request port opQSTAT head [])

/-- ENABLE (R436). -/
def execQEnable (port : Nat) (head : ReqHead) (s : State) : Host.Outcome State Fault Refusal :=
  s.act (s.request port opQCTL (headSpec head 18 16 0) [])

/-- DISABLE (R437). -/
def execQDisable (port : Nat) (head : ReqHead) (s : State) : Host.Outcome State Fault Refusal :=
  s.act (s.request port opQCTL (headSpec head 18 16 1) [])

/-- FLUSH (R438). -/
def execQFlush (port : Nat) (head : ReqHead) (s : State) : Host.Outcome State Fault Refusal :=
  s.act (s.request port opQCTL (headSpec head 18 16 2) [])

/-- SET_LIMIT (R436). -/
def execQSetLimit (port : Nat) (head : ReqHead) (s : State) : Host.Outcome State Fault Refusal :=
  s.act (s.request port opQCTL (headSpec head 18 16 3) [])

/-- SET_PROT (R436). -/
def execQSetProt (port : Nat) (head : ReqHead) (s : State) : Host.Outcome State Fault Refusal :=
  s.act (s.request port opQCTL (headSpec head 18 16 4) [])

/-- CUPD (R494). -/
def execCupd (port : Nat) (head : ReqHead) (s : State) : Host.Outcome State Fault Refusal :=
  s.act (s.request port opCUPD head [])

/-- CREAD (R496). -/
def execCread (port : Nat) (head : ReqHead) (s : State) : Host.Outcome State Fault Refusal :=
  s.act (s.request port opCREAD head [])

/-- CCLR (R497). -/
def execCclr (port : Nat) (head : ReqHead) (s : State) : Host.Outcome State Fault Refusal :=
  s.act (s.request port opCCLR head [])

/-- CREBUILD (R498). -/
def execCrebuild (port : Nat) (head : ReqHead) (s : State) : Host.Outcome State Fault Refusal :=
  s.act (s.request port opCREBUILD head [])

/-- FENCE (R283). -/
def execFenceReq (port : Nat) (head : ReqHead) (s : State) : Host.Outcome State Fault Refusal :=
  s.act (s.request port opFENCE head [])

/-- SNAP (R284). -/
def execSnapReq (port : Nat) (head : ReqHead) (s : State) : Host.Outcome State Fault Refusal :=
  s.act (s.request port opSNAP head [])

/-! ### The regulator's commands -/

/-- SLICE (R517, R523). -/
def execSlice (s : State) : Host.Outcome State Fault Refusal := s.act s.sliceStart

/-- WINDOW_START (R517, R525). -/
def execWindowStart (label : Nat) (s : State) : Host.Outcome State Fault Refusal :=
  s.act (let r := s.windowStart (label % 256)
    (r.1.letGoAll r.2).roomRelease)

/-- SHARE_RELEASE (R524). -/
def execShareRelease (s : State) : Host.Outcome State Fault Refusal :=
  s.act (let r := s.shareRounds 65536
    (r.1.letGoAll r.2).roomRelease)

/-- URGENCY_RISE (R528). -/
def execUrgencyRise (txn : Nat) (s : State) : Host.Outcome State Fault Refusal := s.act (s.urgencyRise txn)

/-- SHRINK_RECOMPUTE (R521). -/
def execShrinkRecompute (s : State) : Host.Outcome State Fault Refusal := s.act s.recompute

/-- DEFICIT_LIMIT_END (R535): a change held back by the limit is reported. -/
def execDeficitLimitEnd (s : State) : Host.Outcome State Fault Refusal :=
  s.act (if s.rgl.defHeld then
    { s with rgl := { s.rgl with defHeld := false, defTime := s.clk.time + 1 } }.raise 216 1
      (s.rd Fd.REG_STAT_SHRINK + s.rd Fd.REG_STAT_KEFF * 65536)
  else { s with rgl := { s.rgl with defTime := 0 } })

/-- LABEL_COMMIT (R533). -/
def execLabelCommit (s : State) : Host.Outcome State Fault Refusal := s.act s.labelCommit

/-! ### The queue engine's commands -/

/-- CELL_WORD_READ (R434): the next cell of a request's DEQ is read. -/
def execCellWordRead (txn : Nat) (s : State) : Host.Outcome State Fault Refusal :=
  s.act (match s.que.deqs.find? (·.txn == txn) with
    | some d => s.deqCell d
    | none => s)

/-- LINK_READ (R444). -/
def execLinkRead (qid : Nat) (s : State) : Host.Outcome State Fault Refusal :=
  s.act (if (s.q (qid % 65536)).state = 1 ∨ (s.q (qid % 65536)).state = 2 then s.linkRead (qid % 65536) else s)

/-- PAGE_FREE (R426). -/
def execPageFree (pool page : Nat) (s : State) : Host.Outcome State Fault Refusal :=
  s.act (s.pageFree pool page)

/-- REFILL (R428). -/
def execRefill (pool : Nat) (s : State) : Host.Outcome State Fault Refusal :=
  s.act (if pool < 16 ∧ s.on (Fd.QUE_POOL_CFG_VALID pool) ∧ (s.pool pool).cache.length < 4096 then
    s.refill pool else s)

/-- SPILL (R428). -/
def execSpill (pool : Nat) (s : State) : Host.Outcome State Fault Refusal :=
  s.act (if pool < 16 ∧ s.on (Fd.QUE_POOL_CFG_VALID pool) ∧ 28672 < (s.pool pool).cache.length then
    s.spill pool else s)

/-- QUE_DRAIN_TIMEOUT (R437): the queue proceeds as for FLUSH. -/
def execQueDrainTimeout (qid : Nat) (s : State) : Host.Outcome State Fault Refusal :=
  s.act (let n := qid % 65536
    if s.que.drains.any (fun d => d.qid == n && !d.timedOut) ∧ (s.q n).state = 2 then
      (({ s with que := { s.que with
        drains := s.que.drains.map fun (d : DrainEnt) =>
          if d.qid = n then { d with timedOut := true } else d } }).flushing
        n).raise 169 1 (n + (s.q n).pool * 65536)
    else s)

/-- WALK_READ (R438). -/
def execWalkRead (qid : Nat) (s : State) : Host.Outcome State Fault Refusal := s.act (s.walk (qid % 65536))

/-- A GO of QUE_POOL_CMD (R429, R454): OP 1 is RECLAIM on POOL, any other OP ILLEGAL. -/
def State.poolReclaim (s : State) : State :=
  let p := s.rd Fd.QUE_POOL_CMD_POOL
  if s.rd Fd.QUE_POOL_CMD_OP ≠ 1 ∨ !s.on (Fd.QUE_POOL_CFG_VALID p) then s.wr Fd.QUE_POOL_CMD_RESULT 3
  else if s.poolBusy p then s.wr Fd.QUE_POOL_CMD_RESULT 2
  else (s.reclaim p).wr Fd.QUE_POOL_CMD_RESULT 1

/-- RECLAIM (R429): QUE_POOL_CMD with OP 1. -/
def execReclaim (s : State) : Host.Outcome State Fault Refusal := s.act (s.wr Fd.QUE_POOL_CMD_OP 1).poolReclaim

/-! ### The table engine's commands -/

/-- DISPLACEMENT_MOVE (R465). -/
def execDisplacementMove (txn : Nat) (s : State) : Host.Outcome State Fault Refusal :=
  s.act (s.displacementMove txn)

/-- LOCK_GRANT (R468, R470): a request that waited for a lock goes on if it can have it. -/
def execLockGrant (txn : Nat) (s : State) : Host.Outcome State Fault Refusal :=
  s.act (match s.txn txn with
    | some t => if t.stage = .heldLock then s.tableExec t else s.grantLines txn
    | none => s)

/-- TBL_LOCK_STALL (R478). -/
def execTblLockStall (txn : Nat) (s : State) : Host.Outcome State Fault Refusal := s.act (s.lockStall txn)

/-- DEFINE (R474). -/
def execTblDefine (s : State) : Host.Outcome State Fault Refusal := s.act s.tblDefine

/-- RETIRE (R474). -/
def execTblRetire (s : State) : Host.Outcome State Fault Refusal := s.act s.tblRetire

/-- MOVE (R475). -/
def execTblMove (s : State) : Host.Outcome State Fault Refusal := s.act s.tblMove

/-- BUCKET_COPY (R475). -/
def execBucketCopy (s : State) : Host.Outcome State Fault Refusal := s.act s.bucketCopy

/-- TABLE_EMPTYING (R476). -/
def execTableEmptying (tid : Nat) (s : State) : Host.Outcome State Fault Refusal := s.act (s.tblEmpty tid)

/-! ### The counter engine's commands -/

/-- COUNTER_FLUSH (R490). -/
def execCounterFlush (csid index : Nat) (s : State) : Host.Outcome State Fault Refusal :=
  s.act (if (s.cset (csid % 64)).valid then s.counterFlush (csid % 64) index else s)

/-- REBUILD_SCAN_END (R499). -/
def execRebuildScanEnd (s : State) : Host.Outcome State Fault Refusal := s.act s.rebuildEnd

end Sys2Proof.Machine
end

