-- ==== Sys2Proof/Machine/LinkBase.lean ====
section
/-! DEFINITION. Ports as the rest of the part acts on them: states (R243), RECOVER (R243), bring-up
(R190), link resets and their ABORTED responses (R246, R247), credits, and the mode's effect
(R248, R249). -/

namespace Sys2Proof.Machine

/-- The sources of port n, k = 0 to 3 (R207, R257). -/
def linkSrc (n k : Nat) : Nat := 48 + 4 * n + k

/-- Number of logical lanes (R176). -/
def lanesOf (n : Nat) : Nat := if n = 12 then 4 else 8

/-- The physical lanes (R176). -/
def physOf (n : Nat) : List Nat := if n = 12 then [0, 1, 2, 3, 8] else List.range 9

def lOFF := 0
def lTRAIN := 1
def lINIT := 2
def lACTIVE := 3
def lRECOVER := 4
def lHOLD := 5
def lSTANDBY := 6
def lTEST := 7

/-- PORTn_LINK_STAT.STATE (R243, R259). -/
def State.lstate (s : State) (n : Nat) : Nat := s.rd (Fd.PORT_LINK_STAT_STATE n)

def State.setLstate (s : State) (n st : Nat) : State := s.wr (Fd.PORT_LINK_STAT_STATE n) st

/-- The physical lane that carries logical lane k, receive direction (R212). -/
def State.rxPhys (s : State) (n k : Nat) : Nat := bits (s.reg (Ra.PORT_LANE_MAP n)).toNat (4 * k + 3) (4 * k)

def State.txPhys (s : State) (n k : Nat) : Nat := bits (s.reg (Ra.PORT_LANE_TXMAP n)).toNat (4 * k + 3) (4 * k)

def State.setRxPhys (s : State) (n k p : Nat) : State := s.wr ⟨Ra.PORT_LANE_MAP n, 4 * k + 3, 4 * k⟩ p

def State.setTxPhys (s : State) (n k p : Nat) : State := s.wr ⟨Ra.PORT_LANE_TXMAP n, 4 * k + 3, 4 * k⟩ p

def State.laneRx (s : State) (n p : Nat) : LaneRx := Tab.get (fun _ => {}) (s.link n).lanes p

def State.setLaneRx (s : State) (n p : Nat) (x : LaneRx) : State :=
  let l := s.link n
  s.setLink n { l with lanes := Tab.put (fun _ => {}) l.lanes p x }

/-- The exchange of the port starts afresh (R245). -/
def Link.freshInit (l : Link) : Link :=
  { l with seen := false, sentSeen := false, farInit := none, initFail := false }

/-- Entry to RECOVER (R243): from ACTIVE, HOLD or STANDBY, with the cause; `reset` sets RESET_PEND. -/
def State.enterRecover (s : State) (n cause : Nat) (reset : Bool) : State :=
  let st := s.lstate n
  let s := if reset then s.wr (Fd.PORT_LINK_STAT_RESET_PEND n) 1 else s
  if st = lACTIVE ∨ st = lHOLD ∨ st = lSTANDBY then
    let s := ((s.setLstate n lRECOVER).wr (Fd.PORT_LINK_STAT_CAUSE n) cause).count
      (Fd.PORT_LINK_CNT_RECOVERS n) (Fd.PORT_LINK_CNT_RECOVER_OVF n) 1
    (s.setLink n (s.link n).freshInit).raise (linkSrc n 2) 9 cause
  else s

/-- The state a running port takes in the current mode, and once a drain has ended (R243, R248, R249,
R634, R635). -/
def State.linkMode (s : State) (n : Nat) : Nat :=
  if s.mode = mSTANDBY ∨ (s.mode = mDRAIN ∧ 1 ≤ s.pwr.stage ∧ s.seq.sleepTarget ≠ some mDEEP) then lSTANDBY
  else if n = 12 ∧ (s.link n).farStand then lSTANDBY
  else if s.mode = mBOOT ∨ s.mode = mSELFTEST ∨ s.mode = mCALIBRATE ∨ s.mode = mHOLD ∨ s.mode = mLOCKDOWN
  then lHOLD else lACTIVE

/-- The ports follow a change of mode (R243, R248, R249); a port that leaves STANDBY resumes link frames
(R193). -/
def State.portsFollow (s : State) : State :=
  (List.range 13).foldl (fun s n =>
    let st := s.lstate n
    if st = lACTIVE ∨ st = lHOLD ∨ st = lSTANDBY then
      let t := s.linkMode n
      (s.setLstate n t).wr (Fd.PORT_LANE_STAT_STATE n) (if t = lSTANDBY then 3 else 2)
    else s) s

/-! ### The frames a transmitter sends -/

/-- The register a pattern generator runs from: never all zero, in which no pattern moves. -/
def Link.genReg (l : Link) (pat p : Nat) : Nat :=
  let r := Tab.get (fun _ => (1 : Nat)) l.gens p % 2 ^ patLen pat
  if r = 0 then 1 else r

/-- The scrambler state of logical lane k, or of the spare-role lane under key 15 (R181). -/
def Link.scrOf (l : Link) (k : Nat) : Nat := Tab.get scrStart l.scr k

/-- `k` frames of transmit state `st` have gone (R180, R181, R183, R190, R193): the scramblers and the PRBS31 generators
have moved on, and one frame in 64 is sent in STANDBY. -/
def Link.framesGone (l : Link) (n st k : Nat) : Link :=
  if k = 0 then l
  else
    let run := (physOf n).filter fun p => st == 1 || p == l.txSpare
    { l with
      frame := (l.frame + (if st = 3 then 64 else 1) * k) % 4096
      scr := (List.range (lanesOf n) ++ [15]).foldl
        (fun g j => Tab.put scrStart g j (scrAdvance (k * frameBits (st - 1) j) (l.scrOf j))) l.scr
      gens := run.foldl (fun g p => Tab.put (fun _ => 1) g p (prbsAdvance 3 (k * 64 * 1020) (l.genReg 3 p))) l.gens
      inj := run.foldl (fun g p => Tab.put (fun _ => 0) g p 0) l.inj
      txFlits := [] }

/-- Frames go until the one numbered `f` starts. -/
def State.toFrame (s : State) (n f : Nat) : State :=
  let l := s.link n
  s.setLink n (l.framesGone n (s.rd (Fd.PORT_LANE_STAT_STATE n)) ((f % 4096 + 4096 - l.frame) % 4096))

/-- A flit takes its place in the flit stream (R223): after 495 of them, on the pair link after 247 and a half too, the
frame is full and the next one has started. -/
def Link.place (l : Link) (n st : Nat) (f : Flit) : Link :=
  let k := l.txFlits.length
  if flitPeriod ≤ k then { l.framesGone n st 1 with txFlits := [f] }
  else if n = 12 ∧ k = 248 then { l.framesGone n st 1 with txFlits := f :: l.txFlits }
  else { l with txFlits := f :: l.txFlits }

/-- The transmitters of a port are idle or off (R195, R243). -/
def State.portOff (s : State) (n : Nat) : State :=
  ((((s.setLstate n lOFF).wr (Fd.PORT_LANE_STAT_STATE n) 0).wr (Fd.PORT_LANE_STAT_UP n) 0).wr
    (Fd.PORT_LANE_STAT_LOCK n) 0).wr (Fd.PORT_LANE_STAT_SPARE_READY n) 0

/-- Start of bring-up (R190): map and scramblers reset, training frames, every receiver hunting. A lane that the map
takes out of logical service clears its FLAG (R197). A software swap that bring-up cuts off ends NO_SPARE (DESIGN CHOICE,
assumption 61), and where the PRBS31 generators start is a free value (assumption 60). -/
def State.bringup (s : State) (n : Nat) : State :=
  let l := s.link n
  let s := if l.reqSw ∨ l.swReq.isSome then s.wr (Fd.PORT_LANE_SWAP_RESULT n) 3 else s
  let start := s.free
  let s := (s.wrBit (Fd.PORT_LANE_FLAG_FLAG n) 8 false).drawn
  let s := (s.setReg (Ra.PORT_LANE_MAP n) (resetWord (Ra.PORT_LANE_MAP n))).setReg
    (Ra.PORT_LANE_TXMAP n) (resetWord (Ra.PORT_LANE_TXMAP n))
  let s := s.setReg (Ra.PORT_LANE_STAT n) (resetWord (Ra.PORT_LANE_STAT n))
  let s := (s.wr (Fd.PORT_LANE_STAT_STATE n) 1).setLstate n lTRAIN
  s.setLink n { l.freshInit with
    lanes := []
    scr := []
    frame := 0
    farFrame := 0
    farFlag := 0
    gens := (physOf n).foldl (fun g p => Tab.put (fun _ => 1) g p (start / 2 ^ (31 * p) % 2 ^ 31)) []
    inj := []
    txFlits := []
    heldIn := []
    txSpare := 8
    reqLane := none
    reqSw := false
    txAnn := none
    farReq := none
    swReq := none
    farAnn := none
    farStand := false }

/-- An ABORTED response in place of what a request would have answered (R247). -/
def Resp.abort (r : Resp) : Resp :=
  { port := r.port, op := r.op, reqId := r.reqId, tag := r.tag, status := stABORTED, kind := .aborted }

/-- The requests of a port that a reset answers ABORTED: responses the host had not accepted, requests
still executing, messages not yet decoded (R247). -/
def State.abortList (s : State) (n : Nat) : List Resp :=
  ((s.unaccepted n).map Resp.abort) ++
    ((s.req.txns.filter fun (t : Txn) => t.port == n).map fun (t : Txn) =>
      { port := n, op := t.op, reqId := t.head.reqId, tag := t.head.tag, status := stABORTED, kind := .aborted : Resp }) ++
    ((s.inbox n).map fun (m : InMsg) =>
      { port := n, op := m.op, reqId := m.head.reqId, tag := m.head.tag, status := stABORTED, kind := .aborted : Resp })

/-- Every request of the port is answered ABORTED; those still executing finish internally and their
responses are discarded (R247). A waiting FENCE ends, and what it held on other ports goes on (R283); a management
request not yet run has no effect. -/
def State.abortPort (s : State) (n : Nat) : State :=
  let out := s.abortList n
  let l := s.link n
  let s := s.setLink n { l with unresp := [], txSlots := [], aborted := out }
  let kept := s.req.txns.filter fun (t : Txn) => t.port != n || !(t.op == opFENCE || isMgmt t.op)
  let s := { s with req := { s.req with
    txns := kept.map fun (t : Txn) => if t.port = n then { t with port := 13 } else t
    out := s.req.out.filter fun (r : Resp) => r.port != n } }
  (s.setInbox n []).releaseStage .heldFence

/-- Distance of SEQ `a` past `b`, modulo 4,096. -/
def seqDist (a b : Nat) : Nat := (a + 4096 - b % 4096) % 4096

/-- Flits, responses and events up to SEQ `a` are covered (R234, R242). -/
def Link.cover (l : Link) (a : Nat) : Link :=
  match l.replay.findIdx? fun (f : Flit) => f.seq == a with
  | none => l
  | some i =>
    let gone := (l.replay.take (i + 1)).map (·.seq)
    { l with
      replay := l.replay.drop (i + 1)
      covered := a
      resend := match l.resend with
        | some r => if gone.contains r then ((l.replay.drop (i + 1)).head?).map (·.seq) else some r
        | none => none
      unresp := l.unresp.filter fun (e : Nat × Resp) => !gone.contains e.1
      unev := l.unev.filter fun (e : Nat × Msg) => !gone.contains e.1 }

/-- UNACK shows the unacknowledged flits (R260). -/
def State.showUnack (s : State) (n : Nat) : State :=
  s.wr (Fd.PORT_LINK_OUT_UNACK n) (s.link n).replay.length

def credFld (n vc : Nat) : Fld :=
  match vc with
  | 0 => Fd.PORT_CRED01_VC0 n
  | 1 => Fd.PORT_CRED01_VC1 n
  | 2 => Fd.PORT_CRED23_VC2 n
  | _ => Fd.PORT_CRED23_VC3 n

/-- Byte `i` of a flit's slot `k`. -/
def flitByte (f : Flit) (k i : Nat) : Nat := nth 0 f.slots k / 2 ^ (8 * i) % 256

/-- The receive credits an INIT offers on a VC (R244). -/
def flitCredit (f : Flit) (vc : Nat) : Nat := flitByte f 0 (8 + 2 * vc) + 256 * flitByte f 0 (9 + 2 * vc)

/-- A reset of the link (R246, R247): `far` is the far side's INIT. -/
def State.linkReset (s : State) (n : Nat) (far : Flit) : State :=
  let gen := (max (s.rd (Fd.PORT_LINK_STAT_GEN n)) (flitByte far 0 3) + 1) % 256
  let s := if bit (flitByte far 0 2) 2 then
      s.setLink n ((s.link n).cover ((flitByte far 0 4 + 256 * flitByte far 0 5) % 4096)) else s
  let lost := (s.link n).unev.length + ((s.link n).txSlots.filter fun e => e.2.2.2.isSome).length
  let s := if n < 12 then s.abortPort n else s
  let l := s.link n
  let s := s.setLink n { l with
    replay := []
    resend := none
    rstart := none
    covered := 0xFFF
    unresp := []
    unev := []
    txSlots := []
    nak := false
    nakDue := false
    rxMsg := none
    freed := []
    reported := []
    farCr := []
    txRun := []
    rxRun := []
    mism := 0
    heads := [] }
  let s := ((s.wr (Fd.PORT_LINK_STAT_GEN n) gen).wr (Fd.PORT_LINK_SEQ_TX_NEXT n) 0).wr
    (Fd.PORT_LINK_SEQ_RX_LAST n) 0xFFF
  let s := (List.range 4).foldl (fun s vc => s.wr (credFld n vc) (flitCredit far vc)) s
  let s := ((s.wr (Fd.PORT_LINK_STAT_RESET_PEND n) 0).showUnack n).count (Fd.PORT_LINK_CNT_RESETS n)
    (Fd.PORT_LINK_CNT_RESET_OVF n) 1
  s.raise (linkSrc n 3) 0xC (min 4095 (s.link n).aborted.length + min 255 lost * 4096 + gen * 2 ^ 20)

/-- ALERT and events still waiting on a port's VC 2 (R685). -/
def State.portQ (s : State) (n : Nat) : List Msg := Tab.get (fun _ => []) s.flt.portQ n

/-- A key load into a port's slot, with encryption on, moves the port to RECOVER and resets its
sessions (R556, R557). The spec names no CAUSE for this entry: a free value (assumption 3). -/
def State.linkKeyed (s : State) (n : Nat) : State :=
  let s := (s.setReg (Ra.SEC_LEP_TX n) 0).setReg (Ra.SEC_LEP_RX n) 0
  let s := if n < 12 then
      (s.drawn.setReg (Ra.SEC_LSESS_LO n) (BitVec.ofNat 32 s.free)).setReg (Ra.SEC_LSESS_HI n)
        (BitVec.ofNat 32 (s.free / 2 ^ 32))
    else s
  let s := (s.wr (Fd.PORT_ENC_FCNT_TX_FCNT n) 0).wr (Fd.PORT_ENC_FCNT_RX_FCNT n) 0
  let s := s.setLink n { s.link n with keyAsked := false, keyReady := false, stall := false, wrap := false }
  let s := (s.wr (Fd.PORT_LINK_STAT_KPH_TX n) 0).wr (Fd.PORT_LINK_STAT_KPH_RX n) 0
  if s.on (Fd.PORT_LINK_CFG_ENC n) then s.drawn.enterRecover n (s.free % 8) true else s

end Sys2Proof.Machine
end

