-- ==== Sys2Proof/Machine/Lane.lean ====
section
/-! DEFINITION. Lanes: lock and deskew (R187–R189), bring-up (R190–R192), LM0 to LM2 (R182–R186,
R194), adaptation bounds (R196, R197), the spare and swaps (R198–R203), and test patterns
(R204–R206). What the lanes carry is coded in Machine/Coding.lean; what the transmitters send is read off in
Machine/Frame.lean. -/

namespace Sys2Proof.Machine

/-! ### Helpers -/

/-- Lane k's receiver is locked (R188, R211). -/
def State.locked (s : State) (n p : Nat) : Bool := bit (s.rd (Fd.PORT_LANE_STAT_LOCK n)) p

def State.setLocked (s : State) (n p : Nat) (b : Bool) : State := s.wrBit (Fd.PORT_LANE_STAT_LOCK n) p b

/-- The logical lane a physical receive lane carries (R176). -/
def State.rxLogical (s : State) (n p : Nat) : Option Nat :=
  (List.range (lanesOf n)).find? fun k => s.rxPhys n k == p

def State.sparePhys (s : State) (n : Nat) : Nat := s.rd (Fd.PORT_LANE_STAT_SPARE_PHYS n)

/-- The address of a lane event (R207). -/
def laneAddr (phys logical second dir un : Nat) : Nat :=
  phys + logical * 16 + second * 256 + dir * 4096 + un * 8192

/-- A received LM1 or LM2 body of lane p descrambled; `skip`: scrambled body bits before it in the frame (R186). -/
def State.lmBody (s : State) (n p skip body : Nat) : Nat := scramble (scrAdvance skip (s.laneRx n p).descr) body

/-- The body of the LM1 or LM2 used: lowest locked physical lane whose CRC passes (R185). -/
def State.lmPick (s : State) (n skip : Nat) (bodies : List (Nat × Nat)) : Option Nat :=
  ((physOf n).filterMap fun p =>
    ((bodies.find? fun (e : Nat × Nat) => e.1 == p && s.locked n p && lmOk (s.lmBody n p skip e.2)).map
      fun e => s.lmBody n p skip e.2)).head?

/-! ### Receive direction -/

/-- The receive direction comes up when every logical lane is locked and deskewed (R189, R192), and the
link leaves TRAIN (R243). -/
def State.lanesUp (s : State) (n : Nat) : State :=
  let all := (List.range (lanesOf n)).all fun k => s.locked n (s.rxPhys n k)
  if all ∧ !s.on (Fd.PORT_LANE_STAT_UP n) ∧ s.lstate n ≠ lOFF ∧ s.lstate n ≠ lTEST then
    let s := ((s.wr (Fd.PORT_LANE_STAT_UP n) 1).wr (Fd.PORT_LANE_STAT_LATE n) 0).raise (linkSrc n 0) 1 0
    if s.lstate n = lTRAIN then (s.setLstate n lINIT).setLink n (s.link n).freshInit else s
  else s

/-- The receive direction goes down (R243). -/
def State.lanesDown (s : State) (n : Nat) : State :=
  if s.on (Fd.PORT_LANE_STAT_UP n) then (s.wr (Fd.PORT_LANE_STAT_UP n) 0).enterRecover n 1 false else s

/-! ### Swaps -/

/-- NO_SPARE for logical lane k (R199). -/
def State.noSpare (s : State) (n k : Nat) : State :=
  s.raise (linkSrc n 1) 6 (laneAddr (s.rxPhys n k) k 0 0 0)

/-- The spare of the receive direction may take a lane (R198, R199). -/
def State.spareOk (s : State) (n : Nat) : Bool :=
  s.on (Fd.PORT_LANE_STAT_SPARE_READY n) && !bit (s.rd (Fd.PORT_LANE_STAT_FAILED n)) (s.sparePhys n)

/-- Software's receive request ends with a RESULT (R214). -/
def State.swEnds (s : State) (n : Nat) (sw : Bool) (result : Nat) : State :=
  if sw then s.wr (Fd.PORT_LANE_SWAP_RESULT n) result else s

/-- The receiver requests a swap of logical lane k (R199); gives whether it stands. A request of a higher lane is
displaced: NO_SPARE. -/
def State.reqSwap (s : State) (n k : Nat) (sw : Bool) : State × Bool :=
  let l := s.link n
  if !s.spareOk n then (s.noSpare n k, false)
  else match l.reqLane with
    | none => (s.setLink n { l with reqLane := some k, reqSw := sw }, true)
    | some j =>
      if j = k then (s, true)
      else if k < j then
        (((s.setLink n { l with reqLane := some k, reqSw := sw }).noSpare n j).swEnds n l.reqSw 3, true)
      else (s.noSpare n k, false)

/-- A request is withdrawn when the spare is no longer ready (R199). -/
def State.withdraw (s : State) (n : Nat) : State :=
  let l := s.link n
  match l.reqLane with
  | some k => ((s.setLink n { l with reqLane := none, reqSw := false }).noSpare n k).swEnds n l.reqSw 3
  | none => s

/-- The spare-role lane stops being ready (R198, R199). -/
def State.spareLost (s : State) (n : Nat) : State := (s.wr (Fd.PORT_LANE_STAT_SPARE_READY n) 0).withdraw n

/-- The receive side moves logical lane k onto the spare-role lane (R201, R203): what it knows of lane k's stream moves
with it at an announced swap (`un` 0), the tap values of now are its trained ones (R196). The spare has gone, so a
request of another lane is withdrawn (R199). -/
def State.swapRx (s : State) (n k un : Nat) : State :=
  let new := s.sparePhys n
  let old := s.rxPhys n k
  let o := s.laneRx n old
  let w := s.laneRx n new
  let i := if un = 0 then o else w
  let j := if un = 0 then w else o
  let s := s.setLaneRx n new { w with
    descr := i.descr, seed := i.seed, codes := i.codes, st := i.st, stN := i.stN
    ctleTrn := w.ctle, tapsTrn := w.taps, clamp := none, spareMs := 0, errs := [] }
  let s := s.setLaneRx n old { o with
    descr := j.descr, seed := j.seed, codes := j.codes, st := j.st, stN := j.stN, clamp := none, spareMs := 0, errs := [] }
  let s := ((s.setRxPhys n k new).wr (Fd.PORT_LANE_STAT_SPARE_PHYS n) old).wr (Fd.PORT_LANE_STAT_SPARE_READY n) 0
  let s := (s.wrBit (Fd.PORT_LANE_FLAG_FLAG n) old false).count (Fd.PORT_LANE_CNT_SWAPS n)
    (Fd.PORT_LANE_CNT_SWAP_OVF n) 1
  let s := s.raise (linkSrc n 0) 4 (laneAddr new k old 0 un)
  let l := s.link n
  let mine := l.reqLane == some k
  let s := s.swEnds n (mine && l.reqSw) 1
  let s := s.setLink n { l with
    farAnn := none
    reqLane := if mine then none else l.reqLane
    reqSw := if mine then false else l.reqSw }
  let s := s.withdraw n
  if s.locked n new then s.lanesUp n else ((s.lanesDown n).reqSwap n k false).1

/-- The transmit side moves logical lane k, its scrambler state with it (R181, R200). -/
def State.swapTx (s : State) (n k : Nat) : State :=
  let l := s.link n
  let new := l.txSpare
  let old := s.txPhys n k
  let s := (s.setTxPhys n k new).count (Fd.PORT_LANE_CNT_SWAPS n) (Fd.PORT_LANE_CNT_SWAP_OVF n) 1
  let s := s.swEnds n (l.swReq == some k) 1
  (s.setLink n { l with
    txSpare := old
    txAnn := none
    farReq := none
    swReq := if l.swReq = some k then none else l.swReq }).raise (linkSrc n 0) 4 (laneAddr new k old 1 0)

/-- A swap of direction DIR is pending (R214). -/
def State.swapBusy (s : State) (n dir : Nat) : Bool :=
  let l := s.link n
  if dir = 0 then l.reqLane.isSome else l.txAnn.isSome || l.swReq.isSome

/-- A write of PORTn_LANE_SWAP with GO (R214). -/
def State.swapGo (s : State) (n k dir : Nat) : State :=
  if s.swapBusy n dir then s.wr (Fd.PORT_LANE_SWAP_RESULT n) 4
  else
    let s := (s.wr (Fd.PORT_LANE_SWAP_DIR n) dir).wr (Fd.PORT_LANE_SWAP_LANE n) k
    if lanesOf n ≤ k then s.wr (Fd.PORT_LANE_SWAP_RESULT n) 5
    else if dir = 0 then
      let x := s.reqSwap n k true
      x.1.wr (Fd.PORT_LANE_SWAP_RESULT n) (if x.2 then 2 else 3)
    else (s.setLink n { s.link n with swReq := some k }).wr (Fd.PORT_LANE_SWAP_RESULT n) 2

/-! ### Lock (R187–R189) -/

/-- A locked lane loses its lock and hunts again (R188): code groups held since its last good comma are dropped. A
logical lane counts, raises LOCK_LOST and asks for a swap; the spare stops being ready. -/
def State.loseLock (s : State) (n p : Nat) : State :=
  let s := s.setLocked n p false
  let s := s.setLaneRx n p { s.laneRx n p with seed := none, codes := [], stN := 0, miss := 0, errs := [] }
  match s.rxLogical n p with
  | some k =>
    let s := s.setLink n { s.link n with heldIn := [] }
    let s := s.count (Fd.PORT_LANE_CNT_LOSSES n) (Fd.PORT_LANE_CNT_LOSS_OVF n) 1
    let s := s.raise (linkSrc n 1) 5 (laneAddr p k 0 0 0)
    ((s.lanesDown n).reqSwap n k false).1
  | none => s.spareLost n

/-- A comma is missing on some lane that carries a logical lane (R188). -/
def State.commaMissing (s : State) (n : Nat) : Bool :=
  (List.range (lanesOf n)).any fun k => (s.laneRx n (s.rxPhys n k)).miss != 0

/-- Lock is judged on the lane: not while it runs a raw pattern in TEST (R205). -/
def State.judged (s : State) (n p : Nat) : Bool :=
  !(s.on (Fd.PORT_LANE_TEST_TEST n) && s.on (Fd.PORT_PRBS_CTL_RAW n p))

/-! ### Adaptation (R196, R197) -/

/-- Values of a lane's equaliser: a CTLE code of 0 to 31 and sixteen 8-bit taps. -/
def eqTaps (taps : List Int) : List Int := (List.range 16).map fun i => max (-128) (min 127 (nth 0 taps i))

def eqCtle (c : Int) : Nat := (max 0 (min 31 c)).toNat

/-- The first tap at its window edge: 0 CTLE, 1 to 16 h1 to h16. -/
def atEdge (win : Nat) (x : LaneRx) : Option Nat :=
  (List.range 17).find? fun t =>
    if t = 0 then ((x.ctle : Int) - x.ctleTrn).natAbs == win
    else (nth 0 x.taps (t - 1) - nth 0 x.tapsTrn (t - 1)).natAbs == win

/-- A value held within the window. -/
def inWindow (win : Nat) (trn v : Int) : Int := max (trn - win) (min (trn + win) v)

/-- A flagged lane (R197): FLAG, LANE_FLAG and the request for a swap, once until FLAG clears. -/
def State.flagLane (s : State) (n p k : Nat) : State :=
  if bit (s.rd (Fd.PORT_LANE_FLAG_FLAG n)) p then s
  else (((s.wrBit (Fd.PORT_LANE_FLAG_FLAG n) p true).raise (linkSrc n 0) 3 (laneAddr p k 0 0 0)).reqSwap n k false).1

/-- The lane's loops ask for new values (R193, R196, R197): a logical lane takes them within its window, the spare-role
lane as they are; in STANDBY the taps are frozen. -/
def State.adapt (s : State) (n p : Nat) (ctle : Int) (taps : List Int) : State :=
  if s.rd (Fd.PORT_LANE_STAT_STATE n) = 3 then s
  else
    let x := s.laneRx n p
    match s.rxLogical n p with
    | some k =>
      let win := s.rd (Fd.PORT_LANE_CFG_TAP_WIN n)
      let x := { x with
        ctle := eqCtle (inWindow win x.ctleTrn ctle)
        taps := eqTaps ((List.range 16).map fun i => inWindow win (nth 0 x.tapsTrn i) (nth 0 taps i)) }
      let x := { x with clamp := atEdge win x }
      let s := s.setLaneRx n p x
      if x.clamp.isSome then s.flagLane n p k else s
    | none => s.setLaneRx n p { x with ctle := eqCtle ctle, taps := eqTaps taps, clamp := none }

/-! ### Commands -/

/-- The lanes may transmit (R195). -/
def State.laneRuns (s : State) (n : Nat) : Bool :=
  s.on (Fd.PORT_LANE_CFG_EN n) && !s.pins.lanesIdle && !s.coreOff && !s.tripB && !s.clk.portClosed.contains n &&
    !s.on (Fd.PORT_LANE_TEST_TEST n)

/-- BRINGUP (R190). -/
def execBringup (port : Nat) (s : State) : Host.Outcome State Fault Refusal :=
  s.act (if port < 13 ∧ s.laneRuns port ∧ (s.lstate port = lOFF ∨ s.lstate port = lTEST) then s.bringup port else s)

/-- LANE_LOCK (R187, R189, R196): `got.len` bits of a hunting lane's signal, its comma's place in code groups after the
frame's earliest, and the values its loops have reached. A confirmed lane beyond the deskew range counts as not locked;
a logical lane's values become its trained ones. -/
def execLaneLock (port lane : Nat) (got : LaneHunt) (s : State) : Host.Outcome State Fault Refusal :=
  s.act (if port < 13 ∧ lane ∈ physOf port ∧ s.lstate port ≠ lOFF ∧ s.judged port lane ∧ !s.locked port lane ∧
      (hunt got.raw got.len).isSome ∧ got.skew ≤ 80 then
    let s := s.setLocked port lane true
    let x := { s.laneRx port lane with ctle := eqCtle got.ctle, taps := eqTaps got.taps, clamp := none, miss := 0 }
    let s := s.setLaneRx port lane
      (if (s.rxLogical port lane).isSome then { x with ctleTrn := x.ctle, tapsTrn := x.taps } else x)
    s.lanesUp port
  else s)

/-- LOCK_LOST (R188). -/
def execLockLost (port lane : Nat) (s : State) : Host.Outcome State Fault Refusal :=
  s.act (if port < 13 ∧ s.locked port lane ∧ s.judged port lane then s.loseLock port lane else s)

/-- LINK_FRAMES_START (R191): the port, and the number of its first link frame. -/
def execLinkFramesStart (start : Nat × Nat) (s : State) : Host.Outcome State Fault Refusal :=
  let (port, frame) := start
  s.act (if port < 13 ∧ s.on (Fd.PORT_LANE_STAT_UP port) ∧ s.rd (Fd.PORT_LANE_STAT_STATE port) = 1 then
    (s.toFrame port frame).wr (Fd.PORT_LANE_STAT_STATE port) 2 else s)

/-- BRINGUP_LATE (R192). -/
def execBringupLate (port : Nat) (s : State) : Host.Outcome State Fault Refusal :=
  s.act (if port < 13 ∧ !s.on (Fd.PORT_LANE_STAT_UP port) ∧ !s.on (Fd.PORT_LANE_STAT_LATE port) ∧
      s.lstate port = lTRAIN then
    (s.wr (Fd.PORT_LANE_STAT_LATE port) 1).raise (linkSrc port 0) 2 0 else s)

/-- The descrambler runs on over the frame that ends and follows the seeds: two consecutive ones that agree (R186). -/
def State.reseed (s : State) (n p seed : Nat) : State :=
  let x := s.laneRx n p
  let k := frameBits x.st (x.codes.headD 0)
  let run := scrAdvance k x.descr
  let agree : Bool := match x.seed with
    | some q => scrAdvance k q == seed
    | none => false
  let s := s.setLaneRx n p { x with seed := some seed, descr := if agree then seed else run }
  if agree ∧ seed ≠ run then s.count (Fd.PORT_LANE_CNT_RESEEDS n) (Fd.PORT_LANE_CNT_RESEED_OVF n) 1 else s

/-- The far end stands by, or returns, once every logical lane has shown the STATE in 2 consecutive frames (R194); the
pair port follows it. `v`: the STATE that lane p has now shown for the second time. -/
def State.standby (s : State) (n v : Nat) : State :=
  let every := (List.range (lanesOf n)).all fun k =>
    let x := s.laneRx n (s.rxPhys n k)
    s.locked n (s.rxPhys n k) && x.st == v && decide (2 ≤ x.stN)
  if every ∧ (v = 1 ∨ v = 2) then
    let s := s.setLink n { s.link n with farStand := v == 2 }
    if n = 12 ∧ s.mode ≠ mSTANDBY then s.portsFollow else s
  else s

/-- What LM0 tells of a locked lane: identity, STATE and SEED (R182, R186, R194, R201). -/
def State.lm0Fields (s : State) (n p body : Nat) : State :=
  let lane := bits body 63 60
  let st := bits body 59 58
  let s := s.reseed n p (bits body 57 0)
  let x := s.laneRx n p
  let two := x.codes == [lane]
  let k := if x.st = st then x.stN + 1 else 1
  let s := s.setLaneRx n p { x with codes := [lane], st := st, stN := k }
  let s := if two ∧ lane < lanesOf n ∧ s.sparePhys n = p ∧ (s.link n).farAnn.isNone then s.swapRx n lane 1 else s
  if k = 2 then s.standby n st else s

/-- Position 0 of a frame on a locked lane: the second comma missing in a row ends the lock; the idle time of STANDBY does
not count (R188, R193). -/
def State.commaAt (s : State) (n p : Nat) (comma : Group) : State :=
  let x := s.laneRx n p
  if isComma comma then s.setLaneRx n p { x with miss := 0 }
  else if s.rd (Fd.PORT_LANE_STAT_STATE n) = 3 ∨ !s.judged n p then s
  else if x.miss = 0 then s.setLaneRx n p { x with miss := 1 }
  else s.loseLock n p

/-- A frame of a locked lane reaches LM0: the code errors since the last one (R179), the comma, LM0 where its header is
10, and what the lane's loops ask for. -/
def State.lm0In (s : State) (n p : Nat) (payload : List Nat) (comma lm0 : Group) (loop : Option (Int × List Int)) :
    State :=
  let f := Fd.PORT_LANE_CNT_CODE_ERR n
  let s := s.wr f (min f.max (s.rd f + codeErrors payload comma lm0))
  let s := s.commaAt n p comma
  if !s.locked n p then s
  else
    let s := if lm0.1 = hControl then s.lm0Fields n p (lm0.2 % 2 ^ 64) else s
    match loop with
    | some (c, ts) => s.adapt n p c ts
    | none => s

/-- LM1 (R183, R185): the bodies of one frame as received, by physical lane. A REQ_LANE that names no logical lane asks
for nothing. -/
def execLm1 (port : Nat) (bodies : List (Nat × Nat)) (s : State) : Host.Outcome State Fault Refusal :=
  s.act (match s.lmPick port 0 bodies with
    | some b =>
      let l := s.link port
      s.setLink port { l with
        farFrame := bits b 11 0
        farReq := if bits b 31 28 < lanesOf port then some (bits b 31 28) else none
        farAnn := if bits b 15 12 = 15 then l.farAnn else some (bits b 15 12, bits b 27 16) }
    | none => s)

/-- LM2 (R184, R185, R213): the pair link has no lanes 4 to 7. -/
def execLm2 (port : Nat) (bodies : List (Nat × Nat)) (s : State) : Host.Outcome State Fault Refusal :=
  s.act (match s.lmPick port 64 bodies with
    | some b =>
      let own (v : Nat) : Nat := if port = 12 then v &&& 0x10F else v
      let s := s.setLink port { s.link port with farFlag := own (bits b 24 16) }
      ((s.wr (Fd.PORT_LANE_FLAG_FAR_UP port) (bits b 33 33)).wr
        (Fd.PORT_LANE_FLAG_FAR_SPARE_READY port) (bits b 32 32)).wr (Fd.PORT_LANE_FLAG_FAR_LOCK port) (own (bits b 8 0))
    | none => s)

/-- LANE_FLAG (R197): tap 0 is CTLE, 1 to 16 h1 to h16; `up`: the upper edge. -/
def execLaneFlag (port lane tap : Nat) (up : Bool) (s : State) : Host.Outcome State Fault Refusal :=
  s.act (let x := s.laneRx port lane
    let win := s.rd (Fd.PORT_LANE_CFG_TAP_WIN port)
    let edge (v : Int) : Int := if up then v + win else v - win
    if (s.rxLogical port lane).isSome then
      s.adapt port lane (if tap = 0 then edge x.ctleTrn else x.ctle)
        ((List.range 16).map fun i => if i + 1 = tap then edge (nth 0 x.tapsTrn i) else nth 0 x.taps i)
    else s)

/-- The pattern a lane's checker looks for (R204, R205): its RX_PAT in TEST, PRBS31 on the spare-role lane; 0 none. -/
def State.rxPattern (s : State) (n p : Nat) : Nat :=
  if s.on (Fd.PORT_LANE_TEST_TEST n) then s.rd (Fd.PORT_PRBS_CTL_RX_PAT n p) else if p = s.sparePhys n then 3 else 0

/-- Errors of a lane's checker over what it received; none: it is off or finds no place to synchronise. -/
def State.checked (s : State) (n p len rx : Nat) : Option Nat :=
  if s.rxPattern n p = 0 then none else prbsErrors (s.rxPattern n p) len rx

/-- A checker's errors are counted (R204, R219). -/
def State.countErrs (s : State) (n : Nat) (e : Nat × Nat × Nat) : State :=
  match s.checked n e.1 e.2.1 e.2.2 with
  | some k => s.count (Fd.PORT_PRBS_ERR_COUNT n e.1) (Fd.PORT_PRBS_ERR_OVF n e.1) k
  | none => s

/-- A logical lane that has not locked at bring-up while the spare has is to be swapped (R192). -/
def State.swapLate (s : State) (n : Nat) : State :=
  if s.lstate n = lTRAIN then
    (List.range (lanesOf n)).foldl (fun s k => if s.locked n (s.rxPhys n k) then s else (s.reqSwap n k false).1) s
  else s

/-- The spare-role lane's millisecond is judged (R198): `errs` its bit errors, none where the checker found no place to
synchronise. -/
def State.judgeSpare (s : State) (n : Nat) (errs : Option Nat) : State :=
  let p := s.sparePhys n
  let x := s.laneRx n p
  let es := match errs with
    | some e => (e :: x.errs).take 3
    | none => []
  let ok := es.length == 3 && (es.all fun e => decide (e ≤ s.rd (Fd.PORT_LANE_CFG_SPARE_ERR_LIM n))) && s.locked n p
  let was := s.on (Fd.PORT_LANE_STAT_SPARE_READY n)
  let s := s.setLaneRx n p { x with errs := es, spareMs := if ok then 0 else x.spareMs + 1 }
  if ok then
    let s := s.wr (Fd.PORT_LANE_STAT_SPARE_READY n) 1
    if was then s else s.swapLate n
  else s.spareLost n

/-- SPARE_READY (R198, R204): a millisecond ends; by physical lane, how many pattern bits its checker received and the
bits. -/
def execSpareReady (port : Nat) (rx : List (Nat × Nat × Nat)) (s : State) : Host.Outcome State Fault Refusal :=
  s.act (if port < 13 ∧ s.lstate port ≠ lOFF then
    let mine := (rx.find? fun (e : Nat × Nat × Nat) => e.1 == s.sparePhys port).bind fun e =>
      s.checked port e.1 e.2.1 e.2.2
    let s := (rx.filter fun (e : Nat × Nat × Nat) => decide (e.1 ∈ physOf port)).foldl (fun s e => s.countErrs port e) s
    if s.on (Fd.PORT_LANE_TEST_TEST port) then s else s.judgeSpare port mine
  else s)

/-- LANE_FAILED (R198): a second in spare role without becoming ready. -/
def execLaneFailed (port : Nat) (s : State) : Host.Outcome State Fault Refusal :=
  s.act (let p := s.sparePhys port
    if port < 13 ∧ 1000 ≤ (s.laneRx port p).spareMs ∧ !s.on (Fd.PORT_LANE_STAT_SPARE_READY port) ∧
        !bit (s.rd (Fd.PORT_LANE_STAT_FAILED port)) p then
      ((s.wrBit (Fd.PORT_LANE_STAT_FAILED port) p true).raise (linkSrc port 1) 7 (laneAddr p 15 0 0 0)).withdraw port
    else s)

/-- LANE_SWAP_RX (R199, R214). -/
def execLaneSwapRx (port lane : Nat) (s : State) : Host.Outcome State Fault Refusal :=
  s.act (if port < 13 then s.swapGo port (lane % 8) 0 else s)

/-- LANE_SWAP_TX (R200, R214). -/
def execLaneSwapTx (port lane : Nat) (s : State) : Host.Outcome State Fault Refusal :=
  s.act (if port < 13 then s.swapGo port (lane % 8) 1 else s)

/-- SWAP_ANNOUNCE (R200): in the frame numbered `frame`. -/
def execSwapAnnounce (port frame : Nat) (s : State) : Host.Outcome State Fault Refusal :=
  s.act (let l := s.link port
    if l.txAnn.isSome ∨ !s.on (Fd.PORT_LANE_FLAG_FAR_SPARE_READY port) ∨ s.rd (Fd.PORT_LANE_STAT_STATE port) = 0 then s
    else match (match l.farReq with
      | some k => some k
      | none => l.swReq) with
    | some k =>
      let s := s.toFrame port frame
      s.setLink port { s.link port with txAnn := some (k, (frame + 4) % 4096) }
    | none => s)

/-- LANE_SWAP (R200–R203): SWAP_FRAME starts, in the transmit or the receive direction. -/
def execLaneSwap (port : Nat) (transmit : Bool) (s : State) : Host.Outcome State Fault Refusal :=
  s.act (if transmit then
      match (s.link port).txAnn with
      | some (k, f) => (s.toFrame port f).swapTx port k
      | none => s
    else match (s.link port).farAnn with
      | some (k, _) => if k < lanesOf port then s.swapRx port k 0 else s
      | none => s)

/-- A write of PORTn_LANE_TEST (R205, R217). -/
def State.laneTest (s : State) (n : Nat) (on : Bool) : State :=
  let was := s.on (Fd.PORT_LANE_TEST_TEST n)
  let s := s.wr (Fd.PORT_LANE_TEST_TEST n) (b2n on)
  if on ∧ !was then
    ((s.wr (Fd.PORT_LANE_STAT_UP n) 0).enterRecover n 1 true).setLstate n lTEST
  else if !on ∧ was then (if s.laneRuns n then s.bringup n else s.portOff n)
  else s

/-- LANE_TEST (R205). -/
def execLaneTest (port : Nat) (on : Bool) (s : State) : Host.Outcome State Fault Refusal :=
  s.act (if port < 13 then s.laneTest port on else s)

/-- The pattern a lane's generator sends (R205): its TX_PAT in TEST, PRBS31 in training and in spare role; 0 none. -/
def State.txPattern (s : State) (n p : Nat) : Nat :=
  if s.on (Fd.PORT_LANE_TEST_TEST n) then s.rd (Fd.PORT_PRBS_CTL_TX_PAT n p)
  else if (s.link n).txSpare = p ∨ s.rd (Fd.PORT_LANE_STAT_STATE n) = 1 then 3 else 0

/-- The injection fields act on a lane (R205): in spare role, or with a pattern in TEST. -/
def State.injects (s : State) (n p : Nat) : Bool :=
  if s.on (Fd.PORT_LANE_TEST_TEST n) then s.rd (Fd.PORT_PRBS_CTL_TX_PAT n p) != 0 else (s.link n).txSpare == p

/-- Pattern bits still to be inverted on a lane. -/
def Link.toInvert (l : Link) (p : Nat) : Nat := Tab.get (fun _ => (0 : Nat)) l.inj p

/-- The next pattern bit is to be inverted (R206). -/
def State.injectBit (s : State) (n p : Nat) : State :=
  let l := s.link n
  s.setLink n { l with inj := Tab.put (fun _ => 0) l.inj p (l.toInvert p + 1) }

/-- The generator sends `k` pattern bits: the bits to be inverted have gone out (R204, R206). -/
def State.sendPattern (s : State) (n p k : Nat) : State :=
  let l := s.link n
  s.setLink n { l with
    gens := Tab.put (fun _ => 1) l.gens p (prbsAdvance (s.txPattern n p) k (l.genReg (s.txPattern n p) p))
    inj := Tab.put (fun _ => 0) l.inj p (l.toInvert p - k) }

/-- PRBS_INJ (R206). -/
def execPrbsInj (port lane : Nat) (s : State) : Host.Outcome State Fault Refusal :=
  s.act (if s.injects port lane then s.injectBit port lane else s)

/-- PERIODIC_INJECTION (R206, R218): 2^(r + 9) pattern bits have gone since the last one, and the next is inverted. -/
def execPeriodicInjection (port lane : Nat) (s : State) : Host.Outcome State Fault Refusal :=
  s.act (let r := s.rd (Fd.PORT_PRBS_CTL_INJ_RATE port lane)
    if s.injects port lane ∧ r ≠ 0 then (s.sendPattern port lane (2 ^ (r + 9) - 1)).injectBit port lane else s)

end Sys2Proof.Machine
end

