-- ==== Sys2Proof/Machine/RepairMap.lean ====
section
/-! DEFINITION. Repair entries (R377), the repair map in force (R376, R378), the soft-repair list
(R379, R383) and spare rows. -/

namespace Sys2Proof.Machine

/-- RETIRE of a 64-bit repair entry (R377). -/
def entryRetires (e : Nat) : Bool := bit e 61

/-- The repair a 64-bit entry names (R377). `target` is the row; the column and DQ (64 * COL + DQ);
or the lane. `bank` is the group of a TSV entry. -/
def entryRepair (e : Nat) : Repair :=
  let kind := bits e 63 62
  { kind
    pc := bits e 60 54
    bank := if kind = 3 then bits e 53 52 else bits e 53 48
    target := if kind = 1 then bits e 47 35 else if kind = 2 then bits e 47 38 else bits e 47 43
    spare := if kind = 1 then bits e 34 31 else if kind = 2 then bits e 34 33 else bits e 42 42 }

/-- The 64-bit entry of a repair (R377). -/
def Repair.entry (r : Repair) (retire : Bool) : Nat :=
  r.kind * 2 ^ 62 + b2n retire * 2 ^ 61 + r.pc * 2 ^ 54 +
    (if r.kind = 3 then r.bank * 2 ^ 52 else r.bank * 2 ^ 48) +
    (if r.kind = 1 then r.target * 2 ^ 35 + r.spare * 2 ^ 31
     else if r.kind = 2 then r.target * 2 ^ 38 + r.spare * 2 ^ 33
     else r.target * 2 ^ 43 + r.spare * 2 ^ 42)

/-- The lanes and spares of a TSV group (R376). -/
def tsvLanes (group : Nat) : Nat := if group < 2 then 18 else 12

def tsvSpares (group : Nat) : Nat := if group < 2 then 2 else 1

/-- Every field of an entry is in range and its reserved bits are zero (R377). -/
def entryFormat (lgrp e : Nat) : Bool :=
  let r := entryRepair e
  let ret := entryRetires e
  decide (e < 2 ^ 64) && (r.entry ret == e) && (!ret || r.target == 0) &&
  (match r.kind with
   | 1 => decide (r.bank < 16 * lgrp) && decide (r.target < 8192)
   | 2 => decide (r.bank < 16 * lgrp) && decide (r.target % 64 < 36) && decide (r.target / 64 < 16)
   | 3 => decide (r.target < tsvLanes r.bank) && decide (r.spare < tsvSpares r.bank)
   | _ => false)

/-- The two entries name one spare. -/
def sameSpare (a b : Repair) : Bool :=
  a.kind == b.kind && a.pc == b.pc && a.bank == b.bank && a.spare == b.spare

/-- The two entries name one target. A column's spare serves one bank and a lane's one group. -/
def sameTarget (a b : Repair) : Bool :=
  a.kind == b.kind && a.pc == b.pc && a.bank == b.bank && a.target == b.target

/-- A spare is retired (R377, R378). -/
def State.spareRetired (s : State) (r : Repair) : Bool := s.ecc.retired.any (sameSpare r)

/-- The entry in force that holds a spare. -/
def State.spareUser (s : State) (r : Repair) : Option Repair := s.ecc.repairs.find? (sameSpare r)

/-- Spare row `i` of a bank is free and not retired (R380). -/
def State.spareFree (s : State) (pc bank i : Nat) : Bool :=
  let r : Repair := { kind := 1, pc, bank, target := 0, spare := i }
  !s.spareRetired r && (s.spareUser r).isNone

/-- REPAIR_MAP (R385): the index, the soft-list mark and the reason. -/
def State.repairMap (s : State) (index : Nat) (soft : Bool) (reason : Nat) : State :=
  s.raise 141 1 (index % 65536 + b2n soft * 65536 + reason * 2 ^ 17)

/-- A repair replaces the earlier one of its target (R378, R382); the spare that target leaves is
free again, or retired. -/
def State.putRepair (s : State) (r : Repair) (retire : Bool) : State :=
  let kept := s.ecc.repairs.filter fun (e : Repair) => !sameTarget r e
  let left := (s.ecc.repairs.filter fun (e : Repair) => sameTarget r e && e.spare != r.spare).map
    fun (e : Repair) => { e with target := 0 }
  { s with ecc := { s.ecc with
    repairs := kept ++ [r]
    retired := if retire then s.ecc.retired ++ left else s.ecc.retired } }

/-- An entry joins the soft-repair list, or is kept in RAM when the list is full or its slot pair has
stopped (R383). -/
def State.softAppend (s : State) (e : Nat) : State :=
  if 8192 ≤ s.ecc.soft.length ∨ bit (s.rd Fd.NVM_WEAR_STOP) 3 then
    { s with ecc := { s.ecc with ramKept := s.ecc.ramKept ++ [e] } }.repairMap s.ecc.soft.length true 4
  else { s with ecc := { s.ecc with soft := s.ecc.soft ++ [e] } }.owe 3

end Sys2Proof.Machine
end

