-- ==== Sys2Proof/Machine/Sense.lean ====
section
/-! DEFINITION. Kettle's sensors as every block reads them (R603, R607, R608, R618, R621): neighbours,
substitutes, effective readings and region temperatures, in units of 0.125 °C. -/

namespace Sys2Proof.Machine

/-! ### Sensors -/

def State.sns (s : State) (i : Nat) : Sns := Tab.get (fun _ => {}) s.thm.sns i

def State.setSns (s : State) (i : Nat) (x : Sns) : State :=
  { s with thm := { s.thm with sns := Tab.put (fun _ => {}) s.thm.sns i x } }

/-- Core die and quadrant of a core-die sensor (R603). -/
def dieOf (i : Nat) : Nat := (i - 64) / 4

/-- The sensor exists (R603). -/
def State.snsPresent (s : State) (i : Nat) : Bool := decide (i < 64) || (decide (i < 128) && decide (dieOf i < 4 * s.part.lgrp))

/-- The base-die sensor at a grid place (R603). -/
def grid (row col : Nat) : Nat := 8 * row + col

/-- The neighbours of a sensor (R607). -/
def State.neighbours (s : State) (i : Nat) : List Nat :=
  if i < 64 then
    let r := i / 8
    let c := i % 8
    (if 0 < r then [grid (r - 1) c] else []) ++ (if r < 7 then [grid (r + 1) c] else []) ++
      (if 0 < c then [grid r (c - 1)] else []) ++ (if c < 7 then [grid r (c + 1)] else [])
  else
    let d := dieOf i
    let k := i % 4
    ((if 0 < d then [i - 4] else []) ++ [i + 4, 64 + 4 * d + Nat.xor k 1, 64 + 4 * d + Nat.xor k 2]).filter s.snsPresent

/-- The latest sample passed and the sensor is not FAILED: it may serve a substitute (R608). -/
def Sns.passing (x : Sns) : Bool := x.sampled && x.ok && !x.failed

/-- The largest last passing reading of the sensors that may serve, if any. -/
def State.hottest (s : State) (l : List Nat) : Option Int :=
  l.foldl (fun m i =>
    let x := s.sns i
    if x.passing then
      (match m, x.pass with
       | some a, some b => some (max a b)
       | none, b => b
       | a, none => a)
    else m) none

/-- Trip A and Trip B in force. -/
def State.tripAt (s : State) (core : Bool) : Int :=
  8 * ((if core then s.rd Fd.OTP_TRIPS_TRIPA else s.rd Fd.OTP_TRIPS_TRIPB : Nat) : Int)

/-- The sensors of the class of `i` (R608). -/
def State.snsClass (s : State) (i : Nat) : List Nat :=
  if i < 64 then List.range 64 else ((List.range 64).map (64 + ·)).filter s.snsPresent

/-- The substitute of a sensor (R608). -/
def State.substitute (s : State) (i : Nat) : Int :=
  match s.hottest (s.neighbours i) with
  | some m => m + 48
  | none => match s.hottest (s.snsClass i) with
    | some m => m + 48
    | none => s.tripAt (decide (64 ≤ i))

/-- A substitute is in effect: the latest sample failed, the sensor is FAILED, or a rearm is not yet
confirmed (R608, R609). -/
def Sns.hasSub (x : Sns) : Bool := x.sub || x.failed

/-- The effective reading (R608); 0 before the first sample (R629). -/
def State.eff (s : State) (i : Nat) : Int :=
  let x := s.sns i
  if x.hasSub then s.substitute i else x.pass.getD 0

/-- The sensor with the largest effective reading among those sampled, lowest index first. -/
def State.maxEff (s : State) (l : List Nat) : Option (Nat × Int) :=
  l.foldl (fun m i =>
    if (s.sns i).sampled then
      (match m with
       | some (j, e) => if e < s.eff i then some (i, s.eff i) else some (j, e)
       | none => some (i, s.eff i))
    else m) none

/-- Added to core-die thresholds in X grade (R611, R614). -/
def State.gradeC (s : State) : Int := if s.part.grade = 1 then 80 else 0

/-- The core-die sensors of zone q (R611). -/
def State.zoneSns (s : State) (q : Nat) : List Nat :=
  ((List.range 16).map fun d => 64 + 4 * d + q).filter s.snsPresent

/-- The base-die sensors of region r (R618). -/
def rgnSns (r : Nat) : List Nat :=
  let a := 2 * (r / 4)
  let b := 2 * (r % 4)
  [grid a b, grid a (b + 1), grid (a + 1) b, grid (a + 1) (b + 1)]

/-- The region of a base-die sensor. -/
def snsRgn (i : Nat) : Nat := 4 * (i / 16) + i % 8 / 2

/-- The temperature of region r (R618). -/
def State.rgnTemp (s : State) (r : Nat) : Int :=
  match s.maxEff (rgnSns r) with
  | some (_, e) => e
  | none => 0

/-- A Steep correction of a group: its region's temperature is recorded (R621). -/
def State.calCorrected (s : State) (g : Nat) : State :=
  { s with thm := { s.thm with
    calRec := Tab.put (fun _ => none) s.thm.calRec g (some (s.rgnTemp (g / 2)))
    calRaised := s.thm.calRaised.filter (· != g) } }

/-! ### Levels of the groups (R611, R619, R620) -/

/-- The region is dropped (R619). -/
def State.dropped (s : State) (r : Nat) : Bool := bit (s.rd Fd.THM_DROP_DROP) r

/-- The level a group stands at before a spread drop: a level change has switched the groups below its
next one. -/
def State.baseLevel (s : State) (g : Nat) : Nat :=
  match s.seq.lvl with
  | some l => if g < l.nextCg then l.target else s.level
  | none => s.level

/-- The level a group runs at, its region's drop included (R619, R620). -/
def State.effLevel (s : State) (g : Nat) (lvl : Nat) : Nat :=
  if s.dropped (g / 2) then min 3 (lvl + 1) else lvl

/-- A group's level and throttle follow its zone and its region (R611, R619). -/
def State.groupFollow (s : State) (g : Nat) : State :=
  let b := s.baseLevel g
  let floor := if s.dropped (g / 2) ∧ b = 3 then 4 else 0
  (s.wr (Fd.CG_STAT_EFF_LEVEL g) (s.effLevel g b)).wr (Fd.CG_STAT_THR_LVL g)
    (max (s.rd (Fd.THM_ZONE_LEVEL (g / 8))) floor)

end Sys2Proof.Machine
end

