-- ==== Sys2Proof/Machine/Steep.lean ====
section
/-! DEFINITION. Calibration settings and corrections (R659–R666): settings per lane and level, spare
TSVs, the drift monitors, and a correction taking effect. -/

namespace Sys2Proof.Machine

/-- The default setting: VREF 40 on ladder A, both taps 64 (R668, R675). -/
def dlyDefault : Nat → Nat := fun _ => 0x28 * 2 ^ 14 + 0x40 * 2 ^ 7 + 0x40

def calKey (pc level lane : Nat) : Nat := 264 * pc + 66 * level + lane

/-- A lane's setting for a level (R660). -/
def State.dly (s : State) (pc level lane : Nat) : Nat := Tab.get dlyDefault s.cal.set (calKey pc level lane)

def State.setDly (s : State) (pc level lane v : Nat) : State :=
  { s with cal := { s.cal with set := Tab.put dlyDefault s.cal.set (calKey pc level lane) (v % 2 ^ 21) } }

/-! ### TSV lanes (R660, R665) -/

/-- The lane is a spare (R660). -/
def spareLane (k : Nat) : Bool := (36 ≤ k && k < 40) || (64 ≤ k && k < 66)

/-- The TSV group of a lane and its place in it (R376, R660). -/
def tsvPlace (k : Nat) : Nat × Nat :=
  if k < 36 then (k / 18, k % 18) else (2 + (k - 40) / 12, (k - 40) % 12)

/-- The lane that is spare `i` of a group (R660). -/
def tsvSpare (group i : Nat) : Nat := if group < 2 then 36 + 2 * group + i else 62 + group

/-- The PCn_TSV_MAP field of a group's spare (R676). -/
def tsvFld (pc group i : Nat) : Fld :=
  match group, i with
  | 0, 0 => Fd.PC_TSV_MAP_G0S0 pc
  | 0, _ => Fd.PC_TSV_MAP_G0S1 pc
  | 1, 0 => Fd.PC_TSV_MAP_G1S0 pc
  | 1, _ => Fd.PC_TSV_MAP_G1S1 pc
  | 2, _ => Fd.PC_TSV_MAP_G2S0 pc
  | _, _ => Fd.PC_TSV_MAP_G3S0 pc

/-- A spare TSV is free: not held for a lane, and not retired (R665). -/
def State.tsvFree (s : State) (pc group i : Nat) : Bool :=
  let r : Repair := { kind := 3, pc, bank := group, target := 0, spare := i }
  s.rd (tsvFld pc group i) == 0x1F && !s.spareRetired r && (s.spareUser r).isNone

/-! ### Drift (R663, R671) -/

/-- Disagreements of a lane's monitors: past DRIFT_TH in the window the lane is flagged and LANE_DRIFT
raised, once until the flag is cleared (R663). `dir` 0 read, 1 write; `side` 0 early, 1 late. -/
def State.driftNote (s : State) (pc lane dir side n : Nat) : State :=
  let dir := if 40 ≤ lane then 1 else dir
  let k := 4 * (66 * pc + lane) + 2 * dir + side
  let c := Tab.get (fun _ => 0) s.cal.mon k + n
  let s := { s with cal := { s.cal with mon := Tab.put (fun _ => 0) s.cal.mon k c } }
  let th := s.rd (Fd.CG_CAL_CFG_DRIFT_TH (pc / 4))
  let f := Fd.PC_DRIFT_FLAG pc (lane / 32)
  if lane < 66 ∧ th ≠ 0 ∧ th < c ∧ !bit (s.rd f) (lane % 32) then
    let s := s.wrBit f (lane % 32) true
    let s := ((s.wr (Fd.PC_DRIFT_LAST_LANE pc) lane).wr (Fd.PC_DRIFT_LAST_DIR pc) dir).wr
      (Fd.PC_DRIFT_LAST_SIDE pc) side
    s.raise (104 + pc / 4) 7 (pc + lane * 128 + dir * 2 ^ 14 + side * 2 ^ 15)
  else s

/-! ### Corrections -/

def State.calCmd (s : State) (g : Nat) : Option CalCmd := Tab.get (fun _ => none) s.cal.cmd g

/-- A group's command ends or begins to wait (R664, R674). -/
def State.setCal (s : State) (g : Nat) (c : Option CalCmd) (result : Nat) : State :=
  ({ s with cal := { s.cal with cmd := Tab.put (fun _ => none) s.cal.cmd g c } }.wr (Fd.CG_CAL_CMD_RESULT g) result).wr
    (Fd.CG_CAL_STAT_PENDING g) (b2n c.isSome)

/-- A level change is under way in a group: it stops commands from the change's start to its switch
(R338, R662). -/
def State.lvlChanging (s : State) (g : Nat) : Bool :=
  match s.seq.lvl with
  | some l => decide (l.nextCg ≤ g)
  | none => false

/-- House firmware has acted on a lane that PIN_SUSPECT named (R692). -/
def State.laneAck (s : State) (pc lane : Nat) : State :=
  s.fwAck fun (m : Msg) => m.source == 138 && m.addr == pc + lane * 2 ^ 26

/-- A TSV swap takes effect (R665), or finds its spare gone; house firmware acknowledges the lane's PIN_SUSPECT (R692). -/
def State.tsvSwap (s : State) (g : Nat) (c : CalCmd) : State :=
  let (group, k) := tsvPlace c.lane
  let i := c.value % 2
  let addr := c.pc + c.lane * 128
  let s := if s.tsvFree c.pc group i then
      let s := s.wr (tsvFld c.pc group i) k
      let s := if 40 ≤ c.lane then s.setCg g { s.cg g with caFail := false } else s
      ((s.setCal g none 1).calCorrected g).raise (104 + g) 8 (addr + group * 2 ^ 14 + i * 2 ^ 16)
    else (s.setCal g none 4).raise (104 + g) 9 (addr + group * 2 ^ 14 + i * 2 ^ 16)
  s.laneAck c.pc c.lane

/-- The pending correction of a group takes effect (R661, R664). -/
def State.calApply (s : State) (g : Nat) : State :=
  match s.calCmd g with
  | none => s
  | some c =>
    let s := { s with cal := { s.cal with dirty := true } }
    if c.op = 3 then s.tsvSwap g c
    else ((s.setDly c.pc c.level c.lane c.value).setCal g none 1).calCorrected g

/-- A pending correction that needs no window takes effect (R662): the group is fenced and drained, or
the level is not in force and does not change. -/
def State.calSettle (s : State) (g : Nat) : State :=
  match s.calCmd g with
  | none => s
  | some c =>
    if s.cgFenced g then (if (s.cg g).draining then s else s.calApply g)
    else if s.lvlChanging g ∨ c.op = 3 ∨ c.level = s.rd (Fd.CG_STAT_EFF_LEVEL g) then s
    else s.calApply g

/-- The pending command waits under R662 (R674). -/
def State.calWaits (s : State) (g : Nat) : Bool :=
  match s.calCmd g with
  | none => false
  | some c => s.lvlChanging g || s.cgFenced g || (s.pc c.pc).selfRef

end Sys2Proof.Machine
end

