-- ==== Sys2Proof/Machine/BistBase.lean ====
section
/-! DEFINITION. Self-tests in progress (R710–R714): how one ends, what a ROW_TEST's moves of data do to
the repair map, and what ends a test ABORTED. -/

namespace Sys2Proof.Machine

/-- The channel group of a DRAM test. -/
def Test.cg (t : Test) : Option Nat := if t.op = 3 ∨ t.op = 5 then none else some (t.pc / 4)

/-- The test is of this group or, for a Crema test, of this bank. -/
def Test.same (t u : Test) : Bool := t.cg == u.cg && (t.cg.isSome || t.bank == u.bank)

/-- The repair that a ROW_TEST's move stands for (R711). -/
def Test.repair (t : Test) : Repair := { kind := 1, pc := t.pc, bank := t.bank, target := t.row, spare := t.spare }

def State.dropTest (s : State) (t : Test) : State :=
  { s with bst := { s.bst with tests := s.bst.tests.filter fun (u : Test) => !u.same t } }

def State.setTest (s : State) (t : Test) : State :=
  { s with bst := { s.bst with tests := s.bst.tests.map fun (u : Test) => if u.same t then t else u } }

/-- Every line of a channel group holds zeros with valid check bits (R713). -/
def State.clearCg (s : State) (g : Nat) : State :=
  let addr (k : Nat) : Nat := if k < 2 ^ 40 then k else (k - 2 ^ 40) / 8 * 64
  { s with dram := s.dram.filter fun (c : Host.Cell) => pcOf (addr c.1) / 4 != g }

/-- Every byte of a Crema bank holds 0x00 with its check bits (R713). -/
def State.clearCbank (s : State) (b : Nat) : State :=
  { s with crm := { s.crm with store := s.crm.store.filter fun (e : Nat × BitVec 13) => cBank e.1 != b } }

/-- The lines below `n` of a Crema bank whose test keeps contents (R713): corrected bytes are written back corrected,
poisoned ones as stored poison. -/
def State.normCbank (s : State) (b n : Nat) : State :=
  (s.crm.store.filter fun (e : Nat × BitVec 13) => cBank e.1 == b && decide (cBline e.1 < n)).foldl (fun s e =>
    match cDecode e.2 with
    | .corrected d => s.setCWord e.1 (cEncode d)
    | .uncorrectable => s.setCWord e.1 cPoison
    | _ => s) s

/-- Lines of a Crema bank (R393). -/
def bankLines : Nat := 3072

/-- A destructive test leaves its target re-initialised (R713, R714); OP 3 its contents, of the lines it has come to:
how many those are at an abort is a free value. -/
def State.testLeaves (s : State) (t : Test) (result : Nat) : State :=
  match t.op with
  | 3 => if result = 8 then s.drawn.normCbank t.bank (s.free % bankLines) else s.normCbank t.bank bankLines
  | 4 => s.clearCg (t.pc / 4)
  | 5 => s.clearCbank t.bank
  | _ => s

/-! ### Where a test may run (R710) -/

def State.lifecycle (s : State) : Nat := s.rd Fd.OTP_LC_STATE

/-- The lifecycle states of runtime tests, and of destructive ones (R155). -/
def State.lcRuntime (s : State) : Bool := decide (1 ≤ s.lifecycle) && decide (s.lifecycle ≤ 4)

def State.lcFull (s : State) : Bool := s.lifecycle == 1 || s.lifecycle == 4

/-- A test runs in the group. -/
def State.cgTested (s : State) (g : Nat) : Bool := s.bst.tests.any fun (t : Test) => t.cg == some g

/-- The periodic tests of a group go on with the next free spare row (R715), looking at `n` places. -/
def State.houseNext (s : State) (g : Nat) : Nat → State
  | 0 => s
  | n + 1 =>
    match Tab.get (fun _ => (none : Option Nat)) s.bst.house g with
    | none => s
    | some k =>
      let banks := 16 * s.part.lgrp
      let pc := 4 * g + k / (16 * banks)
      if s.cgFenced g ∨ s.cgTested g ∨ (s.cg g).remap.isSome ∨ !(s.mode == mSERVICE || s.mode == mDEGRADED) ∨
          !s.lcRuntime then s
      else if 64 * banks ≤ k then
        { s with bst := { s.bst with house := Tab.put (fun _ => none) s.bst.house g none } }
      else
        let s := { s with bst := { s.bst with house := Tab.put (fun _ => none) s.bst.house g (some (k + 1)) } }
        if s.spareFree pc (k / 16 % banks) (k % 16) then
          let t : Test := { op := 2, pc, bank := k / 16 % banks, spare := k % 16, alg := 5, house := true }
          { s with bst := { s.bst with tests := s.bst.tests ++ [t] } }
        else s.houseNext g n

/-- The number of spare places of a group, and one more. -/
def State.housePlaces (s : State) : Nat := 64 * (16 * s.part.lgrp) + 1

/-- The periodic tests that a mode, a fence or a remap has held up go on (R715). -/
def State.houseAll (s : State) : State := s.bst.house.foldl (fun s e => s.houseNext e.1 s.housePlaces) s

/-- A test ends (R710, R714, R716): house firmware's own is reported only when it fails (R715). -/
def State.endTest (s : State) (t : Test) (result : Nat) : State :=
  let s := (s.dropTest t).testLeaves t result
  let place := if t.op = 3 ∨ t.op = 5 then t.bank else t.pc
  let s := if t.recs = 0 then s else s.raise 241 1 (place + min t.recs 0xFFF * 256)
  let s := if t.lost = 0 then s else s.raise 244 1 (s.rd Fd.BST_STAT_REC_LOST)
  let s := if t.house then s else s.wr Fd.BST_CTL_RESULT result
  let s := if t.house ∧ result ≠ 3 then s else s.raise 240 1 (t.op + result * 16 + min t.recs 0xFFF * 256)
  match t.cg with
  | some g => if result = 8 then s else s.houseNext g s.housePlaces
  | none => s

/-- A test ends ABORTED (R714). Where no data has moved its move is dropped; data in the spare stays
there, and a row in transit completes its move (R382). -/
def State.abortTest (s : State) (t : Test) : State :=
  let s := match t.cg with
    | some g => (match (s.cg g).remap with
      | some r => if r.bist ≠ 0 ∧ r.lines.isNone then s.setCg g { s.cg g with remap := none } else s
      | none => s)
    | none => s
  s.endTest t 8

/-- Entry to DRAIN ends every test (R714). -/
def State.abortTests (s : State) : State := s.bst.tests.foldl (fun s t => s.abortTest t) s

/-- The fence of a channel group ends its test (R714). -/
def State.abortCgTest (s : State) (g : Nat) : State :=
  match s.bst.tests.find? fun (t : Test) => t.cg == some g with
  | some t => s.abortTest t
  | none => s

/-- A ROW_TEST's move has ended (R711): the map switches to the spare, or back to the row. -/
def State.bistMoved (s : State) (r : Remap) : State :=
  let new : Repair := { kind := 1, pc := r.pc, bank := r.bank, target := r.row, spare := r.spare }
  let mine (t : Test) : Bool := t.op == 1 && t.pc == r.pc && t.bank == r.bank && t.row == r.row
  if r.bist = 1 then
    let s := s.putRepair new false
    (match s.bst.tests.find? mine with
     | some t => s.setTest { t with phase := 1 }
     | none => s)
  else
    let s := { s with ecc := { s.ecc with repairs := s.ecc.repairs.filter fun (e : Repair) => !sameTarget new e } }
    (match s.bst.tests.find? mine with
     | some t => s.endTest t 1
     | none => s)

end Sys2Proof.Machine
end

