-- ==== Sys2Proof/Machine/Sec.lean ====
section
/-! DEFINITION. The crypto unit's keys and reports: identity (R542), key loads (R544–R547), the
management key (R559), attestation (R565), the tag cache's evictions (R551), and the flash slots a
report names (R122, R123). -/

namespace Sys2Proof.Machine

/-! ### Flash slots (R122, R123) -/

def flashByte : Nat → Byte := fun _ => 0xFF

def State.flash (s : State) (a : Nat) : Byte := Tab.get flashByte s.nvm.flash a

def State.flashBytes (s : State) (a n : Nat) : List Byte := (List.range n).map fun i => s.flash (a + i)

/-- Offset and size of slot k of R122: 0, 1 firmware; 2, 3 image; 4, 5 calibration; 6, 7 soft-repair;
8, 9 persist; 10 certificate; 11, 12 journal halves. -/
def slotBase (k : Nat) : Nat :=
  nth 0 [0x0, 0x200000, 0x400000, 0x800000, 0xC00000, 0xD00000, 0xE00000, 0xE40000, 0xE80000, 0xE90000,
    0xEA0000, 0xEB0000, 0xEC0000] k

def slotSize (k : Nat) : Nat :=
  nth 0 [0x200000, 0x200000, 0x400000, 0x400000, 0x100000, 0x100000, 0x40000, 0x40000, 0x10000, 0x10000,
    0x10000, 0x10000, 0x10000] k

/-- The 4 bytes at an offset of a slot. -/
def State.slotWord (s : State) (k off : Nat) : Nat := leNat (s.flashBytes (slotBase k + off) 4)

/-- LEN of a slot's header, cut to what the slot can hold. -/
def State.slotLen (s : State) (k : Nat) : Nat := min (s.slotWord k 0x10) (slotSize k - 64)

/-- A slot's payload. -/
def State.slotPayload (s : State) (k : Nat) : List Byte := s.flashBytes (slotBase k + 64) (s.slotLen k)

/-! ### Identity (R542) -/

/-- The order n of the SM2 curve (GB/T 32918.5, which the spec cites; PRESUMED, assumption 4). -/
def sm2Order : Nat := 0xFFFFFFFEFFFFFFFFFFFFFFFFFFFFFFFF7203DF6B21C6052B53BBF40939D54123

def State.otpWord (s : State) (w : Nat) : Nat := Tab.get (fun _ => 0) s.otp.latch w

/-- The device root while the identity exists (R542). -/
def State.root (s : State) : Option Nat :=
  if s.on Fd.SEC_STAT_IDENT then
    some ((List.range 4).foldl (fun n i => n + s.otpWord (16 + i) * 2 ^ (64 * i)) 0)
  else none

/-- The identity private key d of a root (R542): label "AMYID". -/
def identity (root : Nat) : Nat :=
  Config.sm3 ([0x41, 0x4D, 0x59, 0x49, 0x44].map (BitVec.ofNat 8) ++ leBytes 32 root) % (sm2Order - 1) + 1

/-- The sealing keys SK_E and SK_M (R542): labels "AMYSE", "AMYSM". -/
def sealE (root : Nat) : Nat := kdf 32 root [0x41, 0x4D, 0x59, 0x53, 0x45] []

def sealM (root : Nat) : Nat := kdf 32 root [0x41, 0x4D, 0x59, 0x53, 0x4D] []

/-! ### Key loads (R544) -/

/-- KEY_LOAD and RESULT of a key load (R546, R568, R740). -/
def State.kldDone (s : State) (slot result : Nat) : State :=
  (s.wr Fd.SEC_KLD_CTL_RESULT result).raise 232 1 (slot + result * 256)

/-- A GO of SEC_KLD_CTL (R544, R546): `op` 1 LOAD, 2 CLEAR. -/
def State.kldGo (s : State) (op slot : Nat) : State :=
  let busy := s.sec.load.isSome
  let s := if busy then s else (s.wr Fd.SEC_KLD_CTL_OP op).wr Fd.SEC_KLD_CTL_SLOT slot
  if busy then s.kldDone slot 3
  else if !(s.mode = mBOOT ∨ s.mode = mSERVICE ∨ s.mode = mDEGRADED) then s.kldDone slot 6
  else if op = 1 ∧ s.sec.mkey.isNone then s.kldDone slot 4
  else ({ s with sec := { s.sec with load := some (slot, op) } }.wr Fd.SEC_KLD_CTL_RESULT 2).wr
    Fd.SEC_STAT_KLD_BUSY 1

/-- A request to a region of the slot passed step 6 before the hold and is not complete (R544 step 2). -/
def State.kldBusy (s : State) (slot : Nat) : Bool :=
  s.req.txns.any fun (t : Txn) =>
    !(t.stage == .heldKey || t.stage == .heldFence || t.stage == .heldOrdered || t.stage == .heldRegion ||
      t.stage == .heldRole) &&
    (match s.rgnNamed t with
     | some n => (s.rgn n).valid && (s.rgn n).key == slot + 1
     | none => false)

/-- SEC_SLOT_LO/HI and SLOTS_N show the loaded slots. -/
def State.showSlots (s : State) : State :=
  let on (i : Nat) : Bool := (s.slotKey i).isSome
  let m (b : Nat) : Nat := (List.range 32).foldl (fun m i => m + b2n (on (b + i)) * 2 ^ i) 0
  ((s.wr Fd.SEC_SLOT_LO_LOADED (m 0)).wr Fd.SEC_SLOT_HI_LOADED (m 32)).wr Fd.SEC_STAT_SLOTS_N
    ((List.range 64).filter on).length

/-- A slot takes a key or becomes EMPTY; the ports it serves follow (R544 step 3, R556, R557). -/
def State.setSlot (s : State) (slot : Nat) (k : Option Nat) : State :=
  let s := { s with sec := { s.sec with slots := Tab.put (fun _ => none) s.sec.slots slot k } }.showSlots
  (List.range 13).foldl (fun s n => if s.rd (Fd.SEC_LINK_SLOT n) = slot then s.linkKeyed n else s) s

/-- The wrapped key in SEC_KLD_K0 to K3 (R544). -/
def State.wrappedKey (s : State) : Nat :=
  (List.range 4).foldl (fun n i => n + (Tab.get (fun _ => (0 : Word)) s.sec.kldWords i).toNat * 2 ^ (32 * i)) 0

/-- The key-wrap key of a slot (R544): label "AMYKW". -/
def kwk (mk slot : Nat) : Nat := kdf 32 mk [0x41, 0x4D, 0x59, 0x4B, 0x57] [BitVec.ofNat 8 slot]

/-- A load ends: the hold is released (R544 step 4). -/
def State.kldEnd (s : State) (slot result : Nat) : State :=
  (({ s with sec := { s.sec with load := none } }.wr Fd.SEC_STAT_KLD_BUSY 0).kldDone slot result).releaseStage
    .heldKey

/-- LOAD (R544). -/
def execKldLoad (slot : Nat) (s : State) : Host.Outcome State Fault Refusal := s.act (s.kldGo 1 (slot % 64))

/-- CLEAR (R544). -/
def execKldClear (slot : Nat) (s : State) : Host.Outcome State Fault Refusal := s.act (s.kldGo 2 (slot % 64))

/-- KEY_LOAD_DRAIN_END (R544 steps 3 and 4). -/
def execKeyLoadDrainEnd (s : State) : Host.Outcome State Fault Refusal :=
  s.act (match s.sec.load with
    | some (slot, op) =>
      if s.kldBusy slot then s
      else
        let k := if op = 1 then some (Config.sm4Dec (kwk (s.sec.mkey.getD 0) slot) s.wrappedKey % 2 ^ 128) else none
        (s.setSlot slot k).kldEnd slot 1
    | none => s)

/-- KEY_LOAD_TIMEOUT (R544). -/
def execKeyLoadTimeout (s : State) : Host.Outcome State Fault Refusal :=
  s.act (match s.sec.load with
    | some (slot, _) => s.kldEnd slot 5
    | none => s)

/-! ### The management key (R559) -/

/-- MK comes into force. -/
def State.setMk (s : State) (mk : Nat) : State :=
  { s with sec := { s.sec with mkey := some (mk % 2 ^ 256) } }.wr Fd.SEC_STAT_MK_IN_FORCE 1

/-- A sealed copy of MK for the persist slot (R564). -/
def State.sealMk (s : State) (root mk : Nat) : State :=
  let e := sealE root
  let sealed := leBytes 16 (Config.sm4Enc e (mk % 2 ^ 128)) ++ leBytes 16 (Config.sm4Enc e (mk / 2 ^ 128 % 2 ^ 128))
  s.setPersist 8 (sealed ++ leBytes 16 (Config.cmacSm4 (sealM root) sealed))

/-- The sealed MK of a persist payload, unsealed (R559, R564). -/
def State.unseal (s : State) (payload : List Byte) : State :=
  match s.root with
  | none => s
  | some root =>
    let sealed := (payload.drop 8).take 32
    let half (k : Nat) : Nat := Config.sm4Dec (sealE root) (leNat ((sealed.drop (16 * k)).take 16)) % 2 ^ 128
    if Config.cmacSm4 (sealM root) sealed % 2 ^ 128 = leNat ((payload.drop 0x28).take 16) then
      s.setMk (half 0 + half 1 * 2 ^ 128)
    else s

/-- The 128 bytes of SEC_MKW0 to MKW31. -/
def State.mkBlob (s : State) : List Byte :=
  (List.range 32).flatMap fun k => leBytes 4 (Tab.get (fun _ => (0 : Word)) s.sec.mkWords k).toNat

/-- A GO of SEC_MK_CTL (R559). -/
def State.mkGo (s : State) : State :=
  let fin (s : State) (r : Nat) : State := (s.wr Fd.SEC_MK_CTL_RESULT r).raise 232 1 (r * 256 + 4096)
  match s.root with
  | none => fin s 4
  | some root => match Config.sm2Decrypt (identity root) s.mkBlob with
    | some m => fin ((s.setMk m).sealMk root m) 1
    | none => fin s 3

/-- MK_DECRYPT (R559). -/
def execMkDecrypt (s : State) : Host.Outcome State Fault Refusal := s.act s.mkGo

/-! ### Attestation (R565) -/

/-- The bytes 0x00 to 0xEF of a report. -/
def State.reportHead (s : State) (root : Nat) : List Byte :=
  let w (a : Nat) : List Byte := leBytes 4 (s.reg a).toNat
  let q := Config.sm2Public (identity root)
  let fw := s.rd Fd.NVM_BOOT_STAT_FW_SLOT
  let img := s.rd Fd.NVM_BOOT_STAT_IMG_SLOT
  let payload := s.slotPayload (2 + img)
  leBytes 4 0x54414D41 ++ leBytes 2 1 ++ leBytes 2 0 ++ w Ra.GLB_ID ++ w Ra.OTP_LC ++ w Ra.OTP_STAT ++
    w Ra.OTP_LOCKS ++ w Ra.NVM_FW_SVN ++ w Ra.NVM_IMG_VER ++
    leBytes 32 (if fw < 2 then Config.sm3 (s.slotPayload fw) else 0) ++
    leBytes 32 (if s.boot.halt ∨ 2 ≤ img then 0 else Config.sm3 (payload.take (payload.length - 64))) ++
    ((List.range 4).flatMap fun i => leBytes 8 (s.otpWord (20 + i))) ++
    ((List.range 8).flatMap fun k => w (Ra.SEC_ATT_NONCE k)) ++
    leBytes 8 s.clk.time ++
    leBytes 4 (s.rd Fd.CLK_STAT_TIME_EST + 2 * s.rd Fd.NVM_BOOT_STAT_SIG_BYPASS + 4 * b2n s.sec.mkey.isSome) ++
    leBytes 4 0 ++ leBytes 32 q.1 ++ leBytes 32 q.2

/-- The report in SEC_ATT_DATA0 to 75. -/
def State.putReport (s : State) (bytes : List Byte) : State :=
  (List.range 76).foldl (fun s k =>
    s.setReg (Ra.SEC_ATT_DATA k) (BitVec.ofNat 32 (leNat ((bytes.drop (4 * k)).take 4)))) s

/-- A GO of SEC_ATT_CTL (R565). -/
def State.attGo (s : State) : State :=
  if s.root.isNone then ((s.putReport []).wr Fd.SEC_ATT_CTL_RESULT 3).raise 238 1 1
  else { s with sec := { s.sec with attest := true } }.wr Fd.SEC_ATT_CTL_RESULT 2

/-- ATTESTATION_REQUEST (R565). -/
def execAttestationRequest (s : State) : Host.Outcome State Fault Refusal := s.act s.attGo

/-- REPORT_FORMED (R565). -/
def execReportFormed (s : State) : Host.Outcome State Fault Refusal :=
  s.act (match s.root with
    | some root =>
      if s.sec.attest then
        let h := s.reportHead root
        let sig := Config.sm2Sign (identity root) h
        let s := s.putReport (h ++ leBytes 32 sig.1 ++ leBytes 32 sig.2)
        ({ s with sec := { s.sec with attest := false } }.wr Fd.SEC_ATT_CTL_RESULT 1).raise 238 1 0
      else s
    | none => s)

/-! ### The tag cache -/

/-- TAG_CACHE_EVICTION (R551): the environment's error in the cache, if any, is met first. -/
def execTagCacheEviction (line err : Nat) (s : State) : Host.Outcome State Fault Refusal :=
  s.act ((s.tagError line err).evictTag line)

end Sys2Proof.Machine
end

