-- ==== Sys2Proof/Machine/Otp.lean ====
section
/-! DEFINITION. Fuses and lifecycle (chapter 06): the array and its reading at boot (R149–R161), marginal words
(R162, R163), locks and programming (R164–R169), JTAG gating (R155, R170), and the sideband's addresses (R76). -/

namespace Sys2Proof.Machine

/-! ### Words and classes -/

/-- A word nothing has programmed is blank (R149). -/
def otpBlank : Nat → OtpWord := fun _ => {}

def State.fuse (s : State) (w : Nat) : OtpWord := Tab.get otpBlank s.otp.words w

def State.setFuse (s : State) (w : Nat) (x : OtpWord) : State :=
  { s with otp := { s.otp with words := Tab.put otpBlank s.otp.words w x } }

/-- A word that decodes as uncorrectable (R150). -/
def OtpWord.bad (w : OtpWord) : Bool := w.ecc == 2

/-- First words of the rows of R151, in order. -/
def otpRows : List Nat := [0, 5, 8, 9, 10, 12, 13, 16, 20, 24, 32, 40, 64, 192, 480, 489]

/-- The row of R151 a word lies in, counted from 0 (R171). -/
def otpClass (w : Nat) : Nat := (otpRows.filter fun b => decide (b ≤ w)).length - 1

/-- A critical word (R159). -/
def otpCritical (w : Nat) : Bool := otpClass w ∈ [0, 2, 5, 7]

/-- The region of R164 a word lies in; 9 in none. -/
def otpRegion (w : Nat) : Nat :=
  match otpClass w with
  | 2 => 0
  | 3 => 0
  | 5 => 1
  | 7 => 2
  | 8 => 3
  | 9 => 4
  | 10 => 5
  | 11 => 6
  | 12 => 7
  | 13 => 8
  | _ => 9

/-- The marker of a lifecycle word (R153). -/
def lcMarker : Nat := 0xC3C3C3C3C3C3C3C3

/-! ### Events -/

/-- A corrected read (R171, R173). -/
def State.otpCorrected (s : State) (w : Nat) : State :=
  (s.count Fd.OTP_STAT_CORR_CNT Fd.OTP_STAT_CORR_OVF 1).raise 40 1 w

/-- A word found marginal, once per run (R162). -/
def State.otpMarginal (s : State) (w : Nat) : State :=
  if bit (s.rd (Fd.OTP_MARG_MARG (w / 32))) (w % 32) then s
  else
    let s := s.wrBit (Fd.OTP_MARG_MARG (w / 32)) (w % 32) true
    (s.wr Fd.OTP_STAT_MARG_CNT (min 255 (s.rd Fd.OTP_STAT_MARG_CNT + 1))).raise 43 1 w

/-! ### The boot read (R158) -/

/-- What a word reads as (the environment's reading): word, data, decode (0 clean, 1 corrected, 2 uncorrectable),
and whether the tightened reference disagrees. -/
abbrev OtpRead := Nat × Nat × Nat × Bool

def State.otpReads (s : State) (reads : List OtpRead) : State :=
  reads.foldl (fun (s : State) (r : OtpRead) =>
    s.setFuse (r.1 % 512) { data := r.2.1 % 2 ^ 64, ecc := r.2.2.1 % 3 }) s

def State.isMarker (s : State) (w : Nat) : Bool := !(s.fuse w).bad && (s.fuse w).data == lcMarker

def State.isBlank (s : State) (w : Nat) : Bool := !(s.fuse w).bad && (s.fuse w).data == 0

/-- Words below `n` hold markers and words `n` to 3 are blank. -/
def State.lcRow (s : State) (n : Nat) : Bool :=
  (List.range 4).all fun i => if i < n then s.isMarker i else s.isBlank i

/-- The lifecycle state and whether it is defaulted (R153). -/
def State.lcDecide (s : State) : Nat × Bool :=
  if s.isMarker 4 then (5, false)
  else if s.isBlank 4 then
    match (List.range 5).find? fun n => s.lcRow n with
    | some n => (n, false)
    | none => (3, true)
  else (3, true)

/-- The lowest word that failed its check or broke the order of R153's rows. A marker above a blank word breaks
the order. -/
def State.lcBroken (s : State) : Nat :=
  ((List.range 5).find? fun i =>
    (s.fuse i).bad || !(s.isBlank i || s.isMarker i) ||
      (decide (i < 4) && s.isMarker i && (List.range i).any fun j => s.isBlank j)).getD 0

/-- Words 16 to 19 make a device secret (R160); no keys are derived in SCRAPPED (R157). -/
def State.secretPresent (s : State) : Bool :=
  (List.range 4).all fun i => !(s.fuse (16 + i)).bad && (s.fuse (16 + i)).data != 0

/-- Lifecycle, SECCFG and the secret reach their users (R153–R160, R172). -/
def State.lcWires (s : State) : State :=
  let (st, dflt) := s.lcDecide
  let cfg := s.fuse 8
  let dbgDis := dflt || cfg.bad || bit cfg.data 0
  let sec := !(decide (st ≤ 1) && !cfg.bad && !bit cfg.data 1)
  let s := if dflt then (s.wr Fd.OTP_STAT_DEF_LC 1).raise 41 1 s.lcBroken else s
  let s := if cfg.bad then (s.wr Fd.OTP_STAT_DEF_SECCFG 1).raise 41 1 8 else s
  let s := (s.wr Fd.OTP_LC_STATE st).wr Fd.OTP_LC_DEFAULTED (b2n dflt)
  let s := (s.wr Fd.OTP_LC_DEBUG_DIS (b2n dbgDis)).wr Fd.OTP_LC_SECBOOT (b2n sec)
  let s := s.wr Fd.OTP_LC_SCAN_OK (b2n (st == 1 || st == 4))
  let s := s.wr Fd.OTP_LC_DEBUG_OK (b2n (!dbgDis && (st == 0 || st == 1 || st == 4)))
  let s := s.wr Fd.SEC_STAT_IDENT (b2n (s.secretPresent && st != 5))
  match (List.range 4).find? fun i => (s.fuse (16 + i)).bad with
  | some i => (s.wr Fd.OTP_STAT_DEF_SECRET 1).raise 41 1 (16 + i)
  | none => s

/-- The trips in force (R151, R160). -/
def State.tripWires (s : State) : State :=
  let w := s.fuse 12
  let a := bits w.data 7 0
  let b := bits w.data 15 8
  let a := (if !w.bad && decide (90 ≤ a) && decide (a ≤ 100) then a else 90) + (if s.part.grade = 1 then 10 else 0)
  let b := if !w.bad && decide (105 ≤ b) && decide (b ≤ 115) then b else 105
  let s := (s.wr Fd.OTP_TRIPS_TRIPA a).wr Fd.OTP_TRIPS_TRIPB b
  if w.bad then (s.wr Fd.OTP_STAT_DEF_TRIP 1).raise 41 1 12 else s

/-- The lock of each region (R161, R164). -/
def State.lockWires (s : State) : State :=
  s.wr Fd.OTP_LOCKS_LOCKED ((List.range 9).foldl (fun m k =>
    m + b2n ((s.fuse (480 + k)).bad || (s.fuse (480 + k)).data != 0) * 2 ^ k) 0)

/-- PATCH_LOAD (R117, R119). -/
def State.patchLoad (s : State) : State :=
  let p (e : Nat) : OtpWord × OtpWord := (s.fuse (64 + 2 * e), s.fuse (65 + 2 * e))
  let bad (e : Nat) : Bool := (p e).1.bad || (p e).2.bad
  let kind (e : Nat) : Nat := bits (p e).1.data 63 62
  let ld (e : Nat) : Bool := !bad e && (kind e == 1 || kind e == 2)
  let m (f : Nat → Bool) (b : Nat) : Nat := (List.range 32).foldl (fun n i => n + b2n (f (b + i)) * 2 ^ i) 0
  let s := (s.wr Fd.NVM_PATCH_LD0_ALL (m ld 0)).wr Fd.NVM_PATCH_LD1_ALL (m ld 32)
  (s.wr Fd.NVM_PATCH_BAD0_ALL (m bad 0)).wr Fd.NVM_PATCH_BAD1_ALL (m bad 32)

/-- Every word is latched; corrected and failed words are reported (R150, R158, R161, R175). -/
def State.otpLatch (s : State) : State :=
  let ws := s.otp.words
  let s := { s with otp := { s.otp with
    latch := ws.foldl (fun t (e : Nat × OtpWord) => Tab.put (fun _ => 0) t e.1 e.2.data) []
    corr := (ws.filter fun (e : Nat × OtpWord) => e.2.ecc == 1).map (·.1) } }
  ws.foldl (fun (s : State) (e : Nat × OtpWord) =>
    if e.2.ecc = 1 then s.otpCorrected e.1
    else if e.2.bad then
      let s := s.wrBit (Fd.OTP_FAIL_FAIL (e.1 / 32)) (e.1 % 32) true
      if otpCritical e.1 then s else s.raise 42 1 (e.1 + otpClass e.1 * 4096)
    else s) s

/-- An analog trim word is programmed and passes its check. -/
def State.trimmed (s : State) : Bool := (List.range 24).any fun i => !(s.fuse (40 + i)).bad && (s.fuse (40 + i)).data != 0

/-- A trim word fails its check. -/
def State.trimBad (s : State) : Bool := (List.range 24).any fun i => (s.fuse (40 + i)).bad

/-- One trim read at release (R90, R109, R161): the layout of words 40 to 63 is not described, so which word holds it and
what it holds are free values (assumption 3); a blank array, and a word that fails its check, give the vendor default
0. -/
def State.trimRead (s : State) : State :=
  let put (s : State) (v : Nat) : State := { s with otp := { s.otp with trims := s.otp.trims ++ [v] } }
  if !s.trimmed then put s 0
  else if s.trimBad ∧ s.free % 2 = 1 then put s.drawn 0
  else put s.drawn.drawn s.drawn.free

/-- Trim `i` as read at release: 0 CLK_OSC.TRIM, 1 to 4 the words of CLK_OSC_TC. -/
def State.trim (s : State) (i : Nat) : Nat := nth 0 s.otp.trims i

/-- CLK_OSC_TC at its reset values, the trims (R109). -/
def State.tcLoad (s : State) : State :=
  (List.range 4).foldl (fun (s : State) i => s.setReg (Ra.CLK_OSC_TC i) (BitVec.ofNat 32 (s.trim (i + 1)))) s

/-- TRIM and CLK_OSC_TC from the analog trims (R90, R109, R161). -/
def State.trimLoad (s : State) : State :=
  let s := { s with otp := { s.otp with trims := [] } }
  let s := (List.range 5).foldl (fun (s : State) _ => s.trimRead) s
  (s.wr Fd.CLK_OSC_TRIM (s.trim 0)).tcLoad

/-- OTP_BOOT_READ, PATCH_LOAD and LC_SCRAPPED (R117, R157, R158). -/
def State.otpBoot (s : State) (reads : List OtpRead) : State :=
  let s := s.otpReads reads
  let s := { s with otp := { s.otp with done := [], prog := none, rereadDue := false, jtag := 0, scan := false, debug := false } }
  let s := s.otpLatch.lcWires.tripWires.lockWires.patchLoad.trimLoad
  let s := (reads.filter fun (r : OtpRead) => r.2.2.2).foldl (fun (s : State) (r : OtpRead) => s.otpMarginal (r.1 % 512)) s
  if s.lifecycle = 5 then s.raise 47 1 0 else s

/-! ### Re-reading (R162, R163) -/

/-- A re-read pass is due: it begins, or waits for the program in progress (R163). -/
def State.rereadStart (s : State) : State :=
  if s.coreOff ∨ s.otp.rereadRun then s
  else if s.otp.prog.isSome then { s with otp := { s.otp with rereadDue := true } }
  else { s with otp := { s.otp with rereadDue := false, rereadRun := true } }.wr Fd.OTP_STAT_BUSY 1

/-- What a pass finds: the critical words read at both references (R162, R163). -/
def State.reread (s : State) (reads : List OtpRead) : State :=
  let reads := reads.filter fun (r : OtpRead) => otpCritical (r.1 % 512)
  let s := s.otpReads reads
  let crit := s.otp.words.filter fun (e : Nat × OtpWord) => otpCritical e.1
  let s := crit.foldl (fun (s : State) (e : Nat × OtpWord) => if e.2.ecc = 1 then s.otpCorrected e.1 else s) s
  let failed (w : Nat) : Bool := bit (s.rd (Fd.OTP_FAIL_FAIL (w / 32))) (w % 32)
  let off (w : Nat) : Bool := !s.otp.done.contains w &&
    ((s.fuse w).data != s.otpWord w || ((s.fuse w).bad && !failed w))
  let marg := (reads.filter fun (r : OtpRead) => r.2.2.2 || off (r.1 % 512)).map fun r => r.1 % 512
  marg.foldl (fun (s : State) (w : Nat) => s.otpMarginal w) s

/-- REREAD_PASS (R163): a pass begins (`none`); or the pass that runs ends with what it read, and a program accepted in it begins
(R169). -/
def execRereadPass (reads : Option (List OtpRead)) (s : State) : Host.Outcome State Fault Refusal :=
  s.act (match reads with
  | none => s.rereadStart
  | some l => if s.otp.rereadRun ∧ !s.coreOff then
      { s.reread l with otp := { (s.reread l).otp with rereadRun := false } }.wr Fd.OTP_STAT_BUSY
        (b2n s.otp.prog.isSome)
    else s)

/-! ### Programming (R164–R169) -/

/-- The lifecycle advance a word makes is allowed now (R154). Latched values and locks are judged. -/
def State.advanceOk (s : State) (w : Nat) : Bool :=
  let locked (k : Nat) : Bool := bit (s.rd Fd.OTP_LOCKS_LOCKED) k
  let filled (a : Nat) : Bool := (List.range 4).all fun i => s.otpWord (a + i) != 0
  let t := s.otpWord 12
  match w with
  | 0 => s.lifecycle == 0
  | 1 => s.lifecycle == 1 && filled 16 && locked 2 && locked 1 && decide (90 ≤ bits t 7 0) &&
      decide (bits t 7 0 ≤ 100) && decide (105 ≤ bits t 15 8) && decide (bits t 15 8 ≤ 115)
  | 2 => s.lifecycle == 2 && filled 20 && locked 3
  | 3 => s.lifecycle == 3
  | _ => s.lifecycle != 5

/-- The states 1 to 4 in which a class may be written (R168). -/
def classStates : Nat → List Nat
  | 2 => [1, 2]
  | 3 => [1, 2, 3]
  | 5 => [1]
  | 7 => [1]
  | 11 => [1]
  | 8 => [2]
  | 9 => [2, 3]
  | 10 => [2, 3]
  | 12 => [1, 2, 3]
  | 13 => [1, 2, 3, 4]
  | _ => []

/-- Word class writable in the current lifecycle state (R168). A lock word follows its region; region 0 counts as
writable where either of its classes is. -/
def State.classOk (s : State) (w : Nat) : Bool :=
  match otpClass w with
  | 0 => s.advanceOk w
  | 14 => s.lifecycle ∈ classStates (nth 15 [3, 5, 7, 8, 9, 10, 11, 12, 13] (w - 480))
  | c => s.lifecycle ∈ classStates c

/-- Value in the class's format (R167). -/
def State.formatOk (s : State) (w d : Nat) : Bool :=
  match otpClass w with
  | 0 => d == lcMarker
  | 2 => decide (d < 4)
  | 3 => decide (d < 2)
  | 5 => decide (90 ≤ bits d 7 0) && decide (bits d 7 0 ≤ 100) && decide (105 ≤ bits d 15 8) &&
      decide (bits d 15 8 ≤ 115) && decide (d < 65536)
  | 9 => decide (d < 2 ^ 32)
  | 10 => decide (d < 2 ^ 32)
  | 12 => if w % 2 = 0 then bits d 61 16 == 0 else decide (d < 2 ^ 32)
  | 13 => entryFormat s.part.lgrp d
  | _ => true

/-- Mode, rails and temperature allow programming (R167). -/
def State.fuseConditions (s : State) : Bool :=
  (s.mode == mSERVICE || s.mode == mDEGRADED || (s.mode == mBOOT && s.boot.halt)) &&
  s.rd Fd.PWR_RAIL_STAT_OUT == 0 && decide (0 ≤ s.eff 17) && decide (s.eff 17 ≤ 680)

/-- A program's outcome is reported (R166, R171). -/
def State.fuseResult (s : State) (w r : Nat) : State := (s.wr Fd.OTP_PROG_CTL_RESULT r).raise 44 1 (w + r * 65536)

/-- A GO of OTP_PROG_CTL (R167). A secret word takes 64 nonzero bits of the random source. -/
def State.otpGo (s : State) : State :=
  let w := s.rd Fd.OTP_PROG_ADDR_WORD
  let secret := otpClass w == 7
  let d := if secret then s.free % (2 ^ 64 - 1) + 1 else s.rd Fd.OTP_PROG_DLO_DATA + s.rd Fd.OTP_PROG_DHI_DATA * 2 ^ 32
  if s.otp.prog.isSome then s.fuseResult w 2
  else if s.fuse w ≠ {} then s.fuseResult w 3
  else if bit (s.rd Fd.OTP_LOCKS_LOCKED) (otpRegion w) then s.fuseResult w 4
  else if !s.classOk w then s.fuseResult w 5
  else if !secret ∧ !s.formatOk w d then s.fuseResult w 6
  else if !s.fuseConditions then s.fuseResult w 7
  else
    let s := if secret then s.drawn else s
    ({ s with otp := { s.otp with prog := some (w, d) } }.wr Fd.OTP_PROG_CTL_RESULT 9).wr Fd.OTP_STAT_BUSY 1

/-- FUSE_PROGRAM (R166, R167): the word and value written, then GO. -/
def execFuseProgram (word data : Nat) (s : State) : Host.Outcome State Fault Refusal :=
  s.act (((s.wr Fd.OTP_PROG_ADDR_WORD word).wr Fd.OTP_PROG_DLO_DATA data).wr Fd.OTP_PROG_DHI_DATA (data / 2 ^ 32)).otpGo

/-- An entry of the repair map is refused or applied (R377, R378). -/
def State.applyRepair (s : State) (index : Nat) (soft : Bool) (e : Nat) : State :=
  let r := entryRepair e
  if !entryFormat s.part.lgrp e then s.repairMap index soft 1
  else if s.spareRetired r then s.repairMap index soft 2
  else match s.spareUser r with
  | some u => if sameTarget r u then s else s.repairMap index soft 3
  | none =>
    let s := (s.ecc.repairs.filter fun (u : Repair) => u.kind == 3 && sameTarget r u).foldl
      (fun (s : State) (u : Repair) => s.wr (tsvFld u.pc u.bank u.spare) 0x1F) s
    let s := s.putRepair r false
    if r.kind = 3 then s.wr (tsvFld r.pc r.bank r.spare) r.target else s

/-- The target row is not in use (R169): no valid region covers a line of it. What counts as use is not stated; an entry of
another kind, a column, a TSV or a RETIRE, waits for the next boot (DESIGN CHOICE, assumption 53). -/
def State.rowIdle (s : State) (r : Repair) : Bool :=
  r.kind == 1 && (rowLines r.pc r.bank r.target).all fun l => (s.rgnOf (64 * l)).isNone

/-- House firmware applies a hard repair entry in this run when the row is not in use (R169). -/
def State.hardRepair (s : State) (w d : Nat) : State :=
  if otpClass w = 13 ∧ entryRetires d = false ∧ s.rowIdle (entryRepair d) then s.applyRepair w false d else s

/-- A program ends with its verify read, and a re-read pass that waited begins (R163, R167). -/
def State.progEnd (s : State) (w d : Nat) (x : OtpWord) : State :=
  let s := ({ s with otp := { s.otp with prog := none, done := s.otp.done ++ [w] } }.setFuse w x).wr Fd.OTP_STAT_BUSY 0
  let s := if x.ecc = 1 then s.otpCorrected w else s
  let s := if x.bad ∨ x.data ≠ d then s.fuseResult w 8
    else
      let s := s.fuseResult w 1
      if w ≤ 4 then s.raise 45 1 (w + 1) else s.hardRepair w d
  if s.otp.rereadDue then s.rereadStart else s

/-- OTP_PROG (R167): the verify read of the word; a program accepted during a re-read pass starts when the pass ends. -/
def execOtpProg (data ecc : Nat) (s : State) : Host.Outcome State Fault Refusal :=
  s.act (match s.otp.prog with
  | none => s
  | some (w, d) => if s.otp.rereadRun then s else s.progEnd w d { data := data % 2 ^ 64, ecc := ecc % 3 })

/-- What a partly programmed word reads as (R169): it fails its check or decodes to another value, and is not blank. -/
def partWord (d n k : Nat) : OtpWord :=
  let v := 1 + n % (2 ^ 64 - 2)
  { data := if d ≤ v then v + 1 else v, ecc := k % 3 }

/-- A program cut off by reset or power loss leaves the word partly programmed (R169). -/
def State.otpAbandon (s : State) : State :=
  match s.otp.prog with
  | none => s
  | some (w, d) =>
    let s := { s with otp := { s.otp with prog := none } }
    (s.setFuse w (partWord d s.free s.drawn.free)).drawn.drawn

/-! ### JTAG (R155, R170) -/

/-- Key slots, the management key and the derived identity are cleared (R170, R547). What a key load in progress comes to
is not stated: a LOAD ends with NO_MK, a CLEAR with done, and what it held goes on (DESIGN CHOICE, assumption 54). -/
def State.zeroise (s : State) : State :=
  let s := (s.sec.slots.map (·.1)).foldl (fun s k => s.setSlot k none) s
  let s := { s with sec := { s.sec with mkey := none } }.wr Fd.SEC_STAT_MK_IN_FORCE 0 |>.wr Fd.SEC_STAT_IDENT 0
  match s.sec.load with
  | some (slot, op) => s.kldEnd slot (if op = 1 then 4 else 1)
  | none => s

/-- A function JTAG selects: 0 BYPASS, 1 boundary scan, 2 debug, 3 internal scan (R155). -/
def State.jtagMay (s : State) (f : Nat) : Bool :=
  match f with
  | 1 => s.lifecycle != 5
  | 2 => s.on Fd.OTP_LC_DEBUG_OK
  | 3 => s.on Fd.OTP_LC_SCAN_OK
  | _ => false

/-- SCAN_ZEROISE (R170): the keys are cleared, then the gate of the function JTAG selected opens. Internal scan
ends every test (R714). -/
def execScanZeroise (s : State) : Host.Outcome State Fault Refusal :=
  s.act (if s.otp.jtag = 3 ∧ !s.otp.scan then
    let s := (s.zeroise.raise 46 1 0).abortTests
    { s with otp := { s.otp with scan := true } }
  else if s.otp.jtag = 2 ∧ !s.otp.debug then
    let s := s.zeroise.raise 46 1 1
    { s with otp := { s.otp with debug := true } }
  else s)

/-- JTAG_TRST_N (R170): debug is left; internal scan is not. -/
def execJtagTrstN (s : State) : Host.Outcome State Fault Refusal :=
  s.act { s with otp := { s.otp with debug := false, jtag := if s.otp.scan then s.otp.jtag else 0 } }

/-! ### The sideband's addresses (R76) -/

/-- SETDASA: a dynamic address for the target at a static address. -/
def execSetdasa (static dynamic : Nat) (s : State) : Host.Outcome State Fault Refusal :=
  s.act (if static = 0x48 + s.pins.sbAddr then
    { s with pins := { s.pins with sbDyn := some (dynamic % 128) } }
  else s)

/-- ENTDAA: the dynamic address assigned to this target. -/
def execEntdaa (dynamic : Nat) (s : State) : Host.Outcome State Fault Refusal :=
  s.act { s with pins := { s.pins with sbDyn := some (dynamic % 128) } }

end Sys2Proof.Machine
end

