-- ==== Sys2Proof/Machine/Nvm.lean ====
section
/-! DEFINITION. Flash (chapter 05): slots and their validity (R122–R125), the journal (R128, R129), record writes
(R126, R130), update sessions (R142, R143), and the verification of firmware and image (R131–R135). -/

namespace Sys2Proof.Machine

/-! ### Flash bytes -/

/-- A page program. -/
def State.program (s : State) (a : Nat) (bs : List Byte) : State :=
  let f := (List.range bs.length).foldl (fun (t : Tab Byte) i => Tab.put flashByte t (a + i) (nth 0 bs i)) s.nvm.flash
  { s with nvm := { s.nvm with flash := f } }

/-- The erase of the 4 KiB sector at `a`. -/
def State.eraseSector (s : State) (a : Nat) : State :=
  { s with nvm := { s.nvm with flash := s.nvm.flash.filter fun (e : Nat × Byte) => !(decide (a ≤ e.1) && decide (e.1 < a + 4096)) } }

def State.sectorBlank (s : State) (a : Nat) : Bool :=
  s.nvm.flash.all fun (e : Nat × Byte) => !(decide (a ≤ e.1) && decide (e.1 < a + 4096))

/-- The sectors of a slot that its first `n` bytes occupy and that do not read blank (R126). -/
def State.dirtySectors (s : State) (k n : Nat) : List Nat :=
  ((List.range (ceilDiv n 4096)).map fun i => slotBase k + 4096 * i).filter fun a => !s.sectorBlank a

/-! ### Slot headers (R123, R124) -/

/-- KIND of slot k. -/
def slotKind (k : Nat) : Nat := nth 7 [1, 1, 2, 2, 3, 3, 4, 4, 5, 5, 6] k

/-- MAGIC, KIND, HVER and LEN are as R123 requires. -/
def State.headerOk (s : State) (k : Nat) : Bool :=
  s.slotWord k 0 == 0x544F4C53 && s.slotWord k 4 % 65536 == 0x100 + slotKind k &&
    decide (s.slotWord k 0x10 + 64 ≤ slotSize k) && (decide (k < 11) || s.slotWord k 0x10 == 0)

def State.digestOk (s : State) (k : Nat) : Bool :=
  leNat (s.flashBytes (slotBase k + 0x20) 32) ==
    Config.sm3 (s.flashBytes (slotBase k) 32 ++ s.slotPayload k) % 2 ^ 256

/-- The 64 bytes of a header (R123). -/
def slotHeader (kind seq erases : Nat) (payload : List Byte) : List Byte :=
  let h := leBytes 4 0x544F4C53 ++ leBytes 1 kind ++ leBytes 3 1 ++ leBytes 4 seq ++ leBytes 4 erases ++
    leBytes 4 payload.length ++ leBytes 12 0
  h ++ leBytes 32 (Config.sm3 (h ++ payload))

/-- SEQ b is newer than SEQ a (R125). -/
def newer (b a : Nat) : Bool :=
  let d := (b + 2 ^ 32 - a % 2 ^ 32) % 2 ^ 32
  decide (1 ≤ d) && decide (d < 2 ^ 31)

/-! ### The journal (R128, R129) -/

/-- A journal entry: type, slot, slot SEQ, erase count. -/
structure JEnt where
  typ : Nat
  slot : Nat
  seq : Nat
  erases : Nat
  deriving DecidableEq, Repr

/-- The half in use: 0 A, 1 B. -/
def State.jHalf (s : State) : Option Nat :=
  let ok (h : Nat) : Bool := s.headerOk (11 + h) && s.digestOk (11 + h)
  if ok 0 ∧ ok 1 then some (if newer (s.slotWord 12 8) (s.slotWord 11 8) then 1 else 0)
  else if ok 0 then some 0
  else if ok 1 then some 1
  else none

/-- The entries of a half from number `i` on; an erased entry or a bad CRC ends the log. -/
def State.jRead (s : State) (half : Nat) : Nat → Nat → List JEnt
  | 0, _ => []
  | n + 1, i =>
    let b := s.flashBytes (slotBase (11 + half) + 64 + 32 * i) 32
    let w (o m : Nat) : Nat := leNat ((b.drop o).take m)
    if b.all fun x => x == 0xFF then []
    else if crc32 (b.take 28) ≠ w 28 4 then []
    else { typ := w 4 1, slot := w 5 1, seq := w 8 4, erases := w 12 4 } :: s.jRead half n (i + 1)

def State.journal (s : State) : List JEnt :=
  match s.jHalf with
  | some h => s.jRead h 2046 0
  | none => []

/-- BEGINs without a COMMIT. -/
def openBegins (l : List JEnt) : List JEnt :=
  l.foldl (fun (o : List JEnt) e =>
    let rest := o.filter fun (x : JEnt) => !(x.slot == e.slot && x.seq == e.seq)
    if e.typ = 1 then rest ++ [e] else if e.typ = 2 then rest else o) []

/-- Writing of a pair has stopped (R130, R147): 0 firmware, 1 image, 2 calibration, 3 soft-repair, 4 persist,
5 journal. -/
def State.stopped (s : State) (pair : Nat) : Bool := bit (s.rd Fd.NVM_WEAR_STOP) pair

/-- The pair of R147 a slot belongs to; the certificate slot has none. -/
def slotPair (k : Nat) : Option Nat := if k < 10 then some (k / 2) else if k = 10 then none else some 5

/-- The erase count of a slot (R128, R129): a journal half's is that of its own header, which house firmware remembers
from the erase until the next header is programmed. -/
def State.slotErases (s : State) (k : Nat) : Nat :=
  let own := if s.headerOk k then s.slotWord k 12 else 0
  if 11 ≤ k then max own (Tab.get (fun _ => 0) s.nvm.erases k)
  else
    let es := s.journal.filter fun (e : JEnt) => e.slot == k && (e.typ == 1 || e.typ == 3)
    let last := match es.reverse with
      | e :: _ => e.erases
      | [] => 0
    max own last

/-- An erase count grows: NVM_WEAR shows the highest, and at 20,000 writing of the pair stops (R130, R147). -/
def State.noteErases (s : State) (k e : Nat) : State :=
  let s := if 11 ≤ k then { s with nvm := { s.nvm with erases := Tab.put (fun _ => 0) s.nvm.erases k e } } else s
  let s := if s.rd Fd.NVM_WEAR_MAX < e then (s.wr Fd.NVM_WEAR_MAX (min e 20000)).wr Fd.NVM_WEAR_MAX_SLOT k else s
  match slotPair k with
  | some p =>
    if 20000 ≤ e ∧ !s.stopped p then (s.wrBit Fd.NVM_WEAR_STOP p true).raise 38 1 (k + 16) else s
  | none => s

/-- NVM_WEAR at boot, from headers and journal (R130, R147). -/
def State.wearBoot (s : State) : State :=
  (List.range 13).foldl (fun (s : State) k =>
    let e := s.slotErases k
    let s := if s.rd Fd.NVM_WEAR_MAX < e then (s.wr Fd.NVM_WEAR_MAX (min e 20000)).wr Fd.NVM_WEAR_MAX_SLOT k else s
    match slotPair k with
    | some p => if 20000 ≤ e then s.wrBit Fd.NVM_WEAR_STOP p true else s
    | none => s) s

/-- Entry `i` of a half. -/
def State.jPut (s : State) (half i : Nat) (e : JEnt) : State :=
  let b := leBytes 4 i ++ leBytes 1 e.typ ++ leBytes 1 e.slot ++ leBytes 2 0 ++ leBytes 4 e.seq ++ leBytes 4 e.erases ++
    leBytes 12 0
  s.program (slotBase (11 + half) + 64 + 32 * i) (b ++ leBytes 4 (crc32 b))

/-- A half is erased unless it reads blank; its count is kept for its next header (R129). -/
def State.eraseHalf (s : State) (h : Nat) : State :=
  match s.dirtySectors (11 + h) 0x10000 with
  | [] => s
  | l =>
    let e := s.slotErases (11 + h) + 1
    (l.foldl (fun (s : State) a => s.eraseSector a) s).noteErases (11 + h) e

/-- A half's header (R129). -/
def State.jHeader (s : State) (h seq : Nat) : State :=
  s.program (slotBase (11 + h)) (slotHeader 7 seq (s.slotErases (11 + h)) [])

/-- The move to the other half (R128, R129): erase, an ERASES entry per slot and every open BEGIN, header. -/
def State.halfMove (s : State) (h : Nat) : State :=
  let o := 1 - h
  let seq := s.slotWord (11 + h) 8
  let ents := (List.range 13).map (fun k => { typ := 3, slot := k, seq := 0, erases := s.slotErases k : JEnt }) ++
    openBegins s.journal
  let s := s.eraseHalf o
  let s := (List.range ents.length).foldl (fun (s : State) i => s.jPut o i (nth ⟨0, 0, 0, 0⟩ ents i)) s
  s.jHeader o (seq + 1)

/-- The journal is started where no half is in use (R129). -/
def State.jStart (s : State) : State :=
  match s.jHalf with
  | some _ => s
  | none => (s.eraseHalf 0).jHeader 0 1

/-- An entry is appended; at 1,536 entries the other half is erased ahead (R128, R129). -/
def State.append (s : State) (e : JEnt) : State :=
  if s.stopped 5 then s
  else
    let s := s.jStart
    match s.jHalf with
    | none => s
    | some h =>
      let s := if 2046 ≤ s.journal.length then s.halfMove h else s
      let h := s.jHalf.getD h
      let n := s.journal.length
      let s := s.jPut h n e
      if 1536 ≤ n + 1 then s.eraseHalf (1 - h) else s

/-- JOURNAL_HALF_MOVE (R129): the half in use is full. -/
def execJournalHalfMove (s : State) : Host.Outcome State Fault Refusal :=
  s.act (match s.jHalf with
  | some h => if 2046 ≤ s.journal.length ∧ !s.stopped 5 ∧ s.boot.fwRun then s.halfMove h else s
  | none => s)

/-! ### Slot validity and selection (R124, R125) -/

/-- The content a calibration or soft-repair record must have (R379, R669). -/
def State.contentOk (s : State) (k : Nat) : Bool :=
  let w (o : Nat) : Nat := s.slotWord k (64 + o)
  match slotKind k with
  | 3 => s.slotLen k == 135712 && w 0 == 1 && w 4 == (s.reg Ra.GLB_ID).toNat && w 8 == 15
  | 4 => decide (w 0 ≤ 8192) && s.slotLen k == 8 + 8 * w 0
  | 5 => s.slotLen k == 128
  | _ => true

/-- Why a slot is not valid: 1 header, 2 digest, 3 open BEGIN (R124, R145). -/
def State.slotFault (s : State) (k : Nat) : Option Nat :=
  if !s.headerOk k ∨ !s.contentOk k then some 1
  else if !s.digestOk k then some 2
  else if !s.stopped 5 ∧ (openBegins s.journal).any fun (e : JEnt) => e.slot == k && e.seq == s.slotWord k 8 then some 3
  else none

/-- The winner of a pair, 0 A or 1 B, with the slots of `bad` shut out (R125). -/
def State.winner (s : State) (pair : Nat) (bad : List Nat := []) : Option Nat :=
  let ok (i : Nat) : Bool := (s.slotFault (2 * pair + i)).isNone && !bad.contains i
  if ok 0 ∧ ok 1 then
    some (if newer (s.slotWord (2 * pair + 1) 8) (s.slotWord (2 * pair) 8) then 1 else 0)
  else if ok 0 then some 0
  else if ok 1 then some 1
  else none

/-- The slot a record goes to, and the SEQ it takes (R126). Where the pair has no winner the SEQ is not stated: the model
takes 1, as R129 does for a first journal half (DESIGN CHOICE, assumption 55). -/
def State.loser (s : State) (pair : Nat) (bad : List Nat := []) : Nat × Nat :=
  match s.winner pair bad with
  | some w => (2 * pair + (1 - w), (s.slotWord (2 * pair + w) 8 + 1) % 2 ^ 32)
  | none => (2 * pair, 1)

/-! ### Record writes (R126) -/

/-- Pieces of a byte string that end at 256-byte pages, each with its flash address. -/
def pagesFrom : Nat → Nat → List Byte → List (Nat × List Byte)
  | 0, _, _ => []
  | n + 1, a, bs =>
    if bs.isEmpty then []
    else
      let room := 256 - a % 256
      (a, bs.take room) :: pagesFrom n (a + room) (bs.drop room)

/-- A record write begins: BEGIN is appended and its erases are counted. -/
def State.recordStart (s : State) (k seq : Nat) (payload : List Byte) : State :=
  let secs := s.dirtySectors k (64 + payload.length)
  let e := s.slotErases k + (if secs.isEmpty then 0 else 1)
  let s := s.append { typ := 1, slot := k, seq, erases := e }
  let s := if secs.isEmpty then s else s.noteErases k e
  let pages := pagesFrom (payload.length + 1) (slotBase k + 64) payload ++
    [(slotBase k, slotHeader (slotKind k) seq e payload)]
  { s with nvm := { s.nvm with wr := some { slot := k, seq, erases := e, payload, sectors := secs, pages, pre := false } } }

/-- The payload of the calibration record (R669). -/
def State.calPayload (s : State) : List Byte :=
  leBytes 4 1 ++ leBytes 4 (s.reg Ra.GLB_ID).toNat ++ leBytes 4 15 ++ leBytes 20 0 ++
    ((List.range 128).flatMap fun p => leBytes 4 (s.reg (Ra.PC_TSV_MAP p)).toNat) ++
    (List.range 33792).flatMap fun i => leBytes 4 (Tab.get dlyDefault s.cal.set i)

/-- The payload of the soft-repair list (R379). -/
def State.softPayload (s : State) : List Byte :=
  leBytes 4 s.ecc.soft.length ++ leBytes 4 0 ++ s.ecc.soft.flatMap fun e => leBytes 8 e

/-- The payload a pair's record takes now: calibration, soft-repair, persist, certificate. -/
def State.payloadOf (s : State) (pair : Nat) (cert : List Byte) : List Byte :=
  match pair with
  | 2 => s.calPayload
  | 3 => s.softPayload
  | 4 => s.nvm.persist
  | _ => cert

/-- The pair owes a record (R383, R559, R562, R596, R670), or the certificate slot may be written (R130). -/
def State.recordDue (s : State) (pair : Nat) : Bool :=
  match pair with
  | 2 => s.cal.dirty || s.nvm.owed.contains 2
  | 3 => s.nvm.owed.contains 3
  | 4 => s.nvm.owed.contains 4
  | 5 => s.lifecycle == 2
  | _ => false

def State.paid (s : State) (pair : Nat) : State :=
  { s with
    nvm := { s.nvm with owed := s.nvm.owed.filter (· != pair) }
    cal := { s.cal with dirty := s.cal.dirty && pair != 2 } }

/-- P of a persist payload (R564). -/
def persistP (payload : List Byte) : Nat := leNat (payload.take 8)

/-- RECORD_WRITE (R126): waits while a record write or an update session has its BEGIN open (R144). A pair that has
stopped keeps its value in RAM (R130). `cert` is the certificate payload. -/
def execRecordWrite (pair : Nat) (cert : List Byte) (s : State) : Host.Outcome State Fault Refusal :=
  s.act (if !s.boot.fwRun ∨ s.seq.mcRestart ∨ s.coreOff ∨ s.tripB ∨ s.nvm.wr.isSome ∨ s.nvm.upd.isSome ∨ !s.recordDue pair then s
  else
    let payload := s.payloadOf pair cert
    if pair = 5 then
      (if slotSize 10 - 64 < cert.length then s
      else s.recordStart 10 (if (s.slotFault 10).isNone then (s.slotWord 10 8 + 1) % 2 ^ 32 else 1) payload)
    else if s.stopped pair then
      let s := s.paid pair
      { s with nvm := { s.nvm with
        ram := Tab.put (fun _ => []) s.nvm.ram pair payload
        stored := if pair = 4 then some (persistP payload, false) else s.nvm.stored } }
    else
      let (k, seq) := s.loser pair
      (s.paid pair).recordStart k seq payload)

/-- The sectors of the next persist record are erased in advance (R126). The Slot SEQ of its ERASES entry is not stated:
the model writes 0 (DESIGN CHOICE, assumption 55). -/
def State.eraseAhead (s : State) (k : Nat) : State :=
  let o := if k = 8 then 9 else 8
  match s.dirtySectors o 192 with
  | [] => s
  | l =>
    if s.stopped 4 then s
    else
      let e := s.slotErases o + 1
      let s := (s.append { typ := 3, slot := o, seq := 0, erases := e }).noteErases o e
      { s with nvm := { s.nvm with
        wr := some { slot := o, seq := 0, erases := e, payload := [], sectors := l, pages := [], pre := true } } }

/-- The header is programmed: read back, then COMMIT or NVM_WRITE_FAIL (R126). -/
def State.recordEnd (s : State) (w : RecWrite) : State :=
  let ok := s.headerOk w.slot && s.digestOk w.slot && s.slotPayload w.slot == w.payload
  let s := { s with nvm := { s.nvm with wr := none } }
  let s := if ok then s.append { typ := 2, slot := w.slot, seq := w.seq, erases := w.erases }
    else s.raise 38 1 w.slot
  if slotKind w.slot = 5 then
    let p := persistP w.payload
    let s := { s with nvm := { s.nvm with stored := some (p, ok) } }
    if ok then { s with sec := { s.sec with p := p } }.eraseAhead w.slot else s
  else s

/-- SECTOR_ERASE_COMPLETE (R126). -/
def execSectorEraseComplete (s : State) : Host.Outcome State Fault Refusal :=
  s.act (match s.nvm.wr with
  | none => s
  | some w =>
    match w.sectors with
    | [] => s
    | a :: rest =>
      let s := s.eraseSector a
      { s with nvm := { s.nvm with wr := if rest.isEmpty && w.pre then none else some { w with sectors := rest } } })

/-! ### Verification (R131–R137) -/

/-- The effective minimum of an SVN chain at `w` (R152, R161): the nearest valid lower word's value, and the
largest. -/
def State.svnMin (s : State) (w : Nat) : Nat :=
  ((List.range 8).foldl (fun (x : Nat × Nat) i =>
    if bit (s.rd (Fd.OTP_FAIL_FAIL ((w + i) / 32))) ((w + i) % 32) then (x.1, max x.2 (x.1 + 1))
    else (s.otpWord (w + i) % 2 ^ 32, max x.2 (s.otpWord (w + i) % 2 ^ 32))) (0, 0)).2

/-- Bytes of an image as a number. -/
def imgWord (img : List Byte) (o n : Nat) : Nat := leNat ((img.drop o).take n)

/-- A section of the directory (R135): TYPE, SFLAGS, OFFSET, LENGTH, NREC. -/
structure Sect where
  typ : Nat
  flags : Nat
  off : Nat
  len : Nat
  nrec : Nat
  deriving DecidableEq, Repr

def imgSects (img : List Byte) : List Sect :=
  (List.range (imgWord img 0x14 2)).map fun i =>
    let o := 0x80 + 16 * i
    { typ := imgWord img o 1, flags := imgWord img (o + 1) 3, off := imgWord img (o + 4) 4, len := imgWord img (o + 8) 4,
      nrec := imgWord img (o + 12) 4 }

/-- A record (R137): address, OP, VALUE, MASK. -/
def imgRec (img : List Byte) (off i : Nat) : Nat × Nat × Nat × Nat :=
  let o := off + 12 * i
  (imgWord img o 3, imgWord img (o + 3) 1, imgWord img (o + 4) 4, imgWord img (o + 8) 4)

/-- The section type that owns the block of an address (R136); 0 none. -/
def blockSect (a : Nat) : Nat :=
  if a < 0x40000 then 1
  else if 0x60000 ≤ a ∧ a < 0x80000 then 8
  else if 0x80000 ≤ a ∧ a < 0x90000 then 3
  else if 0x90000 ≤ a ∧ a < 0xA0000 then 7
  else if 0xA0000 ≤ a ∧ a < 0xB0000 then 4
  else if 0x100000 ≤ a ∧ a < 0x10D000 then 6
  else if 0x200000 ≤ a ∧ a < 0x220000 then 2
  else if 0x280000 ≤ a ∧ a < 0x282000 then 2
  else if 0x300000 ≤ a ∧ a < 0x310000 then 2
  else if 0x310000 ≤ a ∧ a < 0x340000 then 5
  else if 0x400000 ≤ a ∧ a < 0x420000 then 2
  else 0

/-- A record may stand in a section (R137). -/
def recordOk (typ : Nat) (r : Nat × Nat × Nat × Nat) : Bool :=
  r.1 % 4 == 0 && blockSect r.1 == typ && decide (1 ≤ r.2.1) && decide (r.2.1 ≤ 3) && (r.2.1 != 1 || r.2.2.2 == 0)

/-- A directory entry is as R135 and R136 require. -/
def sectOk (img : List Byte) (x : Sect) : Bool :=
  decide (1 ≤ x.typ) && decide (x.typ ≤ 8) && decide (x.flags < 2) && x.off % 4 == 0 && x.len == 12 * x.nrec &&
    decide (0x80 + 16 * imgWord img 0x14 2 ≤ x.off) && decide (x.off + x.len + 64 ≤ img.length) &&
    (List.range x.nrec).all fun i => recordOk x.typ (imgRec img x.off i)

/-- Sections do not overlap, and no TYPE appears twice. -/
def sectsApart : List Sect → Bool
  | [] => true
  | x :: xs => (xs.all fun (y : Sect) => x.typ != y.typ && !overlap (x.off, x.len) (y.off, y.len)) && sectsApart xs

/-- The structure of an image (R134–R137). -/
def imgStructure (img : List Byte) : Bool :=
  let w (o n : Nat) : Nat := imgWord img o n
  let n := w 0x14 2
  decide (0x80 + 64 ≤ img.length) && w 0 4 == 0x52544943 && w 4 2 == 1 && w 6 2 == 0x80 && decide (w 0x10 1 < 8) &&
    decide (1 ≤ n) && decide (n ≤ 8) && w 0x16 2 == 0 && w 0x18 4 == img.length && decide (w 0x1C 4 < 2) &&
    w 0x60 32 == 0 && (imgSects img).all (sectOk img) && sectsApart (imgSects img)

/-- The owner-key digest words agree with the image's OWNER_KEY (R132, R161). -/
def State.ownerOk (s : State) (img : List Byte) : Bool :=
  !((List.range 4).any fun i => bit (s.rd (Fd.OTP_FAIL_FAIL 0)) (20 + i)) &&
    Config.sm3 ((img.drop 0x20).take 64) % 2 ^ 256 == (List.range 4).foldl (fun n i => n + s.otpWord (20 + i) * 2 ^ (64 * i)) 0

/-- The image names this variant, grade and stepping (R132, R134). -/
def State.imgTarget (s : State) (img : List Byte) : Bool :=
  bit (imgWord img 0x10 1) (s.part.lgrp - 2) && bit (imgWord img 0x11 1) s.part.grade &&
    bit (imgWord img 0x12 2) s.part.stepMaj

/-- The signature over the image digest (R134). -/
def imgSigned (img : List Byte) : Bool :=
  let n := img.length - 64
  Config.sm2Verify (imgWord img 0x20 32, imgWord img 0x40 32) (leBytes 32 (Config.sm3 (img.take n)))
    (imgWord img n 32, imgWord img (n + 32) 32)

/-- A verdict on a slot: refused with a reason, or accepted; with the failures that R133 let pass before. -/
inductive Verdict
  | refused (reason : Nat) (bypassed : List Nat)
  | accepted (bypassed : List Nat)
  deriving DecidableEq, Repr

/-- The checks of an image payload in order (R132, R133). -/
def State.imgVerdict (s : State) (img : List Byte) : Verdict :=
  let open' := !s.on Fd.OTP_LC_SECBOOT
  let owner := s.ownerOk img
  let sig := imgSigned img
  let own := if owner then [] else [7]
  if !imgStructure img then .refused 6 []
  else if !owner && !open' then .refused 7 []
  else if !s.imgTarget img then .refused 8 own
  else if imgWord img 0xC 4 < s.svnMin 32 then .refused 4 own
  else if !sig && !open' then .refused 5 own
  else .accepted (own ++ (if sig then [] else [5]))

/-- Vendor ROM key 0 is revoked and key 1 in use (R151): so too where word 9 fails its check (R161). -/
def State.revoke0 (s : State) : Bool := bit (s.rd (Fd.OTP_FAIL_FAIL 0)) 9 || bit (s.otpWord 9) 0

/-- The checks of a firmware payload (R131, R132): its layout is not described, so whether its signature holds under
each vendor key, and its SVN, come from outside. -/
def State.fwVerdict (s : State) (keys : Bool × Bool) (svn : Nat) : Verdict :=
  let signed := if s.revoke0 then keys.2 else keys.1
  if svn < s.svnMin 24 then .refused 4 []
  else if !signed && s.on Fd.OTP_LC_SECBOOT then .refused 5 []
  else .accepted (if signed then [] else [5])

/-- FW_SLOT_INVALID or IMAGE_SLOT_INVALID (R145). `k` is slot 0 to 3. -/
def State.slotInvalid (s : State) (k reason : Nat) (bypass : Bool) : State :=
  s.raise (32 + k / 2) 1 (k % 2 + reason * 16 + b2n bypass * 256)

/-- The bypasses of an accepted slot are reported (R133). -/
def State.bypassed (s : State) (k : Nat) (l : List Nat) : State :=
  l.foldl (fun (s : State) r => s.slotInvalid k r true) s

/-! ### Update sessions (R142, R143) -/

/-- RESULT of NVM_UPD_CTL. -/
def State.updResult (s : State) (r : Nat) : State := s.wr Fd.NVM_UPD_CTL_RESULT r

def State.setUpd (s : State) (u : Option Session) : State := { s with nvm := { s.nvm with upd := u } }

/-- Slot 0 to 3 has failed verification, or is no longer known to fail it (R124). -/
def State.shutOut (s : State) (k : Nat) (bad : Bool) : State :=
  let f (l : List Nat) : List Nat := l.filter (· != k % 2) ++ (if bad then [k % 2] else [])
  { s with boot := if k < 2 then { s.boot with fwBad := f s.boot.fwBad } else { s.boot with imgBad := f s.boot.imgBad } }

/-- BEGIN reaches the journal; the erase starts, or the slot is ready (R142 step 1). -/
def State.updOpen (s : State) (u : Session) : State :=
  let secs := s.dirtySectors u.slot (64 + u.len)
  let e := s.slotErases u.slot + (if secs.isEmpty then 0 else 1)
  let s := s.append { typ := 1, slot := u.slot, seq := u.seq, erases := e }
  let s := if secs.isEmpty then s else s.noteErases u.slot e
  (s.setUpd (some { u with erases := e, sectors := secs, begun := true })).updResult (if secs.isEmpty then 1 else 2)

/-- BEGIN from an interface: 0 to 11 a port, 15 the sideband. -/
def State.updBeginGo (s : State) (src : Nat) : State :=
  let tgt := s.rd Fd.NVM_UPD_CTL_TARGET
  let pair := tgt - 1
  let len := s.rd Fd.NVM_UPD_LEN_LEN
  let busy := s.nvm.upd.isSome || (match s.nvm.wr with
    | some w => w.slot / 2 == pair
    | none => false)
  if !(s.mode = mSERVICE ∨ s.mode = mDEGRADED ∨ (s.mode = mBOOT ∧ s.boot.halt ∧ src = 15)) then s.updResult 7
  else if busy then s.updResult 3
  else if len = 0 ∨ len % 4 ≠ 0 ∨ slotSize (2 * pair) - 64 < len then s.updResult 5
  else if s.stopped pair then s.updResult 8
  else
    let (k, seq) := s.loser pair (if pair = 0 then s.boot.fwBad else s.boot.imgBad)
    let u : Session :=
      { src, slot := k, seq, erases := 0, len, off := 0, buf := [], sectors := [], begun := false, fin := false, hdr := false }
    if s.nvm.wr.isSome then (s.setUpd (some u)).updResult 2 else s.updOpen u

/-- LEN is written, then BEGIN with its TARGET; a GO refused with BUSY while a session is open leaves OP and TARGET as they
were (R740). -/
def State.updBegin (s : State) (src target len : Nat) : State :=
  let u := s.wr Fd.NVM_UPD_LEN_LEN len
  let t := ((u.wr Fd.NVM_UPD_CTL_OP 1).wr Fd.NVM_UPD_CTL_TARGET target).updBeginGo src
  if s.nvm.upd.isSome ∧ t.rd Fd.NVM_UPD_CTL_RESULT = 3 then u.updResult 3 else t

/-- BEGIN (R142). -/
def execUpdBegin (src target len : Nat) (s : State) : Host.Outcome State Fault Refusal :=
  s.act (if target = 1 ∨ target = 2 then s.updBegin src target len else s)

/-- UPD_ERASE_COMPLETE (R142): the erase ends; a session that waited behind a record write begins. -/
def execUpdEraseComplete (s : State) : Host.Outcome State Fault Refusal :=
  s.act (match s.nvm.upd with
  | none => s
  | some u =>
    if !u.begun then (if s.nvm.wr.isSome then s else s.updOpen u)
    else if u.sectors.isEmpty then s
    else
      let s := u.sectors.foldl (fun (s : State) a => s.eraseSector a) s
      (s.setUpd (some { u with sectors := [] })).updResult 1)

/-- What a data write comes to (R142 step 2). -/
inductive DataWrite
  | done | ignored | later
  deriving DecidableEq, Repr

/-- A write of NVM_UPD_DATAk. -/
def State.updData (s : State) (src w : Nat) : State × DataWrite :=
  match s.nvm.upd with
  | none => (s, .ignored)
  | some u =>
    if u.src ≠ src ∨ u.fin ∨ u.len < u.off + 4 then (s, .ignored)
    else if !u.begun ∨ !u.sectors.isEmpty ∨ 4096 < u.buf.length + 4 then (s, .later)
    else (s.setUpd (some { u with off := u.off + 4, buf := u.buf ++ leBytes 4 w }), .done)

/-- NVM_UPD_DATA (R142): a data write from an interface. -/
def execNvmUpdData (src word : Nat) (s : State) : Host.Outcome State Fault Refusal := s.act (s.updData src word).1

/-- Payload bytes already in flash. -/
def Session.stored (u : Session) : Nat := u.off - u.buf.length

/-- The digest is judged; the header's page comes next (R142 step 3). Whether a FINISH that ends with DIGEST closes the
session is not stated: the model closes it (DESIGN CHOICE, assumption 56). -/
def State.updCheck (s : State) (u : Session) : State :=
  let want := (List.range 8).foldl (fun n k => n + s.rd (Fd.NVM_UPD_DIG_DIG k) * 2 ^ (32 * k)) 0
  if Config.sm3 (s.flashBytes (slotBase u.slot + 64) u.len) % 2 ^ 256 = want then s.setUpd (some { u with hdr := true })
  else (s.setUpd none).updResult 6

/-- FINISH from an interface. A second FINISH while one runs is not covered by R142, which names BUSY for BEGIN only, nor
settled by R740: it has no effect, and RESULT stays pending (DESIGN CHOICE, assumption 56). -/
def State.updFinishGo (s : State) (src : Nat) : State :=
  match s.nvm.upd with
  | none => s.updResult 4
  | some u =>
    if u.src ≠ src then s.updResult 4
    else if u.fin then s
    else if u.off ≠ u.len then s.updResult 5
    else
      let u := { u with fin := true }
      let s := s.updResult 2
      if u.buf.isEmpty then s.updCheck u else s.setUpd (some u)

/-- FINISH (R142): the digest, then GO. -/
def execUpdFinish (src digest : Nat) (s : State) : Host.Outcome State Fault Refusal :=
  s.act (((List.range 8).foldl (fun (s : State) k => s.wr (Fd.NVM_UPD_DIG_DIG k) (digest / 2 ^ (32 * k))) s).wr
    Fd.NVM_UPD_CTL_OP 2 |>.updFinishGo src)

/-- CANCEL from an interface. -/
def State.updCancelGo (s : State) (src : Nat) : State :=
  match s.nvm.upd with
  | none => s.updResult 4
  | some u => if u.src ≠ src then s.updResult 4 else (s.setUpd none).updResult 1

/-- CANCEL (R142). -/
def execUpdCancel (src : Nat) (s : State) : Host.Outcome State Fault Refusal :=
  s.act ((s.wr Fd.NVM_UPD_CTL_OP 3).updCancelGo src)

/-- NVM_UPD_CANCEL (R142): 10 s without a write of an update register. -/
def execNvmUpdCancel (s : State) : Host.Outcome State Fault Refusal :=
  s.act (match s.nvm.upd with
  | none => s
  | some u => (s.setUpd none).raise 38 1 (u.slot + 32))

/-- The updated slot is verified; a failure raises the slot event and shuts the slot out, so that the previous winner
stays in force (R124, R141, R142). Of the firmware slot in use, what its signature and SVN are is kept for R144. -/
def State.updVerify (s : State) (k : Nat) (keys : Bool × Bool) (svn : Nat) : State :=
  let s := if k < 2 ∧ s.boot.fwRun ∧ k = s.rd Fd.NVM_BOOT_STAT_FW_SLOT then
    { s with boot := { s.boot with fwSig := (keys, svn) } } else s
  match s.slotFault k with
  | some r => (s.slotInvalid k r false).shutOut k true
  | none =>
    match (if k < 2 then s.fwVerdict keys svn else s.imgVerdict (s.slotPayload k)) with
    | .refused r l => ((s.bypassed k l).slotInvalid k r false).shutOut k true
    | .accepted l => (s.bypassed k l).shutOut k false

/-- Bytes as programmed, with the bits that did not take. -/
def flipped (flips : List (Nat × Nat)) (bs : List Byte) : List Byte :=
  flips.foldl (fun bs (f : Nat × Nat) =>
    if f.1 < bs.length then setNth bs f.1 (nth 0 bs f.1 ^^^ BitVec.ofNat 8 f.2) else bs) bs

/-- A page of the session's (R142): payload as a page fills or FINISH runs, then the header. -/
def State.updPage (s : State) (u : Session) (flips : List (Nat × Nat)) (keys : Bool × Bool) (svn : Nat) : State :=
  let a := slotBase u.slot + 64 + u.stored
  let room := 256 - a % 256
  if u.hdr then
    let h := slotHeader (slotKind u.slot) u.seq u.erases (s.flashBytes (slotBase u.slot + 64) u.len)
    let s := s.program (slotBase u.slot) (flipped flips h)
    if flipped flips h = h then
      let s := (s.setUpd none).append { typ := 2, slot := u.slot, seq := u.seq, erases := u.erases }
      (s.updVerify u.slot keys svn).updResult 1
    else ((s.setUpd none).updResult 9).raise 38 1 u.slot
  else if room ≤ u.buf.length ∨ (u.fin ∧ !u.buf.isEmpty) then
    let bs := u.buf.take room
    let s := s.program a (flipped flips bs)
    if flipped flips bs = bs then
      let u := { u with buf := u.buf.drop room }
      if u.fin ∧ u.buf.isEmpty then s.updCheck u else s.setUpd (some u)
    else ((s.setUpd none).updResult 9).raise 38 1 u.slot
  else s

/-- PAGE_PROGRAM_COMPLETE (R126, R142): the next page of the record write, or of the session, with the bits that
did not take; of an updated firmware, whether its signature holds under each
vendor key, and its SVN. -/
def execPageProgramComplete (flips : List (Nat × Nat)) (keys : Bool × Bool) (svn : Nat) (s : State) :
    Host.Outcome State Fault Refusal :=
  s.act (match s.nvm.wr with
  | some w =>
    (match w.sectors, w.pages with
    | [], (a, bs) :: rest =>
      let s := s.program a (flipped flips bs)
      if rest.isEmpty then s.recordEnd w else { s with nvm := { s.nvm with wr := some { w with pages := rest } } }
    | _, _ => s)
  | none =>
    match s.nvm.upd with
    | some u => s.updPage u flips keys svn
    | none => s)

/-! ### Writing cut off (R68, R69, R127) -/

/-- The page being programmed, with its flash address. -/
def State.pageNow (s : State) : Option (Nat × List Byte) :=
  match s.nvm.wr, s.nvm.upd with
  | some w, _ => (match w.sectors, w.pages with
    | [], p :: _ => some p
    | _, _ => none)
  | none, some u =>
    let a := slotBase u.slot + 64 + u.stored
    let room := 256 - a % 256
    if u.hdr then
      some (slotBase u.slot, slotHeader (slotKind u.slot) u.seq u.erases (s.flashBytes (slotBase u.slot + 64) u.len))
    else if room ≤ u.buf.length ∨ (u.fin ∧ !u.buf.isEmpty) then some (a, u.buf.take room)
    else none
  | none, none => none

/-- Bytes of which some bits have not yet been programmed to 0: bit i of byte k still reads 1 where bit 8 k + i of `n` is
set. -/
def partPage (bs : List Byte) (n : Nat) : List Byte :=
  (List.range bs.length).map fun k => nth 0 bs k ||| BitVec.ofNat 8 (n / 2 ^ (8 * k))

/-- The page being programmed is finished (R68, R127); `early`: VDD_IO falls first, and the page holds partial data
(R69). -/
def State.finishPage (s : State) (early : Bool := false) : State :=
  match s.pageNow with
  | none => s
  | some (a, bs) => if early then s.drawn.program a (partPage bs s.free) else s.program a bs

/-- Writing ends (R127): the page in progress is finished, an erase is abandoned, an open session closes. -/
def State.cutWrites (s : State) : State :=
  { s.finishPage with nvm := { s.finishPage.nvm with wr := none, upd := none } }

end Sys2Proof.Machine
end

