-- ==== Sys2Proof/Machine/MirrorIn.lean ====
section
/-! DEFINITION. Writes forwarded by the partner (R579, R580, R582): an MWR applied, in arrival order,
behind a merge that locks its line. -/

namespace Sys2Proof.Machine

/-- A region's copy becomes CURRENT or STALE (R588). -/
def State.setCurrent (s : State) (n : Nat) (b : Bool) : State :=
  s.wrBit (if n < 32 then Fd.PAIR_CURRENT_LO_CUR else Fd.PAIR_CURRENT_HI_CUR) (n % 32) b

/-- PAIR_CURRENT_LO and HI as one mask. -/
def State.currentMask (s : State) : Nat :=
  s.rd Fd.PAIR_CURRENT_LO_CUR + s.rd Fd.PAIR_CURRENT_HI_CUR * 2 ^ 32

/-- A message for the partner waits on the pair link. -/
def State.pairSend (s : State) (m : PairMsg) : State :=
  { s with pair := { s.pair with out := s.pair.out ++ [m] } }

/-- The line of an MWR written as received (R365, R555, R579), charged to its label and admitted at the urgency it came
with, to age against the PAIR target; a resynchronisation's does not age (R516, R529). -/
def State.mwrWrite (s : State) (line : Nat) (keyed poison copy : Bool) (urg label : Nat) (entry data : List Byte) :
    State :=
  let a := 64 * line
  let s := s.charge label 64 (decide (cremaWin ≤ a))
  let s := s.hostTouch a
  if a < cremaWin then
    let s := match s.rgnOf a with
      | some n => if keyed ∧ !poison ∧ (s.rgn n).key ≠ 0 then (s.keepTag a s.nextSeq).writeTag (s.tagEntry n a) entry else s
      | none => s
    s.writeCurrent line 12 data poison (if copy then 0 else urg) (!copy)
  else if poison then (s.carry 12 line).cPoisonBytes (s.userOff a) 64
  else (s.carry 12 line).cWrite (s.userOff a) (line64 data)

/-- The tag entry or the line itself lies in a fence (R580, R552). -/
def State.mwrFenced (s : State) (n a : Nat) : Bool := s.lineFenced a || s.tagFenced n a

/-- An MWR is applied and answered (R579, R580, R582). -/
def State.mwrApply (s : State) (xid line : Nat) (keyed poison copy : Bool) (urg label : Nat)
    (entry data : List Byte) : State :=
  let a := 64 * line
  match s.rgnOf a with
  | none => s.pairSend (.mcmt xid 8)
  | some n =>
    if !(s.rgn n).mirror then s.pairSend (.mcmt xid 8)
    else if s.mwrFenced n a then ((s.setCurrent n false).raise 103 2 (a / 64 * 64)).pairSend (.mcmt xid 7)
    else if s.rd Fd.PAIR_STAT_ROLE = 1 ∧ !copy ∧ s.pair.pendW.any (fun (e : Nat × Nat × Nat) => e.2.1 == line)
    then s.pairSend (.mcmt xid 0)
    else
      let s := s.mwrWrite line keyed poison copy urg label entry data
      let s := match s.pair.resync with
        | some r => if r.inRgn = some n ∧ copy then
            { s with pair := { s.pair with resync := some { r with inPoint := max r.inPoint line } } } else s
        | none => s
      s.pairSend (.mcmt xid 0)

/-- An MWR waits while an earlier one waits or a merge locks its line (R327, R579). -/
def State.mwrWaits (s : State) (line : Nat) : Bool :=
  decide (64 * line < cremaWin) && (s.pc (pcOf (64 * line))).locked line

/-- The waiting MWRs are applied while the first is free to go. -/
def State.mwrDrain (s : State) : List PairMsg → State
  | [] => { s with pair := { s.pair with waitW := [] } }
  | .mwr xid line keyed poison copy urg label entry data :: l =>
    if s.mwrWaits line then
      { s with pair := { s.pair with waitW := .mwr xid line keyed poison copy urg label entry data :: l } }
    else (s.mwrApply xid line keyed poison copy urg label entry data).mwrDrain l
  | _ :: l => s.mwrDrain l

def State.mwrRetry (s : State) : State := s.mwrDrain s.pair.waitW

/-- An MWR arrives (R579). -/
def State.mwrIn (s : State) (xid line : Nat) (keyed poison copy : Bool) (urg label : Nat)
    (entry data : List Byte) : State :=
  if s.pair.waitW.isEmpty ∧ !s.mwrWaits line then s.mwrApply xid line keyed poison copy urg label entry data
  else { s with pair := { s.pair with
    waitW := s.pair.waitW ++ [PairMsg.mwr xid line keyed poison copy urg label entry data] } }

end Sys2Proof.Machine
end

