-- ==== Sys2Proof/Machine/Ctl.lean ====
section
/-! DEFINITION. The pseudo-channel controllers and channel groups: queue entry (R318, R321–R328),
scheduling (R329–R332), refresh (R335–R342), self-refresh (R344), the duplicated scheduler
(R347–R350) and channel-group fences (R351). -/

namespace Sys2Proof.Machine

/-! ### Queues -/

/-- The oldest transfer an initiator port presents to a target port: the fabric keeps their order (R15, R17). -/
def State.headFor (s : State) (ini target : Nat) : Option Acc :=
  s.fabric.find? fun a => a.ini == ini && lineTarget a.line == target

/-- The lines of one access that are still in the fabric, in order: a read or write takes the entries of all of them at
once (R318). -/
def State.accessOf (s : State) (a : Acc) : List Acc :=
  s.fabric.filter fun o => o.txn == a.txn && o.ini == a.ini && o.kind == a.kind && pcOf (64 * o.line) == pcOf (64 * a.line)

/-- The target can accept the transfer: its gate is open (R101) and the entries it needs are free (R318), a locked line's
write waits (R327); the fence drain answers a fenced group's reads and merges (R351). -/
def State.takes (s : State) (a : Acc) : Bool :=
  if 2 ^ 33 ≤ a.line then true
  else
    let k := pcOf (64 * a.line)
    let p := s.pc k
    if s.cgFenced (k / 4) ∧ a.kind ≠ .write then true
    else if s.clk.cgClosed.contains (k / 4) ∧ !s.cgFenced (k / 4) then false
    else match a.kind with
      | .read => decide (p.rq.length + (s.accessOf a).length ≤ 64)
      | .write => !((s.accessOf a).any fun o => p.locked o.line) && decide (p.wq.length + (s.accessOf a).length ≤ 64)
      | .merge => decide (p.mb.length < 16)

/-- The initiators in the order of a target's round-robin: those after the one granted last come first (R16). -/
def State.turns (s : State) (target : Nat) : List Nat :=
  let last := Tab.get (fun _ => (0 : Nat)) s.grant target
  (List.range 17).map fun i => (last + 1 + i) % 17

/-- The transfer a target's arbiter grants among those presented that it can accept: highest urgency first, then
round-robin over the initiators (R16). One that the target cannot accept holds up its own initiator only (DEDUCED,
assumption 63). -/
def State.granted (s : State) (target : Nat) : Option Acc :=
  let heads := ((s.turns target).filterMap fun i => s.headFor i target).filter s.takes
  let top := heads.foldl (fun m a => max m a.urg) 0
  heads.find? fun a => a.urg == top

/-- The transfer granted at a pseudo-channel's group, if it is one of an initiator to the pseudo-channel. -/
def State.nextFor (s : State) (k ini : Nat) : Option Acc :=
  (s.granted (k / 4)).filter fun a => a.ini == ini && pcOf (64 * a.line) == k

/-- A transfer leaves the fabric for its target. -/
def State.taken (s : State) (a : Acc) (target : Nat) : State :=
  { s with
    fabric := s.fabric.filter (·.seq != a.seq)
    grant := Tab.put (fun _ => 0) s.grant target a.ini }

/-- The access numbered as it enters the controller. -/
def State.numbered (s : State) (a : Acc) : State × Acc :=
  ({ s with nextSeq := s.nextSeq + 1 }, { a with seq := s.nextSeq, born := s.clk.time })

/-- A read enters the read queue, and counts when it waits for an older write or merge (R323). -/
def State.enterRead (s : State) (k : Nat) (a : Acc) : State :=
  let (s, a) := (s.taken a (k / 4)).numbered a
  let s := s.enterBank k a
  let p := s.pc k
  let waits := (p.wq.any fun w => w.line == a.line) || p.locked a.line
  let p := { p with
    rq := p.rq ++ [a]
    wq := p.wq.map fun w => if w.line = a.line then { w with urg := max w.urg a.urg } else w }
  let s := s.setPc k p
  if waits then s.count (Fd.PC_RAW_COUNT k) (Fd.PC_RAW_OVF k) 1 else s

/-- The line write of a request occupies a write-queue entry and its completion is formed
(R321, R550, R578). -/
def State.enterWrite (s : State) (k : Nat) (a : Acc) : State :=
  let s := s.taken a (k / 4)
  let (s, data, entry) := (s.keepTag (64 * a.line) s.nextSeq).pipeWrite (64 * a.line) a.data a.poison
  let (s, b) := s.numbered { a with data }
  let s := (s.enterBank k b).pushWq b
  let s := s.mirrorLine a.txn (64 * a.line) data entry a.poison
  (s.hostTouch (64 * a.line)).answered a.txn id

/-- A WRP or ATOM takes a merge-buffer entry (R327, R328). -/
def State.enterMerge (s : State) (k : Nat) (a : Acc) : State :=
  let (s, a) := (s.taken a (k / 4)).numbered a
  let s := s.enterBank k a
  let p := s.pc k
  let waits := (p.wq.any fun w => w.line == a.line) || p.locked a.line
  let s := s.setPc k { p with mb := p.mb ++ [a] }
  if waits then s.count (Fd.PC_RAW_COUNT k) (Fd.PC_RAW_OVF k) 1 else s

/-- Bytes of a line selected by a mask replaced (R279). -/
def mergeBytes (mask : Nat) (data line : List Byte) : List Byte :=
  (List.range 64).map fun i => if bit mask i then nth 0 data i else nth 0 line i

/-- The new word of an ATOM (R280). -/
def atomNew (op : Nat) (sgn : Bool) (old a b : Nat) : Nat :=
  let le (x y : Nat) : Bool := if sgn then decide (signed 64 x ≤ signed 64 y) else decide (x ≤ y)
  match op with
  | 0 => (old + a) % 2 ^ 64
  | 1 => if old = b then a else old
  | 2 => a
  | 3 => if le old a then old else a
  | 4 => if le old a then a else old
  | 5 => Nat.land old a
  | _ => Nat.lor old a

/-- A merge on a clean line: the new line, RESULT, and whether it is written (R279, R280). -/
def MergeOp.run (m : MergeOp) (line : List Byte) : List Byte × Nat × Bool :=
  match m with
  | .wrp mask data => (mergeBytes mask data line, 0, true)
  | .atom op sgn off a b =>
    let old := leNat ((line.drop off).take 8)
    let new := atomNew op sgn old a b
    (patch line off (leBytes 8 new), old, new != old)

/-- The read of a merge has returned: the line is merged and takes a write-queue entry at the merge's place in the order of
entry, before every access that waited for its lock (R323, R328), or the lock is released without a write (R327). -/
def State.mergeEnd (s : State) (k : Nat) (a : Acc) (data : List Byte) (poison : Bool) : State :=
  let p := s.pc k
  let s := s.setPc k { p with
    mb := p.mb.filter (·.seq != a.seq), issued := p.issued.filter (· != a.seq) }
  let (s, plain, psn) := s.pipeRead (64 * a.line) data poison a.tag
  match a.mop with
  | none => s
  | some m =>
    if psn then (s.answered a.txn fun t => { t with poison := true, result := 0 }).settleBank k a.bank
    else
      let (new, res, changed) := m.run plain
      if changed then
        let (s, stored, entry) := (s.keepTag (64 * a.line) a.seq).pipeWrite (64 * a.line) new false
        let w := { a with kind := .write, data := stored, mop := none, tag := none }
        let s := (s.pushWq w).mirrorLine a.txn (64 * a.line) stored entry false
        (s.hostTouch (64 * a.line)).answered a.txn fun t => { t with result := res }
      else (s.answered a.txn fun t => { t with result := res }).settleBank k a.bank

/-- A merge ends, and forwarded writes that waited for its lock are applied (R327, R579). -/
def State.mergeDone (s : State) (k : Nat) (a : Acc) (data : List Byte) (poison : Bool) : State :=
  (s.mergeEnd k a data poison).mwrRetry

/-- The data of a read or merge read returns and is decoded (R363, R366). -/
def State.readReturns (s : State) (k : Nat) (a : Acc) (flips : List (Nat × Nat)) : State :=
  let r := s.readLine a.line (if a.kind = .merge then 1 else 0) flips
  if a.kind = .merge then r.s.mergeDone k a r.data r.poison
  else
    let p := r.s.pc k
    let s := r.s.setPc k { p with
      rq := p.rq.filter (·.seq != a.seq), issued := p.issued.filter (· != a.seq) }
    let (s, d, psn) := s.pipeRead (64 * a.line) r.data r.poison a.tag
    (s.settleBank k a.bank).deliver a d psn

/-! ### Scheduling (R329–R332) -/

/-- Reads and merges waiting for their read command. -/
def Pc.readsWaiting (p : Pc) : List Acc := (p.rq ++ p.mb).filter fun a => !p.issued.contains a.seq

/-- The direction the pseudo-channel serves now (R329). -/
def State.writeMode (s : State) (k : Nat) : Bool :=
  let p := s.pc k
  let g := k / 4
  let reads := !p.readsWaiting.isEmpty
  let n := p.writable.length
  if p.wmode then
    if n = 0 then false
    else if n ≤ s.rd (Fd.CG_SCHED_WQ_LO g) ∧ reads then false
    else if 4 ≤ p.burst3 ∧ n < 64 ∧ p.readsWaiting.any (fun a => a.urg == 3) then false
    else true
  else decide (s.rd (Fd.CG_SCHED_WQ_HI g) ≤ n) || (!reads && decide (0 < n))

/-- The oldest promoted write of a bank: unissued, with a read or merge of its line queued behind it (R323). -/
def Pc.promoted (p : Pc) (b : Nat) : Option Acc :=
  p.wq.find? fun w => w.bank == b && !p.wissued.contains w.seq &&
    (p.rq ++ p.mb).any fun o => o.line == w.line && decide (w.seq < o.seq)

/-- A promoted write is the next column command of its bank, but for the older reads of its line that it waits for
(R323, R324). -/
def Pc.yields (p : Pc) (a : Acc) : Bool :=
  match p.promoted a.bank with
  | some w => a.seq != w.seq && !(a.line == w.line && decide (a.seq < w.seq))
  | none => false

/-- An access may have its next command: it waits for the older accesses of its line (R323, R324, R328), for its bank's
promoted write or, in an in-order bank, for every older one (R323, R326), for a forced or targeted refresh of its bank
(R330), and for its direction's turn (R329). -/
def State.candidate (s : State) (k : Nat) (wmode : Bool) (a : Acc) : Bool :=
  let p := s.pc k
  let x := p.bank a.bank
  let older (o : Acc) : Bool := decide (o.seq < a.seq)
  let oldest := !(p.accs.any fun o => o.bank == a.bank && older o &&
    !p.issued.contains o.seq && !p.wissued.contains o.seq)
  (if x.inOrder then oldest else !p.yields a) && decide (x.debt < 8) && x.trrDue.isEmpty &&
  (if a.kind = .write then
    !p.wissued.contains a.seq &&
    !((p.rq ++ p.mb).any fun o => o.line == a.line && older o && !p.issued.contains o.seq) &&
    (wmode || (p.rq ++ p.mb).any fun o => o.line == a.line && decide (a.seq < o.seq))
  else
    !p.issued.contains a.seq && !wmode &&
    !(p.wq.any fun o => o.line == a.line && older o) && !(p.mb.any fun o => o.line == a.line && older o))

/-- The first access is preferred to the second (R330 steps 2 to 5, R331). -/
def State.prefer (s : State) (k : Nat) (a b : Acc) : Bool :=
  let p := s.pc k
  let g := k / 4
  let cap := 128 * 2 ^ s.rd (Fd.CG_SCHED_AGE_CAP g)
  let old (x : Acc) : Bool := decide (7 * cap < (s.clk.time - x.born) * 40)
  let hit (x : Acc) : Bool :=
    let bk := p.bank x.bank
    bk.openRow == some x.row &&
      !(decide (s.rd (Fd.CG_SCHED_HIT_CAP g) < bk.hits) &&
        p.accs.any fun o => o.bank == x.bank && decide (o.seq < x.seq) && s.accUrg o == s.accUrg x && o.row != x.row)
  if old a ≠ old b then old a
  else if old a then decide (a.seq < b.seq)
  else if s.accUrg a ≠ s.accUrg b then decide (s.accUrg b < s.accUrg a)
  else if hit a ≠ hit b then hit a
  else decide (a.seq < b.seq)

/-- The column command of an access: it leaves for the array, and its row may close (R332). -/
def State.column (s : State) (k : Nat) (a : Acc) : State :=
  let p := s.pc k
  let x := p.bank a.bank
  let s := if x.hits = 0 then s else s.count (Fd.PC_HIT_COUNT k) (Fd.PC_HIT_OVF k) 1
  let p := if a.kind = .write then
      { p with
        wissued := p.wissued ++ [a.seq]
        burst3 := if p.readsWaiting.any (fun o => o.urg == 3) then p.burst3 + 1 else 0 }
    else { p with issued := p.issued ++ [a.seq], burst3 := 0 }
  let hitsQueued := p.accs.any fun o => o.seq != a.seq && o.bank == a.bank && o.row == a.row &&
    !p.issued.contains o.seq && !p.wissued.contains o.seq
  let close := (a.noalloc || s.pageTimer a.line == 0) && !hitsQueued
  s.setPc k (p.setBank a.bank { x with
    hits := x.hits + 1, openRow := if close then none else x.openRow })

/-- The next command of an access: precharge, activate or column (R330). -/
def State.command (s : State) (k : Nat) (a : Acc) : State :=
  let p := s.pc k
  let x := p.bank a.bank
  match x.openRow with
  | none => s.activate k a.bank a.row
  | some r => if r = a.row then s.column k a else s.setPc k (p.setBank a.bank { x with openRow := none })

/-- A bank's next command issues: the last one passed its address parity (R350). -/
def State.caPassed (s : State) (k b : Nat) : State :=
  s.setCg (k / 4) { s.cg (k / 4) with caRun := Tab.put (fun _ => 0) (s.cg (k / 4)).caRun (64 * k + b) 0 }

/-- The scheduler issues the preferred command among the accesses whose next command timing
permits (R330). -/
def State.commandIssue (s : State) (k : Nat) (ready : List Nat) : State :=
  let p := s.pc k
  if p.selfRef ∨ s.cgFenced (k / 4) then s
  else
    let w := s.writeMode k
    let s := s.setPc k { p with wmode := w, burst3 := if w = p.wmode then p.burst3 else 0 }
    let cs := (s.pc k).accs.filter fun a => ready.contains a.seq && s.candidate k w a
    match cs.foldl (fun (m : Option Acc) a => match m with
      | none => some a
      | some b => if s.prefer k a b then some a else m) none with
    | some a => (s.caPassed k a.bank).command k a
    | none => s

/-- A write burst completes: its entry leaves the queue, unless an older read of the line whose
command has issued still waits for its data (R321, R324). -/
def State.writeBurst (s : State) (k : Nat) : State :=
  let p := s.pc k
  match p.wissued with
  | [] => s
  | n :: _ => match p.wq.find? (·.seq == n) with
    | none => s.setPc k { p with wissued := p.wissued.drop 1 }
    | some a =>
      if (p.rq ++ p.mb).any fun o => o.line == a.line && decide (o.seq < a.seq) then s
      else (s.burstDone k a).settleBank k a.bank

/-! ### Refresh (R335–R340) -/

/-- A bank's interval passes: the refresh issues where the bank holds no queued access, or the debt rises, and +8 forces
one (R336). `early`: an idle bank is also refreshed early. -/
def State.refresh (s : State) (k b : Nat) (early : Bool) : State :=
  let p := s.pc k
  if p.selfRef then s
  else
    let x := p.bank b
    let busy := p.accs.any fun a => a.bank == b
    let issue := !busy || decide (8 ≤ x.debt + 1)
    let n : Int := (if issue then 1 else 0) + (if early ∧ !busy ∧ -8 < x.debt then 1 else 0)
    s.setPc k (p.setBank b { x with
      debt := min 8 (x.debt + 1 - n)
      refRow := (x.refRow + n.toNat) % 8208
      openRow := if 0 < n then none else x.openRow })

/-- A lent slot (R337): the bank stays closed and its debt rises; none while the debt is above +4. -/
def State.lends (s : State) (k b : Nat) : Bool := decide (((s.pc k).bank b).debt ≤ 4)

def State.lend (s : State) (k b : Nat) : State :=
  let p := s.pc k
  let x := p.bank b
  s.setPc k (p.setBank b { x with debt := x.debt + 1, openRow := none })

/-! ### Remap buffer (R381, R382) -/

/-- House firmware's remap of a row is done or refused with NO_SPARE: it acknowledges the row's DRAM_UE messages that have a
real part (R692). -/
def State.rowAcked (s : State) (k b row : Nat) : State :=
  s.fwAck fun (m : Msg) => m.source == 137 && m.kind != 2 && pcOf m.addr == k && bankOf m.addr == b && rowOf m.addr == row

/-- The buffer of a group is written and the map switches (R381 steps 3 and 4). -/
def State.remapFinish (s : State) (g : Nat) : State :=
  match (s.cg g).remap with
  | some r => match r.lines with
    | some ls =>
      let s := (s.setCg g { s.cg g with remap := none }).actCount r.pc r.bank
        (if r.bist = 2 then r.row else 8192 + r.spare)
      let keys := rowLines r.pc r.bank r.row
      let s := (List.range 16).foldl (fun s i =>
        let e := nth (List.replicate 64 0, true) ls i
        s.writeDram (nth 0 keys i) e.1 e.2) s
      let p := s.pc r.pc
      let s := s.setPc r.pc (p.setBank r.bank { p.bank r.bank with recovering := true })
      if r.bist ≠ 0 then s.bistMoved r
      else
        let new : Repair := { kind := 1, pc := r.pc, bank := r.bank, target := r.row, spare := r.spare }
        let s := (s.putRepair new true).softAppend (new.entry false)
        ((s.wr Fd.BST_REP_CMD_RESULT 1).raise 139 2 (rowAddr r.pc r.bank r.row)).rowAcked r.pc r.bank r.row
    | none => s
  | none => s

/-! ### Self-refresh (R344) -/

/-- The oldest access of a list. -/
def oldestAcc (l : List Acc) : Option Acc :=
  l.foldl (fun (m : Option Acc) a => match m with
    | none => some a
    | some b => if a.seq < b.seq then some a else some b) none

/-- What has to leave a pseudo-channel's queues before its write queue is written: the queued writes, with `merges` the
merges, and the reads that go before one of them on their line (R324, R327). -/
def Pc.toFlush (p : Pc) (merges : Bool) : List Acc :=
  let w := p.wq ++ (if merges then p.mb else [])
  w ++ p.rq.filter fun r => w.any fun o => o.line == r.line && decide (r.seq < o.seq)

/-- The queued accesses that have to leave do so, oldest first: at most `n` of them. -/
def State.flushN (s : State) (k : Nat) (merges : Bool) : Nat → State
  | 0 => s
  | n + 1 =>
    match oldestAcc ((s.pc k).toFlush merges) with
    | none => s
    | some a => (if a.kind = .write then s.burstDone k a else s.readReturns k a []).flushN k merges n

/-- The whole write queue goes to DRAM, with `merges` every merge completed first (R321, R344 step 1). -/
def State.flushPc (s : State) (k : Nat) (merges : Bool) : State :=
  let p := s.pc k
  (s.flushN k merges (p.rq.length + p.wq.length + 2 * p.mb.length)).settleAll k

/-- A group's WCK is about to switch: its write queues are written and its banks precharged (R38, R321, R338). -/
def State.wckStop (s : State) (g : Nat) : State :=
  (List.range 4).foldl (fun s i =>
    let s := s.flushPc (4 * g + i) false
    let p := s.pc (4 * g + i)
    s.setPc (4 * g + i) { p with banks := p.banks.map fun (e : Nat × Bank) => (e.1, { e.2 with openRow := none }) }) s

/-- A group switches to the level it now follows (R38, R619). -/
def State.groupSwitch (s : State) (g : Nat) : State :=
  let s := if s.rd (Fd.CG_STAT_EFF_LEVEL g) = s.effLevel g (s.baseLevel g) then s else s.wckStop g
  (s.groupFollow g).calSettle g

/-- A pseudo-channel enters self-refresh: tag lines, merges, write queue, precharge (R344, R382,
R551). -/
def State.enterSelfRef (s : State) (k : Nat) : State :=
  if (s.pc k).selfRef then s
  else
    let s := (s.cleanTags.remapFinish (k / 4)).flushPc k true
    let p := s.pc k
    s.setPc k { p with
      selfRef := true
      banks := p.banks.map fun e => (e.1, { e.2 with openRow := none }) }

/-! ### Fences (R351) -/

/-- A channel group is fenced: the drain sequencer takes over, and DEGRADED is asked for (R351,
R694). -/
def State.fenceCg (s : State) (g : Nat) : State :=
  if s.cgFenced g then s
  else (((s.wr (Fd.CG_CTL_FENCE g) 1).setCg g { s.cg g with draining := true }).abortCgTest g).askDegraded false

/-- The drain sequencer of a pseudo-channel (R351 steps 1 to 3), with the transfers still in the
fabric. -/
def State.drainPc (s : State) (k : Nat) : State :=
  let mine := s.fabric.filter fun a => decide (a.line < 2 ^ 33) && pcOf (64 * a.line) == k
  let s := mine.foldl (fun s a =>
    if a.kind = .write then s.enterWrite k a else (s.taken a (k / 4)).aborted a.txn) s
  let s := ((s.pc k).rq.filter fun a => (s.pc k).issued.contains a.seq).foldl (fun s a => s.readReturns k a []) s
  let s := ((s.pc k).mb.filter fun a => (s.pc k).issued.contains a.seq).foldl (fun s a => s.readReturns k a []) s
  let s := s.flushWq k
  let out := (s.pc k).rq ++ (s.pc k).mb
  let s := (s.setPc k { s.pc k with rq := [], mb := [], issued := [], wissued := [] }).settleAll k
  out.foldl (fun s a => s.aborted a.txn) s

/-- The whole drain of a fenced group (R351, R382). -/
def State.fenceDrain (s : State) (g : Nat) : State :=
  if s.cgFenced g ∧ (s.cg g).draining then
    let s := s.remapFinish g
    let s := (List.range 4).foldl (fun s i => s.drainPc (4 * g + i)) s
    let s := (List.range 4).foldl (fun s i => s.enterSelfRef (4 * g + i)) s
    ((s.setCg g { s.cg g with draining := false }).mwrRetry).calSettle g
  else s

/-- A clear of CGn_CTL.FENCE (R351): without effect after SCHED_FAIL, and after CA_FAIL until a
spare TSV is in. -/
def State.cgFenceClear (s : State) (g : Nat) : State :=
  let c := s.cg g
  if !s.cgFenced g ∨ c.schedFail ∨ c.caFail then s
  else
    let s := (s.fenceDrain g).wr (Fd.CG_CTL_FENCE g) 0
    let s := if s.selfRefDue g then s else (List.range 4).foldl (fun s i => s.exitSelfRef (4 * g + i)) s
    (((s.groupFollow g).calSettle g).cntUnfence).fwAck fun (m : Msg) => m.source == 104 + g && m.kind == 6

/-! ### The duplicated scheduler (R348–R350) -/

/-- SCHED_FAIL: the group is fenced at once (R349). -/
def State.schedFail (s : State) (g : Nat) : State :=
  ((s.setCg g { s.cg g with schedFail := true }).raise (104 + g) 5 (4 * g)).fenceCg g

/-- The copies disagree, with the parity errors they report (R348, R349). In simplex mode nothing is compared: a parity
error of the copy in use fails the group. -/
def State.schedMismatch (s : State) (g : Nat) (a b : Bool) : State :=
  if s.cgFenced g then s
  else if s.on (Fd.CG_STAT_SIMPLEX g) then
    (if (if s.on (Fd.CG_STAT_COPY g) then b else a) then s.schedFail g else s)
  else
    let s := s.count (Fd.CG_CNT_MISMATCH g) (Fd.CG_CNT_MIS_OVF g) 1
    let c := s.cg g
    let mism := (c.mism.filter fun t => decide (s.clk.time < t + 175)) ++ [s.clk.time]
    let s := s.setCg g { c with mism, parityA := c.parityA || a, parityB := c.parityB || b }
    let s := (List.range 4).foldl (fun s i =>
      (List.range s.bankCount).foldl (fun s k =>
        let p := s.pc (4 * g + i)
        s.setPc (4 * g + i) (p.setBank k { p.bank k with recovering := true })) s) s
    if 4 ≤ mism.length ∨ (a ∧ b) then s.schedFail g
    else if a ∨ b then
      ((s.wr (Fd.CG_STAT_SIMPLEX g) 1).wr (Fd.CG_STAT_COPY g) (b2n a)).raise (104 + g) 4
        (4 * g + b2n a * 2 ^ 26)
    else s.raise (104 + g) 1 (4 * g)

/-- A command of a bank whose address parity is bad is reissued from the bank's last precharge; the seventeenth
consecutive failure fails the group instead (R350). -/
def State.caRetry (s : State) (k b : Nat) : State :=
  let g := k / 4
  if s.cgFenced g then s
  else
    let n := Tab.get (fun _ => 0) (s.cg g).caRun (64 * k + b) + 1
    let s := s.setCg g { s.cg g with caRun := Tab.put (fun _ => 0) (s.cg g).caRun (64 * k + b) n }
    if n = 17 then
      ((s.setCg g { s.cg g with caFail := true }).raise (104 + g) 6 (k + b * 128)).fenceCg g
    else
      let s := s.count (Fd.CG_CNT_CA_RETRY g) (Fd.CG_CNT_CA_OVF g) 1
      let p := s.pc k
      (s.setPc k (p.setBank b { p.bank b with openRow := none })).raise (104 + g) 2 (k + b * 128)

/-! ### Commands -/

/-- READ_QUEUE_ENTRY (R16, R323): the transfer that the group grants is an initiator's read to a pseudo-channel. -/
def execReadQueueEntry (pc ini : Nat) (s : State) : Host.Outcome State Fault Refusal :=
  s.act (match s.nextFor pc ini with
    | some a =>
      if a.kind ≠ .read then s
      else (s.accessOf a).foldl (fun s x =>
        if s.cgFenced (pc / 4) then (s.taken x (pc / 4)).aborted x.txn else s.enterRead pc x) s
    | none => s)

/-- WRITE_QUEUE_ENTRY (R16, R321). -/
def execWriteQueueEntry (pc ini : Nat) (s : State) : Host.Outcome State Fault Refusal :=
  s.act (match s.nextFor pc ini with
    | some a => if a.kind ≠ .write then s else (s.accessOf a).foldl (fun s x => s.enterWrite pc x) s
    | none => s)

/-- MERGE (R16, R327). -/
def execMerge (pc ini : Nat) (s : State) : Host.Outcome State Fault Refusal :=
  s.act (match s.nextFor pc ini with
    | some a =>
      if a.kind ≠ .merge then s
      else if s.cgFenced (pc / 4) then (s.taken a (pc / 4)).aborted a.txn else s.enterMerge pc a
    | none => s)

/-- COMMAND_ISSUE (R330). -/
def execCommandIssue (pc : Nat) (ready : List Nat) (s : State) : Host.Outcome State Fault Refusal :=
  s.act (s.commandIssue pc ready)

/-- An error in the tag cache met by a read of a keyed line (R551, R552). -/
def State.lineTagError (s : State) (line err : Nat) : State :=
  match s.rgnOf (64 * line) with
  | some n => if (s.rgn n).key = 0 then s else s.tagError (s.tagEntry n (64 * line) / 64) err
  | none => s

/-- DRAM_READ_DATA (R363): the oldest issued read of a pseudo-channel returns, with the errors the
cells and the way from them added, an error of the tag cache (0 none, 1 corrected, 2 uncorrectable),
and the lanes whose edge monitors disagree with the burst, each with its side (R663). -/
def execDramReadData (pc : Nat) (flips : List (Nat × Nat)) (tagErr : Nat) (edges : List (Nat × Nat))
    (s : State) : Host.Outcome State Fault Refusal :=
  s.act (let s := edges.foldl (fun s (e : Nat × Nat) => s.driftNote pc (e.1 % 40) 0 (e.2 % 2) 1) s
    match (s.pc pc).issued with
    | n :: _ => match ((s.pc pc).rq ++ (s.pc pc).mb).find? (·.seq == n) with
      | some a => (s.lineTagError a.line tagErr).readReturns pc a flips
      | none => s.setPc pc { s.pc pc with issued := (s.pc pc).issued.drop 1 }
    | [] => s)

/-- WRITE_BURST_COMPLETE (R321). -/
def execWriteBurstComplete (pc : Nat) (s : State) : Host.Outcome State Fault Refusal :=
  s.act (s.writeBurst pc)

/-- PAGE_TIMER_EXPIRY (R332): the row is precharged unless a queued access hits it. -/
def execPageTimerExpiry (pc bank : Nat) (s : State) : Host.Outcome State Fault Refusal :=
  s.act (let p := s.pc pc
    let x := p.bank bank
    match x.openRow with
    | some r =>
      if s.pageTimer (nth 0 (rowLines pc bank r) 0) = 255 ∨
          p.accs.any (fun a => a.bank == bank && a.row == r) then s
      else s.setPc pc (p.setBank bank { x with openRow := none })
    | none => s)

/-- REFRESH (R335, R336). -/
def execRefresh (pc bank : Nat) (early : Bool) (s : State) : Host.Outcome State Fault Refusal :=
  s.act (if bank < s.bankCount ∧ pc < 128 then s.refresh pc bank early else s)

/-- EPOCH (R339). -/
def execActEpoch (pc bank : Nat) (s : State) : Host.Outcome State Fault Refusal :=
  s.act (let p := s.pc pc
    s.setPc pc (p.setBank bank { p.bank bank with acts := [], trrN := 0 }))

/-- TARGETED_REFRESH (R340, R342). -/
def execTargetedRefresh (pc bank : Nat) (s : State) : Host.Outcome State Fault Refusal :=
  s.act (let p := s.pc pc
    let x := p.bank bank
    match x.trrDue with
    | [] => s
    | row :: rest =>
      let s := s.setPc pc (p.setBank bank { x with
        trrDue := rest, trrN := x.trrN + 1, openRow := none
        trrRows := neighbours (s.on (Fd.CG_TRR_NEIGH2 (pc / 4))) row })
      let s := s.count (Fd.PC_TRR_COUNT pc) (Fd.PC_TRR_OVF pc) 1
      if x.trrN + 1 = 65 then s.raise (104 + pc / 4) 3 (pc + bank * 128) else s)

/-- SELF_REFRESH_ENTRY (R344). -/
def execSelfRefreshEntry (pc : Nat) (s : State) : Host.Outcome State Fault Refusal :=
  s.act (if pc < 128 ∧ s.selfRefDue (pc / 4) then s.enterSelfRef pc else s)

/-- SELF_REFRESH_EXIT (R344). -/
def execSelfRefreshExit (pc : Nat) (s : State) : Host.Outcome State Fault Refusal :=
  s.act (if s.selfRefDue (pc / 4) then s else s.exitSelfRef pc)

/-- SCHED_MISMATCH (R348). -/
def execSchedMismatch (cg : Nat) (parityA parityB : Bool) (s : State) : Host.Outcome State Fault Refusal :=
  s.act (if cg < 32 then s.schedMismatch cg parityA parityB else s)

/-- CA_RETRY (R350). -/
def execCaRetry (pc bank : Nat) (s : State) : Host.Outcome State Fault Refusal :=
  s.act (if pc < 128 ∧ bank < s.bankCount then s.caRetry pc bank else s)

/-- FENCE_DRAIN (R351). -/
def execFenceDrain (cg : Nat) (s : State) : Host.Outcome State Fault Refusal :=
  s.act (if cg < 32 then s.fenceDrain cg else s)

/-- CG_FENCE_CLEAR (R351). -/
def execCgFenceClear (cg : Nat) (s : State) : Host.Outcome State Fault Refusal :=
  s.act (if cg < 32 then s.cgFenceClear cg else s)

end Sys2Proof.Machine
end

