-- ==== Sys2Proof/Machine/Repair.lean ====
section
/-! DEFINITION. Injection (R370, R415), the Strainer (R372–R375), pin windows (R384), runtime row
remap (R380–R383, R390), and the accesses, patrol, fences and injector of the Crema banks
(R398–R416). -/

namespace Sys2Proof.Machine

/-! ### Injection -/

/-- A write of ECC_INJ_CTL (R370, R389): the state, and whether WR_IGNORED is set. -/
def State.eccInjWrite (s : State) (w : Nat) : State × Bool :=
  let a := bits w 20 15
  let b := bits w 26 21
  let n := bits w 14 0
  let bad := decide (35 < a) || (decide (35 < b) && b != 63) || n == 0
  let s := s.wr Fd.ECC_INJ_CTL_SRC (bits w 29 27)
  let s := if a ≤ 35 then s.wr Fd.ECC_INJ_CTL_POS_A a else s
  let s := if b ≤ 35 ∨ b = 63 then s.wr Fd.ECC_INJ_CTL_POS_B b else s
  if bit w 31 ∧ s.on Fd.ECC_CTL_INJ_EN then
    if !bad ∧ s.rd Fd.ECC_INJ_PAT_VALUE_A ≠ 0 ∧ (b = 63 ∨ s.rd Fd.ECC_INJ_PAT_VALUE_B ≠ 0) then
      ((s.wr Fd.ECC_INJ_CTL_COUNT n).wr Fd.ECC_INJ_CTL_ARMED 1, false)
    else (s, true)
  else (if n = 0 then s else s.wr Fd.ECC_INJ_CTL_COUNT n, bad)

/-- A write of CRM_INJ_CTL (R415, R422). -/
def State.crmInjWrite (s : State) (w : Nat) : State × Bool :=
  let n := bits w 14 0
  let s := (s.wr Fd.CRM_INJ_CTL_SRC (bits w 29 28)).wr Fd.CRM_INJ_CTL_FLIP (bits w 27 15)
  if bit w 31 ∧ s.on Fd.ECC_CTL_INJ_EN then
    if n ≠ 0 ∧ s.rd Fd.CRM_INJ_CTL_FLIP ≠ 0 then
      ((s.wr Fd.CRM_INJ_CTL_COUNT n).wr Fd.CRM_INJ_CTL_ARMED 1, false)
    else (s, true)
  else (if n = 0 then s else s.wr Fd.CRM_INJ_CTL_COUNT n, n == 0)

/-- ECC_INJ_GO (R370): a write of ECC_INJ_CTL with GO. -/
def execEccInjGo (value : Nat) (s : State) : Host.Outcome State Fault Refusal :=
  s.act (s.eccInjWrite (setBits value 31 31 1)).1

/-- CRM_INJ_GO (R415): a write of CRM_INJ_CTL with GO. -/
def execCrmInjGo (value : Nat) (s : State) : Host.Outcome State Fault Refusal :=
  s.act (s.crmInjWrite (setBits value 31 31 1)).1

/-! ### The Strainer -/

/-- The lines of a pseudo-channel's walk (R372): D ÷ 8,192. -/
def State.walkLines (s : State) : Nat := s.dramSize / 8192

/-- The line at a place of a pseudo-channel's walk: ascending local index and column (R372). -/
def walkLine (k pos : Nat) : Nat := addrOf k (pos / 4) (64 * (pos % 4)) / 64

/-- A scrub step may run on a line: its group is not fenced or in self-refresh, its row is not in
transit (R374), and no queued read or merge holds or awaits its line (R373). -/
def State.scrubbable (s : State) (k line : Nat) : Bool :=
  !s.cgFenced (k / 4) && !(s.pc k).selfRef && (s.inTransit line).isNone && !(s.pc k).locked line &&
    !((s.pc k).rq.any fun a => a.line == line)

/-- The scrub of one line (R373): older queued writes of the line first (R323), then read, decode and
write back. An outcome of injection alone writes nothing (R371). -/
def State.scrubLine (s : State) (k line : Nat) (flips : List (Nat × Nat)) : State :=
  let s := ((s.pc k).wq.filter fun (a : Acc) => a.line == line).foldl (fun s a => s.burstDone k a) s
  let r := (((s.charge 254 64 false).carry 16 line).serveRead line).readLine line 2 flips
  match r.out with
  | .corrected _ => if r.real then ((r.s.charge 254 64 false).carry 16 line).storeLine line r.data else r.s
  | .uncorrectable => if r.real then ((r.s.charge 254 64 false).carry 16 line).poisonStore line else r.s
  | _ => r.s

/-- A pass ends when every pseudo-channel has finished its walk (R372, R380, R385, R387). -/
def State.passEnd (s : State) : State :=
  if (List.range 128).all fun k => s.ecc.passDone.contains k then
    let s := (List.range 128).foldl (fun s k => s.setPc k { s.pc k with scrubPos := 0 }) s
    let s := (List.range 32).foldl (fun s g => s.setCg g { s.cg g with rowTab := [] }) s
    let s := { s with ecc := { s.ecc with passDone := [], passStart := s.clk.time } }
    let s := (s.count Fd.ECC_SCRUB_STAT_PASSES Fd.ECC_SCRUB_STAT_PASS_OVF 1).wr Fd.ECC_SCRUB_STAT_LATE 0
    s.raise 142 1 (s.rd Fd.ECC_SCRUB_STAT_PASSES)
  else s

/-- The place of a walk lies in a row in remap transit (R374). -/
def State.placeMoves (s : State) (k pos : Nat) : Bool := (s.inTransit (walkLine k pos)).isSome

/-- The walk passes over the places of a row in remap transit, which are taken up again later (R374): at most the 16 of a
row. -/
def State.skipMoving (s : State) (k : Nat) : Nat → State
  | 0 => s
  | n + 1 =>
    let p := s.pc k
    if p.scrubPos < s.walkLines ∧ s.placeMoves k p.scrubPos then
      (s.setPc k { p with scrubPos := p.scrubPos + 1, skipped := p.skipped ++ [p.scrubPos] }).skipMoving k n
    else s

/-- The next place a pseudo-channel scrubs: one skipped whose row is settled, else the walk's (R374). -/
def State.scrubPlace (s : State) (k : Nat) : Option Nat :=
  let p := s.pc k
  match p.skipped.find? fun q => !s.placeMoves k q with
  | some q => some q
  | none => if p.scrubPos < s.walkLines then some p.scrubPos else none

/-- One read of a pseudo-channel's walk; the walk is done when no place is left. -/
def State.scrubNext (s : State) (k pos : Nat) (flips : List (Nat × Nat)) : State :=
  let s := s.scrubLine k (walkLine k pos) flips
  let p := s.pc k
  let p := if p.skipped.contains pos then { p with skipped := p.skipped.filter (· != pos) } else { p with scrubPos := pos + 1 }
  let s := s.setPc k p
  if s.walkLines ≤ p.scrubPos ∧ p.skipped.isEmpty then
    { s with ecc := { s.ecc with passDone := s.ecc.passDone ++ [k] } }.passEnd
  else s

/-- SCRUB_READ (R372, R374): a scrub read falls due at a pseudo-channel, or (`due` false) an owed one
is issued. -/
def execScrubRead (pc : Nat) (due : Bool) (flips : List (Nat × Nat)) (s : State) :
    Host.Outcome State Fault Refusal :=
  s.act (if !s.on Fd.ECC_CTL_SCRUB_EN ∨ !(s.mode = mSERVICE ∨ s.mode = mDEGRADED) ∨ 128 ≤ pc ∨
        s.ecc.passDone.contains pc ∨ (!due ∧ (s.pc pc).owed = 0) then s
    else
      let s := s.skipMoving pc 16
      let p := s.pc pc
      match (s.scrubPlace pc).filter fun q => s.scrubbable pc (walkLine pc q) with
      | some q => (if due then s else s.setPc pc { p with owed := p.owed - 1 }).scrubNext pc q flips
      | none => if due then s.setPc pc { p with owed := p.owed + 1 } else s)

/-- SCRUB_LATE (R374): a pass runs more than 10% beyond its period. -/
def execScrubLate (s : State) : Host.Outcome State Fault Refusal :=
  s.act (if s.on Fd.ECC_SCRUB_STAT_LATE then s
    else (s.wr Fd.ECC_SCRUB_STAT_LATE 1).raise 143 1 0)

/-- PROMPT_SCRUB (R375): the oldest entry of a group's prompt queue. -/
def execPromptScrub (cg : Nat) (flips : List (Nat × Nat)) (s : State) :
    Host.Outcome State Fault Refusal :=
  s.act (match (s.cg cg).prompt with
    | [] => s
    | l :: rest =>
      if s.scrubbable (pcOf (64 * l)) l then
        (s.setCg cg { s.cg cg with prompt := rest }).scrubLine (pcOf (64 * l)) l flips
      else s)

/-- PIN_WINDOW (R384): a pseudo-channel's 1 ms window ends. -/
def execPinWindow (pc : Nat) (s : State) : Host.Outcome State Fault Refusal :=
  s.act { s with ecc := { s.ecc with
    pinCnt := s.ecc.pinCnt.filter fun (e : Nat × Nat) => !(36 * pc ≤ e.1 && e.1 < 36 * (pc + 1)) } }

/-! ### Runtime repair -/

/-- House firmware writes a repair command (R390). -/
def State.repArgs (s : State) (entry op : Nat) : State :=
  ((s.wr Fd.BST_REP_ARG0_ARG entry).wr Fd.BST_REP_ARG1_ARG (entry / 2 ^ 32)).wr Fd.BST_REP_CMD_OP op

/-- OP 1 of R390: the outcome of a remap request (R381, R382, R714). -/
def State.remapRow (s : State) (entry : Nat) : State :=
  let r := entryRepair entry
  let g := r.pc / 4
  if !entryFormat s.part.lgrp entry ∨ r.kind ≠ 1 ∨ entryRetires entry then s.wr Fd.BST_REP_CMD_RESULT 5
  else if s.cgFenced g then s.wr Fd.BST_REP_CMD_RESULT 6
  else if (s.cg g).remap.isSome ∨ s.cgTested g then s.wr Fd.BST_REP_CMD_RESULT 3
  else if !((List.range 16).any fun i => s.spareFree r.pc r.bank i) then
    ((s.wr Fd.BST_REP_CMD_RESULT 4).raise 140 1 (rowAddr r.pc r.bank r.target)).rowAcked r.pc r.bank r.target
  else if !s.spareFree r.pc r.bank r.spare then s.wr Fd.BST_REP_CMD_RESULT 7
  else
    let m : Remap := { pc := r.pc, bank := r.bank, row := r.target, spare := r.spare, lines := none }
    (s.setCg g { s.cg g with remap := some m }).wr Fd.BST_REP_CMD_RESULT 2

/-- OP 2 of BST_REP_CMD (R377, R390): an entry with RETIRE names the spare. -/
def State.retireSpare (s : State) (e : Nat) : State :=
  let r := entryRepair e
  if !entryFormat s.part.lgrp e ∨ !entryRetires e then s.wr Fd.BST_REP_CMD_RESULT 5
  else if (s.spareUser r).isSome then s.wr Fd.BST_REP_CMD_RESULT 7
  else { s with ecc := { s.ecc with retired := s.ecc.retired ++ [r] } }.wr Fd.BST_REP_CMD_RESULT 1

/-- OP 3 of BST_REP_CMD (R390): the entry in force for the target, KIND 0b00 where there is none. -/
def State.readEntry (s : State) (e : Nat) : State :=
  if !entryFormat s.part.lgrp e then s.wr Fd.BST_REP_CMD_RESULT 5
  else
    let e := match s.ecc.repairs.find? (sameTarget (entryRepair e)) with
      | some x => x.entry false
      | none => 0
    ((s.wr Fd.BST_REP_ARG0_ARG e).wr Fd.BST_REP_ARG1_ARG (e / 2 ^ 32)).wr Fd.BST_REP_CMD_RESULT 1

/-- A GO with OP 1; one that ends with BUSY leaves OP as it was (R740). -/
def State.remapGo (s : State) (entry : Nat) : State :=
  let t := (s.repArgs entry 1).remapRow entry
  if t.rd Fd.BST_REP_CMD_RESULT = 3 then t.wr Fd.BST_REP_CMD_OP (s.rd Fd.BST_REP_CMD_OP) else t

/-- REMAP_ROW (R381, R390). -/
def execRepRemapRow (entry : Nat) (s : State) : Host.Outcome State Fault Refusal := s.act (s.remapGo entry)

/-- RETIRE_SPARE (R377, R390). -/
def execRepRetireSpare (entry : Nat) (s : State) : Host.Outcome State Fault Refusal :=
  s.act ((s.repArgs entry 2).retireSpare entry)

/-- READ_ENTRY (R390). -/
def execRepReadEntry (entry : Nat) (s : State) : Host.Outcome State Fault Refusal :=
  s.act ((s.repArgs entry 3).readEntry entry)

/-- The 16 lines of a row read into the remap buffer (R381 step 1). -/
def State.remapRead (s : State) (g : Nat) (flips : List (Nat × Nat × Nat)) : State :=
  match (s.cg g).remap with
  | some r =>
    if r.lines.isSome ∨ !s.lends r.pc r.bank then s
    else
      let x := ((List.range 16).zip (rowLines r.pc r.bank r.row)).foldl
        (fun (x : State × List (List Byte × Bool)) (e : Nat × Nat) =>
          let f := (flips.filter fun (f : Nat × Nat × Nat) => f.1 == e.1).map fun (f : Nat × Nat × Nat) => f.2
          let l := (x.1.carry 16 e.2).readLine e.2 3 f
          (l.s, x.2 ++ [(line64 l.data, l.poison)]))
        ((s.lend r.pc r.bank).actCount r.pc r.bank (s.physRow r.pc r.bank r.row), [])
      x.1.setCg g { x.1.cg g with remap := some { r with lines := some x.2 } }
  | none => s

/-- REMAP_READ (R381): `flips` are errors of the environment: column, symbol, xor pattern. -/
def execRemapRead (cg : Nat) (flips : List (Nat × Nat × Nat)) (s : State) :
    Host.Outcome State Fault Refusal :=
  s.act (s.remapRead cg flips)

/-- REMAP_WRITE (R381 steps 3 and 4). -/
def execRemapWrite (cg : Nat) (s : State) : Host.Outcome State Fault Refusal :=
  s.act (match (s.cg cg).remap with
    | some r => if r.lines.isSome ∧ s.lends r.pc r.bank then
        (s.lend r.pc r.bank).remapFinish cg else s
    | none => s)

/-! ### The Crema banks -/

/-- The internal line of a Crema transfer. -/
def State.cLine (s : State) (a : Acc) : Nat := s.userOff (64 * a.line) / 64

/-- The transfer the arbiter of Crema grants, if it is one of an initiator to a bank (R16, R399). -/
def State.nextCrema (s : State) (b ini : Nat) : Option Acc :=
  (s.granted 32).filter fun a => a.ini == ini && cBank (64 * s.cLine a) == b

/-- The line as stored, and whether any byte of it is poisoned: what is forwarded to a partner. -/
def State.cStored (s : State) (line : Nat) : List Byte × Bool :=
  (List.range 64).foldl (fun (x : List Byte × Bool) i =>
    match cDecode (s.cWord (64 * line + i)) with
    | .clean d => (x.1 ++ [d], x.2)
    | .corrected d => (x.1 ++ [d], x.2)
    | _ => (x.1 ++ [0], true)) ([], false)

/-- A stored Crema line is forwarded where its region is mirrored (R578), and its bucket's table
noted (R481). -/
def State.cForward (s : State) (a : Acc) : State :=
  let x := s.cStored (s.cLine a)
  (s.mirrorLine a.txn (64 * a.line) x.1 [] x.2).hostTouch (64 * a.line)

/-- A transfer that reaches a fenced bank is answered FENCED (R414). -/
def State.cFenced (s : State) (a : Acc) : State :=
  (s.taken a 32).answered a.txn fun t => { t with status := stFENCED }

/-- A Crema read (R397, R399). -/
def State.cremaRead (s : State) (a : Acc) (flips : List (Nat × Nat)) : State :=
  let (s, d, p) := (s.taken a 32).cRead (64 * s.cLine a) 64 (if a.ini ≤ 12 then 0 else 1) flips
  s.deliver a d (p.any id)

/-- A Crema write (R398, R400). -/
def State.cremaWrite (s : State) (a : Acc) : State :=
  let s := (s.taken a 32).cWriteMask (64 * s.cLine a) a.mask a.data a.poison
  (s.cForward a).answered a.txn id

/-- A Crema read-modify-write (R280, R399). -/
def State.cremaRmw (s : State) (a : Acc) (flips : List (Nat × Nat)) : State :=
  let off := 64 * s.cLine a
  let (s, d, p) := (s.taken a 32).cRead off 64 (if a.ini ≤ 12 then 0 else 1) flips
  match a.mop with
  | none => s
  | some m =>
    if p.any id then s.answered a.txn fun t => { t with poison := true, result := 0 }
    else
      let (new, res, changed) := m.run d
      let s := if changed then
          (((List.range 64).filter fun i => nth 0 new i != nth 0 d i).foldl (fun (s : State) i =>
            s.setCWord (off + i) (cEncode (nth 0 new i))) s).cForward a
        else s
      s.answered a.txn fun t => { t with result := res }

/-- CREMA_READ (R399): a bank performs the next read of an initiator. `flips`: byte and xor pattern of
errors the environment adds. -/
def execCremaRead (bank ini : Nat) (flips : List (Nat × Nat)) (s : State) :
    Host.Outcome State Fault Refusal :=
  s.act (match s.nextCrema bank ini with
    | some a =>
      if a.kind ≠ .read then s else if s.bankFenced bank then s.cFenced a else s.cremaRead a flips
    | none => s)

/-- CREMA_WRITE (R398). -/
def execCremaWrite (bank ini : Nat) (s : State) : Host.Outcome State Fault Refusal :=
  s.act (match s.nextCrema bank ini with
    | some a =>
      if a.kind ≠ .write then s else if s.bankFenced bank then s.cFenced a else s.cremaWrite a
    | none => s)

/-- CREMA_RMW (R399). -/
def execCremaRmw (bank ini : Nat) (flips : List (Nat × Nat)) (s : State) :
    Host.Outcome State Fault Refusal :=
  s.act (match s.nextCrema bank ini with
    | some a =>
      if a.kind ≠ .merge then s else if s.bankFenced bank then s.cFenced a else s.cremaRmw a flips
    | none => s)

def State.patrolPos (s : State) (b : Nat) : Nat := Tab.get (fun _ => 0) s.crm.patrolPos b

/-- CRM_STAT.PASSES: the passes of the slowest bank (R419). -/
def State.cPasses (s : State) : State :=
  let n := (List.range 256).foldl (fun m b => min m (s.patrolPos b / bankLines)) (s.patrolPos 0 / bankLines)
  if 0xFFFF < n then (s.wr Fd.CRM_STAT_PASSES 0xFFFF).wr Fd.CRM_STAT_PASS_OVF 1
  else s.wr Fd.CRM_STAT_PASSES n

/-- The patrol of one line, after which house firmware acknowledges its CREMA_UE (R411, R412, R692). -/
def State.patrolLine (s : State) (line : Nat) (flips : List (Nat × Nat)) : State :=
  let s := { s with crm := { s.crm with prompt := s.crm.prompt.filter (· != line) } }.cPatrol line flips
  s.fwAck fun (m : Msg) => m.source == 153 && m.kind != 2 && m.addr % 2 ^ 20 == cLoc (64 * line) 0

/-- The walk runs in these modes while PATROL_EN is 1 (R411). -/
def State.patrols (s : State) : Bool :=
  s.on Fd.CRM_CTL_PATROL_EN && (s.mode == mSERVICE || s.mode == mDEGRADED || s.mode == mDRAIN || s.mode == mSTANDBY)

/-- PATROL_STEP (R411, R412): lines queued for prompt patrol first, whatever PATROL_EN and the mode, then the bank's
walk. The first step of a new pass ends what was late. -/
def execPatrolStep (bank : Nat) (flips : List (Nat × Nat)) (s : State) :
    Host.Outcome State Fault Refusal :=
  s.act (if s.bankFenced bank ∨ 256 ≤ bank ∨ s.coreOff then s
    else match s.crm.prompt.find? fun l => cBank (64 * l) == bank with
      | some l => s.patrolLine l flips
      | none =>
        if !s.patrols then s
        else
        let n := s.patrolPos bank
        let s := s.patrolLine (cOffset bank (n % bankLines) / 64) flips
        let s := { s with crm := { s.crm with patrolPos := Tab.put (fun _ => 0) s.crm.patrolPos bank (n + 1) } }
        if (n + 1) % bankLines = 0 then
          let s := { s with crm := { s.crm with late := s.crm.late.filter (· != bank) } }
          (s.wr Fd.CRM_STAT_LATE (b2n !s.crm.late.isEmpty)).cPasses
        else s)

/-- CREMA_PATROL_LATE (R416): a bank's pass runs more than 10% beyond PATROL_PERIOD. -/
def execCremaPatrolLate (bank : Nat) (s : State) : Host.Outcome State Fault Refusal :=
  s.act (if s.crm.late.contains bank then s
    else ({ s with crm := { s.crm with late := bank :: s.crm.late } }.wr Fd.CRM_STAT_LATE 1).raise 156 1 bank)

/-- CE_BANK_WINDOW (R413): a bank's 1 ms window ends. -/
def execCeBankWindow (bank : Nat) (s : State) : Host.Outcome State Fault Refusal :=
  s.act { s with crm := { s.crm with
    ceWin := Tab.put (fun _ => 0) s.crm.ceWin bank 0
    suspect := s.crm.suspect.filter (· != bank) } }

/-- Every byte becomes 0x00 with valid check bits (R408). -/
def State.cremaInit (s : State) : State :=
  { s with crm := { s.crm with store := [] } }.wr Fd.CRM_STAT_INIT_DONE 1

/-- CREMA_INIT (R408). -/
def execCremaInit (s : State) : Host.Outcome State Fault Refusal := s.act s.cremaInit

/-- A clear of a CRM_FENCEn bit (R414): without effect after R410. -/
def State.bankUnfence (s : State) (b : Nat) : State :=
  if s.bankFenced b ∧ !s.crm.fence410.contains b then
    ((s.wrBit (Fd.CRM_FENCE_FENCE (b / 32)) (b % 32) false).fencedN).cntUnfence
  else s

/-- CRM_FENCE_CLEAR (R414). -/
def execCrmFenceClear (bank : Nat) (s : State) : Host.Outcome State Fault Refusal :=
  s.act (s.bankUnfence bank)

end Sys2Proof.Machine
end

