-- ==== Sys2Proof/Machine/Pair.lean ====
section
/-! DEFINITION. The redundant pair (chapter 19): joining (R574, R575), heartbeat and loss (R586, R587),
copy states and resynchronisation (R588–R593), role change (R594), forwarded requests (R583),
checkpoints (R503, R584, R585) and the takeover of queues (R449). -/

namespace Sys2Proof.Machine

def State.role (s : State) : Nat := s.rd Fd.PAIR_STAT_ROLE

/-- The valid mirrored regions, ascending. -/
def State.mirrored (s : State) : List Nat :=
  (List.range 64).filter fun n => (s.rgn n).valid && (s.rgn n).mirror

/-- This part may speak to a partner (R575). -/
def State.pairTalks (s : State) : Bool :=
  s.lstate 12 == lACTIVE && (s.mode == mSERVICE || s.mode == mDEGRADED)

/-! ### Resynchronisation -/

/-- The resynchronisation in progress; PAIR_STAT.RESYNC shows it. -/
def State.setResync (s : State) (r : Resync) : State :=
  let live := r.outRgn.isSome || !r.outTodo.isEmpty || r.outCnt || r.inRgn.isSome || !r.inTodo.isEmpty || r.inOpen
  { s with pair := { s.pair with resync := if live then some r else none } }.wr Fd.PAIR_STAT_RESYNC (b2n live)

def State.resync (s : State) : Resync := s.pair.resync.getD {}

/-- A resynchronisation starts with these regions to send and to receive; `cnt`: this part sends the
counters (R589, R590). -/
def State.startResync (s : State) (out inn : List Nat) (cnt : Bool) : State :=
  let s := inn.foldl (fun s n => s.setCurrent n false) s
  (s.setResync { outTodo := out, outCnt := cnt, inTodo := inn, inOpen := !cnt }).raise 100 2 0

/-- After a part's last message of a resynchronisation it is over for both (R590). -/
def State.resyncDone (s : State) (r : Resync) : State :=
  let s := s.setResync r
  if s.pair.resync.isNone then (s.wr Fd.PAIR_STAT_SINGLE_WR 0).raise 100 3 0 else s

/-- The source of a region at a join (R589): some true this part, some false the partner, none not
copied. `div`: DIVERGED. -/
def State.joinSource (s : State) (n : Nat) : Option Bool × Bool :=
  let mine := bit s.currentMask n
  let far := bit s.pair.farCurrent n
  let mineS := s.on Fd.PAIR_STAT_SINGLE_WR
  let farS := s.pair.farSingle
  if mine != far then (some mine, false)
  else if mine && mineS != farS then (some mineS, false)
  else if mine ∧ mineS ∧ farS then (none, true)
  else if mine then (none, false)
  else (some (s.role == 1), false)

/-- The pair joins (R575, R589). The part that is the source of some region sends the counters; where
both or neither is, the PRIMARY does. -/
def State.join (s : State) : State :=
  let s := (s.wr Fd.PAIR_STAT_JOINED 1).count Fd.PAIR_CNT_JOINS Fd.PAIR_CNT_JOIN_OVF 1
  let s := { s with pair := { s.pair with helloSent := false, helloGot := false } }.raise 100 1 0
  let ms := s.mirrored
  let out := ms.filter fun n => (s.joinSource n).1 == some true
  let inn := ms.filter fun n => (s.joinSource n).1 == some false
  let div := ms.filter fun n => (s.joinSource n).2
  let s := { s with pair := { s.pair with diverged := div.foldl (fun m n => m + 2 ^ n) 0 } }.wr
    Fd.PAIR_STAT_DIVERGED (b2n !div.isEmpty)
  let s := div.foldl (fun s n => s.raise 102 3 n) s
  s.startResync out inn (if out.isEmpty != inn.isEmpty then !out.isEmpty else s.role == 1)

/-! ### Loss of the partner (R587) -/

/-- The shadow region takes checkpoints (R585). -/
def State.shadowOk (s : State) : Bool :=
  let r := s.rgn (s.rd Fd.PAIR_CFG_SHADOW_RGN)
  s.on Fd.PAIR_CFG_SHADOW_EN && r.valid && r.key == 0 && !r.mirror && r.win == 0 && r.kind == kPLAIN

def State.shadowAddr (s : State) (qid : Nat) : Nat := (s.rgn (s.rd Fd.PAIR_CFG_SHADOW_RGN)).start + 16 * qid

/-- A checkpoint entry (R585): STATE [1:0], POOL [5:2], PROT [6], LIMIT [35:8], CELLS [63:36], BYTES
[99:64], PKTS [127:100]; zero with PROT 0. DESIGN CHOICE, assumption 31: the spec's layout gives bytes
0–7 twice. -/
def shadowEntry (state pool : Nat) (prot : Bool) (limit cells pkts bytes : Nat) : List Byte :=
  if prot then leBytes 16 (state % 4 + pool % 16 * 4 + 64 + limit % 2 ^ 28 * 2 ^ 8 + cells % 2 ^ 28 * 2 ^ 36 +
    bytes % 2 ^ 36 * 2 ^ 64 + pkts % 2 ^ 28 * 2 ^ 100)
  else List.replicate 16 0

/-- One checkpointed queue is taken over (R449). -/
def State.takeEntry (s : State) (qid : Nat) (taken : Nat) : State × Nat :=
  let r := s.memRead (s.shadowAddr qid) 13
  let e := leNat ((r.2.1.drop (16 * qid % 64)).take 16)
  if r.2.2 ∨ !bit e 6 ∨ !(bits e 1 0 = 1 ∨ bits e 1 0 = 2) then (s, taken)
  else
    let (s, ok) := s.takeQueue qid (bits e 5 2) (bits e 35 8) (bits e 63 36)
    (s, if ok then taken + 1 else taken)

/-- The protected queues of a lost partner (R449); without a shadow region there are none (R585). -/
def State.takeover (s : State) : State :=
  let s := s.wr Fd.QUE_TAKE_CELLS_CELLS 0
  let (s, n) := if s.shadowOk then
      (List.range 65536).foldl (fun (x : State × Nat) q => x.1.takeEntry q x.2) (s, 0)
    else (s, 0)
  (s.wr Fd.QUE_TAKE_QUEUES n).raise 175 1 n

/-- The partner is lost (R587): `reason` of R586, and the mode a LEAVE gave. -/
def State.losePartner (s : State) (reason mode : Nat) : State :=
  if !s.joined then s
  else
    let s := ((s.wr Fd.PAIR_STAT_JOINED 0).wr Fd.PAIR_STAT_LOST_REASON reason).count Fd.PAIR_CNT_LOSSES
      Fd.PAIR_CNT_LOSS_OVF 1
    let waits := (s.pair.pendW.map fun (e : Nat × Nat × Nat) => e.2.2).filter (· != 0)
    let sent := s.pair.pendX
    let s := { s with pair := { s.pair with
      out := []
      pendW := []
      pendX := []
      resync := none
      waitW := []
      helloSent := false
      helloGot := false } }
    let s := s.wr Fd.PAIR_STAT_RESYNC 0
    let s := waits.foldl (fun s id => match s.txn id with
      | some t => ((s.setTxn { t with
          rflags := setBits t.rflags 0 0 1, mirrorLeft := 0 }).singleWrite (!bit t.rflags 0)).settle id
      | none => s) s
    let s := sent.foldl (fun s (e : Nat × Nat) => match s.txn e.2 with
      | some t => s.respond t stABORTED
      | none => s) s
    let s := { s with req := { s.req with
      txns := s.req.txns.map fun (t : Txn) => if t.port = 12 then { t with port := 13 } else t } }
    let s := s.mirrored.foldl (fun s n => if bit s.currentMask n then s else s.fenceRgn n) s
    (s.retireSettle.ckptGap 1).takeover.raise 101 1 (reason * 256 + mode * 4096)

/-! ### Roles (R594) -/

/-- A role comes into force; `auth`: by a role change rather than the image (R596). -/
def State.setRole (s : State) (role : Nat) (auth : Bool) : State :=
  let s := { s with pair := { s.pair with authRole := auth, conflict := false } }.wr Fd.PAIR_STAT_ROLE role
  let s := s.wrRw Fd.PAIR_ROLE_ROLE role
  let s := if auth then
      s.setPersist 0x40 ([BitVec.ofNat 8 role, 1, 0, 0] ++ leBytes 4 (s.reg Ra.NVM_IMG_VER).toNat)
    else s
  s.raise 102 1 0

/-- A role change ends and what it held goes on. -/
def State.roleEnd (s : State) (result : Nat) : State :=
  let own := !s.pair.roleFar
  let s := { s with pair := { s.pair with roleAsk := none, roleFar := false } }
  (if own then s.wr Fd.PAIR_ROLE_RESULT result else s).releaseStage .heldRole

/-- Nothing between the parts is unanswered (R594). -/
def State.pairIdle (s : State) : Bool :=
  s.pair.pendW.isEmpty && s.pair.pendX.isEmpty && s.pair.waitW.isEmpty &&
    !(s.req.txns.any fun (t : Txn) => t.port == 12)

/-- The partner's request is acknowledged once everything outstanding is answered (R594). -/
def State.roleSettle (s : State) : State :=
  match s.pair.roleAsk with
  | some r =>
    if s.pair.roleFar ∧ s.pairIdle then ((s.pairSend (.role (3 - r) true)).setRole r true).roleEnd 1 else s
  | none => s

/-- A GO of PAIR_ROLE (R594, R602). In BOOT it is an image record and sets the role at once (R574). -/
def State.roleGo (s : State) (role : Nat) : State :=
  let busy := s.pair.roleAsk.isSome
  let s := if busy then s else s.wr Fd.PAIR_ROLE_ROLE role
  if busy then s.wr Fd.PAIR_ROLE_RESULT 3
  else if !s.joined then (s.setRole role (s.mode != mBOOT)).wr Fd.PAIR_ROLE_RESULT 1
  else if role = 0 then
    (((s.losePartner 2 s.mode).pairSend (.leave s.mode)).setRole 0 true).wr Fd.PAIR_ROLE_RESULT 1
  else
    ({ s with pair := { s.pair with roleAsk := some role, roleFar := false } }.wr Fd.PAIR_ROLE_RESULT 2).pairSend
      (.role (3 - role) false)

/-- LEAVE is sent on entry to DRAIN, THERMAL-HOLD or LOCKDOWN (R586). -/
def State.pairLeave (s : State) : State := if s.joined then s.pairSend (.leave s.mode) else s

/-! ### Messages of the partner (R577) -/

/-- The fields of HB and HELLO. -/
def State.farState (s : State) (role mode : Nat) (single : Bool) (current : Nat) : State :=
  { s with pair := { s.pair with
    farMode := mode, farSingle := single, farCurrent := current } }.wr Fd.PAIR_STAT_PARTNER_ROLE role

/-- Both HELLOs have passed and the roles differ (R575). -/
def State.tryJoin (s : State) : State :=
  let far := s.rd Fd.PAIR_STAT_PARTNER_ROLE
  if s.pair.helloSent ∧ s.pair.helloGot ∧ s.role ≠ 0 ∧ far ≠ 0 ∧ s.role ≠ far ∧ s.pairTalks then s.join else s

/-- HELLO (R575, R586). -/
def State.helloIn (s : State) (role mode : Nat) (single : Bool) (current : Nat) : State :=
  let s := (s.losePartner 5 mode).farState role mode single current
  if s.role = 0 then s
  else if role = s.role then
    if s.pair.conflict then s
    else { s with pair := { s.pair with conflict := true } }.raise 102 2 0
  else { s with pair := { s.pair with helloGot := true } }.tryJoin

/-- MCMT (R579, R580). -/
def State.mcmtIn (s : State) (xid status : Nat) : State :=
  match s.pair.pendW.find? (fun (e : Nat × Nat × Nat) => e.1 == xid) with
  | none => s
  | some (_, line, id) =>
    let bad := status != 0
    let s := { s with pair := { s.pair with pendW := s.pair.pendW.filter fun (e : Nat × Nat × Nat) => e.1 != xid } }
    let s := if status = 8 ∧ rateOk s.pair.mapTime s.clk.time msTicks then
        { s with pair := { s.pair with mapTime := s.clk.time + 1 } }.raise 103 1 (64 * line) else s
    match s.txn id with
    | none => s.roleSettle
    | some t =>
      let s := if bad then s.singleWrite (!bit t.rflags 0) else s
      ((s.setTxn { t with
        mirrorLeft := t.mirrorLeft - 1
        rflags := if bad then setBits t.rflags 0 0 1 else t.rflags }).settle id).roleSettle.retireSettle

/-- MRES (R583): the response of a forwarded request. -/
def State.mresIn (s : State) (xid : Nat) (r : Resp) : State :=
  match s.pair.pendX.find? (fun (e : Nat × Nat) => e.1 == xid) with
  | none => s
  | some (_, id) =>
    let s := { s with pair := { s.pair with pendX := s.pair.pendX.filter fun (e : Nat × Nat) => e.1 != xid } }
    match s.txn id with
    | some t => (s.respond t r.status r.result r.data r.pmask r.rflags).roleSettle
    | none => s.roleSettle

/-- QCKPT (R585). -/
def State.qckptIn (s : State) (qid state pool : Nat) (prot : Bool) (limit cells pkts bytes : Nat) : State :=
  if s.shadowOk then
    let a := s.shadowAddr (qid % 65536)
    let r := s.memRead a 13
    let d := patch (if r.2.2 then List.replicate 64 0 else r.2.1) (a % 64)
      (shadowEntry state pool prot limit cells pkts bytes)
    r.1.memWrite a 13 d false
  else if s.pair.noShadow then s
  else { s with pair := { s.pair with noShadow := true } }.raise 103 3 0

/-- ROLE (R594). -/
def State.roleIn (s : State) (role : Nat) (ack : Bool) : State :=
  if ack then
    match s.pair.roleAsk with
    | some r => if s.pair.roleFar then s else (s.setRole r true).roleEnd 1
    | none => s
  else if s.joined ∧ s.pair.roleAsk.isNone then
    { s with pair := { s.pair with roleAsk := some role, roleFar := true } }.roleSettle
  else s

/-- RSYNC (R590). -/
def State.rsyncIn (s : State) (code region : Nat) : State :=
  let r := s.resync
  match code with
  | 1 => ((s.setCurrent region false).setResync { r with
      inRgn := some region
      inPoint := (s.rgn region).start / 64
      inTodo := r.inTodo.filter (· != region)
      inOpen := true }).wr Fd.PAIR_STAT_RESYNC_RGN region
  | 2 =>
    let s := { s with pair := { s.pair with diverged := setBits s.pair.diverged region region 0 } }
    let s := (s.setCurrent region true).wr Fd.PAIR_STAT_DIVERGED (b2n (s.pair.diverged != 0))
    s.setResync { r with inRgn := none }
  | 4 => s.resyncDone { r with inRgn := none, inTodo := [], inOpen := false }
  | _ => s

/-- A message of the pair link takes effect. -/
def State.pairMsg (s : State) (m : PairMsg) : State :=
  match m with
  | .mwr xid line keyed poison copy urg label entry data =>
    s.mwrIn xid line keyed poison copy urg label entry data
  | .mexec xid op head payload => if s.joined then s.decodeReq 12 op head payload xid else s
  | .mcmt xid status => s.mcmtIn xid status
  | .mres xid r => s.mresIn xid r
  | .cdelta csid index dp db => s.cdeltaIn csid index dp db
  | .cset csid index lost epoch pkts bytes => s.csetIn csid index { pkts, bytes, lost, epoch }
  | .cmark time => { s with pair := { s.pair with lastMark := time } }
  | .qckpt qid state pool prot limit cells pkts bytes => s.qckptIn qid state pool prot limit cells pkts bytes
  | .hb role mode single current => (s.farState role mode single current).roleSettle
  | .hello role mode single current => s.helloIn role mode single current
  | .leave mode => s.losePartner 2 mode
  | .role role ack => s.roleIn role ack
  | .rsync code region => s.rsyncIn code region

/-! ### Copies and checkpoints sent -/

/-- A DRAM or Crema line as stored: data, its tag entry where keyed, poison (R590). -/
def State.storedLine (s : State) (n a : Nat) : State × List Byte × List Byte × Bool :=
  if a < cremaWin then
    let r := ((s.carry 16 (a / 64)).serveRead (a / 64)).readCurrent (a / 64) 3 []
    if (s.rgn n).key = 0 ∨ r.poison then (r.s, r.data, [], r.poison)
    else
      let (s, e) := r.s.readTag (s.tagEntry n a)
      match e with
      | some bs => (s, r.data, bs, false)
      | none => (s, r.data, [], true)
  else
    let s := s.carry 16 (a / 64)
    let x := s.cStored (s.userOff a / 64)
    (s, x.1, [], x.2)

/-- Every counter of every CKPT set is sent (R590). -/
def State.sendCounters (s : State) : State :=
  (s.csets.filter fun n => (s.cset n).ckpt).foldl (fun s n =>
    (List.range (s.cset n).nctr).foldl (fun s i =>
      let x := (⟨s, none⟩ : CRun).flushRead n i
      let s := s.cOwn x.1
      s.sendPair (.cset n i x.2.lost x.2.epoch x.2.pkts x.2.bytes)) s) s

/-- The source's last messages (R590). -/
def State.finishCopy (s : State) : State :=
  let s := ((s.sendCounters).pairSend (.rsync 3 0)).pairSend (.rsync 4 0)
  s.resyncDone { s.resync with outRgn := none, outTodo := [], outCnt := false }

/-- The source's next step (R590): start a region, read its next line, end it, or end the copy. A line
in a fence waits. -/
def State.copyNext (s : State) : State :=
  let r := s.resync
  match r.outRgn with
  | some n =>
    let a := 64 * r.outNext
    if (s.rgn n).kind = kTAGSTORE ∨ (s.rgn n).stop ≤ a then
      let s := (s.setCurrent n true).pairSend (.rsync 2 n)
      let s := { s with pair := { s.pair with diverged := setBits s.pair.diverged n n 0 } }
      let s := (s.wr Fd.PAIR_STAT_DIVERGED (b2n (s.pair.diverged != 0))).setResync { r with outRgn := none }
      if r.outTodo.isEmpty then (if r.outCnt then s.finishCopy else s.resyncDone s.resync) else s
    else if s.mwrFenced n a then s
    else
      let (s, d, e, p) := (s.charge 255 64 (decide (cremaWin ≤ a))).storedLine n a
      let x := s.pair.nextXid % 65536
      let s := s.pairSend (.mwr x r.outNext (!e.isEmpty) p true 0 255 e d)
      let s := { s with pair := { s.pair with
        nextXid := s.pair.nextXid + 1, pendW := s.pair.pendW ++ [(x, r.outNext, 0)] } }
      ((s.setResync { r with outNext := r.outNext + 1 }).wr Fd.PAIR_RSYNC_PT_LO_ADDR (bits a 31 6)).wr
        Fd.PAIR_RSYNC_PT_HI_ADDR (bits a 39 32)
  | none => match r.outTodo with
    | n :: rest => ((s.setResync { r with
        outRgn := some n
        outNext := (s.rgn n).start / 64
        outTodo := rest }).wr Fd.PAIR_STAT_RESYNC_RGN n).pairSend (.rsync 1 n)
    | [] => if r.outCnt then s.finishCopy else s

/-- A GO of PAIR_RESYNC (R593, R602). -/
def State.resyncGo (s : State) (self : Bool) : State :=
  let busy := s.joined && s.pair.resync.isSome
  let s := if busy then s else s.wr Fd.PAIR_RESYNC_SOURCE_SELF (b2n self)
  if !s.joined then s.wr Fd.PAIR_RESYNC_RESULT 2
  else if busy then s.wr Fd.PAIR_RESYNC_RESULT 3
  else
    let ms := s.mirrored
    let s := { s with pair := { s.pair with diverged := 0 } }.wr Fd.PAIR_STAT_DIVERGED 0
    (if self then s.startResync ms [] true else s.startResync [] ms false).wr Fd.PAIR_RESYNC_RESULT 1

/-- A region newly mirrored by a commit is copied from the PRIMARY while the pair is joined (R309). -/
def State.mirrorAdded (s : State) (n : Nat) : State :=
  if s.joined ∧ s.role = 1 then
    let r := s.resync
    (s.setCurrent n true).setResync { r with outTodo := r.outTodo ++ [n], outCnt := true }
  else if s.joined then
    let r := s.resync
    (s.setCurrent n false).setResync { r with inTodo := r.inTodo ++ [n], inOpen := true }
  else s.setCurrent n true

/-- A region whose MIRROR a commit clears leaves the copy in progress; the partner's copy stands as it is (R309). -/
def State.mirrorLeft (s : State) (n : Nat) : State :=
  let r := s.resync
  let left := { r with
    outRgn := if r.outRgn = some n then none else r.outRgn
    outTodo := r.outTodo.filter (· != n)
    inRgn := if r.inRgn = some n then none else r.inRgn
    inTodo := r.inTodo.filter (· != n) }
  if s.pair.resync.isNone then s
  else if (r.outRgn.isSome || !r.outTodo.isEmpty || r.outCnt) && left.outRgn.isNone && left.outTodo.isEmpty then
    (if r.outCnt then (s.setResync left).finishCopy else s.resyncDone left)
  else s.resyncDone left

/-! ### Commands -/

/-- HELLO_SEND (R575). -/
def execHelloSend (s : State) : Host.Outcome State Fault Refusal :=
  s.act (if s.pairTalks ∧ !s.joined ∧ s.role ≠ 0 then
    let s := s.pairSend (.hello s.role s.mode (s.on Fd.PAIR_STAT_SINGLE_WR) s.currentMask)
    { s with pair := { s.pair with helloSent := true } }.tryJoin
  else s)

/-- HELLO (R575). -/
def execHelloRecv (role mode : Nat) (single : Bool) (current : Nat) (s : State) :
    Host.Outcome State Fault Refusal := s.act (s.pairMsg (.hello role mode single current))

/-- HB_SEND (R586). -/
def execHbSend (s : State) : Host.Outcome State Fault Refusal :=
  s.act (if s.joined then
    (s.pairSend (.hb s.role s.mode (s.on Fd.PAIR_STAT_SINGLE_WR) s.currentMask)).roleSettle else s)

/-- HB (R586). -/
def execHbRecv (role mode : Nat) (single : Bool) (current : Nat) (s : State) :
    Host.Outcome State Fault Refusal := s.act (s.pairMsg (.hb role mode single current))

/-- HB_TIMEOUT (R586). -/
def execHbTimeout (s : State) : Host.Outcome State Fault Refusal := s.act (s.losePartner 1 0)

/-- ANSWER_TIMEOUT (R586). -/
def execAnswerTimeout (s : State) : Host.Outcome State Fault Refusal :=
  s.act (if s.pair.pendW.isEmpty ∧ s.pair.pendX.isEmpty then s else s.losePartner 4 0)

/-- LEAVE (R586). -/
def execLeaveRecv (mode : Nat) (s : State) : Host.Outcome State Fault Refusal := s.act (s.pairMsg (.leave mode))

/-- MWR (R579). -/
def execMwrRecv (xid line : Nat) (keyed poison copy : Bool) (urg label : Nat) (entry data : List Byte)
    (s : State) : Host.Outcome State Fault Refusal :=
  s.act (s.pairMsg (.mwr xid line keyed poison copy urg label entry data))

/-- MCMT (R579). -/
def execMcmtRecv (xid status : Nat) (s : State) : Host.Outcome State Fault Refusal :=
  s.act (s.pairMsg (.mcmt xid status))

/-- MEXEC (R583). -/
def execMexecRecv (xid op : Nat) (head : ReqHead) (data : List Byte) (s : State) :
    Host.Outcome State Fault Refusal := s.act (s.pairMsg (.mexec xid op head data))

/-- MRES (R583). -/
def execMresRecv (xid status rflags pmask result : Nat) (data : List Byte) (s : State) :
    Host.Outcome State Fault Refusal :=
  s.act (s.pairMsg (.mres xid { port := 12, op := 0, reqId := 0, tag := 0, status, rflags, pmask, result, data }))

/-- CDELTA (R584). -/
def execCdeltaRecv (csid index dp db : Nat) (s : State) : Host.Outcome State Fault Refusal :=
  s.act (s.pairMsg (.cdelta csid index dp db))

/-- CSET (R584). -/
def execCsetRecv (csid index : Nat) (lost : Bool) (epoch pkts bytes : Nat) (s : State) :
    Host.Outcome State Fault Refusal := s.act (s.pairMsg (.cset csid index lost epoch pkts bytes))

/-- CMARK (R584). -/
def execCmarkRecv (time : Nat) (s : State) : Host.Outcome State Fault Refusal := s.act (s.pairMsg (.cmark time))

/-- QCKPT (R585). -/
def execQckptRecv (qid state pool : Nat) (prot : Bool) (limit cells pkts bytes : Nat) (s : State) :
    Host.Outcome State Fault Refusal :=
  s.act (s.pairMsg (.qckpt qid state pool prot limit cells pkts bytes))

/-- ROLE (R594). -/
def execRoleRecv (role : Nat) (ack : Bool) (s : State) : Host.Outcome State Fault Refusal :=
  s.act (s.pairMsg (.role role ack))

/-- RSYNC (R590). -/
def execRsyncRecv (code region : Nat) (s : State) : Host.Outcome State Fault Refusal :=
  s.act (s.pairMsg (.rsync code region))

/-- RESYNC_COPY_READ (R590). -/
def execResyncCopyRead (s : State) : Host.Outcome State Fault Refusal := s.act s.copyNext

/-- ROLE_CHANGE (R594). -/
def execRoleChange (role : Nat) (s : State) : Host.Outcome State Fault Refusal :=
  s.act (if role < 3 then s.roleGo role else s)

/-- ROLE_CHANGE_TIMEOUT (R594). -/
def execRoleChangeTimeout (s : State) : Host.Outcome State Fault Refusal :=
  s.act (if s.pair.roleAsk.isSome then (s.roleEnd 4).raise 102 4 0 else s)

/-- PAIR_RESYNC (R593). -/
def execPairResync (self : Bool) (s : State) : Host.Outcome State Fault Refusal := s.act (s.resyncGo self)

/-- CHECKPOINT_SWEEP (R503). -/
def execCheckpointSweep (s : State) : Host.Outcome State Fault Refusal := s.act s.sweep

end Sys2Proof.Machine
end

