-- ==== Sys2Proof/Machine/RgnCmd.lean ====
section
/-! DEFINITION. Region commits (R303–R310) and region fence clears (R316, R587). -/

namespace Sys2Proof.Machine

/-- A region's span as (window, base, size); an invalid entry has none. -/
def Rgn.span3 (r : Rgn) : Nat × Nat × Nat := if r.valid then (r.win, r.base, r.size) else (0, 0, 0)

/-- The staged entry differs only in LABEL, PAGE, RET or the allowed set (R305). -/
def Rgn.light (old new : Rgn) : Bool :=
  decide ({ new with label := old.label, page := old.page, ret := old.ret, q0 := old.q0, q1 := old.q1 } = old)

/-- The region is in use (R307, R429, R475). -/
def State.rgnInUse (s : State) (n : Nat) (new : Rgn) : Bool :=
  let old := s.rgn n
  (s.que.qs.any fun (e : Nat × QRec) => e.2.state != 0 && s.poolRgn e.2.pool == n) || s.tblNames n ||
  (s.csets.any fun k => (s.cset k).rgn == n || (s.cset k).ancRgn == n) ||
  ((List.range 64).any fun m => (s.rgn m).valid && (s.rgn m).key != 0 && (s.rgn m).tsr == n) ||
  (old.valid && old.key != 0 && (s.slotKey (old.key - 1)).isSome &&
    (new.key != old.key || new.tsr != old.tsr || new.tsoff != old.tsoff))

/-- RESULT and RGN_CHANGE (R304, R311). -/
def State.commitDone (s : State) (n result : Nat) : State :=
  (s.wr Fd.RGN_COMMIT_RESULT result).raise 10 1 (n + result * 256)

/-- The pools of a region that a heavy change has altered are reclaimed (R429). -/
def State.poolsReclaim (s : State) (n : Nat) : State :=
  (List.range 16).foldl (fun s p => if s.on (Fd.QUE_POOL_CFG_VALID p) ∧ s.poolRgn p = n then s.reclaim p else s) s

/-- The new entry comes into force (R305, R306 step 4, R309). -/
def State.commitApply (s : State) (n : Nat) (new : Rgn) : State :=
  let old := s.rgn n
  let s := s.putRgn n new
  let s := if old.light new then s else s.poolsReclaim n
  if new.valid ∧ new.mirror then
    (if old.valid ∧ old.mirror ∧ old.span3 = new.span3 then s else s.mirrorAdded n)
  else if old.valid ∧ old.mirror then s.mirrorLeft n
  else s

/-- The staging registers' words, B to T (R314). -/
def State.stageWords (s : State) : List Word :=
  [Ra.RGN_STG_B, Ra.RGN_STG_S, Ra.RGN_STG_A, Ra.RGN_STG_Q0, Ra.RGN_STG_Q1, Ra.RGN_STG_T].map s.reg

def State.setStage (s : State) (ws : List Word) : State :=
  ([Ra.RGN_STG_B, Ra.RGN_STG_S, Ra.RGN_STG_A, Ra.RGN_STG_Q0, Ra.RGN_STG_Q1, Ra.RGN_STG_T].zip ws).foldl
    (fun s e => s.setReg e.1 e.2) s

/-- A GO of RGN_COMMIT (R304–R310). -/
def State.commitGo (s : State) (n : Nat) : State :=
  let busy := s.on Fd.RGN_STAT_BUSY
  let s := if busy then s else s.wr Fd.RGN_COMMIT_INDEX n
  let old := s.rgn n
  let new := s.rgnStaged
  if busy then s.commitDone n 3
  else if !(s.mode = mSERVICE ∨ s.mode = mDEGRADED) then s.commitDone n 13
  else match rgnCheck s (fun m => if m = n then new else s.rgn m) n with
    | some r => s.commitDone n r
    | none =>
      if old.light new then (s.commitApply n new).commitDone n 1
      else if s.rgnInUse n new then s.commitDone n 11
      else
        let c := (n, old.span3, new.span3, s.stageWords)
        let s := { s with req := { s.req with commit := some c, commitId := s.req.nextId } }
        (((s.wr Fd.RGN_STAT_BUSY 1).wr Fd.RGN_STAT_HOLDING 1).wr Fd.RGN_STAT_INDEX n).wr Fd.RGN_COMMIT_RESULT 2

/-- A request to the old span passed step 6 before the hold and is not complete, or was decoded before it and stands
behind a FENCE (R306 step 3, the corner of R310). -/
def State.commitBusy (s : State) (span : Nat × Nat × Nat) : Bool :=
  s.req.txns.any fun (t : Txn) => isLine t.op && inSpan span t.head.addr &&
    !(t.stage == .heldRegion || t.stage == .heldKey || t.stage == .heldOrdered || t.stage == .heldRole ||
      (t.stage == .heldFence && decide (s.req.commitId ≤ t.id)))

/-- The commit ends and the held requests go on (R306). -/
def State.commitEnd (s : State) (n result : Nat) : State :=
  let s := { s with req := { s.req with commit := none } }
  (((s.wr Fd.RGN_STAT_BUSY 0).wr Fd.RGN_STAT_HOLDING 0).commitDone n result).releaseStage .heldRegion

/-- RGN_COMMIT (R304): a GO for region `index`. -/
def execRgnCommit (index : Nat) (s : State) : Host.Outcome State Fault Refusal := s.act (s.commitGo (index % 64))

/-- COMMIT_DRAIN_END (R306 step 4). -/
def execCommitDrainEnd (s : State) : Host.Outcome State Fault Refusal :=
  s.act (match s.req.commit with
    | some (n, o, _, ws) =>
      if s.commitBusy o then s else (s.commitApply n (s.setStage ws).rgnStaged).commitEnd n 1
    | none => s)

/-- COMMIT_TIMEOUT (R306). -/
def execCommitTimeout (s : State) : Host.Outcome State Fault Refusal :=
  s.act (match s.req.commit with
    | some (n, _, _, _) => s.commitEnd n 12
    | none => s)

/-- A clear of a region's fence bit (R316). A mirrored region whose copy is STALE, fenced at the loss of
the partner, counts as CURRENT from then on (R587). -/
def State.rgnUnfence (s : State) (n : Nat) : State :=
  if s.rgnFenced n then
    let s := s.wrBit (rgnFenceFld n) (n % 32) false
    if (s.rgn n).valid ∧ (s.rgn n).mirror ∧ !s.joined then s.setCurrent n true else s
  else s

/-- RGN_FENCE_CLEAR (R316). -/
def execRgnFenceClear (region : Nat) (s : State) : Host.Outcome State Fault Refusal :=
  s.act (if region < 64 then s.rgnUnfence region else s)

end Sys2Proof.Machine
end

