-- ==== Sys2Proof/Machine/Wake.lean ====
section
/-! DEFINITION. Samovar's wake latch and record (R641, R644, R645, R648), the stop of the ports by
Trip B (R43), and the start of every port's lanes (R190). -/

namespace Sys2Proof.Machine

/-- A wake is recorded (R648): the first sources of a latch, then whatever else is latched. Sources of
one cycle are those of one device time. -/
def State.recordWake (s : State) (code : Nat) : State :=
  let first := s.rd Fd.PWR_WAKE_LAST_FIRST
  if s.on Fd.PWR_STAT_LATCHED then
    let s := s.wrBit Fd.PWR_WAKE_LAST_MASK code true
    let t := s.rd Fd.PWR_WAKE_TIME_LO_TIME + s.rd Fd.PWR_WAKE_TIME_HI_TIME * 2 ^ 32
    if t = s.clk.time ∧ code < first then s.wr Fd.PWR_WAKE_LAST_FIRST code else s
  else
    let tgt := match s.pwr.entry with
      | some r => r.mode
      | none => s.mode
    let s := (s.setReg Ra.PWR_WAKE_LAST 0).wr Fd.PWR_WAKE_LAST_VALID 1
    let s := ((s.wr Fd.PWR_WAKE_LAST_TGT tgt).wr Fd.PWR_WAKE_LAST_MASK (2 ^ code)).wr Fd.PWR_WAKE_LAST_FIRST code
    let s := (s.wr Fd.PWR_WAKE_TIME_LO_TIME s.clk.time).wr Fd.PWR_WAKE_TIME_HI_TIME (s.clk.time / 2 ^ 32)
    s.wr Fd.PWR_STAT_LATCHED 1

/-- A source event acts while the latch is armed and its source enabled (R641, R645). -/
def State.wakeEvent (s : State) (code : Nat) : State :=
  if s.on Fd.PWR_STAT_ARMED ∧ bit (s.rd Fd.PWR_WAKE_EN_EN) code then s.recordWake code else s

/-- PWR_WAKE (R652). -/
def State.raiseWake (s : State) : State :=
  s.raise 14 1 (s.rd Fd.PWR_WAKE_LAST_FIRST + s.rd Fd.PWR_WAKE_LAST_MASK * 8 +
    s.rd Fd.PWR_WAKE_LAST_REPLAYED * 512 + s.rd Fd.PWR_WAKE_LAST_ABORTED * 1024 + s.rd Fd.PWR_WAKE_LAST_TGT * 2048)

/-- Every port's transmitters stop (R195). -/
def State.portsOff (s : State) : State := (List.range 13).foldl (fun s n => s.portOff n) s

/-- LOCKDOWN becomes, or is, LOCKDOWN by Trip B: the ports stop transmitting (R43), and flash writing ends (R127). -/
def State.tripStop (s : State) : State :=
  let s := s.cutWrites.wr Fd.GLB_MODE_TRIPB 1
  ({ s with pins := { s.pins with lanesIdle := true } }).portsOff

/-- Every enabled port whose lanes may run starts bring-up (R190). -/
def State.bringupAll (s : State) : State :=
  (List.range 13).foldl (fun s n => if s.laneRuns n then s.bringup n else s) s

end Sys2Proof.Machine
end

