-- ==== Sys2Proof/Machine/Kettle.lean ====
section
/-! DEFINITION. Kettle (chapter 20): validity and substitution (R605–R610), throttle levels (R611,
R612), trips (R614–R617), spread between regions (R618–R620), refresh bands (R335), and the temperatures
other blocks use (R621). -/

namespace Sys2Proof.Machine

/-! ### Throttling (R611, R612) -/

def State.startEff (s : State) : Int := 8 * (s.rd Fd.THM_THR_START : Int) + s.gradeC

def State.stepC (s : State) : Int := 8 * (s.rd Fd.THM_THR_STEP : Int)

/-- The level's lower threshold. -/
def State.thrFloor (s : State) (l : Nat) : Int := s.startEff + s.stepC * ((l : Int) - 1)

/-- The computed level (R612). -/
def State.thrLevel (s : State) (z : Int) : Nat :=
  if z < s.startEff then 0 else min 7 (((z - s.startEff) / s.stepC).toNat + 1)

/-- THROTTLE of a zone (R622). -/
def State.raiseThrottle (s : State) (q old : Nat) : State :=
  let l := s.rd (Fd.THM_ZONE_LEVEL q)
  let s := { s with thm := { s.thm with
    thrTime := Tab.put (fun _ => 0) s.thm.thrTime q (s.clk.time + 1)
    thrHeld := Tab.put (fun _ => 0) s.thm.thrHeld q 0 } }
  s.raise 16 1 (q + l * 16 + old * 256)

/-- A zone takes a new level; THROTTLE at most once a millisecond (R611, R622). -/
def State.setZone (s : State) (q l : Nat) : State :=
  let old := s.rd (Fd.THM_ZONE_LEVEL q)
  if l = old then s
  else
    let s := s.wr (Fd.THM_ZONE_LEVEL q) l
    let s := { s with thm := { s.thm with zoneTime := Tab.put (fun _ => 0) s.thm.zoneTime q (s.clk.time + 1) } }
    let s := (List.range 8).foldl (fun s k => s.groupFollow (8 * q + k)) s
    if rateOk (Tab.get (fun _ => 0) s.thm.thrTime q) s.clk.time msTicks then s.raiseThrottle q old
    else if Tab.get (fun _ => (0 : Nat)) s.thm.thrHeld q = 0 then
      { s with thm := { s.thm with thrHeld := Tab.put (fun _ => 0) s.thm.thrHeld q (old + 1) } }
    else s

/-- The fall condition of R612. -/
def State.thrFalls (s : State) (z : Int) (l : Nat) : Bool :=
  decide (s.thrLevel z < l) && decide (z < s.thrFloor l - 8 * (s.rd Fd.THM_THR_HYST : Int))

/-- A zone's evaluation at a sample (R612); `sub`: a substitute was in effect as the sample began. -/
def State.zoneEval (s : State) (q : Nat) (sub : Bool) : State :=
  match s.maxEff (s.zoneSns q) with
  | none => s
  | some (_, z) =>
    let l := s.rd (Fd.THM_ZONE_LEVEL q)
    let t := Tab.get (fun _ => 0) s.thm.zoneTime q
    if l < s.thrLevel z then s.setZone q (s.thrLevel z)
    else if s.thrFalls z l ∧ !sub ∧ rateOk t s.clk.time 1750 then s.setZone q (l - 1)
    else s

/-- The level a zone falls to without the one-step limit (R614). -/
def State.thrFallTo (s : State) (z : Int) : Nat → Nat
  | 0 => 0
  | l + 1 => if s.thrFalls z (l + 1) then s.thrFallTo z l else l + 1

/-- A zone has a substitute in effect (R612). -/
def State.zoneSub (s : State) (q : Nat) : Bool := (s.zoneSns q).any fun i => (s.sns i).hasSub

/-- The zones recomputed on a return from THERMAL-HOLD (R614). -/
def State.zonesReturn (s : State) : State :=
  (List.range 4).foldl (fun s q => match s.maxEff (s.zoneSns q) with
    | none => s
    | some (_, z) =>
      let l := s.rd (Fd.THM_ZONE_LEVEL q)
      if l < s.thrLevel z then s.setZone q (s.thrLevel z)
      else if s.zoneSub q then s else s.setZone q (s.thrFallTo z l)) s

/-! ### Trips and bands -/

/-- Trip A in STANDBY stands in the wake record, and does not wake the part (R641, R648). -/
def State.tripAWake (s : State) : State :=
  let latched := s.rd Fd.PWR_STAT_LATCHED
  ((s.recordWake 4).raiseWake).wr Fd.PWR_STAT_LATCHED latched

/-- Trip A: THERMAL-HOLD is requested; in STANDBY the wake record shows it (R614, R641). -/
def State.tripAEval (s : State) : State :=
  match s.maxEff (s.snsClass 64) with
  | none => s
  | some (i, e) =>
    if e < s.tripAt true then { s with thm := { s.thm with tripA := false } }
    else if s.thm.tripA then s
    else
      let s := { s with thm := { s.thm with tripA := true } }
      let s := s.count Fd.THM_CNT_TRIPA_N Fd.THM_CNT_TRIPA_OVF 1
      let s := if s.mode = mSTANDBY then s.tripAWake else s
      (s.askMode { prec := 3, mode := mHOLD, level := s.level }).raise 17 1 (i + wrapInt 12 e * 256)

/-- THERMAL-HOLD ends when every effective core-die reading is below the exit value and no zone is lost
(R614, R615). -/
def State.holdExit (s : State) : State :=
  if s.mode = mHOLD ∧ !s.thm.exitAsked ∧ s.thm.lost.isEmpty then
    match s.maxEff (s.snsClass 64) with
    | some (_, e) =>
      if e < 680 + s.gradeC then
        ({ s with thm := { s.thm with exitAsked := true } }.askMode
          { prec := 3, mode := s.seq.preHold, level := s.level }).raise 18 1 0
      else s
    | none => s
  else s

/-- Trip B takes effect (R616): THERMTRIP_N, and LOCKDOWN at precedence 1; a part already in LOCKDOWN by
escalation turns at once, and the request is recorded as accepted and done (R43, R52). -/
def State.tripBNow (s : State) (i : Nat) (e : Int) : State :=
  let s := { s with pins := { s.pins with thermtripLow := true } }
  let s := { s with thm := { s.thm with tripB := true } }
  let s := s.raise 19 1 (i + wrapInt 12 e * 256)
  if s.mode = mLOCKDOWN then ((s.modeStat 1 4).modeStat 1 1 |> fun t => if t.tripB then t else t.tripStop)
  else s.askMode { prec := 1, mode := mLOCKDOWN, level := s.level }

/-- Trip B of the base-die sensors (R616). -/
def State.tripBEval (s : State) : State :=
  match s.maxEff (s.snsClass 0) with
  | none => s
  | some (i, e) =>
    if e < s.tripAt false then { s with thm := { s.thm with tripB := false } }
    else if s.thm.tripB then s
    else s.tripBNow i e

def State.band (s : State) (lg : Nat) : Nat := Tab.get (fun _ => 0) s.thm.band lg

/-- The refresh band of a layer group at a sample (R335). -/
def State.bandEval (s : State) (lg : Nat) : State :=
  let l := ((List.range 16).map fun k => 64 + 16 * lg + k).filter s.snsPresent
  match s.maxEff l with
  | none => s
  | some (_, m) =>
    let t1 := 680 + s.gradeC
    let t2 := 760 + s.gradeC
    let b := s.band lg
    let up := if t2 < m then 2 else if t1 < m then 1 else 0
    let dn := if t2 - 16 < m then 2 else if t1 - 16 < m then 1 else 0
    let b' := if b < up then up else if dn < b ∧ !(l.any fun i => (s.sns i).hasSub) then dn else b
    if b' = b then s
    else
      let s := { s with thm := { s.thm with band := Tab.put (fun _ => 0) s.thm.band lg b' } }
      let r := (List.range 4).foldl (fun r k => max r (s.band k)) 0
      (List.range 32).foldl (fun s g => s.wr (Fd.CG_STAT_REF_RATE g) r) s

/-! ### Spread (R618–R620) -/

/-- Regions that are adjacent (R618). -/
def adjacent (a b : Nat) : Bool := (a + 4 == b) || (b + 4 == a) || (a / 4 == b / 4 && (a + 1 == b || b + 1 == a))

def State.rgnVolt (s : State) (r : Nat) : Nat := s.rd (Fd.THM_RGN_VOLT r)

/-- Both regions have been sampled. -/
def State.pairKnown (s : State) (a b : Nat) (volt : Bool) : Bool :=
  if volt then s.rgnVolt a != 0 && s.rgnVolt b != 0
  else (s.maxEff (rgnSns a)).isSome && (s.maxEff (rgnSns b)).isSome

def absDiff (a b : Int) : Nat := (a - b).natAbs

/-- The pair differs by more than the limits given. -/
def State.pairOver (s : State) (a b : Nat) (volt : Bool) (mv t : Nat) : Bool :=
  s.pairKnown a b volt &&
    (if volt then decide (mv < absDiff (s.rgnVolt a) (s.rgnVolt b)) else decide (t < absDiff (s.rgnTemp a) (s.rgnTemp b)))

/-- A region is dropped (R619). -/
def State.dropRgn (s : State) (slow other : Nat) (volt : Bool) : State :=
  if s.dropped slow then s
  else
    let s := (s.wrBit Fd.THM_DROP_DROP slow true).count Fd.THM_CNT_SPREAD_N Fd.THM_CNT_SPREAD_OVF 1
    ((s.groupSwitch (2 * slow)).groupSwitch (2 * slow + 1)).raise 23 1 (slow + other * 16 + b2n volt * 256)

/-- One pair at a sample of either region: a breach on 3 consecutive samples drops the slower region
(R619). -/
def State.spreadPair (s : State) (volt : Bool) (a b : Nat) : State :=
  let k := 16 * min a b + max a b
  let tab := if volt then s.thm.vBad else s.thm.tBad
  let n := if s.pairOver a b volt 50 200 then min 3 (Tab.get (fun _ => 0) tab k + 1) else 0
  let tab := Tab.put (fun _ => 0) tab k n
  let s := if volt then { s with thm := { s.thm with vBad := tab } } else { s with thm := { s.thm with tBad := tab } }
  if n < 3 then s
  else if Tab.get (fun _ => 0) s.thm.vBad k = 3 then
    (if s.rgnVolt a < s.rgnVolt b then s.dropRgn a b true else s.dropRgn b a true)
  else if s.rgnTemp b < s.rgnTemp a then s.dropRgn a b false else s.dropRgn b a false

/-- Every pair of a region at one of its samples (R619). -/
def State.spreadEval (s : State) (r : Nat) (volt : Bool) : State :=
  if s.on Fd.THM_CTL_SPREAD_EN then
    ((List.range 16).filter (adjacent r)).foldl (fun s b => s.spreadPair volt r b) s
  else s

/-- Every pair of the region stays within 40 mV and 20 °C (R620). -/
def State.spreadCalm (s : State) (r : Nat) : Bool :=
  ((List.range 16).filter (adjacent r)).all fun b => !s.pairOver r b true 40 160 && !s.pairOver r b false 40 160

/-! ### Temperatures of other blocks (R621) -/

/-- CAL_DRIFT of a group, once until its next correction (R621). -/
def State.calDrift (s : State) (g : Nat) : State :=
  match Tab.get (fun _ => none) s.thm.calRec g with
  | some t =>
    if 8 * s.rd Fd.THM_THR_CAL_DRIFT ≤ absDiff (s.rgnTemp (g / 2)) t ∧ g ∉ s.thm.calRaised then
      { s with thm := { s.thm with calRaised := s.thm.calRaised ++ [g] } }.raise 25 1 g
    else s
  | none => s

/-- TS-B17 crosses a band boundary: a re-read pass begins (R163). `first`: its first sample sets the
band. -/
def State.otpBand (s : State) (first : Bool) : State :=
  let n (t : Int) : Nat := ((List.range 5).filter fun k => decide ((160 * (k + 1) : Nat) ≤ t)).length
  let up := n (s.eff 17)
  let dn := n (s.eff 17 + 16)
  let b := s.otp.band
  if first then { s with otp := { s.otp with band := up } }
  else if b < up then { s with otp := { s.otp with band := up } }.rereadStart
  else if dn < b then { s with otp := { s.otp with band := dn } }.rereadStart
  else s

/-! ### A sample -/

/-- The neighbours' largest passing reading at a sample of one of them (R606). -/
def State.noteNeighbours (s : State) (i : Nat) : State :=
  (s.neighbours i).foldl (fun s j =>
    let x := s.sns j
    match s.hottest (s.neighbours j) with
    | some m =>
      if x.run = 0 then s
      else s.setSns j { x with hist := (x.hist.filter fun (e : Nat × Int) => decide (x.run ≤ e.1 + 4095)) ++ [(x.run, m)] }
    | none => s) s

/-- Largest less smallest. -/
def spanOf (l : List (Nat × Int)) : Int :=
  match l with
  | [] => 0
  | e :: l => (l.foldl (fun m (x : Nat × Int) => max m x.2) e.2) - (l.foldl (fun m (x : Nat × Int) => min m x.2) e.2)

/-- The code joins the sensor's run of equal codes (R606). -/
def Sns.code (x : Sns) (raw : Nat) : Sns :=
  if x.sampled ∧ x.raw = raw ∧ x.run ≠ 0 then { x with run := x.run + 1 }
  else { x with raw := raw, run := 1, hist := [] }

/-- The check a conversion fails (R606, codes of R622); 0 when it passes. `x` is the sensor with the
code in its run. -/
def State.sampleCheck (s : State) (x : Sns) (r : Int) : Nat :=
  if r < -320 ∨ 1200 < r then 2
  else
    let slow := match x.pass with
      | some p => decide (absDiff r p * 175000 ≤ 24 * 175000 + 80 * (s.clk.time - x.passAt))
      | none => true
    if !x.fresh ∧ !slow then 3
    else if 4096 ≤ x.run ∧
        24 ≤ spanOf (x.hist.filter fun (e : Nat × Int) => decide (x.run ≤ e.1 + 4095)) then 4
    else 0

/-- A zone or region all of whose sensors are FAILED is reported once (R610). -/
def State.lostEval (s : State) (i : Nat) : State :=
  let code := if i < 64 then 16 + snsRgn i else i % 4
  let l := if i < 64 then rgnSns (snsRgn i) else s.zoneSns (i % 4)
  if (l.all fun j => (s.sns j).failed) ∧ code ∉ s.thm.lost then
    { s with thm := { s.thm with lost := s.thm.lost ++ [code] } }.raise 22 1 code
  else s

/-- A passing sample (R609): it ends a substitute, or counts toward the end of a rearm. -/
def Sns.pass1 (x : Sns) (r : Int) (now : Nat) : Sns :=
  { x with
    pass := some r
    passAt := now
    sampled := true
    ok := true
    fails := 0
    fresh := false
    rearm := x.rearm - 1
    sub := decide (1 < x.rearm) }

/-- A failing sample (R609). -/
def Sns.fail1 (x : Sns) : Sns :=
  { x with
    sampled := true
    ok := false
    fails := x.fails + 1
    failed := decide (2 ≤ x.fails)
    fresh := false
    rearm := if x.rearm = 0 then 0 else 3
    sub := true }

/-- What a failing sample raises (R609, R610, R622). -/
def State.sampleFails (s : State) (i code : Nat) (x : Sns) : State :=
  let y := x.fail1
  let s := s.setSns i y
  let s := if x.hasSub then s
    else (s.count Fd.THM_CNT_SUBST_N Fd.THM_CNT_SUBST_OVF 1).raise 20 1 (i + code * 256)
  if y.failed then (s.raise 21 1 (i + code * 256)).lostEval i else s

/-- What Kettle evaluates at every completed sample (R335, R612, R614, R616, R619, R621). -/
def State.snsEval (s : State) (i : Nat) (sub first : Bool) : State :=
  if i < 64 then
    let r := snsRgn i
    let s := ((s.spreadEval r false).calDrift (2 * r)).calDrift (2 * r + 1)
    let s := if i = 17 then s.otpBand first else s
    s.tripBEval
  else (((s.zoneEval (i % 4) sub).bandEval (dieOf i / 4)).tripAEval).holdExit

/-- A conversion ends with a code, or without one (R605, R606). A FAILED or absent sensor is not
sampled, and Kettle is off with the base die. -/
def State.sample (s : State) (i : Nat) (raw : Option Nat) : State :=
  let x := s.sns i
  if !s.snsPresent i ∨ x.failed ∨ s.coreOff then s
  else
    let sub := s.zoneSub (i % 4)
    let first := !x.sampled
    let s := match raw with
      | none => s.sampleFails i 1 x
      | some w =>
        let x := x.code (w % 4096)
        let r := signed 12 w
        match s.sampleCheck x r with
        | 0 => s.setSns i (x.pass1 r s.clk.time)
        | c => s.sampleFails i c x
    (s.noteNeighbours i).snsEval i sub first

/-! ### Commands -/

/-- SENSOR_SAMPLE (R605): the environment's conversion result, a 12-bit code. -/
def execSensorSample (sensor code : Nat) (s : State) : Host.Outcome State Fault Refusal :=
  s.act (s.sample sensor (some code))

/-- SENSOR_CONVERSION_TIMEOUT (R606). -/
def execSensorConversionTimeout (sensor : Nat) (s : State) : Host.Outcome State Fault Refusal :=
  s.act (s.sample sensor none)

/-- REGION_VOLTAGE_SAMPLE (R618, R619). -/
def execRegionVoltageSample (region mv : Nat) (s : State) : Host.Outcome State Fault Refusal :=
  s.act (if region < 16 ∧ !s.coreOff then (s.wr (Fd.THM_RGN_VOLT region) mv).spreadEval region true else s)

/-- SPREAD_CLEAR (R620). -/
def execSpreadClear (region : Nat) (s : State) : Host.Outcome State Fault Refusal :=
  s.act (if s.dropped region ∧ s.spreadCalm region then
    let s := s.wrBit Fd.THM_DROP_DROP region false
    ((s.groupSwitch (2 * region)).groupSwitch (2 * region + 1)).raise 24 1 region
  else s)

/-- A GO of THM_REARM (R609, R629). -/
def State.rearmSns (s : State) (i : Nat) : State :=
  let x := s.sns i
  if x.failed then
    let s := s.setSns i { x with failed := false, fails := 0, rearm := 3, fresh := true, sub := true }
    { s with thm := { s.thm with
      lost := s.thm.lost.filter (· != (if i < 64 then 16 + snsRgn i else i % 4)) } }
  else s

/-- REARM (R609). -/
def execRearm (sensor : Nat) (s : State) : Host.Outcome State Fault Refusal :=
  s.act ((s.wr Fd.THM_REARM_SENSOR sensor).rearmSns (sensor % 128))

/-- THROTTLE_LIMIT_END (R622): a suppressed change is reported. -/
def execThrottleLimitEnd (zone : Nat) (s : State) : Host.Outcome State Fault Refusal :=
  s.act (match Tab.get (fun _ => (0 : Nat)) s.thm.thrHeld zone with
    | 0 => s
    | old + 1 => s.raiseThrottle zone old)

/-- CORE_DIE_COMPARE (R617): raw codes of core-die sensors. Each die sets its self-refresh rate from its
own sensors; Trip A raises every rate to High and is recorded (R41, R345). -/
def execCoreDieCompare (codes : List (Nat × Nat)) (s : State) : Host.Outcome State Fault Refusal :=
  s.act (if s.mode = mRETAIN ∨ s.mode = mRETAINP then
    let ok := codes.filter fun (e : Nat × Nat) =>
      decide (64 ≤ e.1) && s.snsPresent e.1 && decide (-320 ≤ signed 12 e.2) && decide (signed 12 e.2 ≤ 1200)
    let rate (m : Int) : Nat := if 760 + s.gradeC < m then 2 else if 680 + s.gradeC < m then 1 else 0
    let s := (List.range 16).foldl (fun s d =>
      match (ok.filter fun (e : Nat × Nat) => dieOf e.1 == d).map fun (e : Nat × Nat) => signed 12 e.2 with
      | [] => s
      | e :: l => { s with pwr := { s.pwr with srRate := Tab.put (fun _ => 0) s.pwr.srRate d (rate (l.foldl max e)) } }) s
    if ok.any fun (e : Nat × Nat) => decide (s.tripAt true ≤ signed 12 e.2) then
      let high := (List.range (4 * s.part.lgrp)).foldl (fun t d => Tab.put (fun _ => 0) t d 2) s.pwr.srRate
      ({ s with pwr := { s.pwr with srRate := high } }.wr Fd.THM_CTL_RETAIN_TRIP 1).wakeEvent 4
    else s
  else s)

/-- DEEP_TRIP_B_SAMPLE (R617): TS-B56, whose reading Samovar's temperature correction uses too (R91). -/
def execDeepTripBSample (code : Nat) (s : State) : Host.Outcome State Fault Refusal :=
  s.act (if s.mode = mDEEP ∧ -320 ≤ signed 12 code ∧ signed 12 code ≤ 1200 then
    let s := { s with clk := { s.clk with aoTemp := signed 12 code } }
    if !s.thm.tripB ∧ s.tripAt false ≤ signed 12 code then s.tripBNow 56 (signed 12 code) else s
  else s)

end Sys2Proof.Machine
end

