-- ==== Sys2Proof/Machine/Cal.lean ====
section
/-! DEFINITION. Calibration commands and Steep windows (chapter 22). -/

namespace Sys2Proof.Machine

/-- A GO of CGn_CAL_CMD on CGn_CAL_ARG (R664, R672). -/
def State.calGo (s : State) (g op : Nat) : State :=
  let level := s.rd (Fd.CG_CAL_ARG_LEVEL g)
  let pc := 4 * g + s.rd (Fd.CG_CAL_ARG_PC g)
  let lane := s.rd (Fd.CG_CAL_ARG_LANE g)
  let value := s.rd (Fd.CG_CAL_ARG_VALUE g)
  let res (s : State) (r : Nat) : State := s.wr (Fd.CG_CAL_CMD_RESULT g) r
  let c : CalCmd := { op, level, pc, lane, value }
  let busy := (s.calCmd g).isSome
  let s := if busy then s else s.wr (Fd.CG_CAL_CMD_OP g) op
  if busy then res s 3
  else if 65 < lane ∨ op = 0 ∨ 4 < op then res s 5
  else if op = 3 ∧ (spareLane lane ∨ (40 ≤ lane ∧ value % 2 = 1)) then res s 5
  else if op = 1 then
    (if level ≠ s.rd (Fd.CG_STAT_EFF_LEVEL g) ∨ s.cgFenced g then
      { s.setDly pc level lane value with cal := { (s.setDly pc level lane value).cal with dirty := true } } |>.wr
        (Fd.CG_CAL_CMD_RESULT g) 1
    else res s 5)
  else if op = 4 then res (s.wr (Fd.CG_CAL_ARG_VALUE g) (s.dly pc level lane)) 1
  else if op = 3 ∧ !s.tsvFree pc (tsvPlace lane).1 (value % 2) then s.tsvSwap g c
  else (s.setCal g (some c) 2).calSettle g

/-- House firmware writes CGn_CAL_ARG (R664, R673). -/
def State.calArgs (s : State) (g level pc lane value : Nat) : State :=
  (((s.wr (Fd.CG_CAL_ARG_LEVEL g) level).wr (Fd.CG_CAL_ARG_PC g) pc).wr (Fd.CG_CAL_ARG_LANE g) lane).wr
    (Fd.CG_CAL_ARG_VALUE g) value

/-- SET (R664). -/
def execCalSet (cg level pc lane value : Nat) (s : State) : Host.Outcome State Fault Refusal :=
  s.act ((s.calArgs (cg % 32) level pc lane value).calGo (cg % 32) 1)

/-- STEEP (R664). -/
def execCalSteep (cg level pc lane value : Nat) (s : State) : Host.Outcome State Fault Refusal :=
  s.act ((s.calArgs (cg % 32) level pc lane value).calGo (cg % 32) 2)

/-- TSV_SWAP (R665). -/
def execCalTsvSwap (cg level pc lane value : Nat) (s : State) : Host.Outcome State Fault Refusal :=
  s.act ((s.calArgs (cg % 32) level pc lane value).calGo (cg % 32) 3)

/-- CAL_READ (R664). -/
def execCalRead (cg level pc lane : Nat) (s : State) : Host.Outcome State Fault Refusal :=
  s.act ((s.calArgs (cg % 32) level pc lane 0).calGo (cg % 32) 4)

/-- A window may be granted in a bank (R662): the slot is lent, no remap copy wants it, no level change,
no self-refresh, no fence. -/
def State.windowOk (s : State) (pc bank : Nat) : Bool :=
  let g := pc / 4
  s.lends pc bank && !s.lvlChanging g && !(s.pc pc).selfRef && !s.cgFenced g &&
    (match (s.cg g).remap with
     | some r => !(r.pc == pc && r.bank == bank)
     | none => true)

/-- STEEP_WINDOW (R661, R663): the pending correction of the pseudo-channel takes effect, then training
bursts run; `obs` are the disagreements they show (lane, direction, side, count). -/
def execSteepWindow (pc bank : Nat) (obs : List (Nat × Nat × Nat × Nat)) (s : State) :
    Host.Outcome State Fault Refusal :=
  s.act (if pc < 128 ∧ s.windowOk pc bank then
    let g := pc / 4
    let s := (s.lend pc bank).count (Fd.CG_CAL_STAT_WIN_CNT g) (Fd.CG_CAL_STAT_WIN_OVF g) 1
    let s := match s.calCmd g with
      | some c => if c.pc = pc then s.calApply g else s
      | none => s
    obs.foldl (fun s (e : Nat × Nat × Nat × Nat) => s.driftNote pc e.1 (e.2.1 % 2) (e.2.2.1 % 2) e.2.2.2) s
  else s)

/-- DRIFT_WINDOW (R663): a lane's millisecond ends; `seen` are the disagreements its monitors have shown on the read bursts
of that millisecond (direction, side, count). Its counts restart. -/
def execDriftWindow (pc : Nat) (drift : LaneDrift) (s : State) : Host.Outcome State Fault Refusal :=
  let t := if pc < 128 then drift.seen.foldl (fun s (e : Nat × Nat × Nat) => s.driftNote pc drift.lane (e.1 % 2) (e.2.1 % 2) e.2.2) s
    else s
  s.act { t with cal := { t.cal with
    mon := t.cal.mon.filter fun (e : Nat × Nat) => e.1 / 4 != 66 * pc + drift.lane } }

/-- LANE_RETRAIN (R667): on each port that has a ready spare, the next logical lane in turn is swapped. -/
def execLaneRetrain (s : State) : Host.Outcome State Fault Refusal :=
  s.act ((List.range 13).foldl (fun s n =>
    if s.on (Fd.PORT_LANE_STAT_SPARE_READY n) then
      let k := Tab.get (fun _ => 0) s.cal.turn n
      let s := { s with cal := { s.cal with turn := Tab.put (fun _ => 0) s.cal.turn n ((k + 1) % lanesOf n) } }
      s.swapGo n k 0
    else s) s)

end Sys2Proof.Machine
end

