-- ==== Sys2Proof/Machine/Fault.lean ====
section
/-! DEFINITION. The fault collector (chapter 23): acceptance and delivery (R681–R691), acknowledgement
(R692), escalation (R693–R696) and test messages (R697). -/

namespace Sys2Proof.Machine

/-! ### The message in bytes (R682) -/

/-- The head of an event message. -/
def Msg.head (m : Msg) : Nat :=
  0x70 + m.source % 256 * 2 ^ 8 + m.kind % 64 * 2 ^ 16 + m.sev % 4 * 2 ^ 22 + b2n m.injected * 2 ^ 24 +
    b2n m.replayed * 2 ^ 25 + b2n m.overflow * 2 ^ 26 + m.addr % 2 ^ 40 * 2 ^ 32

/-- The data slot of an event message. -/
def Msg.slot (m : Msg) : Nat := m.time % 2 ^ 64 + m.seq % 2 ^ 32 * 2 ^ 64

/-- Word k of an event message's 32 bytes. -/
def Msg.word (m : Msg) (k : Nat) : Word := BitVec.ofNat 32 ((m.head + m.slot * 2 ^ 128) / 2 ^ (32 * k))

/-! ### Queues (R684, R691) -/

/-- The lowest severity queued. -/
def lowestSev (q : List Msg) : Nat := q.foldl (fun n (m : Msg) => min n m.sev) 3

/-- The queue without the newest message of severity `v`. -/
def dropNewest (v : Nat) (q : List Msg) : List Msg :=
  let i := (q.reverse.findIdx fun (m : Msg) => m.sev == v)
  (q.reverse.eraseIdx i).reverse

/-- A message arrives at a queue of depth `n`: the queue after it, and whether one was lost (R691). -/
def pushQueue (q : List Msg) (n : Nat) (m : Msg) : List Msg × Bool :=
  if q.length < n then (q ++ [m], false)
  else if lowestSev q ≤ m.sev then (dropNewest (lowestSev q) q ++ [{ m with overflow := true }], true)
  else (match q.reverse with
    | x :: r => (({ x with overflow := true } :: r).reverse, true)
    | [] => ([], true))

/-- A loss at queue `k` (0–11 a port, 15 the sideband): counted, and FLT_OVERFLOW at most once a
millisecond (R691). -/
def State.queueLoss (s : State) (k : Nat) : State :=
  let s := s.count Fd.FLT_CNT_LOST Fd.FLT_CNT_LOST_OVF 1
  if rateOk (Tab.get (fun _ => 0) s.flt.ovfTime k) s.clk.time msTicks then
    { s with flt := { s.flt with
      ovfTime := Tab.put (fun _ => 0) s.flt.ovfTime k (s.clk.time + 1) } }.raise 248 1 k
  else s

/-- A message arrives at port n's queue. -/
def State.toPort (s : State) (m : Msg) (n : Nat) : State :=
  if bit (s.rd Fd.FLT_CTL_PORTS) n then
    let (q, lost) := pushQueue (s.portQ n) 256 m
    let s := { s with flt := { s.flt with portQ := Tab.put (fun _ => []) s.flt.portQ n q } }
    if lost then s.queueLoss n else s
  else s

/-- The log ring (R687); frozen, it takes only entries never filled (R699). -/
def State.toLog (s : State) (m : Msg) : State :=
  let i := m.seq % 1024
  if s.flt.frozen ∧ (Tab.get (fun _ => none) s.flt.log i).isSome then s
  else { s with flt := { s.flt with log := Tab.put (fun _ => none) s.flt.log i (some m) } }

/-- Delivery of an accepted message (R684). -/
def State.deliverMsg (s : State) (m : Msg) : State :=
  let f := Fd.FLT_SRC_HOST m.source
  let s := s.toLog m
  let s := if s.on f ∧ s.rd Fd.FLT_CTL_MINSEV_HOST ≤ m.sev then
      (List.range 12).foldl (fun s n => s.toPort m n) s else s
  let s := if s.on (Fd.FLT_SRC_SB m.source) ∧ s.rd Fd.FLT_CTL_MINSEV_SB ≤ m.sev then
      let (q, lost) := pushQueue s.flt.sbQ 64 m
      let s := { s with flt := { s.flt with sbQ := q } }
      if lost then s.queueLoss 15 else s
    else s
  if s.on (Fd.FLT_SRC_FW m.source) ∨ 2 ≤ m.sev then { s with flt := { s.flt with fwQ := s.flt.fwQ ++ [m] } } else s

/-! ### Escalation -/

/-- The fence target of a message (R693): a channel group g as g, a Crema bank b as 1000 + b, a region n
as 2000 + n. -/
def State.fenceTarget (s : State) (m : Msg) : Option Nat :=
  if 104 ≤ m.source ∧ m.source ≤ 135 then some (m.source - 104)
  else if 152 ≤ m.source ∧ m.source ≤ 167 then some (1000 + m.addr % 256)
  else if (136 ≤ m.source ∧ m.source ≤ 151) ∨ m.source = 233 ∨ m.source = 234 then
    (s.rgnOf (m.addr / 64 * 64)).map (2000 + ·)
  else none

/-- The fence rule (R693). -/
def State.applyFence (s : State) (t : Option Nat) : State :=
  match t with
  | none => s
  | some x => if x < 1000 then s.fenceCg x else if x < 2000 then s.fenceBank (x - 1000) else s.fenceRgn (x - 2000)

/-- A LOCKDOWN by escalation already has its cause. -/
def State.lockCaused (s : State) : Bool :=
  s.mode == mLOCKDOWN || (s.seq.reqs.any fun (r : ModeReq) => r.cause.isSome && r.mode == mLOCKDOWN) ||
    (match s.seq.trans with
     | some t => t.goal == mLOCKDOWN
     | none => false)

/-- LOCKDOWN is requested at precedence 2 with its cause (R695, R696). -/
def State.askLockdown (s : State) (m : Msg) : State :=
  if s.mode = mLOCKDOWN then s
  else s.askMode { prec := 2, mode := mLOCKDOWN, level := s.level, cause := if s.lockCaused then none else some m }

/-- The message that becomes the cause of LOCKDOWN triggers cause 4 (R720). -/
def State.lockTrigger (s : State) (m : Msg) : State :=
  if s.on Fd.OBS_SNAP_CTL_LOCKDOWN_EN ∧ !s.lockCaused then s.trigger 4 m.source else s

/-- The escalation rule of the source of an opening message (R693, R695). In LOCKDOWN only the fence
rule acts (R699). -/
def State.escalate (s : State) (m : Msg) (target : Option Nat) : State :=
  let esc := s.rd (Fd.FLT_SRC_ESC m.source)
  if esc = 0 then s
  else
    let s := if esc = 1 then s.applyFence target
      else if s.mode = mLOCKDOWN then s
      else if esc = 2 then s.askDegraded true
      else s.askLockdown m
    (s.count Fd.FLT_CNT_ESC Fd.FLT_CNT_ESC_OVF 1).raise 249 1
      (m.source + esc * 256 + m.seq % 2 ^ 24 * 2 ^ 16)

/-- Grace timer ticks of a code (R689). -/
def graceTicks (c : Nat) : Nat := nth 1 [1, 2, 5] (c % 3) * 10 ^ (c / 3) * 175

/-- An ACTION message opens an entry, joins one, or finds the table full (R689). -/
def State.openAction (s : State) (m : Msg) : State :=
  let t := s.fenceTarget m
  let same (a : Act) : Bool := a.msg.source == m.source && a.msg.kind == m.kind && a.target == t
  if s.flt.acts.any same then
    { s with flt := { s.flt with
      acts := s.flt.acts.map fun (a : Act) => if same a then { a with lastSeq := m.seq } else a } }
  else match (List.range 64).find? fun i => !(s.flt.acts.any fun (a : Act) => a.slot == i) with
    | some i =>
      let a : Act := { slot := i, msg := m, target := t, lastSeq := m.seq,
                       expires := s.clk.time + graceTicks (s.rd (Fd.FLT_SRC_GRACE m.source)) }
      { s with flt := { s.flt with acts := s.flt.acts ++ [a] } }
    | none =>
      let s := s.raise 250 1 m.source
      let s := if s.rd (Fd.FLT_SRC_ESC m.source) = 3 then s.lockTrigger m else s
      s.escalate m t

/-- FLT_CAUSE takes a message and the log freezes (R699). -/
def State.freeze (s : State) (m : Msg) : State :=
  let s := (List.range 8).foldl (fun s k => s.setReg (Ra.FLT_CAUSE k) (m.word k)) s
  { s with flt := { s.flt with frozen := true } }

/-- What an accepted message sets off (R688, R689, R696). A test message sets off nothing (R697). The
TRIP_B message that sent the part to LOCKDOWN is its cause (R699). -/
def State.actOn (s : State) (m : Msg) : State :=
  if m.test ∨ m.sev < 2 then s
  else if m.source = 19 ∧ s.mode = mLOCKDOWN ∧ s.tripB ∧ !s.flt.frozen then s.freeze m
  else if m.sev = 2 then s.openAction m
  else
    let s := if s.rd (Fd.FLT_SRC_ESC m.source) = 1 then s.applyFence (s.fenceTarget m) else s
    s.askLockdown m

/-- The triggers of an accepted message: cause 2 before cause 4 (R720, R722). -/
def State.msgTrigger (s : State) (m : Msg) : State :=
  let kind := s.rd Fd.OBS_SNAP_CTL_EVT_KIND
  if s.on Fd.OBS_SNAP_CTL_EVT_EN ∧ m.source = s.rd Fd.OBS_SNAP_CTL_EVT_SRC ∧ (kind = 0 ∨ kind = m.kind) ∧
      s.rd Fd.OBS_SNAP_CTL_EVT_MINSEV ≤ m.sev then s.trigger 2 m.source
  else if m.test ∨ m.sev < 3 then s
  else if m.source = 19 ∧ s.on Fd.OBS_SNAP_CTL_LOCKDOWN_EN then s.trigger 4 19
  else s.lockTrigger m

/-- House firmware acknowledges a CREMA_UE that reaches it after the patrol step has written the line (R692). -/
def State.ackPatrolled (s : State) (m : Msg) : State :=
  if m.source = 153 ∧ m.kind ≠ 2 ∧ bits m.addr 27 26 ≠ 3 ∧
      !s.crm.prompt.contains (cOffset (m.addr % 256) (bits m.addr 19 8) / 64) then
    s.fwAck fun (x : Msg) => x.source == 153 && x.kind != 2 && x.addr == m.addr
  else s

/-- Acceptance of a message (R681). -/
def State.acceptMsg (s : State) (m : Msg) : State :=
  let m := { m with seq := s.rd Fd.FLT_SEQ_SEQ }
  let s := s.wr Fd.FLT_SEQ_SEQ (m.seq + 1)
  (((s.deliverMsg m).msgTrigger m).actOn m).ackPatrolled m

/-! ### Acknowledgement (R692) -/

/-- A GO of FLT_ACK. -/
def State.ackGo (s : State) : State :=
  let seq := s.rd Fd.FLT_ACK_SEQ_SEQ
  let source := s.rd Fd.FLT_ACK_SOURCE
  if s.flt.acts.any fun (a : Act) => a.covers source seq s.clk.time then
    { s with flt := s.flt.ack source seq s.clk.time }.wr Fd.FLT_ACK_RESULT 1
  else s.wr Fd.FLT_ACK_RESULT 2

/-- A GO of FLT_TEST (R697). KIND 0 is reserved. -/
def State.testGo (s : State) : State :=
  let kind := s.rd Fd.FLT_TEST_KIND
  let m : Msg := { source := s.rd Fd.FLT_TEST_SOURCE, kind, sev := s.rd Fd.FLT_TEST_SEV,
                   addr := s.rd Fd.FLT_TEST_ADDR_ADDR + s.rd Fd.FLT_TEST_ADDR_HI * 2 ^ 32,
                   time := s.stamp, injected := true, test := true }
  if kind = 0 then s else s.post m

/-! ### Commands -/

/-- FAULT_MESSAGE (R681): the oldest message waiting from `source`, or of all where none waits there. The
collector takes none while VDD_CORE is off (R632). -/
def execFaultMessage (source : Nat) (s : State) : Host.Outcome State Fault Refusal :=
  s.act (if s.coreOff then s
  else
    let i := s.flt.outbox.findIdx fun (m : Msg) => m.source == source
    let i := if i < s.flt.outbox.length then i else 0
    match s.flt.outbox[i]? with
    | some m => { s with flt := { s.flt with outbox := s.flt.outbox.eraseIdx i } }.acceptMsg m
    | none => s)

/-- An entry's timer expires (R693); while the collector is unpowered the expiry is held (R695). -/
def State.expire (s : State) (slot : Nat) : State :=
  match s.flt.acts.find? fun (a : Act) => a.slot == slot with
  | none => s
  | some a =>
    if s.coreOff then { s with pwr := { s.pwr with heldExp := s.pwr.heldExp.filter (· != slot) ++ [slot] } }
    else
      let s := { s with flt := { s.flt with acts := s.flt.acts.filter fun (x : Act) => x.slot != slot } }
      let s := if s.rd (Fd.FLT_SRC_ESC a.msg.source) = 3 then s.lockTrigger a.msg else s
      s.escalate a.msg a.target

/-- GRACE_EXPIRY (R693). -/
def execGraceExpiry (slot : Nat) (s : State) : Host.Outcome State Fault Refusal := s.act (s.expire slot)

/-- ACKNOWLEDGE (R692). -/
def execAcknowledge (source seq : Nat) (s : State) : Host.Outcome State Fault Refusal :=
  s.act ((s.wr Fd.FLT_ACK_SEQ_SEQ seq).wr Fd.FLT_ACK_SOURCE source).ackGo

/-- TEST_MESSAGE (R697). A reserved KIND keeps the field and raises nothing (R10). -/
def execTestMessage (source kind sev addr : Nat) (s : State) : Host.Outcome State Fault Refusal :=
  s.act (let s := (s.wr Fd.FLT_TEST_ADDR_ADDR addr).wr Fd.FLT_TEST_ADDR_HI (addr / 2 ^ 32)
    let s := (s.wr Fd.FLT_TEST_SOURCE source).wr Fd.FLT_TEST_SEV sev
    if kind % 64 = 0 then s else (s.wr Fd.FLT_TEST_KIND kind).testGo)

/-- The oldest sideband message is removed (R686). -/
def State.sbPop (s : State) : State := { s with flt := { s.flt with sbQ := s.flt.sbQ.drop 1 } }

/-- FLT_SB_POP (R686). -/
def execFltSbPop (s : State) : Host.Outcome State Fault Refusal := s.act s.sbPop

end Sys2Proof.Machine
end

