-- ==== Sys2Proof/Machine/ModeSet.lean ====
section
/-! DEFINITION. The mode sequencer's steps (R27, R28, R40–R48): judging a request, starting and ending a
transition, what each mode does on entry, level changes (R38, R63) and sleep entries undone (R646). -/

namespace Sys2Proof.Machine

def isSleep (m : Nat) : Bool := m == mSTANDBY || m == mRETAIN || m == mRETAINP || m == mDEEP

/-- SERVICE or DEGRADED. -/
def State.serves (s : State) : Bool := s.mode == mSERVICE || s.mode == mDEGRADED

/-! ### Judging (R45) -/

/-- The condition of the row from THERMAL-HOLD back (R40, R614, R615). -/
def State.holdOver (s : State) : Bool :=
  s.thm.lost.isEmpty && (match s.maxEff (s.snsClass 64) with
    | some (_, e) => decide (e < 680 + s.gradeC)
    | none => false)

/-- A row of R40 leads from the current mode to what is requested, names the requester, and its condition
holds; level changes (R51). Precedence 5 is the wake logic, which leads out of a sleep mode while the latch is set. -/
def State.permitted (s : State) (r : ModeReq) : Bool :=
  let m := s.mode
  let soft := r.prec == 6 || r.prec == 7
  if r.mode = mLOCKDOWN then decide (r.prec ≤ 2)
  else if r.mode = mHOLD then r.prec == 3 && !(m ∈ [mLOCKDOWN, mRETAIN, mRETAINP, mDEEP])
  else if r.prec = 3 then m == mHOLD && s.holdOver
  else if r.prec = 5 then m == mSTANDBY && s.on Fd.PWR_STAT_LATCHED && r.mode == s.seq.preDrainMode
  else if isSleep r.mode then soft && (s.serves || (m == mHOLD && r.mode == mDEEP))
  else if m = mSERVICE ∧ r.mode = mDEGRADED then r.prec == 4 || r.prec == 6
  else if m = mDEGRADED ∧ r.mode = mSERVICE then soft && !s.anyFence
  else soft && s.serves && r.mode == m

/-- R633: at least one wake source is enabled, and the oscillator is ready for a mode that needs it. -/
def State.wakeReady (s : State) (m : Nat) : Bool :=
  s.rd Fd.PWR_WAKE_EN_EN != 0 && (m == mSTANDBY || s.on Fd.CLK_STAT_OSC_READY)

/-- What fails a request as it is submitted: a reserved code, a level slower than LVL_LOW, a sleep
condition (R39, R45, R51, R633). -/
def State.badReq (s : State) (r : ModeReq) : Bool :=
  decide (12 ≤ r.mode) ||
  ((r.mode == mSERVICE || r.mode == mDEGRADED) && decide (s.rd Fd.GLB_LEVEL_LIM_LVL_LOW < r.level)) ||
  (isSleep r.mode && !s.wakeReady r.mode)

/-- No transition, level change or wake is in progress (R27). A level change that a hold suspended does
not count until service returns (R44). -/
def State.seqIdle (s : State) : Bool :=
  s.seq.trans.isNone && (s.seq.lvl.isNone || !s.serves) && !s.on Fd.CLK_STAT_HOLD

/-- BUSY and LEVEL_TGT (R50). -/
def State.showSeq (s : State) : State :=
  (s.wr Fd.GLB_MODE_BUSY (b2n (s.seq.trans.isSome || s.seq.lvl.isSome))).wr Fd.GLB_MODE_LEVEL_TGT
    (match s.seq.lvl with
     | some l => l.target
     | none => s.level)

def State.setTrans (s : State) (t : Option Trans) : State :=
  { s with seq := { s.seq with trans := t } }.showSeq

def State.setLvl (s : State) (l : Option LvlChange) : State :=
  { s with seq := { s.seq with lvl := l } }.showSeq

def State.dropReq (s : State) (r : ModeReq) : State :=
  { s with seq := { s.seq with reqs := s.seq.reqs.erase r } }

/-! ### Sleep entries (R633, R644, R645) -/

/-- The sleep timer starts (R643). -/
def State.timerLoad (s : State) : State :=
  let c := s.rd Fd.PWR_TIMER_COUNT
  if c = 0 then s else { s with pwr := { s.pwr with timer := some (c, s.clk.time) } }

/-- A sleep request is accepted: the entry is in progress, the latch armed, the timer loaded; WAKE_N low
counts as an event (R633, R643–R645). -/
def State.armEntry (s : State) (r : ModeReq) : State :=
  if !isSleep r.mode ∨ s.pwr.entry.isSome then s
  else
    let s := { s with pwr := { s.pwr with entry := some r, stage := 0 } }.timerLoad
    let s := (s.wr Fd.PWR_STAT_ARMED 1).wr Fd.PWR_STAT_LATCHED 0
    if s.pwr.wakeLow then s.wakeEvent 0 else s

/-- The entry is over without sleep; a sleep request still pending is then the entry in progress. -/
def State.entryGone (s : State) : State :=
  let s := { s with pwr := { s.pwr with entry := none, stage := 0, timer := none } }
  let s := (s.wr Fd.PWR_STAT_ARMED 0).wr Fd.PWR_STAT_LATCHED 0
  match s.seq.reqs.find? fun (r : ModeReq) => isSleep r.mode with
  | some r => s.armEntry r
  | none => s

/-- A request ends unserved (R28, R45, R46): 2 DISCARDED or 3 ILLEGAL. -/
def State.endReq (s : State) (r : ModeReq) (result : Nat) : State :=
  let s := s.refuseMode r result
  let s := if r.prec = 3 ∧ r.mode ≠ mHOLD then { s with thm := { s.thm with exitAsked := false } } else s
  if s.pwr.entry = some r then s.entryGone else s

/-- A mode request is submitted (R45, R51): refused, or accepted as pending. -/
def State.modeGo (s : State) (r : ModeReq) : State :=
  if s.badReq r ∨ (s.seqIdle ∧ !s.permitted r) then s.refuseMode r 3 else (s.askMode r).armEntry r

/-! ### Level changes (R38, R63) -/

/-- CORE_VSEL takes the code of a level (R62). -/
def State.setVsel (s : State) (l : Nat) : State := { s with pins := { s.pins with coreVsel := l } }

/-- Every group follows the level in force. -/
def State.levelFollow (s : State) : State :=
  (List.range 32).foldl (fun s g => (s.groupFollow g).calSettle g) s

/-- The level in force is `l`. -/
def State.setLevel (s : State) (l : Nat) : State := ((s.wr Fd.GLB_MODE_LEVEL l).showSeq).levelFollow

/-- A level change starts: a faster level raises VDD_CORE first (R38, R63). -/
def State.beginLevel (s : State) (r : ModeReq) : State :=
  if r.level = s.level then s.modeStat r.prec 1
  else
    let up := decide (r.level < s.level)
    let s := s.setLvl (some { target := r.level, nextCg := 0, waitV := up, req := r })
    if up then s.setVsel r.level else s

/-- The last group has switched: a slower level lowers VDD_CORE, and the change is complete (R63). -/
def State.endLevel (s : State) (l : LvlChange) : State :=
  let old := s.level
  let s := ((s.setLvl none).setVsel l.target).setLevel l.target
  (s.modeChange s.mode old).modeStat l.req.prec 1

/-- One group's WCK switch (R38, R44, R321, R338): its write queues are written and its banks precharged. A
suspended change waits. -/
def State.wckSwitch (s : State) : State :=
  match s.seq.lvl with
  | none => s
  | some l =>
    if l.waitV ∨ s.seq.trans.isSome ∨ !s.serves ∨ s.on Fd.CLK_STAT_HOLD then s
    else
      let s := s.wckStop l.nextCg
      let m := { l with nextCg := l.nextCg + 1 }
      let s := ((s.setLvl (some m)).groupFollow l.nextCg).calSettle l.nextCg
      if m.nextCg < 32 then s else s.endLevel m

/-! ### Entering a mode -/

/-- No switch of a source is pending. -/
def State.clearSwitches (s : State) : State := { s with clk := { s.clk with mcSwitch := none, spiSwitch := none } }

/-- Every switchable domain goes to the oscillator, with SEL set to match (step 5 of R96; R85, R89). A CLK_SRC that
software has written in the same cycle stands until the next one (R25). -/
def State.toOscillator (s : State) : State :=
  let s := ((s.wr Fd.CLK_SRC_TB_CUR 1).wr Fd.CLK_SRC_MC_CUR 1).wr Fd.CLK_SRC_SPI_CUR 1
  let s := ((s.wrRw Fd.CLK_SRC_MC_SEL 1).wrRw Fd.CLK_SRC_SPI_SEL 1).wr Fd.CLK_STAT_TIME_EST 1
  { s with cyc := { s.cyc with srcAgain := s.writtenNow Ra.CLK_SRC } }.clearSwitches

/-- Messages waiting behind a decoder: one received before the mode closed is answered ABORTED with the requests in
flight, any other as the mode has it (R48, R49). -/
def State.abortInbox (s : State) (n : Nat) : State :=
  (s.inbox n).foldl (fun (s : State) m =>
    if m.early then (s.freeSlots n 0 (1 + reqSlots m.op m.head)).refuse n m.op m.head stABORTED 0 0
    else s.takeReq n m.op m.head m.data false) (s.setInbox n [])

/-- Every data request is answered ABORTED (R49, R48), and so are messages waiting behind a decoder; what a FENCE held
goes on (R283). -/
def State.abortData (s : State) : State :=
  let s := (s.req.txns.filter fun (t : Txn) => !isMgmt t.op).foldl (fun s t => s.respond t stABORTED) s
  ((List.range 12).foldl (fun s n => s.abortInbox n) s).releaseStage .heldFence

/-- Every pseudo-channel with no reason to stay leaves self-refresh (R344). -/
def State.leaveSelfRef (s : State) : State :=
  (List.range 128).foldl (fun s k => if s.selfRefDue (k / 4) then s else s.exitSelfRef k) s

/-- The TRIP_B message last accepted, in the log. -/
def State.tripBMsg (s : State) : Option Msg :=
  ((s.flt.log.filterMap fun (e : Nat × Option Msg) => e.2).filter fun (m : Msg) => m.source == 19 && !m.test).foldl
    (fun (b : Option Msg) (m : Msg) => match b with
      | none => some m
      | some x => if x.seq < m.seq then some m else b) none

/-- Entry to LOCKDOWN (R43, R49, R586, R699). The TRIP_B message that waits to be accepted becomes the
cause then. -/
def State.enterLockdown (s : State) (r : ModeReq) : State :=
  let s := ((s.abortData).leaveSelfRef).pairLeave
  if r.prec = 1 then
    let waits := s.flt.outbox.any fun (m : Msg) => m.source == 19 && !m.test
    let s := if waits then s else (match s.tripBMsg with
      | some m => s.freeze m
      | none => s)
    s.tripStop
  else match r.cause with
    | some m => s.freeze m
    | none => s

/-- Every request held unanswered is answered ABORTED (R636). -/
def State.abortAll (s : State) : State :=
  let s := s.abortData
  (s.req.txns.filter fun (t : Txn) => isMgmt t.op).foldl (fun s t => s.respond t stABORTED) s

def State.allSelfRef (s : State) : State := (List.range 128).foldl (fun s k => s.enterSelfRef k) s

/-- Entry to SERVICE: banks of R410 fenced, tables, the regulator's first K and the held DEGRADED request (R410, R481,
R536, R639, R694). `boot`: from CALIBRATE. -/
def State.enterService (s : State) (boot : Bool) : State :=
  let s := if boot then
      let s := s.crm.fence410.foldl (fun s b => s.fenceBank b) s
      (s.tables.foldl (fun s t => s.tblUse t) s).regStart
    else s
  let s := match s.pwr.failBlock with
    | some b => ({ s with pwr := { s.pwr with failBlock := none } }).raise 15 1 b
    | none => s
  if s.flt.degHeld then
    let ask := s.flt.degMarked || s.anyFence
    let s := { s with flt := { s.flt with degHeld := false, degMarked := false } }
    if ask then s.askMode { prec := 4, mode := mDEGRADED, level := s.level } else s
  else s

/-- The sequencer's own return from DRAIN (R40, R42, R646); no requester stands behind it (precedence
0). -/
def State.preDrain (s : State) : ModeReq :=
  { prec := 0, mode := s.seq.preDrainMode, level := s.seq.preDrainLevel }

/-- A drain with no target left ends (R42, R646). -/
def State.endDrain (s : State) : State := s.setTrans (some { goal := s.seq.preDrainMode, req := s.preDrain })

/-- What the mode entered does, the old mode being `old`. -/
def State.modeEffects (s : State) (old : Nat) (r : ModeReq) : State :=
  let m := s.mode
  let s := if old = mHOLD then { s with thm := { s.thm with exitAsked := false } } else s
  let s := if old = mHOLD ∧ m ≠ mDEEP then s.leaveSelfRef.zonesReturn else s
  if m = mSELFTEST then { s with bst := { s.bst with tests := [] } }
  else if m = mSERVICE then s.enterService (old == mCALIBRATE)
  else if m = mDRAIN then
    (if old = mHOLD then (if s.seq.sleepTarget.isNone then s.endDrain else s)
     else
      let d := { s.seq with preDrainMode := old, preDrainLevel := s.level, sleepTarget := some r.mode }
      (({ s with seq := d }).abortTests).pairLeave)
  else if m = mHOLD then (({ s with seq := { s.seq with preHold := old } }).allSelfRef).pairLeave
  else if m = mLOCKDOWN then s.enterLockdown r
  else if isSleep m then
    let s := if r.prec = 3 then s else (s.count Fd.PWR_CNT_ENTRIES Fd.PWR_CNT_ENT_OVF 1).wr Fd.PWR_STAT_PNR 0
    let s := { s with
      pwr := { s.pwr with entry := none, stage := 0 }
      seq := { s.seq with sleepTarget := none } }
    if m = mSTANDBY then s
    else
      -- a suspended level change ends here (assumption 33), and CORE_VSEL carries the level in force (R62)
      let s := (match s.seq.lvl with
        | some l => ((s.setLvl none).setVsel s.level).endReq l.req 2
        | none => s)
      let s := s.toOscillator.wr Fd.CLK_STAT_ROOT_READY 0
      { s with clk := { s.clk with rootRunning := false } }
  else s

/-- After a transition every pending request that the new mode does not permit is discarded (R28). A
request for LOCKDOWN in LOCKDOWN is neither: Trip B takes effect there (R43). -/
def State.discard (s : State) : State :=
  s.seq.reqs.foldl (fun s (r : ModeReq) =>
    if s.permitted r then s
    else (s.dropReq r).endReq r 2) s

/-- GLB_MODE shows mode `m` (R50), and what follows of it; MODE_CHANGE names `level` as the old level (R48). -/
def State.enterFrom (s : State) (m : Nat) (r : ModeReq) (level : Nat) : State :=
  let old := s.mode
  let s := (s.wr Fd.GLB_MODE_PREV old).wr Fd.GLB_MODE_MODE m
  let s := ((s.modeChange old level).portsFollow).modeEffects old r
  s.cntUnfence

/-- GLB_MODE shows mode `m`, at the level in force (R50). -/
def State.enterMode (s : State) (m : Nat) (r : ModeReq) : State := s.enterFrom m r s.level

/-! ### Starting and ending a transition -/

/-- The pending request of highest precedence, the oldest among equals (R28). -/
def pickReq (l : List ModeReq) : Option ModeReq :=
  l.foldl (fun (b : Option ModeReq) r => match b with
    | none => some r
    | some x => if r.prec < x.prec then some r else b) none

/-- A permitted request starts. -/
def State.beginReq (s : State) (r : ModeReq) : State :=
  if r.mode = mLOCKDOWN ∧ s.mode = mLOCKDOWN then
    (if r.prec = 1 ∧ !s.tripB then s.tripStop else s).modeStat r.prec 1
  else if r.mode = mHOLD ∧ s.mode = mHOLD then s.modeStat r.prec 1
  else if s.mode = r.mode then s.beginLevel r
  else if r.prec = 3 then s.setTrans (some { goal := r.mode, req := r })
  else if isSleep r.mode ∧ s.mode ≠ mHOLD then s.setTrans (some { goal := mDRAIN, req := r })
  else if isSleep r.mode then
    ({ s with pwr := { s.pwr with stage := 2 } }.abortAll).setTrans (some { goal := r.mode, req := r })
  else s.setTrans (some { goal := r.mode, req := r })

/-- The next request is judged, and starts or is refused (R27, R28, R45). -/
def State.startNext (s : State) : Nat → State
  | 0 => s
  | n + 1 => match pickReq s.seq.reqs with
    | none => s
    | some r =>
      let s := s.dropReq r
      if s.permitted r then s.beginReq r else (s.endReq r 3).startNext n

/-- The saves of an entry are ignored, and its drain begins anew (R42, R646). -/
def State.forgetSave (s : State) : State :=
  { s with
    que := { s.que with saved := none }
    cnt := { s.cnt with saved := none }
    pwr := { s.pwr with save := none, stage := 0 } }

/-- The transition in progress goes back to pending, unless it is one of the sequencer's own (R44). The
request of a drain under way stays its target when the hold permits it (R28, R42). -/
def State.interrupt (s : State) : State :=
  match s.seq.trans with
  | none => s
  | some t =>
    let s := (s.setTrans none).forgetSave
    if t.req.prec = 0 ∨ s.mode = mDRAIN then s
    else { s with seq := { s.seq with reqs := t.req :: s.seq.reqs } }

/-- A request that preempts (R44): LOCKDOWN or THERMAL-HOLD; none past the point of no return (R637). -/
def State.preemptor (s : State) : Option ModeReq :=
  match pickReq (s.seq.reqs.filter fun (r : ModeReq) => r.mode == mLOCKDOWN || r.mode == mHOLD) with
  | some r => (match s.seq.trans with
    | some t =>
      if t.goal = r.mode ∨ t.goal = mLOCKDOWN ∨ !s.permitted r ∨ s.pwr.stage = 3 then none else some r
    | none => if s.permitted r then some r else none)
  | none => none

/-- A drain whose target the hold does not permit loses it (R28, R42): the sleep request is discarded. -/
def State.dropTarget (s : State) : State :=
  match s.pwr.entry with
  | some r =>
    if s.mode = mHOLD ∧ s.seq.preHold = mDRAIN ∧ s.seq.sleepTarget.isSome ∧ r.mode ≠ mDEEP then
      ({ s with seq := { s.seq with sleepTarget := none } }).endReq r 2
    else if s.mode = mLOCKDOWN ∧ s.seq.sleepTarget.isSome then
      ({ s with seq := { s.seq with sleepTarget := none } }).endReq r 2
    else s
  | none => s

/-- MODE_TRANSITION_START (R28, R44): a preempting request at once; otherwise the highest once the
sequencer is idle. In a REFCLK hold only Trip B starts (R97); with the base die off, none until the wake
(R632). A drain left without a target ends (R42), and a part whose image is applied leaves BOOT once its clock is
there (R67), but for a SCRAPPED one, which has no quick self-test (R155). -/
def State.transStart (s : State) : State :=
  if s.coreOff then s
  else match s.preemptor with
  | some r =>
    if s.on Fd.CLK_STAT_HOLD ∧ r.prec ≠ 1 then s
    else ((s.interrupt).dropReq r).beginReq r
  | none =>
    if s.seqIdle then
      (if s.mode = mBOOT ∧ s.boot.applied ∧ s.on Fd.CLK_STAT_REFCLK_OK ∧ s.lifecycle ≠ 5 then
        s.setTrans (some { goal := mSELFTEST, req := { prec := 0, mode := mSELFTEST, level := s.level } })
      else if s.mode = mDRAIN ∧ s.seq.sleepTarget.isNone then s.endDrain
      else s.startNext s.seq.reqs.length)
    else s

/-- The wake is under way: the latch is spent and the timer stops. -/
def State.wakeBegins (s : State) : State :=
  let s := { s with pwr := { s.pwr with timer := none } }
  (s.wr Fd.PWR_STAT_ARMED 0).wr Fd.PWR_STAT_LATCHED 0

/-- A transition may end: a sleep mode with VDD_CORE off needs the point of no return, an entry to STANDBY no latched
wake (R634), and in a REFCLK hold GLB_MODE keeps its values (R97). -/
def State.mayEnd (s : State) (t : Trans) : Bool :=
  !((t.goal = mRETAIN ∨ t.goal = mRETAINP ∨ t.goal = mDEEP) ∧ s.pwr.stage ≠ 3) &&
    !(t.goal = mSTANDBY ∧ t.req.prec ≠ 3 ∧ s.on Fd.PWR_STAT_LATCHED) &&
    !(s.on Fd.CLK_STAT_HOLD ∧ s.pwr.stage ≠ 3 ∧ t.req.prec ≠ 1)

/-- MODE_TRANSITION_END (R40, R51, R52). The wake logic's transition spends its latch, and PWR_WAKE is raised
(R648, R649). -/
def State.transEnd (s : State) : State :=
  match s.seq.trans with
  | none => s
  | some t =>
    if !s.mayEnd t then s
    else
      let s := if t.req.prec = 5 then s.wakeBegins else s
      let s := (s.setTrans none).enterMode t.goal t.req
      let two := t.goal == t.req.mode && (t.req.prec == 6 || t.req.prec == 7) && s.serves && t.req.level != s.level
      let s := if t.goal ≠ t.req.mode ∨ two ∨ t.req.prec = 0 then s else s.modeStat t.req.prec 1
      let s := (s.dropTarget).discard
      let s := if t.req.prec = 5 then s.raiseWake else s
      if two then s.beginLevel t.req else s

/-! ### Entries undone (R646) -/

/-- What an entry has done is undone: DRAM leaves self-refresh, the ports return, the saves are ignored;
the mode before DRAIN follows (R646). -/
def State.undoEntry (s : State) : State :=
  match s.pwr.entry with
  | none => s
  | some r =>
    let s := ((s.forgetSave).dropReq r).endReq r 2
    let s := (match s.seq.trans with
      | some t => if t.req = r then s.setTrans none else s
      | none => s)
    if s.mode = mDRAIN then ((({ s with seq := { s.seq with sleepTarget := none } }).leaveSelfRef).portsFollow).endDrain
    else if s.mode = mHOLD then { s with seq := { s.seq with sleepTarget := none } }
    else s

end Sys2Proof.Machine
end

