-- ==== Sys2Proof/Machine/Bist.lean ====
section
/-! DEFINITION. Built-in self-test (chapter 24): algorithms (R706), records (R707), the boot tests and
their repairs (R708, R709) and tests in service (R710–R715). -/

namespace Sys2Proof.Machine

/-! ### Algorithms (R706) -/

/-- The elements of a set of algorithms: (algorithm, element). -/
def algElems (alg : Nat) : List (Nat × Nat) :=
  (List.range 4).flatMap fun a =>
    if bit alg a then (List.range (nth 0 [6, 6, 4, 4] a)).map fun e => (a, e) else []

/-- The element reads. -/
def elemReads (a e : Nat) : Bool := if a < 2 then e != 0 else e % 2 == 1

/-- A retention pause follows the element. -/
def elemPauses (a e : Nat) : Bool := a == 3 && e % 2 == 0

/-- Operations of an element on each cell. -/
def elemOps (a e : Nat) : Nat := nth 1 (nth [] [[1, 2, 2, 2, 2, 1], [1, 5, 5, 5, 5, 1]] a) e

/-! ### Records (R707) -/

/-- The record of a failing bit of a test: `f` gives, in the record's own layout, the place within the
target and the value expected. -/
def Test.record (t : Test) (lgrp a e f : Nat) : Nat :=
  let place := match t.op with
    | 1 => 2 ^ 62 + t.pc * 2 ^ 55 + t.bank * 2 ^ 49 + t.row * 2 ^ 36 + bits f 34 21 * 2 ^ 21
    | 2 => 2 ^ 62 + t.pc * 2 ^ 55 + t.bank * 2 ^ 49 + t.spare * 2 ^ 36 + 2 ^ 35 + bits f 34 21 * 2 ^ 21
    | 4 => 2 ^ 62 + (t.pc / 4 * 4 + bits f 56 55) * 2 ^ 55 + bits f 54 49 % (16 * lgrp) * 2 ^ 49 + bits f 48 21 * 2 ^ 21
    | _ => 2 * 2 ^ 62 + t.bank * 2 ^ 54 + bits f 53 31 * 2 ^ 31
  place + a * 2 ^ 19 + e * 2 ^ 14 + bits f 13 13 * 2 ^ 13

/-- A failing bit is recorded at the first element in which it fails; beyond 4,096 it is counted. -/
def State.addRec (s : State) (t : Test) (r : Nat) : State × Test :=
  if s.bst.recs.any fun x => x / 2 ^ 21 == r / 2 ^ 21 then (s, t)
  else if s.bst.recs.length < 4096 then
    ({ s with bst := { s.bst with recs := s.bst.recs ++ [r] } }, { t with recs := t.recs + 1 })
  else (s.count Fd.BST_STAT_REC_LOST Fd.BST_STAT_REC_OVF 1, { t with recs := t.recs + 1, lost := t.lost + 1 })

/-! ### Tests in service (R710) -/

/-- BIST_REFUSED (R710, R716). -/
def State.refuseTest (s : State) (op result : Nat) : State :=
  (s.wr Fd.BST_CTL_RESULT result).raise 245 1 (op + result * 16)

/-- The test that the registers describe (R717, R718). -/
def State.testAsked (s : State) : Test :=
  let op := s.rd Fd.BST_CTL_OP
  let alg := s.rd Fd.BST_CTL_ALG
  let alg := if alg = 0 then 5 else alg
  if op = 3 ∨ op = 5 then { op, bank := s.rd Fd.BST_TGT_CRM_CBANK, alg }
  else if op = 2 then
    { op, pc := s.rd Fd.BST_TGT_PC, bank := s.rd Fd.BST_TGT_BANK, spare := s.rd Fd.BST_TGT_ROW % 16, alg }
  else { op, pc := s.rd Fd.BST_TGT_PC, bank := s.rd Fd.BST_TGT_BANK, row := s.rd Fd.BST_TGT_ROW, alg }

/-- The target is in the state that R710 gives. -/
def State.targetOk (s : State) (t : Test) : Bool :=
  let inPart := decide (t.bank < 16 * s.part.lgrp)
  match t.op with
  | 1 => inPart && !s.cgFenced (t.pc / 4) && !(s.ecc.repairs.any (sameTarget t.repair))
  | 2 => inPart && !s.cgFenced (t.pc / 4) && s.spareFree t.pc t.bank t.spare
  | 4 => s.cgFenced (t.pc / 4)
  | _ => s.bankFenced t.bank

/-- The group or bank runs another test, or its remap buffer is in use. -/
def State.testBusy (s : State) (t : Test) : Bool :=
  s.bst.tests.any t.same || (match t.cg with
    | some g => (s.cg g).remap.isSome
    | none => false)

/-- The test starts (R707, R711). -/
def State.startTest (s : State) (t : Test) : State :=
  let s := { s with bst := { s.bst with recs := [] } }.wr Fd.BST_CTL_RESULT 2
  let put (s : State) (t : Test) : State := { s with bst := { s.bst with tests := s.bst.tests ++ [t] } }
  if t.op = 1 then
    match (List.range 16).find? fun i => s.spareFree t.pc t.bank i with
    | none => (s.wr Fd.BST_CTL_RESULT 9).raise 240 1 (1 + 9 * 16)
    | some i =>
      let m : Remap := { pc := t.pc, bank := t.bank, row := t.row, spare := i, lines := none, bist := 1 }
      (put s { t with spare := i, phase := 0 }).setCg (t.pc / 4) { s.cg (t.pc / 4) with remap := some m }
  else put s t

/-- A GO of BST_CTL (R710). A reserved OP has no effect. -/
def State.bistGo (s : State) : State :=
  let t := s.testAsked
  if t.op = 0 ∨ 5 < t.op then s
  else if !(if t.op < 4 then s.lcRuntime else s.lcFull) then s.refuseTest t.op 5
  else if !s.serves then s.refuseTest t.op 7
  else if !s.targetOk t then s.refuseTest t.op 6
  else if s.testBusy t then s.refuseTest t.op 4
  else s.startTest t

/-- The last element has run (R711, R713). -/
def State.testOver (s : State) (t : Test) : State :=
  let result := if t.recs = 0 then 1 else 3
  if t.op = 1 ∧ t.recs = 0 then
    let m : Remap := { pc := t.pc, bank := t.bank, row := t.row, spare := t.spare, lines := none, bist := 2 }
    (s.setTest { t with phase := 2 }).setCg (t.pc / 4) { s.cg (t.pc / 4) with remap := some m }
  else if t.op = 1 then (s.softAppend (t.repair.entry false)).endTest t 3
  else if t.op = 2 ∧ t.recs ≠ 0 then
    let r := { t.repair with target := 0 }
    let s := { s with ecc := { s.ecc with retired := s.ecc.retired ++ [r] } }
    (s.softAppend (r.entry true)).endTest t 3
  else s.endTest t result

/-- A holds stops elements (R714). -/
def State.bistHeld (s : State) : Bool := s.mode == mHOLD || s.on Fd.CLK_STAT_HOLD

/-- Lines that a test covers: a row, a channel group with its spare rows, or a Crema bank with its spare lines. -/
def Test.lines (t : Test) (lgrp : Nat) : Nat :=
  if t.op ≤ 2 then 16 else if t.op = 4 then 4 * (16 * lgrp) * 8208 * 16 else bankLines + 4

/-- The maintenance port carries an element's accesses, charged to L254 (R14). -/
def State.bistCarry (s : State) (t : Test) (a e : Nat) : State :=
  let crema := t.op == 3 || t.op == 5
  let line := if crema then cremaWin / 64 else nth 0 (rowLines t.pc t.bank t.row) 0
  (s.charge 254 (64 * t.lines s.part.lgrp * elemOps a e) crema).carry 16 line

/-- The next element of a test runs, in a lent slot where the target is a row (R711); `fails` are the bits
that fail in it. -/
def State.bistElement (s : State) (t : Test) (fails : List Nat) : State :=
  let row := t.op == 1 || t.op == 2
  if t.phase ≠ 1 ∨ t.pause ∨ s.bistHeld ∨ (row ∧ 2 < ((s.pc t.pc).bank t.bank).debt) then s
  else match (algElems t.alg)[t.elem]? with
    | none => s.testOver t
    | some (a, e) =>
      let s := (if row then s.lend t.pc t.bank else s).bistCarry t a e
      let x := (if elemReads a e then fails else []).foldl
        (fun (x : State × Test) f => x.1.addRec x.2 (t.record s.part.lgrp a e f)) (s, t)
      let t := { x.2 with elem := x.2.elem + 1, pause := elemPauses a e }
      let s := x.1.setTest t
      if t.elem < (algElems t.alg).length then s else s.testOver t

/-- The test under place `k` of the list. -/
def State.testAt (s : State) (k : Nat) (f : State → Test → State) : State :=
  match s.bst.tests[k]? with
  | some t => f s t
  | none => s

/-- A write of BST_CTL with GO; one that ends with BUSY has no other effect (R710, R740). -/
def State.bistCmd (s : State) (op alg : Nat) : State :=
  let t := ((s.wr Fd.BST_CTL_OP op).wr Fd.BST_CTL_ALG alg).bistGo
  if t.rd Fd.BST_CTL_RESULT = 4 then (t.wr Fd.BST_CTL_OP (s.rd Fd.BST_CTL_OP)).wr Fd.BST_CTL_ALG (s.rd Fd.BST_CTL_ALG)
  else t

/-- A command that writes BST_TGT and BST_CTL with GO. -/
def State.bistDram (s : State) (op pc bank row alg : Nat) : State :=
  (((s.wr Fd.BST_TGT_PC pc).wr Fd.BST_TGT_BANK bank).wr Fd.BST_TGT_ROW row).bistCmd op alg

def State.bistCrema (s : State) (op bank alg : Nat) : State :=
  (s.wr Fd.BST_TGT_CRM_CBANK bank).bistCmd op alg

/-- ROW_TEST (R711). -/
def execRowTest (pc bank row alg : Nat) (s : State) : Host.Outcome State Fault Refusal :=
  s.act (s.bistDram 1 pc bank row alg)

/-- SPARE_TEST (R711). -/
def execSpareTest (pc bank spare alg : Nat) (s : State) : Host.Outcome State Fault Refusal :=
  s.act (s.bistDram 2 pc bank spare alg)

/-- CREMA_BANK (R713). -/
def execCremaBank (bank alg : Nat) (s : State) : Host.Outcome State Fault Refusal :=
  s.act (s.bistCrema 3 bank alg)

/-- FULL_CG (R713). -/
def execFullCg (pc alg : Nat) (s : State) : Host.Outcome State Fault Refusal :=
  s.act (s.bistDram 4 pc 0 0 alg)

/-- FULL_CREMA (R713). -/
def execFullCrema (bank alg : Nat) (s : State) : Host.Outcome State Fault Refusal :=
  s.act (s.bistCrema 5 bank alg)

/-- BIST_ELEMENT (R711): for the test at place `index` among those in progress. -/
def execBistElement (index : Nat) (fails : List Nat) (s : State) : Host.Outcome State Fault Refusal :=
  s.act (s.testAt index fun s t => s.bistElement t fails)

/-- RETENTION_PAUSE (R706). -/
def execRetentionPause (index : Nat) (s : State) : Host.Outcome State Fault Refusal :=
  s.act (s.testAt index fun s t => if t.pause then s.setTest { t with pause := false } else s)

/-- BIST_TIMEOUT (R714). -/
def execBistTimeout (index : Nat) (s : State) : Host.Outcome State Fault Refusal :=
  s.act (s.testAt index fun s t => s.abortTest t)

/-- SPARE_PERIOD (R715): every group starts on its first free spare row. A period of 0 disables. -/
def execSparePeriod (s : State) : Host.Outcome State Fault Refusal :=
  s.act (if s.rd Fd.BST_CFG_SPARE_PERIOD = 0 then s
  else (List.range 32).foldl (fun s g =>
    { s with bst := { s.bst with house := Tab.put (fun _ => none) s.bst.house g (some 0) } }.houseNext
      g s.housePlaces) s)

/-! ### The boot tests (R708, R709) -/

/-- A self-test failure (R369, R409, R567, R708, R709): the event, and LOCKDOWN under R40 where its
severity does not bring it. -/
def State.selftestFail (s : State) (source addr : Nat) : State :=
  let s := s.raise source 1 addr
  if s.sevOf source 1 = 3 then s
  else s.askMode { prec := 2, mode := mLOCKDOWN, level := s.level }

/-- Records of DRAM rows, and of Crema lines, outside spares. -/
def recRow (r : Nat) : Bool := bits r 63 62 == 1 && !bit r 35

/-- (pc, bank, row) of a DRAM record. -/
def recPlace (r : Nat) : Nat × Nat × Nat := (bits r 61 55, bits r 54 49, bits r 48 36)

/-- The Crema lines that fail: (bank, line), spare lines apart. -/
def cremaFails (recs : List Nat) (spare : Bool) : List (Nat × Nat) :=
  ((recs.filter fun r => bits r 63 62 == 2 && bit r 41 == spare).map fun r => (bits r 61 54, bits r 53 42)).eraseDups

/-- Crema repairs (R410, R709): a bank keeps its spare lines' map as the number it uses; one that needs more
than the spare lines that passed is to be fenced. -/
def State.cremaRepairs (s : State) (recs : List Nat) : State :=
  let lines := cremaFails recs false
  (List.range 256).foldl (fun s b =>
    let need := (lines.filter fun x => x.1 == b).length
    let bad := ((cremaFails recs true).filter fun x => x.1 == b && decide (x.2 < 4)).length
    if need = 0 then s
    else if need ≤ 4 - bad then
      { s with crm := { s.crm with spares := Tab.put (fun _ => 0) s.crm.spares b need } }
    else { s with crm := { s.crm with fence410 := s.crm.fence410 ++ [b] } }) s

/-- A retirement or repair joins the map and the list (R378, R383, R709). -/
def State.bootRetire (s : State) (r : Repair) : State :=
  { s with ecc := { s.ecc with retired := s.ecc.retired ++ [r] } }.softAppend (r.entry true)

def State.bootRepair (s : State) (r : Repair) : State := (s.putRepair r false).softAppend (r.entry false)

/-- Spare column `i` of a bank is free and not retired. -/
def State.colFree (s : State) (pc bank i : Nat) : Bool :=
  let r : Repair := { kind := 2, pc, bank, target := 0, spare := i }
  !s.spareRetired r && (s.spareUser r).isNone

/-- The (pc, bank, column target) that fail in 8 or more rows (R709). -/
def colFails (recs : List Nat) : List (Nat × Nat × Nat) :=
  let l := ((recs.filter recRow).map fun r => ((recPlace r).1, (recPlace r).2.1, bits r 34 31 * 64 + bits r 30 25, (recPlace r).2.2)).eraseDups
  ((l.map fun x => (x.1, x.2.1, x.2.2.1)).eraseDups).filter fun k =>
    decide (8 ≤ (l.filter fun x => (x.1, x.2.1, x.2.2.1) == k).length)

/-- What the repairs of R709 come to: retired spares, column and row entries, and the repaired banks by
`recBank`. -/
structure BootFix where
  s : State
  ret : Nat := 0
  cols : List (Nat × Nat × Nat) := []
  rows : Nat := 0
  banks : List Nat := []

/-- The bank of a record, as a number: the fields above its place in the bank. -/
def recBank (r : Nat) : Nat := if bits r 63 62 = 1 then r / 2 ^ 49 else r / 2 ^ 54

def dramBank (pc bank : Nat) : Nat := 2 ^ 13 + pc * 64 + bank

/-- Order 2 of R709. -/
def BootFix.retires (x : BootFix) (recs : List Nat) : BootFix :=
  let l := ((recs.filter fun r => bits r 63 62 == 1 && bit r 35).map fun r =>
    ({ kind := 1, pc := bits r 61 55, bank := bits r 54 49, target := 0, spare := bits r 39 36 } : Repair)).eraseDups
  l.foldl (fun x r => { x with s := x.s.bootRetire r, ret := x.ret + 1, banks := dramBank r.pc r.bank :: x.banks }) x

/-- Order 3 of R709. -/
def BootFix.columns (x : BootFix) (recs : List Nat) : BootFix :=
  (colFails recs).foldl (fun x k =>
    match (List.range 4).find? fun i => x.s.colFree k.1 k.2.1 i with
    | some i =>
      let r : Repair := { kind := 2, pc := k.1, bank := k.2.1, target := k.2.2, spare := i }
      { x with s := x.s.bootRepair r, cols := x.cols ++ [k], banks := dramBank r.pc r.bank :: x.banks }
    | none => x) x

/-- Order 4 of R709. -/
def BootFix.rowRepairs (x : BootFix) (recs : List Nat) : BootFix :=
  let rest := recs.filter fun r => recRow r &&
    !(x.cols.any fun k => k == (bits r 61 55, bits r 54 49, bits r 34 31 * 64 + bits r 30 25))
  ((rest.map recPlace).eraseDups).foldl (fun x k =>
    match (List.range 16).find? fun i => x.s.spareFree k.1 k.2.1 i with
    | some i =>
      let r : Repair := { kind := 1, pc := k.1, bank := k.2.1, target := k.2.2, spare := i }
      { x with s := x.s.bootRepair r, rows := x.rows + 1, banks := dramBank r.pc r.bank :: x.banks }
    | none => x) x

/-- The repairs of R709 in order. -/
def State.bootRepairs (s : State) (recs : List Nat) : BootFix :=
  let s := s.cremaRepairs recs
  let x : BootFix := { s, banks := s.crm.spares.map fun (e : Nat × Nat) => 512 + e.1 }
  ((x.retires recs).columns recs).rowRepairs recs

/-- Lines whose failing bits span two or more DQ (R709). -/
def poisonLines (recs : List Nat) : List Nat :=
  let l := ((recs.filter recRow).map fun r =>
    (nth 0 (rowLines (bits r 61 55) (bits r 54 49) (bits r 48 36)) (bits r 34 31), bits r 30 25)).eraseDups
  ((l.map (·.1)).eraseDups).filter fun k => decide (2 ≤ (l.filter fun x => x.1 == k).length)

/-- Repair and re-test (R709): `first` and `second` are the records of the two passes. The second is false
where the records overflow. -/
def State.bootResult (s : State) (first second : List Nat) : State × Bool :=
  let x := s.bootRepairs first
  let n := x.ret + x.cols.length + x.rows
  let s := if n = 0 then x.s else x.s.raise 242 1 (min 0xFFFF n)
  let recs := (first.filter fun r => recBank r ∉ x.banks) ++ second.filter fun r => recBank r ∈ x.banks
  let beyond := recs.length - 4096
  let s := { s with bst := { s.bst with recs := recs.take 4096 } }
  let s := if beyond = 0 then s else s.count Fd.BST_STAT_REC_LOST Fd.BST_STAT_REC_OVF beyond
  let bad := poisonLines recs
  let s := bad.foldl (fun s l => s.poisonStore l) { s with dram := [] }
  let s := if bad.isEmpty then s else s.raise 243 1 (min 0xFFFFF bad.length)
  let s := ((s.wr Fd.BST_QUICK_ROW_REP (min 0xFFF x.rows)).wr Fd.BST_QUICK_COL_REP (min 0xFF x.cols.length)).wr
    Fd.BST_QUICK_POISONED (min 0xFFF bad.length)
  (s, beyond == 0)

/-- The applied image asks for the extended self-test (R115, R134). -/
def State.extAsked (s : State) : Bool :=
  match s.boot.img with
  | some k => bit (s.flash (slotBase (2 + k) + 64 + 0x1C)).toNat 0
  | none => false

/-- A boot record names an algorithm and a reading element that its test runs (R708): the extended test runs all four,
the quick one March C− with checkerboard on DRAM and March SS elsewhere. -/
def bootRec (ext : Bool) (r : Nat) : Bool :=
  let a := bits r 20 19
  let e := bits r 18 14
  (ext || (if bits r 63 62 = 1 then a % 2 == 0 else a == 1)) && decide (e < nth 0 [6, 6, 4, 4] a) && elemReads a e

/-- SELFTEST_COMPLETE (R708, R709): a pseudo-channel whose checker fails, whether the Crema checker or the
crypto unit's answers fail, an internal array that fails, and the records of the first and second
pass. -/
def execSelftestComplete (ecc : Option Nat) (crema crypto : Bool) (array : Option Nat)
    (first second : List Nat) (s : State) : Host.Outcome State Fault Refusal :=
  s.act (if s.mode ≠ mSELFTEST ∨ s.on Fd.CLK_STAT_HOLD then s
  else match ecc with
  | some k => s.selftestFail 144 (k % 128)
  | none =>
    if crema then s.selftestFail 157 0
    else if crypto then s.selftestFail 239 0
    else
    let s := s.wr Fd.SEC_STAT_SELFTEST_OK 1
    match array with
    | some a => s.selftestFail 246 (a % 256)
    | none =>
      let s := if s.extAsked ∧ !s.lcFull then s.raise 245 1 (5 * 16) else s
      let runs := bootRec (s.extAsked && s.lcFull)
      let (s, ok) := s.bootResult (first.filter runs) (second.filter runs)
      if ok then s.cremaInit.enterMode mCALIBRATE { prec := 0, mode := mCALIBRATE, level := s.level }
      else (s.raise 244 1 (s.rd Fd.BST_STAT_REC_LOST)).selftestFail 246 0xFF)

end Sys2Proof.Machine
end

