-- ==== Sys2Proof/Machine/Boot.lean ====
section
/-! DEFINITION. The boot up to a verified image (R89, R113, R121, R125, R131–R133, R140). -/

namespace Sys2Proof.Machine

/-- The boot steps run in BOOT while the clock is present and the part has not halted (R67, R96, R140). -/
def State.booting (s : State) : Bool := s.mode == mBOOT && !s.boot.halt && !s.on Fd.CLK_STAT_HOLD

/-- The persist record's sealed MK and pair state come into house firmware's hands (R559, R564, R596). -/
def State.loadPersist (s : State) : State :=
  match s.winner 4 with
  | some w =>
    let p := s.slotPayload (8 + w)
    { s with nvm := { s.nvm with persist := s.nvm.persist.take 8 ++ p.drop 8 } }.unseal p
  | none => s

/-- BOOT_HALT (R140): 1 no firmware, 2 no image, 3 FLASH. The ROM too has the persist record's MK. -/
def State.bootHalt (s : State) (reason : Nat) : State :=
  let s := if reason = 1 then s.loadPersist else s
  { s with boot := { s.boot with halt := true } }.raise 35 1 reason

/-- NVM_BOOT_STAT.SIG_BYPASS: R133 applied to a slot in use (R146). -/
def State.showBypass (s : State) : State := s.wr Fd.NVM_BOOT_STAT_SIG_BYPASS (b2n (s.boot.fwBypass || s.boot.imgBypass))

/-! ### ROM patches (R117–R119) -/

/-- Patch entry `e` is loaded (R119). -/
def State.patchLoaded (s : State) (e : Nat) : Bool :=
  bit (s.rd (if e < 32 then Fd.NVM_PATCH_LD0_ALL else Fd.NVM_PATCH_LD1_ALL)) (e % 32)

/-- The entry that applies at a ROM word address: the lowest-numbered loaded one (R118). -/
def State.patchAt (s : State) (word : Nat) : Option Nat :=
  (List.range 64).find? fun e => s.patchLoaded e && bits (s.otpWord (64 + 2 * e)) 15 0 == word % 65536

/-- DATA of an entry (R117). -/
def State.patchData (s : State) (e : Nat) : Nat := bits (s.otpWord (65 + 2 * e)) 31 0

/-- KIND of an entry (R117): 1 replace, 2 jump. -/
def State.patchKind (s : State) (e : Nat) : Nat := bits (s.otpWord (64 + 2 * e)) 63 62

/-- What a ROM access to a word address returns (R118): DATA for a replace entry, else the ROM's word. -/
def State.romRead (s : State) (word : Nat) : Nat :=
  match s.patchAt word with
  | some e => if s.patchKind e = 1 then s.patchData e else Config.romWord (word % 65536) % 2 ^ 32
  | none => Config.romWord (word % 65536) % 2 ^ 32

/-- Where an instruction fetch from a ROM word address continues instead: at DATA, a byte address, for a jump entry
(R118). -/
def State.romJump (s : State) (word : Nat) : Option Nat :=
  match s.patchAt word with
  | some e => if s.patchKind e = 2 then some (s.patchData e) else none
  | none => none

/-! ### The ROM and the firmware -/

/-- ROM_START (R89, R113, R114). -/
def execRomStart (s : State) : Host.Outcome State Fault Refusal :=
  s.act (if s.mode = mBOOT ∧ s.on Fd.CLK_STAT_OSC_READY ∧ !s.on Fd.CLK_STAT_HOLD then
    { s with boot := { s.boot with rom := true } }
  else s)

/-- SFDP_READ (R121): whether the device meets it. -/
def execSfdpRead (ok : Bool) (s : State) : Host.Outcome State Fault Refusal :=
  s.act (if !s.booting ∨ !s.boot.rom ∨ s.boot.sfdp then s
  else if ok then { s with boot := { s.boot with sfdp := true } }
  else s.bootHalt 3)

/-- Slots of a pair that fail a check are reported once and shut out (R124, R145). -/
def State.pairFaults (s : State) (pair : Nat) (bad : List Nat) : State × List Nat :=
  (List.range 2).foldl (fun (x : State × List Nat) i =>
    if x.2.contains i then x
    else match x.1.slotFault (2 * pair + i) with
      | some r => (x.1.slotInvalid (2 * pair + i) r false, x.2 ++ [i])
      | none => x) (s, bad)

/-- SLOT_SELECT (R125): 0 the firmware pair, by the ROM; 1 the image pair, by house firmware. The other pairs are
read by CAL_RECORD_READ. -/
def execSlotSelect (pair : Nat) (s : State) : Host.Outcome State Fault Refusal :=
  s.act (if !s.booting then s
  else if pair = 0 ∧ s.boot.sfdp ∧ !s.boot.fwRun then
    let (s, bad) := s.wearBoot.pairFaults 0 s.boot.fwBad
    let s := { s with boot := { s.boot with fwBad := bad, fwSel := s.winner 0 bad } }
    if s.boot.fwSel.isNone then s.bootHalt 1 else s
  else if pair = 1 ∧ s.boot.fwRun ∧ s.boot.img.isNone then
    let (s, bad) := s.pairFaults 1 s.boot.imgBad
    let s := { s with boot := { s.boot with imgBad := bad, imgSel := s.winner 1 bad } }
    if s.boot.imgSel.isNone then s.bootHalt 2 else s
  else s)

/-- FIRMWARE_VERIFIED (R131–R133): whether the chosen slot's signature holds under vendor key 0 and under key 1, and its
SVN. Both are kept for the restart of R144. -/
def execFirmwareVerified (keys : Bool × Bool) (svn : Nat) (s : State) : Host.Outcome State Fault Refusal :=
  s.act (if !s.booting ∨ s.boot.fwRun then s
  else match s.boot.fwSel with
  | none => s
  | some k =>
    match s.fwVerdict keys svn with
    | .refused r l =>
      let s := ((s.bypassed k l).slotInvalid k r false).shutOut k true
      { s with boot := { s.boot with fwSel := none } }
    | .accepted l =>
      let s := s.bypassed k l
      let s := { s with boot := { s.boot with fwBypass := !l.isEmpty, fwSig := (keys, svn) } }.showBypass
      let s := (s.wr Fd.NVM_BOOT_STAT_FW_SLOT k).wr Fd.NVM_FW_SVN_ALL svn
      { s with boot := { s.boot with fwRun := true } }.loadPersist)

/-! ### The management controller's restart (R30, R144) -/

/-- House firmware's state is reloaded from the register file and NVM (R30, R144): the persist payload from the winning
slot with P from Samovar; MK's sealed copy and the pair state again where a persist record was owed; the soft-repair
record is owed where it differs from the list in force. What RAM held is lost. -/
def State.reload (s : State) : State :=
  let owed := s.nvm.owed
  let old := s.nvm.persist
  let rec_ := match s.winner 4 with
    | some w => s.slotPayload (8 + w)
    | none => List.replicate 128 0
  let s := { s with nvm := { s.nvm with
    persist := leBytes 8 s.sec.p ++ (rec_ ++ List.replicate (128 - rec_.length) 0).drop 8
    ram := []
    erases := []
    owed := owed.filter (· == 3) } }
  if owed.contains 4 then
    let s := match s.root, s.sec.mkey with
      | some root, some m => s.sealMk root m
      | _, _ => s
    s.setPersist 0x40 ((old.drop 0x40).take 8)
  else s

/-- What verifying the firmware slot in use finds now (R124, R131, R144). -/
def State.fwCheck (s : State) (k : Nat) : Verdict :=
  match s.slotFault k with
  | some r => .refused r []
  | none => s.fwVerdict s.boot.fwSig.1 s.boot.fwSig.2

/-- MC_RESTART (R30, R144): ROM runs, the firmware slot in use is verified, by what its last verification was told of its
signature and its SVN, and house firmware's state is reloaded. Firmware that fails is reported, and the restart does not
end (DESIGN CHOICE, assumption 58). -/
def execMcRestart (s : State) : Host.Outcome State Fault Refusal :=
  s.act (if !s.seq.mcRestart then s
  else
    let k := s.rd Fd.NVM_BOOT_STAT_FW_SLOT % 2
    match if s.boot.fwRun then s.fwCheck k else .accepted [] with
    | .refused r _ => s.slotInvalid k r false
    | .accepted _ => ({ s.reload with seq := { s.seq with mcRestart := false } }).raise 39 1 0)

/-- The first section in order of type (R136) at or above `t`. -/
def nextSect (l : List Sect) (t : Nat) : Option Sect :=
  (l.filter fun (x : Sect) => decide (t ≤ x.typ)).foldl (fun (o : Option Sect) x =>
    match o with
    | some y => if x.typ < y.typ then some x else o
    | none => some x) none

/-- IMAGE_VERIFIED (R132, R133). -/
def execImageVerified (s : State) : Host.Outcome State Fault Refusal :=
  s.act (if !s.booting ∨ s.boot.img.isSome then s
  else match s.boot.imgSel with
  | none => s
  | some k =>
    let img := s.slotPayload (2 + k)
    match s.imgVerdict img with
    | .refused r l =>
      let s := ((s.bypassed (2 + k) l).slotInvalid (2 + k) r false).shutOut (2 + k) true
      { s with boot := { s.boot with imgSel := none } }
    | .accepted l =>
      let s := s.bypassed (2 + k) l
      let s := { s with boot := { s.boot with imgBypass := !l.isEmpty } }.showBypass
      let t := match nextSect (imgSects img) 1 with
        | some x => x.typ
        | none => 0
      { s with boot := { s.boot with img := some k, sect := t, record := 0, poll := false } })

end Sys2Proof.Machine
end

