-- ==== Sys2Proof/Machine/Sleep.lean ====
section
/-! DEFINITION. Sleep entries and wakes (R633–R651): the end of DRAIN, the save, the point of no return,
wake sources, abort and replay, and the wake from STANDBY and the retain modes. -/

namespace Sys2Proof.Machine

/-! ### The register save list (R638) -/

/-- The block of an address is on the save list. -/
def saveBlock (a : Nat) : Bool :=
  !(0x40000 ≤ a && a < 0x60000) && !(0x400000 ≤ a && a < 0x410000)

/-- The fences of R316, R353 and R421. -/
def isFence (a : Nat) : Bool :=
  a == Ra.RGN_FENCE_LO || a == Ra.RGN_FENCE_HI || (0x280000 ≤ a && a < 0x282000 && a % 0x100 == 0) ||
    (Ra.CRM_FENCE 0 ≤ a && a ≤ Ra.CRM_FENCE 7)

/-- Registers held in Samovar or reloaded whole, which a wake leaves as they are (R630, R638): identity, mode,
the oscillator's correction table and its lock (R112), the PWR block, OTP words, and what house firmware reloads from
NVM (R30). -/
def aoReg (a : Nat) : Bool :=
  a == Ra.GLB_ID || a == Ra.GLB_MODE || (Ra.CLK_OSC_TC 0 ≤ a && a ≤ Ra.CLK_OSC_TC 3) || a == Fd.CLK_CTL_LOCK.addr || (0x20000 ≤ a && a < 0x30000) || (0x40000 ≤ a && a < 0x60000) ||
    a == Ra.PAIR_CURRENT_LO || a == Ra.PAIR_CURRENT_HI

/-- Blocks whose read-only fields show what Samovar holds: clocks and keys. -/
def aoStatus (a : Nat) : Bool := (0x10000 ≤ a && a < 0x20000) || (0x80000 ≤ a && a < 0x90000)

/-- The FCNTs and key phases of a port, held in the key store (R254, R547). -/
def linkKeyFld (a : Nat) (f : FieldRow) : Bool :=
  let o := a % 0x1000
  decide (0x100000 ≤ a) && decide (a < 0x10D000) &&
    (o == 0x030 || o == 0x034 || (o == 0x004 && (f.lo == 13 || f.lo == 14)))

/-- What the key store holds of a link in a sleep (R547). -/
def Link.keyed (l : Link) : Link := { keyAsked := l.keyAsked, keyReady := l.keyReady, wrap := l.wrap }

/-- A field after a wake comes from Samovar's live state (some true), the save area (some false), or takes
its reset value. The role in force stands (R574), as do a scheduler copy held in reset (R348), TSV maps and a Trip A recorded in the sleep
(R617). -/
def wakeField (a : Nat) (f : FieldRow) : Option Bool :=
  let copies := 0x280000 ≤ a && a < 0x282000 && a % 0x100 == Ra.CG_STAT 0 % 0x100 &&
    (f.lo == (Fd.CG_STAT_SIMPLEX 0).lo || f.lo == (Fd.CG_STAT_COPY 0).lo)
  let tsv := 0x200000 ≤ a && a < 0x220000 && a % 0x400 == Ra.PC_TSV_MAP 0 % 0x400
  if copies ∨ aoReg a ∨ (aoStatus a ∧ f.ty = .ro) ∨ linkKeyFld a f ∨ tsv ∨ (a = Ra.PAIR_STAT ∧ f.hi = 27) ∨ (a = Ra.THM_CTL ∧ f.ty = .w1c) then
    some true
  else if saveBlock a ∧ (f.ty = .rw ∨ f.ty = .rwl ∨ f.ty = .w1s ∨ isFence a) then some false
  else none

/-- A register's word after the wake. -/
def wakeWord (live saved : Word) (r : RegRow) (a : Nat) : Word :=
  BitVec.ofNat 32 (r.fields.foldl (fun w f => match wakeField a f with
    | some true => setBits w f.hi f.lo (bits live.toNat f.hi f.lo)
    | some false => setBits w f.hi f.lo (bits saved.toNat f.hi f.lo)
    | none => w) (resetWord a).toNat)

/-- Every register after the wake, from the save area's words. -/
def State.wakeRegs (s : State) (save : Tab Word) : State :=
  let keys := (save.map (·.1)) ++ (s.regs.map (·.1)).filter fun a => !(save.any fun (e : Nat × Word) => e.1 == a)
  let regs := keys.foldl (fun (t : Tab Word) a => match regRow a with
    | some r => Tab.put resetWord t a (wakeWord (s.reg a) (Tab.get resetWord save a) r a)
    | none => t) []
  { s with regs }

/-! ### Entry (R634–R637) -/

/-- The lowest class that a retain mode keeps (R640). -/
def State.keptClass (s : State) (m : Nat) : Nat := if m = mRETAINP then s.rd Fd.PWR_CTL_RET_CLASS else 0

def isRetain (m : Nat) : Bool := m == mRETAIN || m == mRETAINP

/-- No data request is in flight and the fabric is empty (R40). -/
def State.inFlight (s : State) : Bool :=
  s.req.txns.any (fun (t : Txn) => !isMgmt t.op) || !s.fabric.isEmpty

/-- DRAIN ends: the transition to the target starts, and the ports enter port state STANDBY where the target
has them keep their links (R634, R635). -/
def State.drainEnd (s : State) (m : Nat) : State :=
  let r := s.pwr.entry.getD { prec := 7, mode := m, level := s.level }
  (({ s with pwr := { s.pwr with stage := 1 } }).setTrans (some { goal := m, req := r })).portsFollow

/-- DRAIN with its target, before its end. -/
def State.draining (s : State) : Option Nat :=
  if s.mode = mDRAIN ∧ s.seq.trans.isNone ∧ s.pwr.stage = 0 then s.seq.sleepTarget else none

/-- DRAIN_COMPLETE (R40, R507): without a save, every counter slot is flushed first. -/
def State.drainComplete (s : State) : State :=
  match s.draining with
  | none => s
  | some m =>
    let flush := isRetain m && !s.cntSavable (s.keptClass m)
    let s := if flush then s.flushAll else s
    if s.inFlight ∨ (flush ∧ s.unflushed ≠ 0) then s else s.drainEnd m

/-- Deltas that no flush can place are discarded (R507). -/
def State.loseDeltas (s : State) : State :=
  let s := s.flushAll
  let n := s.unflushed
  let cnt := { s.cnt with transit := [] }
  let s := { s with cnt }.clearSlots
  if n = 0 then s else s.raise 206 1 (min n 0xFFFFFFFF)

/-- DRAIN_TIMEOUT (R48, R507): leftovers are answered ABORTED and unflushed deltas lost; the entry
proceeds. -/
def State.drainTimeout (s : State) : State :=
  match s.draining with
  | none => s
  | some m =>
    let s := (s.abortData).raise 3 1 0
    let flush := isRetain m && !s.cntSavable (s.keptClass m)
    (if flush then s.loseDeltas else s).drainEnd m

/-- SLEEP_ENTRY (R345, R450, R506, R551, R635, R638): saves, dirty tag lines, self-refresh. The size of the
list is not stated, only that it fits 60 KiB. -/
def State.sleepEntry (s : State) : State :=
  match s.seq.trans with
  | none => s
  | some t =>
    if !isRetain t.goal ∨ s.pwr.stage ≠ 1 then s
    else
      let c := s.keptClass t.goal
      let s := (((s.queSave c).cntSave c).cleanTags).allSelfRef
      let rate (lg : Nat) : Nat := if s.band lg = 2 then 2 else 1
      let rates := (List.range 4).foldl (fun (m : Tab Nat) lg => Tab.put (fun _ => 0) m lg (rate lg)) []
      let s := { s with pwr := { s.pwr with stage := 2, save := some s.regs, srRate := rates } }
      (s.drawn).wr Fd.PWR_STAT_SAVE_BYTES (s.free % 15361)

/-- What the loss of VDD_CORE takes with it (R407, R630, R725): Crema and the engines' state there, the
snapshot, ports, the collector's queues and log. -/
def State.coreLost (s : State) : State :=
  let s := s.dropSnap
  { s with
    clk := { s.clk with aoTemp := s.eff 56 }
    crm := { s.crm with store := [] }
    que := { s.que with qs := [], pools := [], drains := [], deqs := [], freeing := [] }
    tbl := Tbl.reset
    cnt := { Cnt.reset with saved := s.cnt.saved, transit := s.cnt.transit }
    rgl := Rgl.reset
    thm := { Thm.reset with band := s.thm.band }
    links := s.links.foldl (fun t e => Tab.put (fun _ => {}) t e.1 e.2.keyed) []
    bst := Bst.reset
    pair := { Pair.reset with authRole := s.pair.authRole, diverged := s.pair.diverged }
    sec := { s.sec with tagCache := [] }
    flt := { s.flt with log := [], portQ := [], sbQ := [], fwQ := [], ovfTime := [] }
    req := { s.req with out := [], inbox := [] }
    fabric := [] }

/-- DRAM that a retain mode does not keep is lost (R346, R640). -/
def State.dropUnkept (s : State) (c : Nat) : State :=
  let kept (k : Nat) : Bool := match s.rgnOf (if k < 2 ^ 40 then k else (k - 2 ^ 40) / 8 * 64) with
    | some n => decide (c ≤ (s.rgn n).ret)
    | none => false
  { s with dram := s.dram.filter fun (e : Host.Cell) => kept e.1 }

/-- The ABORTED responses of an entry from THERMAL-HOLD have left every port whose link is up (R636). -/
def State.abortsSent (s : State) : Bool :=
  (List.range 12).all fun n =>
    let up := s.lstate n == lACTIVE || s.lstate n == lHOLD || s.lstate n == lSTANDBY
    !up || ((s.link n).aborted.isEmpty &&
      !((s.link n).txSlots.any fun (e : Nat × Nat × Option Resp × Option Msg) => match e.2.2.1 with
        | some r => r.status == stABORTED
        | none => false) &&
      !(s.req.out.any fun (r : Resp) => r.port == n && r.status == stABORTED))

/-- POINT_OF_NO_RETURN (R635–R637): not while a latched wake is to abort the entry, nor, from THERMAL-HOLD, before the
last ABORTED response has left its port. -/
def State.noReturn (s : State) : State :=
  match s.seq.trans with
  | none => s
  | some t =>
    let ready := (isRetain t.goal && s.pwr.stage == 2) || (t.goal == mDEEP && (s.pwr.stage == 1 || s.pwr.stage == 2))
    if !ready ∨ s.on Fd.PWR_STAT_LATCHED ∨ (s.mode = mHOLD ∧ !s.abortsSent) then s
    else
      let s := (s.wr Fd.PWR_STAT_PNR 1).portsOff
      let s := { s with
        pwr := { s.pwr with stage := 3 }
        pins := { s.pins with pwrEnCore := false, pwrEnDram := t.goal != mDEEP } }
      let s := if t.goal = mRETAINP then s.dropUnkept (s.keptClass mRETAINP) else s
      let s := s.coreLost
      if t.goal = mDEEP then
        { s with
          dram := []
          que := Que.reset
          cnt := Cnt.reset
          pwr := { s.pwr with save := none } }
      else s

/-! ### Abort and replay (R646–R648) -/

/-- WAKE_LATCH: before the point of no return the entry is aborted; after it the wake is marked for
replay. -/
def State.wakeLatch (s : State) : State :=
  if !s.on Fd.PWR_STAT_LATCHED ∨ s.pwr.entry.isNone then s
  else if s.pwr.stage = 3 then
    (if s.on Fd.PWR_WAKE_LAST_REPLAYED then s
     else (s.wr Fd.PWR_WAKE_LAST_REPLAYED 1).count Fd.PWR_CNT_REPLAYS Fd.PWR_CNT_RPL_OVF 1)
  else
    (((s.wr Fd.PWR_WAKE_LAST_ABORTED 1).count Fd.PWR_CNT_ABORTS Fd.PWR_CNT_ABT_OVF 1).undoEntry).raiseWake

/-! ### Waking (R649, R650) -/

/-- Device time returns to the root (R104): the bound is kept and cleared. -/
def State.resyncTime (s : State) : State :=
  let unc := ceilDiv (s.clk.estTicks / 1024) 1024
  let s := s.wr Fd.CLK_TIME_LAST_UNC_ALL (min unc 0xFFFFFFFF)
  let s := (s.wr Fd.CLK_STAT_TIME_EST 0).wr Fd.CLK_SRC_TB_CUR 0
  { s with clk := { s.clk with estTicks := 0 } }

/-- The wake logic's request, at precedence 5: the mode and level before DRAIN (R27, R28, R40). -/
def State.wakeReq (s : State) : ModeReq := { s.preDrain with prec := 5 }

/-- The wake logic's request is pending or served. -/
def State.wakeAsked (s : State) : Bool :=
  (s.seq.reqs.any fun (r : ModeReq) => r.prec == 5) || (match s.seq.trans with
    | some t => t.req.prec == 5
    | none => false)

/-- A wake from STANDBY asks the sequencer (R27, R649). -/
def State.standbyWake (s : State) : State := if s.wakeAsked then s else s.askMode s.wakeReq

/-- Tables after the loss of Crema (R476). -/
def State.tablesWake (s : State) (c : Nat) : State :=
  s.tables.foldl (fun s t =>
    let d := s.desc t
    if s.pinned d then (s.wr (Fd.TBL_D_STAT_READY t) 1).raise 189 1 t
    else if (s.rgn d.rgn).ret < c ∧ d.init then s.tblUse t
    else s.wr (Fd.TBL_D_STAT_READY t) 1) s

/-- Copies that the sleep has lost become STALE (R588). -/
def State.marksWake (s : State) (c : Nat) : State :=
  (s.mirrored).foldl (fun s n =>
    if (s.rgn n).win = 1 ∨ (s.rgn n).ret < c then s.setCurrent n false else s) s

/-- The collector is powered: held messages are accepted in order, held expiries applied (R632, R695). -/
def State.heldIn (s : State) : State :=
  let h := s.pwr.held
  let e := s.pwr.heldExp
  let s := { s with pwr := { s.pwr with held := [], heldExp := [] } }
  let s := h.foldl (fun s m => s.acceptMsg m) s
  e.foldl (fun s k => s.expire k) s

/-- PWR_EN_CORE rises, and after DEEP PWR_EN_DRAM with it (R64, R70). -/
def State.powerUp (s : State) (dram : Bool) : State :=
  { s with
    pins := { s.pins with pwrEnCore := true, pwrEnDram := true }
    pwr := { s.pwr with
      coreRose := some s.clk.time
      dramRose := if dram then some s.clk.time else s.pwr.dramRose } }

/-- REFCLK_RETURN at the end of a hold, with its duration in µs (R99, R105). -/
def State.holdEnds (s : State) : State :=
  let us := (s.clk.time + 2 ^ 64 - s.clk.lossTime) % 2 ^ 64 / 175
  s.raise 5 1 (min us (2 ^ 40 - 1))

/-- A wake from a retain mode (R650) once REFCLK is there. The wake logic's request is served at precedence 5; a held
FATAL message sends the part to LOCKDOWN in its place (R632). A hold that began in the sleep ends here (R99). -/
def State.retainWake (s : State) : State :=
  let old := s.mode
  let c := s.keptClass old
  let r := s.wakeReq
  let held := s.on Fd.CLK_STAT_HOLD
  let s := (s.wakeBegins).wakeRegs (s.pwr.save.getD s.regs)
  let s := (s.powerUp false).askMode r
  let s := { s with pins := { s.pins with lanesIdle := false } }
  let s := (((s.toOscillator).wr Fd.CLK_STAT_ROOT_READY 1).wr Fd.CLK_STAT_HOLD 0).resyncTime
  let s := { s with clk := { s.clk with rootRunning := true } }
  let s := s.cremaInit.fencedN
  -- the collector starts; GLB_MODE still shows the sleep mode
  let s := (s.wr Fd.GLB_MODE_MODE r.mode).heldIn
  let lock := pickReq (s.seq.reqs.filter fun (q : ModeReq) => q.mode == mLOCKDOWN)
  let s := s.wr Fd.GLB_MODE_MODE old
  let s := { s with
    pwr := { s.pwr with save := none }
    seq := { s.seq with mcRestart := true } }
  let s := (match lock with
    | some q => ((s.dropReq q).enterMode mLOCKDOWN q).modeStat q.prec 1
    | none => ((s.dropReq r).enterMode r.mode r).modeStat 5 1)
  let s := if held then s.holdEnds else s
  let s := (((s.queRestore c).cntRestore c).tablesWake c).marksWake c
  let s := if s.on Fd.THM_CTL_RETAIN_TRIP then s.raise 26 1 0 else s
  ((((s.leaveSelfRef.levelFollow).regStart).discard).raiseWake).bringupAll

/-! ### Commands -/

/-- DRAIN_COMPLETE (R40). -/
def execDrainComplete (s : State) : Host.Outcome State Fault Refusal := s.act s.drainComplete

/-- SLEEP_ENTRY (R635). -/
def execSleepEntry (s : State) : Host.Outcome State Fault Refusal := s.act s.sleepEntry

/-- POINT_OF_NO_RETURN (R637). -/
def execPointOfNoReturn (s : State) : Host.Outcome State Fault Refusal := s.act s.noReturn

/-- WAKE_N (R75, R641): the pin falls and stays low, or has been low for `pulse` ns. A pulse of 100 ns acts;
whether a shorter one does is not stated. -/
def execWakePin (pulse : Option Nat) (s : State) : Host.Outcome State Fault Refusal :=
  s.act (match pulse with
  | none => { s with pwr := { s.pwr with wakeLow := true } }.wakeEvent 0
  | some n =>
    let s := { s with pwr := { s.pwr with wakeLow := false } }
    if 100 ≤ n then s.wakeEvent 0
    else if n ≤ 20 then s
    else if s.free % 2 = 1 then s.drawn.wakeEvent 0 else s.drawn)

/-- ACTIVITY (R642): on PORT0, or on the pair link. -/
def execActivity (pair : Bool) (s : State) : Host.Outcome State Fault Refusal :=
  s.act (s.wakeEvent (if pair then 2 else 1))

/-- PWR_TIMER reaches 0 (R643). -/
def execPwrTimer (s : State) : Host.Outcome State Fault Refusal :=
  s.act (if s.pwr.timer.isSome then { s with pwr := { s.pwr with timer := none } }.wakeEvent 3 else s)

/-- PWR_WAKE_CMD (R641). -/
def execPwrWakeCmd (s : State) : Host.Outcome State Fault Refusal := s.act (s.wakeEvent 5)

/-- WAKE_LATCH (R646, R647). -/
def execWakeLatch (s : State) : Host.Outcome State Fault Refusal := s.act s.wakeLatch

end Sys2Proof.Machine
end

