-- ==== Sys2Proof/Machine/Mode.lean ====
section
/-! DEFINITION. The mode commands (R27–R30, R38, R40, R51, R63): requests, transitions, level changes, the end
of CALIBRATE, and the management controller's restart. -/

namespace Sys2Proof.Machine

/-- A write of GLB_MODE_REQ with GO (R51). A reserved code is submitted, and the MODE field keeps its value
(R10). `auth`: by an authenticated command (precedence 7), else by house firmware (6). -/
def State.modeReq (s : State) (mode level : Nat) (auth : Bool) : State :=
  let s := s.wr Fd.GLB_MODE_REQ_LEVEL level
  let s := if mode % 16 < 12 then s.wr Fd.GLB_MODE_REQ_MODE mode else s
  if s.coreOff then s
  else s.modeGo { prec := if auth then 7 else 6, mode := mode % 16, level := level % 4 }

/-- GLB_MODE_REQ (R51). -/
def execGlbModeReq (mode level : Nat) (auth : Bool) (s : State) : Host.Outcome State Fault Refusal :=
  s.act (s.modeReq mode level auth)

/-- WCK_SWITCH (R38). -/
def execWckSwitch (s : State) : Host.Outcome State Fault Refusal := s.act s.wckSwitch

/-- CORE_VSEL_WAIT (R63): the 10 µs have passed. -/
def execCoreVselWait (s : State) : Host.Outcome State Fault Refusal :=
  s.act (match s.seq.lvl with
  | some l => s.setLvl (some { l with waitV := false })
  | none => s)

/-- The TSV maps in force. -/
def State.tsvMaps (s : State) : List Nat := (List.range 128).map fun p => (s.reg (Ra.PC_TSV_MAP p)).toNat

/-- CALIBRATION_COMPLETE (R40, R668, R670): the settings that training found, as (pseudo-channel, level, lane,
value); a record is owed when anything differs from the one loaded. -/
def execCalibrationComplete (trained : List (Nat × Nat × Nat × Nat)) (s : State) : Host.Outcome State Fault Refusal :=
  s.act (if s.mode ≠ mCALIBRATE ∨ s.on Fd.CLK_STAT_HOLD ∨ s.seq.trans.isSome then s
  else
    let s := trained.foldl (fun s e => s.setDly (e.1 % 128) (e.2.1 % 4) (e.2.2.1 % 66) e.2.2.2) s
    let same := match s.cal.loaded with
      | some (set, maps) => set == s.cal.set && maps == s.tsvMaps
      | none => false
    let s := { s with cal := { s.cal with dirty := !same } }
    let l := s.rd Fd.GLB_LEVEL_LIM_LVL_START
    let old := s.level
    let s := (s.setVsel l).setLevel l
    (s.enterFrom mSERVICE { prec := 0, mode := mSERVICE, level := l } old).discard)

/-- The management controller alone is reset (R29, R142): an update session closes, a record write is
abandoned, and an AUTH that waits for its persist write is answered RETRY_LATER (R30). -/
def State.mcReset (s : State) : State :=
  let waits := s.req.txns.filter fun (t : Txn) => t.stage == .heldPersist
  let s := waits.foldl (fun s t => s.respond t stRETRY) s
  { s with
    nvm := { s.nvm with
      upd := none
      wr := none
      owed := match s.nvm.wr with
        | some w => if s.nvm.owed.contains (w.slot / 2) then s.nvm.owed else s.nvm.owed ++ [w.slot / 2]
        | none => s.nvm.owed }
    seq := { s.seq with mcRestart := true } }

/-- WATCHDOG_EXPIRY (R29); suspended while VDD_CORE is off (R631). -/
def execWatchdogExpiry (s : State) : Host.Outcome State Fault Refusal :=
  s.act (if s.coreOff ∨ s.seq.mcRestart then s else s.mcReset)

end Sys2Proof.Machine
end

