-- ==== Sys2Proof/Machine/Clock.lean ====
section
/-! DEFINITION. Clocks (chapter 04): the oscillator's windows, trim and correction (R88–R93), source switches
(R94, R95), the loss and return of REFCLK (R96–R99), gates (R100, R101) and device time (R102–R104). -/

namespace Sys2Proof.Machine

/-! ### The oscillator -/

/-- The oscillator is judged by one window (R87, R88, R93): REFCLK's error in counts, none without edges. When
OSC_UNJUDGED clears again is not stated: the model clears it at the first window that agrees with REFCLK (DESIGN CHOICE,
assumption 52). -/
def State.judge (s : State) (err : Option Int) : State :=
  let c := s.clk
  match err with
  | none =>
    let n := min 16 (c.noEdgeWin + 1)
    let s := { s with clk := { c with agreeWin := 0, outWin := 0, noEdgeWin := n } }
    if n = 16 ∧ !s.on Fd.CLK_STAT_OSC_READY then (s.wr Fd.CLK_STAT_OSC_READY 1).wr Fd.CLK_STAT_OSC_UNJUDGED 1 else s
  | some e =>
    if e.natAbs ≤ 224 then
      let n := min 2 (c.agreeWin + 1)
      let s := { s with clk := { c with agreeWin := n, outWin := 0, noEdgeWin := 0 } }
      let s := s.wr Fd.CLK_STAT_OSC_UNJUDGED 0
      if n = 2 then (s.wr Fd.CLK_STAT_REFCLK_OK 1).wr Fd.CLK_STAT_OSC_READY 1 else s
    else
      let n := min 17 (c.outWin + 1)
      let s := { s with clk := { c with agreeWin := 0, outWin := n, noEdgeWin := 0 } }
      if s.on Fd.CLK_STAT_ROOT_READY then (s.wr Fd.CLK_STAT_OSC_READY 0).raise 7 1 0
      else if n = 16 ∧ !s.on Fd.CLK_STAT_OSC_READY then s.raise 7 1 0
      else s

/-- The first available trim reference (R90). A port at RATE 1 is none: its commas stand twice as far apart (R180). -/
def State.trimRef (s : State) (p0 pair : Option Nat) : Nat :=
  if s.on Fd.CLK_STAT_ROOT_READY then 0
  else if p0.isSome ∧ !s.on (Fd.PORT_LANE_CFG_RATE 0) then 1
  else if pair.isSome ∧ !s.on (Fd.PORT_LANE_CFG_RATE 12) then 2 else 3

/-- One automatic trim step (R90): a count too high lowers the frequency. -/
def State.trimStep (s : State) (e : Int) : State :=
  let t := signed 9 (s.rd Fd.CLK_OSC_TRIM)
  let t := if 3 ≤ e then max (-256) (t - 1) else if e ≤ -3 then min 255 (t + 1) else t
  if s.on Fd.CLK_STAT_OSC_READY then s.wr Fd.CLK_OSC_TRIM (wrapInt 9 t) else s

/-- A window ends (R87, R88, R90, R93): oscillator counts over 64 µs of REFCLK (none without an edge) and over
210 commas of PORT0 and PAIR lane 0. -/
def State.oscWindow (s : State) (ref p0 pair : Option Nat) : State :=
  let err (n : Option Nat) (k : Nat) : Option Int := n.map fun x => (x : Int) - k
  let s := s.judge (err ref 11200)
  let r := s.trimRef p0 pair
  let s := if r = s.rd Fd.CLK_STAT_TRIM_REF then s else (s.wr Fd.CLK_STAT_TRIM_REF r).raise 6 1 r
  let s := if r = 3 then s else { s with clk := { s.clk with tempCorr := 0 } }
  let e := if r = 0 then err ref 11200 else if r = 1 then err p0 11088 else if r = 2 then err pair 11088 else none
  let s := match e, err ref 11200 with
    | some x, _ => s.wr Fd.CLK_OSC_ERR (wrapInt 16 x)
    | none, some x => s.wr Fd.CLK_OSC_ERR (wrapInt 16 x)
    | none, none => s
  match e with
  | some x => s.trimStep x
  | none => s

/-- The oscillator starts (R88). The count runs on it while TB_CUR shows it, and is then estimated (R104). -/
def State.oscStart (s : State) : State :=
  let s := { s with clk := { s.clk with oscRunning := true } }
  if s.on Fd.CLK_SRC_TB_CUR then s.wr Fd.CLK_STAT_TIME_EST 1 else s

/-- OSC_START (R88). -/
def execOscStart (s : State) : Host.Outcome State Fault Refusal := s.act s.oscStart

/-- OSC_COMPARE_WINDOW (R88). -/
def execOscCompareWindow (ref p0 pair : Option Nat) (s : State) : Host.Outcome State Fault Refusal :=
  s.act (if s.clk.oscRunning then s.oscWindow ref p0 pair else s)

/-- Entry i of the correction table, in 0.01% (R91, R109). -/
def State.tcEntry (s : State) (i : Nat) : Int :=
  signed 8 (bits (s.reg (Ra.CLK_OSC_TC (i / 4))).toNat (8 * (i % 4) + 7) (8 * (i % 4)))

/-- The temperature nearest Samovar (R91): TS-B56's, or its last reading while Kettle is off with the core. -/
def State.aoTempNow (s : State) : Int := if s.coreOff then s.clk.aoTemp else s.eff 56

/-- TEMPERATURE_CORRECTION (R91). Outside the table's span the correction is not stated. -/
def execTemperatureCorrection (s : State) : Host.Outcome State Fault Refusal :=
  s.act (let t := s.aoTempNow + 40
    if s.rd Fd.CLK_STAT_TRIM_REF ≠ 3 then s
    else if t < 0 ∨ 1200 < t then
      let c : Int := (s.free % 2 ^ 21 : Nat) - 2 ^ 20
      { s.drawn with clk := { s.clk with tempCorr := c } }
    else
      let i := (t / 80).toNat
      let c := s.tcEntry i * 80 + (s.tcEntry (min 15 (i + 1)) - s.tcEntry i) * (t % 80)
      { s with clk := { s.clk with tempCorr := c } })

/-- ROOT_LOCK (R84). The root needs REFCLK and VDD_CORE. In a boot the time base goes to the root then (R104, R114). -/
def execRootLock (s : State) : Host.Outcome State Fault Refusal :=
  s.act (if s.on Fd.CLK_STAT_REFCLK_OK ∧ !s.coreOff then
    let s := { s with clk := { s.clk with rootRunning := true } }.wr Fd.CLK_STAT_ROOT_READY 1
    if s.mode = mBOOT ∧ s.on Fd.CLK_SRC_TB_CUR ∧ !s.on Fd.CLK_STAT_HOLD then s.resyncTime else s
  else s)

/-! ### Sources (R94, R95) -/

/-- The source is ready (R94): 0 the root, 1 the oscillator. -/
def State.srcReady (s : State) (v : Nat) : Bool :=
  if v = 0 then s.on Fd.CLK_STAT_ROOT_READY else s.on Fd.CLK_STAT_OSC_READY

/-- A write of MC_SEL (R94). -/
def State.mcSel (s : State) (v : Nat) : State :=
  if s.srcReady v then
    let s := s.wr Fd.CLK_SRC_MC_SEL v
    { s with clk := { s.clk with mcSwitch := if v = s.rd Fd.CLK_SRC_MC_CUR then none else some v } }
  else (s.wr Fd.CLK_SRC_MC_REF 1).raise 8 1 0

/-- A write of SPI_SEL (R94). -/
def State.spiSel (s : State) (v : Nat) : State :=
  if s.srcReady v then
    let s := s.wr Fd.CLK_SRC_SPI_SEL v
    { s with clk := { s.clk with spiSwitch := if v = s.rd Fd.CLK_SRC_SPI_CUR then none else some v } }
  else (s.wr Fd.CLK_SRC_SPI_REF 1).raise 8 1 1

/-- MC_SEL (R94). -/
def execMcSel (value : Nat) (s : State) : Host.Outcome State Fault Refusal := s.act (s.mcSel (value % 2))

/-- SPI_SEL (R94). -/
def execSpiSel (value : Nat) (s : State) : Host.Outcome State Fault Refusal := s.act (s.spiSel (value % 2))

/-- MUX_RELEASE (R95). -/
def execMuxRelease (spi : Bool) (s : State) : Host.Outcome State Fault Refusal :=
  s.act (if spi then
    (match s.clk.spiSwitch with
     | some v => { s with clk := { s.clk with spiSwitch := none } }.wr Fd.CLK_SRC_SPI_CUR v
     | none => s)
  else match s.clk.mcSwitch with
    | some v => { s with clk := { s.clk with mcSwitch := none } }.wr Fd.CLK_SRC_MC_CUR v
    | none => s)

/-! ### Loss and return of REFCLK -/

/-- A sleep entry before the point of no return is aborted as R646 does, with no wake record. -/
def State.lossAborts (s : State) : State :=
  if s.pwr.entry.isSome ∧ s.pwr.stage ≠ 3 then (s.count Fd.PWR_CNT_ABORTS Fd.PWR_CNT_ABT_OVF 1).undoEntry else s

/-- REFCLK can be declared lost: it was there, or the oscillator runs and finds no edge since RESET_N release (R67). -/
def State.lossNew (s : State) (unlock : Bool) : Bool :=
  if unlock then s.on Fd.CLK_STAT_ROOT_READY
  else s.on Fd.CLK_STAT_REFCLK_OK || s.on Fd.CLK_STAT_ROOT_READY || (s.clk.oscRunning && !s.on Fd.CLK_STAT_HOLD)

/-- REFCLK is declared lost (R96–R98). -/
def State.refclkLoss (s : State) (unlock : Bool) : State :=
  if !s.lossNew unlock then s
  else
    let held := s.on Fd.CLK_STAT_HOLD
    let s := { s with clk := { s.clk with
      agreeWin := 0
      lossTime := if held then s.clk.lossTime else s.clk.time } }
    let s := ((s.wr Fd.CLK_STAT_REFCLK_OK 0).wr Fd.CLK_STAT_ROOT_READY 0).wr Fd.CLK_STAT_HOLD 1
    if s.coreOff then s.wr Fd.CLK_STAT_TIME_EST 1
    else
      let s := s.count Fd.CLK_STAT_LOSS_CNT Fd.CLK_STAT_LOSS_OVF 1
      let s := { s with
        pins := { s.pins with lanesIdle := true }
        req := { s.req with txns := s.req.txns.map fun (t : Txn) => { t with lost := true } } }
      let s := (List.range 13).foldl (fun s n => (s.enterRecover n 5 true).portOff n) s
      (((s.lossAborts).allSelfRef).toOscillator).raise 4 1 (b2n unlock)

/-- REFCLK_LOSS (R96). -/
def execRefclkLoss (unlock : Bool) (s : State) : Host.Outcome State Fault Refusal := s.act (s.refclkLoss unlock)

/-- HOLDOVER_END (R96). -/
def execHoldoverEnd (s : State) : Host.Outcome State Fault Refusal :=
  s.act (if s.on Fd.CLK_STAT_HOLD ∧ !s.on Fd.CLK_STAT_ROOT_READY then
    { s with clk := { s.clk with rootRunning := false } }
  else s)

/-- REFCLK_RETURN (R99). The transmitters of LOCKDOWN by Trip B stay off (R77). -/
def execRefclkReturn (s : State) : Host.Outcome State Fault Refusal :=
  s.act (if s.on Fd.CLK_STAT_HOLD ∧ s.on Fd.CLK_STAT_REFCLK_OK ∧ s.on Fd.CLK_STAT_ROOT_READY ∧ !s.coreOff then
    let s := (s.wr Fd.CLK_STAT_HOLD 0).resyncTime
    let s := { s with pins := { s.pins with lanesIdle := s.tripB } }
    ((s.leaveSelfRef).bringupAll).holdEnds
  else s)

/-! ### Gates (R100, R101) -/

def addTo (l : List Nat) (n : Nat) : List Nat := if l.contains n then l else l ++ [n]

/-- A port's gate opens, and its lanes come up (R101). -/
def State.openPort (s : State) (n : Nat) : State :=
  let s := { s with clk := { s.clk with portClosed := s.clk.portClosed.filter (· != n) } }
  if s.laneRuns n then s.bringup n else s

/-- A GATE bit of CLK_GATE_PORT is written (R100). -/
def State.gatePort (s : State) (n : Nat) (on : Bool) : State :=
  let s := s.wrBit Fd.CLK_GATE_PORT_GATE n on
  if on then
    (if s.clk.portClosed.contains n then s
     else { s with clk := { s.clk with portAsk := addTo s.clk.portAsk n } })
  else
    let s := { s with clk := { s.clk with portAsk := s.clk.portAsk.filter (· != n) } }
    if s.clk.portClosed.contains n then s.openPort n else s

/-- A GATE bit of CLK_GATE_CG is written (R100). -/
def State.gateCg (s : State) (g : Nat) (on : Bool) : State :=
  let s := s.wrBit Fd.CLK_GATE_CG_GATE g on
  if on then
    (if s.clk.cgClosed.contains g then s
     else { s with clk := { s.clk with cgAsk := addTo s.clk.cgAsk g } })
  else
    let asked := s.clk.cgAsk.contains g
    let s := { s with clk := { s.clk with cgAsk := s.clk.cgAsk.filter (· != g) } }
    if s.clk.cgClosed.contains g ∨ asked then s.openCg g else s

/-- CLK_GATE_PORT (R100). -/
def execClkGatePort (port : Nat) (on : Bool) (s : State) : Host.Outcome State Fault Refusal :=
  s.act (if port < 13 then s.gatePort port on else s)

/-- CLK_GATE_CG (R100). -/
def execClkGateCg (cg : Nat) (on : Bool) (s : State) : Host.Outcome State Fault Refusal :=
  s.act (if cg < 32 then s.gateCg cg on else s)

/-- A port holds no unanswered request and no unsent or unacknowledged flit (R100, R249). -/
def State.portQuiet (s : State) (n : Nat) : Bool :=
  let l := s.link n
  !(s.req.txns.any fun (t : Txn) => t.port == n) && !(s.req.out.any fun (r : Resp) => r.port == n) &&
    (s.inbox n).isEmpty && l.aborted.isEmpty && l.txSlots.isEmpty && l.replay.isEmpty && (n != 12 || s.pair.out.isEmpty)

/-- A group's queues are empty and every bank is in self-refresh (R100). -/
def State.cgQuiet (s : State) (g : Nat) : Bool :=
  (List.range 4).all fun i => (s.pc (4 * g + i)).accs.isEmpty && (s.pc (4 * g + i)).selfRef

/-- QUIESCE_ACK (R100): unit 0–11 a port, 12 PAIR, 16–47 a channel group. -/
def execQuiesceAck (unit : Nat) (s : State) : Host.Outcome State Fault Refusal :=
  s.act (if unit < 13 then
    (if s.clk.portAsk.contains unit ∧ s.portQuiet unit then
      let s := { s with clk := { s.clk with
        portAsk := s.clk.portAsk.filter (· != unit)
        portClosed := addTo s.clk.portClosed unit } }
      (s.enterRecover unit 5 true).portOff unit
    else s)
  else if 16 ≤ unit ∧ s.clk.cgAsk.contains (unit - 16) ∧ s.cgQuiet (unit - 16) then
    { s with clk := { s.clk with
      cgAsk := s.clk.cgAsk.filter (· != unit - 16)
      cgClosed := addTo s.clk.cgClosed (unit - 16) } }
  else s)

/-- GATE_REFUSED (R100). -/
def execGateRefused (unit : Nat) (s : State) : Host.Outcome State Fault Refusal :=
  s.act (if unit < 13 then
    (if s.clk.portAsk.contains unit then
      ((s.gatePort unit false).wrBit Fd.CLK_GATE_PORT_REF unit true).raise 9 1 unit
    else s)
  else if 16 ≤ unit ∧ s.clk.cgAsk.contains (unit - 16) then
    ((s.gateCg (unit - 16) false).wrBit Fd.CLK_GATE_CG_REF_REF (unit - 16) true).raise 9 1 unit
  else s)

/-- GATE_OPEN (R101): a transfer has reached the gated group. -/
def execGateOpen (cg : Nat) (s : State) : Host.Outcome State Fault Refusal :=
  s.act (let waits := s.fabric.any fun (a : Acc) => decide (a.line < 2 ^ 33) && pcOf (64 * a.line) / 4 == cg
    if s.clk.cgClosed.contains cg ∧ !s.cgFenced cg ∧ waits then s.openCg cg else s)

/-! ### Device time -/

/-- A read of CLK_TIME_LO latches the upper half (R103). -/
def State.latchTime (s : State) : State :=
  { s with clk := { s.clk with timeShadow := s.clk.time / 2 ^ 32 % 2 ^ 32 } }

/-- CLK_TIME_LO_READ (R103). -/
def execClkTimeLoRead (s : State) : Host.Outcome State Fault Refusal := s.act s.latchTime

end Sys2Proof.Machine
end

