-- ==== Sys2Proof/Machine/Views.lean ====
section
/-! DEFINITION. What a register reads as: fields that show the state of a unit (R11), and the words of a held
snapshot (R723, R724, R727). -/

namespace Sys2Proof.Machine

/-- Fields (hi, lo, value) put into a word. -/
def putFields (w : Nat) (l : List (Nat × Nat × Nat)) : Nat := l.foldl (fun w f => setBits w f.1 f.2.1 f.2.2) w

/-- A 32-bit map of a predicate of 32 indices. -/
def bitMap (f : Nat → Bool) : Nat := (List.range 32).foldl (fun m i => m + b2n (f i) * 2 ^ i) 0

/-! ### Clock and power -/

/-- The uncertainty bound in 1,024 ticks (R104, R110). -/
def State.timeUnc (s : State) : Nat := min 0xFFFFFFFF (ceilDiv (s.clk.estTicks / 1024) 1024)

def State.viewClk (s : State) (a w : Nat) : Nat :=
  if a = Ra.CLK_TIME_LO then s.clk.time % 2 ^ 32
  else if a = Ra.CLK_TIME_HI then s.clk.timeShadow % 2 ^ 32
  else if a = Ra.CLK_TIME_UNC then s.timeUnc
  else w

/-- PWR_TIMER while it runs (R643, R656). -/
def State.viewPwr (s : State) (a w : Nat) : Nat :=
  if a = Ra.PWR_TIMER then
    match s.pwr.timer with
    | some (n, t) => n - (s.clk.time - t) / 65536
    | none => w
  else w

/-! ### Kettle -/

/-- Within 6 °C of a threshold. -/
def near (e t : Int) : Bool := decide ((e - t).natAbs ≤ 48)

/-- The region of a base-die sensor is within 6 °C of the spread limit (R605). -/
def State.nearSpread (s : State) (r : Nat) : Bool :=
  (List.range 16).any fun q => adjacent r q && s.pairOver r q false 0 151

/-- The rate a sensor is sampled at: 0 every 1 ms, 1 every 50 µs, 2 every 10 µs, 3 not (R605, R615). -/
def State.snsRate (s : State) (i : Nat) : Nat :=
  let e := s.eff i
  if !s.snsPresent i ∨ (s.sns i).failed then 3
  else if 64 ≤ i then
    let ts := [680 + s.gradeC, 760 + s.gradeC, s.tripAt true] ++ (List.range 7).map fun k => s.thrFloor (k + 1)
    if s.mode = mHOLD ∨ s.startEff ≤ e then 2 else if ts.any (near e) then 1 else 0
  else
    let ts := [s.tripAt false] ++ (if i = 17 then [160, 320, 480, 640, 800] else [])
    if s.tripAt false - 80 ≤ e then 2 else if ts.any (near e) ∨ s.nearSpread (snsRgn i) then 1 else 0

def State.maxOf (s : State) (l : List Nat) : Nat :=
  match s.maxEff l with
  | some (_, e) => wrapInt 12 e
  | none => 0

def State.viewThm (s : State) (a w : Nat) : Nat :=
  if a = Ra.THM_STAT then
    putFields w [(31, 20, s.maxOf (s.snsClass 64)), (19, 8, s.maxOf (List.range 64)),
      (7, 0, ((List.range 128).filter fun i => (s.sns i).failed).length)]
  else if Ra.THM_ZONE 0 ≤ a ∧ a < Ra.THM_ZONE 4 then
    let l := s.zoneSns ((a - Ra.THM_ZONE 0) / 4)
    let n := (l.filter fun i => (s.sns i).hasSub).length
    putFields w [(31, 20, s.maxOf l), (7, 7, b2n (decide (0 < n))), (4, 0, n)]
  else if Ra.THM_RGN 0 ≤ a ∧ a < Ra.THM_RGN 16 then
    putFields w [(31, 20, s.maxOf (rgnSns ((a - Ra.THM_RGN 0) / 4)))]
  else if Ra.THM_SNS 0 ≤ a ∧ a < Ra.THM_SNS 128 then
    let i := (a - Ra.THM_SNS 0) / 4
    let x := s.sns i
    let here := s.snsPresent i
    putFields w [(31, 30, if !here then 3 else if x.failed then 2 else if x.sub then 1 else 0), (29, 28, s.snsRate i),
      (23, 12, if here then x.raw else 0), (11, 0, if here then wrapInt 12 (s.eff i) else 0)]
  else if Ra.THM_FAIL 0 ≤ a ∧ a < Ra.THM_FAIL 4 then
    bitMap fun k => (s.sns ((a - Ra.THM_FAIL 0) / 4 * 32 + k)).failed
  else w

/-! ### Fuses and flash -/

def State.viewOtp (s : State) (a w : Nat) : Nat :=
  let n := s.rd Fd.OTP_RD_ADDR_WORD
  let secret := otpClass n == 7
  if a = Ra.OTP_RD_ADDR then
    putFields w [(31, 31, b2n (bit (s.rd (Fd.OTP_FAIL_FAIL (n / 32))) (n % 32))),
      (30, 30, b2n (bit (s.rd (Fd.OTP_MARG_MARG (n / 32))) (n % 32))), (29, 29, b2n (s.otp.corr.contains n))]
  else if a = Ra.OTP_RD_DLO then (if secret then 0 else s.otpWord n % 2 ^ 32)
  else if a = Ra.OTP_RD_DHI then (if secret then 0 else s.otpWord n / 2 ^ 32 % 2 ^ 32)
  else w

def State.viewNvm (s : State) (a w : Nat) : Nat :=
  match s.nvm.upd with
  | none => w
  | some u =>
    if a = Ra.NVM_UPD_STAT then
      putFields 0 [(31, 31, 1), (30, 30, b2n (u.begun && !u.sectors.isEmpty)), (29, 28, u.slot / 2 + 1), (27, 24, u.src),
        (12, 0, u.buf.length)]
    else if a = Ra.NVM_UPD_OFF then u.off
    else w

/-! ### Collector and crypto unit -/

/-- Word k of a message window; zero when there is none. -/
def msgWord (m : Option Msg) (k : Nat) : Nat :=
  match m with
  | some m => (m.word k).toNat
  | none => 0

def State.viewFlt (s : State) (a w : Nat) : Nat :=
  let act (b : Nat) : Nat := bitMap fun i => s.flt.acts.any fun (e : Act) => e.slot == b + i
  if a = Ra.FLT_STAT then
    putFields w [(31, 31, b2n s.flt.frozen), (30, 30, b2n s.flt.degHeld), (29, 23, s.flt.acts.length),
      (22, 16, s.flt.sbQ.length)]
  else if a = Ra.FLT_ACT_LO then act 0
  else if a = Ra.FLT_ACT_HI then act 32
  else if Ra.FLT_LOG_W 0 ≤ a ∧ a < Ra.FLT_LOG_W 8 then
    msgWord (Tab.get (fun _ => none) s.flt.log (s.rd Fd.FLT_LOG_IDX_IDX)) ((a - Ra.FLT_LOG_W 0) / 4)
  else if Ra.FLT_SB_W 0 ≤ a ∧ a < Ra.FLT_SB_W 8 then msgWord s.flt.sbQ.head? ((a - Ra.FLT_SB_W 0) / 4)
  else w

/-- A word of the certificate's payload (R573). -/
def State.certWord (s : State) : Nat :=
  let o := 4 * s.rd Fd.SEC_CERT_ADDR_WORD
  if (s.slotFault 10).isSome then 0 else leNat (((s.slotPayload 10).drop o).take 4)

def State.viewSec (s : State) (a w : Nat) : Nat :=
  if a = Ra.SEC_CERT_DATA then s.certWord
  else if a = Ra.SEC_AUTH_LAST_LO then s.sec.last % 2 ^ 32
  else if a = Ra.SEC_AUTH_LAST_HI then s.sec.last / 2 ^ 32 % 2 ^ 32
  else if a = Ra.SEC_AUTH_P_LO then s.sec.p % 2 ^ 32
  else if a = Ra.SEC_AUTH_P_HI then s.sec.p / 2 ^ 32 % 2 ^ 32
  else if a = Ra.SEC_AUTH_STAT then putFields w [(3, 3, b2n (s.stopped 4))]
  else w

/-! ### Ports, controllers, Crema -/

/-- A register of a PORTn or the PAIR block; the pair link's fields of lanes 4 to 7 read 0, and LOG4 to LOG7 0xF (the
chapter's text above R208). -/
def State.viewPort (s : State) (a w : Nat) : Nat :=
  let n := (a - 0x100000) / 0x1000
  let o := (a - 0x100000) % 0x1000
  if o = 0x00C then putFields w [(11, 0, s.outstanding n)]
  else if o = 0x124 then
    let x := s.laneRx n (s.rd (Fd.PORT_LANE_DIAG_SEL_LANE n))
    putFields 0 [(31, 27, x.ctle), (26, 22, x.ctleTrn), (21, 14, wrapInt 8 (x.taps.headD 0)),
      (13, 6, wrapInt 8 (x.tapsTrn.headD 0)), (5, 5, b2n x.clamp.isSome), (4, 0, x.clamp.getD 0)]
  else if n = 12 ∧ (o = 0x10C ∨ o = 0x110) then putFields w [(31, 16, 0xFFFF)]
  else if n = 12 ∧ ((0x150 ≤ o ∧ o < 0x160) ∨ (0x190 ≤ o ∧ o < 0x1A0)) then 0
  else w

def State.viewPc (s : State) (a w : Nat) : Nat :=
  let p := (a - 0x200000) / 0x400
  let o := (a - 0x200000) % 0x400
  let x := s.pc p
  if o = 0 then
    putFields 0 [(31, 25, x.rq.length), (24, 18, x.writable.length), (17, 13, x.mb.length), (12, 12, b2n x.wmode),
      (11, 8, x.banks.foldl (fun m (e : Nat × Bank) => max m e.2.debt.toNat) 0), (7, 7, b2n x.selfRef),
      (6, 0, (x.banks.filter fun (e : Nat × Bank) => e.2.inOrder).length)]
  else if 0x100 ≤ o ∧ o < 0x208 then s.dly p (s.rd (Fd.CG_STAT_EFF_LEVEL (p / 4))) ((o - 0x100) / 4)
  else w

def State.viewCg (s : State) (a w : Nat) : Nat :=
  let g := (a - 0x280000) / 0x100
  let o := (a - 0x280000) % 0x100
  if o = 0x010 then putFields w [(31, 31, b2n (s.cgFenced g)), (7, 7, b2n (s.cgSelfRef g))]
  else if o = 0x048 then putFields w [(1, 1, b2n (s.calWaits g))]
  else w

def State.viewCrm (s : State) (a w : Nat) : Nat :=
  if a = Ra.CRM_PART then putFields w [(25, 16, 704 - s.rd Fd.CRM_PART_CNT_SIZE)] else w

def State.viewQue (s : State) (a w : Nat) : Nat :=
  let o := a - 0x310000
  if a = Ra.QUE_STAT then
    putFields w [(31, 25, s.que.drains.length), (16, 0, (s.que.qs.filter fun (e : Nat × QRec) => e.2.state != 0).length)]
  else if 0x100 ≤ o ∧ o < 0x200 ∧ o % 16 = 8 then s.poolFree ((o - 0x100) / 16)
  else if 0x100 ≤ o ∧ o < 0x200 ∧ o % 16 = 12 then (s.pool ((o - 0x100) / 16)).leaked
  else w

/-- TBL_STAT, and PINNED and ENTRIES of a descriptor (R479, R481). -/
def State.viewTbl (s : State) (a w : Nat) : Nat :=
  let o := a - 0x320000
  if a = Ra.TBL_STAT then
    putFields w [(20, 20, b2n s.tbl.cmd.isSome), (19, 9, s.locksUsed), (8, 0, s.tables.length)]
  else if 0x100 ≤ o ∧ o < 0x2100 ∧ o % 32 = 0x18 then
    let t := (o - 0x100) / 32
    putFields w [(29, 29, b2n (s.pinned (s.desc t))), (27, 0, min 0xFFFFFFF (s.entries t).toNat)]
  else w

/-! ### Self-test, repair and scrub -/

/-- Banks with no spare row that is free and not retired (R391). -/
def State.exhausted (s : State) : Nat :=
  let rows := (s.ecc.repairs ++ s.ecc.retired).filter fun (r : Repair) => r.kind == 1
  let banks := (rows.map fun (r : Repair) => (r.pc, r.bank)).eraseDups
  (banks.filter fun (b : Nat × Nat) => (List.range 16).all fun i => !s.spareFree b.1 b.2 i).length

def State.viewBst (s : State) (a w : Nat) : Nat :=
  let r := nth 0 s.bst.recs (s.rd Fd.BST_REC_IDX_IDX)
  if a = Ra.BST_STAT then
    putFields w [(31, 31, b2n (!s.bst.tests.isEmpty)), (30, 30, b2n (s.bst.tests.any fun (t : Test) => t.op == 1 && t.phase == 1)),
      (28, 16, s.bst.recs.length)]
  else if a = Ra.BST_REC_LO then r % 2 ^ 32
  else if a = Ra.BST_REC_HI then r / 2 ^ 32 % 2 ^ 32
  else if a = Ra.BST_REP_STAT then
    putFields 0 [(31, 14, (s.ecc.repairs.filter fun (r : Repair) => r.kind == 1).length), (13, 0, s.exhausted)]
  else if a = Ra.BST_REP_SOFT then
    putFields 0 [(31, 16, min 0xFFFF s.ecc.ramKept.length), (14, 14, b2n (decide (8192 ≤ s.ecc.soft.length))),
      (13, 0, s.ecc.soft.length)]
  else w

/-- PROGRESS (R387): the slowest pseudo-channel's share of the pass. -/
def State.viewEcc (s : State) (a w : Nat) : Nat :=
  if a = Ra.ECC_SCRUB_STAT then
    let least := (List.range 128).foldl (fun m p =>
      if s.ecc.passDone.contains p then m else min m (s.pc p).scrubPos) s.walkLines
    putFields w [(7, 0, min 255 (least * 256 / s.walkLines))]
  else w

/-! ### The word a register holds -/

/-- The value of the register at `a`, but for OBS_SNAP_DATA. -/
def State.look0 (s : State) (a : Nat) : Nat :=
  let w := (s.reg a).toNat
  if a < 0x10000 then w
  else if a < 0x20000 then s.viewClk a w
  else if a < 0x30000 then s.viewPwr a w
  else if a < 0x40000 then s.viewThm a w
  else if a < 0x50000 then s.viewOtp a w
  else if a < 0x60000 then s.viewNvm a w
  else if a < 0x70000 then s.viewFlt a w
  else if a < 0x80000 then w
  else if a < 0x90000 then s.viewSec a w
  else if a < 0x100000 then w
  else if a < 0x110000 then s.viewPort a w
  else if a < 0x280000 then s.viewPc a w
  else if a < 0x300000 then s.viewCg a w
  else if a < 0x310000 then s.viewCrm a w
  else if a < 0x320000 then s.viewQue a w
  else if a < 0x330000 then s.viewTbl a w
  else if a < 0x400000 then w
  else if a < 0x410000 then s.viewBst a w
  else s.viewEcc a w

/-! ### Snapshots (R723, R724, R727) -/

/-- A latched register. -/
def State.snapReg (s : State) (a : Nat) : Nat :=
  if !inBlock a then 0
  else if 0x70000 ≤ a ∧ a < 0x80000 ∧ !(0x71000 ≤ a ∧ a < 0x75000) then 0
  else if 0x80000 ≤ a ∧ a < 0x90000 ∧ !(a = Ra.SEC_STAT ∨ a = Ra.SEC_AUTH_STAT ∨ a = Ra.SEC_TAG_FAIL_CNT ∨ a = Ra.SEC_TC_MISS)
  then 0
  else s.look0 a

/-- The accesses queued at a pseudo-channel, oldest first. -/
def Pc.queuedOldest (p : Pc) : List Acc :=
  let all := p.rq ++ p.wq ++ p.mb
  (List.range all.length).filterMap fun j =>
    all.find? fun (a : Acc) => (all.filter fun (b : Acc) => decide (b.seq < a.seq)).length == j

/-- Words of a channel group's unit. -/
def State.snapCg (s : State) (g w : Nat) : Nat :=
  let p := s.pc (4 * g + w / 32)
  match p.queuedOldest[w % 32 / 2]? with
  | none => 0
  | some a =>
    if w % 2 = 0 then
      putFields 0 [(29, 0, a.line), (31, 30, match a.kind with
        | .read => 0
        | .write => 1
        | .merge => 2)]
    else
      putFields 0 [(15, 0, min 0xFFFF (tickNs (s.clk.time - a.born))), (17, 16, s.accUrg a),
        (18, 18, b2n (p.bank (bankOf (64 * a.line))).inOrder), (31, 31, 1)]

def State.snapFabric (s : State) (t : Nat) : Nat :=
  let l := s.fabric.filter fun (a : Acc) => lineTarget a.line == t
  putFields 0 [(4, 0, Tab.get (fun _ => 0) s.grant t), (15, 8, ((l.map fun (a : Acc) => a.ini).eraseDups).length),
    (31, 31, b2n (!l.isEmpty))]

def State.snapQueue (s : State) (e : Nat) : Nat :=
  match s.que.drains[e]? with
  | none => 0
  | some d => putFields 0 [(15, 0, d.qid), (20, 16, d.code), (30, 30, b2n ((s.q d.qid).state == 3)), (31, 31, 1)]

def State.snapTable (s : State) (w : Nat) : Nat :=
  match (s.lineLocks.eraseDups)[w / 2]? with
  | none => 0
  | some l =>
    if w % 2 = 0 then s.bucketAddr l.1.1 l.1.2 / 64 % 2 ^ 32
    else putFields 0 [(0, 0, b2n l.2), (31, 31, 1)]

/-- Word 0 of the counter engine's unit; the scan and the sweep stand at no place between commands
(assumption 22). -/
def State.snapCounter (s : State) (w : Nat) : Nat :=
  match s.cnt.rebuild with
  | some r => if w = 0 then r.set + 2 ^ 31 else 0
  | none => 0

def State.snapReg44 (s : State) (w : Nat) : Nat :=
  if w < 256 then
    putFields 0 [(11, 0, min 0xFFF (s.shareQ w).length), (31, 12, min 0xFFFFF (Tab.get (fun _ => 0) s.rgl.deficit w / 256))]
  else if w = 256 then wrapInt 32 (s.rgl.pool / 75 / 256)
  else 0

def State.snapActs (s : State) (w : Nat) : Nat :=
  match s.flt.acts.find? fun (e : Act) => e.slot == w / 2 with
  | none => 0
  | some e =>
    if w % 2 = 0 then putFields 0 [(7, 0, e.msg.source), (13, 8, e.msg.kind), (31, 31, 1)]
    else min 0xFFFFFFFF (e.expires - s.clk.time)

/-- Word `w` of extension unit `u` (R724). -/
def State.snapUnit (s : State) (u w : Nat) : Nat :=
  if u ≤ 12 then
    let h (l : List Nat) (k : Nat) : Nat := nth 0 l (k / 2) / 2 ^ (32 * (k % 2)) % 2 ^ 32
    if w < 32 then h (s.link u).rxHdrs w else if w < 64 then h (s.link u).txHdrs (w - 32) else 0
  else if 0x20 ≤ u ∧ u < 0x40 then (if w < 128 then s.snapCg (u - 0x20) w else 0)
  else if u = 0x40 then (if w < 33 then s.snapFabric w else 0)
  else if u = 0x41 then (if w < 64 then s.snapQueue w else 0)
  else if u = 0x42 then (if w < 128 then s.snapTable w else 0)
  else if u = 0x43 then s.snapCounter w
  else if u = 0x44 then s.snapReg44 w
  else if u = 0x45 then (if w < 128 then s.snapActs w else 0)
  else 0

/-- OBS_SNAP_DATAk (R726, R727). -/
def State.snapData (s : State) (k : Nat) : Nat :=
  match s.obs.snap with
  | none => 0
  | some c =>
    if !s.on Fd.OBS_SNAP_STAT_UNLOCKED then 0
    else
      let x : State := { toChip := c, obs := s.obs, cyc := s.cyc, pending := [] }
      let a := s.rd Fd.OBS_SNAP_ADDR_ADDR
      if s.on Fd.OBS_SNAP_ADDR_EXT then x.snapUnit (a / 65536) (a % 65536 + k) else x.snapReg (a + 4 * k)

/-- The value of the register at `a`. -/
def State.look (s : State) (a : Nat) : Nat :=
  if Ra.OBS_SNAP_DATA 0 ≤ a ∧ a < Ra.OBS_SNAP_DATA 4 then s.snapData ((a - Ra.OBS_SNAP_DATA 0) / 4) else s.look0 a

/-! ### Reads (R11, R12, R103, R286) -/

/-- RC fields are cleared. -/
def rcCleared (r : RegRow) (w : Nat) : Nat :=
  r.fields.foldl (fun w f => if f.ty = .rc then setBits w f.hi f.lo 0 else w) w

/-- The RC field of the register holds a maximum rather than a count (R534). -/
def rcMax (a : Nat) : Bool :=
  (decide (Ra.REG_PLAT 0 ≤ a) && decide (a ≤ Ra.REG_PLAT 12)) || (List.range 256).any fun l => a == Ra.REG_L_LAT l

/-- The word of a register as a read of it finds its RC fields (R12): a field that hardware raised in this cycle, from
`base` to `now`, reads as before. -/
def rcSeen (r : RegRow) (base now w : Nat) : Nat :=
  r.fields.foldl (fun w f =>
    if f.ty == .rc && decide (bits base f.hi f.lo ≤ bits now f.hi f.lo) then setBits w f.hi f.lo (bits base f.hi f.lo)
    else w) w

/-- What a read leaves in the RC fields (R12): what this cycle has added; of a maximum, one set in this cycle. -/
def rcLeft (max : Bool) (r : RegRow) (base now : Nat) : Nat :=
  r.fields.foldl (fun w f =>
    if f.ty == .rc then
      let b := bits base f.hi f.lo
      let v := bits now f.hi f.lo
      setBits w f.hi f.lo (if v ≤ b then 0 else if max then v else v - b)
    else w) now

/-- What stood in the register when this cycle began. -/
def State.baseReg (s : State) (a : Nat) : Nat := (Tab.get resetWord s.cyc.base a).toNat

def State.setBase (s : State) (a w : Nat) : State :=
  { s with cyc := { s.cyc with base := Tab.put resetWord s.cyc.base a (BitVec.ofNat 32 w) } }

/-- A read of the register at `a` (R11, R12, R24): what stood there before software's writes of this cycle; a read of
CLK_TIME_LO latches the upper half. The RC fields are cleared of what they held before this cycle. -/
def State.readReg (s : State) (a : Nat) : State × Nat :=
  match regRow a with
  | none => (s, 0)
  | some r =>
    let base := s.baseReg a
    let now := (s.reg a).toNat
    let v := match s.cyc.writes.find? (fun (e : Nat × Nat × Nat) => e.1 == a) with
      | some e => e.2.2
      | none => rcSeen r base now (s.look a)
    let s := if a = Ra.CLK_TIME_LO then s.latchTime else s
    ((s.setReg a (BitVec.ofNat 32 (rcLeft (rcMax a) r base now))).setBase a (rcCleared r base), v)

/-- READ_CLEAR (R11, R12). -/
def execReadClear (addr : Nat) (s : State) : Host.Outcome State Fault Refusal := s.act (s.readReg addr).1

end Sys2Proof.Machine
end

