-- ==== Sys2Proof/Machine/Write.lean ====
section
/-! DEFINITION. Writes of the register file: the field types and locks (R10–R12, R25), the values a register's own
rule refuses, and what a write makes the owning block do. -/

namespace Sys2Proof.Machine

/-- Writers other than ports 0 to 11: the sideband, and house firmware or the image it applies. -/
def whoSb := 15
def whoFw := 16

/-! ### Locks -/

/-- The lock bit of the block that holds an address (R54, R112, R209, R312, R353 and each block's own). -/
def lockFld (a : Nat) : Option Fld :=
  if a < 0x10000 then some Fd.GLB_CTL_LOCK
  else if a < 0x20000 then some Fd.CLK_CTL_LOCK
  else if a < 0x30000 then some Fd.PWR_CTL_LOCK
  else if a < 0x40000 then some Fd.THM_CTL_LOCK
  else if a < 0x60000 then none
  else if a < 0x70000 then some Fd.FLT_CTL_LOCK
  else if a < 0x80000 then some Fd.OBS_SNAP_CTL_LOCK
  else if a < 0x90000 then some Fd.SEC_CTL_LOCK
  else if a < 0xA0000 then some Fd.REG_CTL_LOCK
  else if a < 0xB0000 then some Fd.RGN_CTL_LOCK
  else if 0x100000 ≤ a ∧ a < 0x10D000 then some (Fd.PORT_LOCK_LOCK ((a - 0x100000) / 0x1000))
  else if 0x280000 ≤ a ∧ a < 0x282000 then some (Fd.CG_CTL_LOCK ((a - 0x280000) / 0x100))
  else if 0x300000 ≤ a ∧ a < 0x310000 then some Fd.CRM_CTL_LOCK
  else if 0x310000 ≤ a ∧ a < 0x320000 then some Fd.QUE_CTL_LOCK
  else if 0x320000 ≤ a ∧ a < 0x330000 then some Fd.TBL_CTL_LOCK
  else if 0x330000 ≤ a ∧ a < 0x340000 then some Fd.CNT_CTL_LOCK
  else if 0x400000 ≤ a ∧ a < 0x410000 then some Fd.BST_CFG_LOCK
  else if 0x410000 ≤ a ∧ a < 0x420000 then some Fd.ECC_CTL_LOCK
  else none

/-- The RWL fields at an address keep their values (R11). -/
def State.blockLocked (s : State) (a : Nat) : Bool :=
  match lockFld a with
  | some f => s.on f
  | none => false

/-- The lock bit is set; PAIR_LOCK.LOCK and PAIR_CFG.LOCK are one bit (R209). -/
def State.setLock (s : State) (f : Fld) : State :=
  let s := s.wr f 1
  if f.addr = Ra.PORT_LOCK 12 then s.wr Fd.PAIR_CFG_LOCK 1 else s

/-! ### Values a register refuses -/

/-- Sources that may escalate to a fence (R693). -/
def escFences (n : Nat) : Bool := (decide (104 ≤ n) && decide (n ≤ 167)) || n == 233 || n == 234

/-- INDEX within the range of a quantity (R728). -/
def monIndexOk (qty i : Nat) : Bool :=
  match qty with
  | 1 => decide (i < 12)
  | 2 => decide (i < 256)
  | 3 => decide (i < 3)
  | 4 => opDefined i
  | 6 => decide (i < 128)
  | 7 => decide (i < 128)
  | 8 => decide (i < 12)
  | 9 => decide (i < 16)
  | 10 => decide (i < 256)
  | 11 => decide (i < 4)
  | 12 => decide (i < 16)
  | _ => true

/-- Reserved encodings that a rule names beside the table (R10): R625, R693, R720, R728. `w` holds the fields already
decided in its upper bits. -/
def State.fieldOk (s : State) (a : Nat) (f : FieldRow) (v w : Nat) : Bool :=
  if a = Ra.THM_THR ∧ f.lo = 24 then decide (8 * (v : Int) + s.gradeC < s.tripAt true)
  else if Ra.FLT_SRC 0 ≤ a ∧ a ≤ Ra.FLT_SRC 255 ∧ f.lo = 27 then v != 1 || escFences ((a - Ra.FLT_SRC 0) / 4)
  else if a = Ra.OBS_SNAP_CTL ∧ f.lo = 24 then v != 251 && v != 252
  else if Ra.OBS_MON_CFG 0 ≤ a ∧ a ≤ Ra.OBS_MON_CFG 63 ∧ a % 0x100 = 0 then
    (if f.lo = 26 then decide (v < 13) else f.lo != 17 || monIndexOk (bits w 29 26) v)
  else true

/-- The encoding is none of the reserved ones of the table. -/
def FieldRow.legalValue (f : FieldRow) (v : Nat) : Bool :=
  match f.legal with
  | none => true
  | some l => l.any fun (r : Nat × Nat) => decide (r.1 ≤ v) && decide (v ≤ r.2)

/-- What a write leaves of a register: its word, whether anything was left unchanged (R287), and whether a field of
the write carried a reserved encoding. -/
structure WordWrite where
  word : Nat
  ignored : Bool := false
  reserved : Bool := false
  deriving DecidableEq, Repr

/-- One field of a write (R10, R11). A W1C bit that hardware has set in this cycle stays set (R12). -/
def State.writeField (s : State) (a : Nat) (locked : Bool) (w : Nat) (x : WordWrite) (f : FieldRow) : WordWrite :=
  let v := bits w f.hi f.lo
  let old := bits x.word f.hi f.lo
  let put (v : Nat) : WordWrite := { x with word := setBits x.word f.hi f.lo v }
  match f.ty with
  | .rw | .rwl =>
    if (f.ty = .rwl ∧ locked) ∨ (Ra.FLT_SRC 0 ≤ a ∧ a ≤ Ra.FLT_SRC 255 ∧ (f.lo = 27 ∨ f.lo = 29) ∧ bit x.word 31) then
      { x with ignored := x.ignored || v != old }
    else if f.legalValue v ∧ s.fieldOk a f v x.word then put v
    else { x with ignored := true, reserved := true }
  | .w1c => put (old - (old &&& v &&& bits (s.baseReg a) f.hi f.lo))
  | .w1s => put (old ||| v)
  | _ => x

/-- The magnitude of a signed 6-bit tap (R210). -/
def tapMag (v : Nat) : Nat := (signed 6 v).natAbs

/-- A setting that leaves the whole register unchanged (R210, R355). -/
def wordRefused (a w : Nat) : Bool :=
  if 0x100000 ≤ a ∧ a < 0x10D000 ∧ a % 0x1000 = 0x104 then
    decide (64 < tapMag (bits w 29 24) + tapMag (bits w 23 18) + bits w 17 12 + tapMag (bits w 11 6) + tapMag (bits w 5 0))
  else if 0x280000 ≤ a ∧ a < 0x282000 ∧ a % 0x100 = 8 then decide (bits w 15 8 ≤ bits w 7 0)
  else false

/-- The whole word of a write (R10, R11). -/
def State.writeWord (s : State) (a w : Nat) (r : RegRow) : WordWrite :=
  let old := (s.reg a).toNat
  let x := r.fields.foldl (s.writeField a (s.blockLocked a) w) { word := old }
  if wordRefused a x.word then { word := old, ignored := true, reserved := true } else x

/-- The write sets a GO: a one-bit WO field (R11). -/
def goBit (r : RegRow) (w : Nat) : Bool := r.fields.any fun f => f.ty == .wo && f.hi == f.lo && bit w f.lo

/-! ### What a write does -/

/-- Epochs restart when LK or SESS of a port changes (R556). -/
def State.epochsRestart (s : State) (n : Nat) : State :=
  let s := (s.setReg (Ra.SEC_LEP_TX n) 0).setReg (Ra.SEC_LEP_RX n) 0
  let s := (s.wr (Fd.PORT_ENC_FCNT_TX_FCNT n) 0).wr (Fd.PORT_ENC_FCNT_RX_FCNT n) 0
  (s.wr (Fd.PORT_LINK_STAT_KPH_TX n) 0).wr (Fd.PORT_LINK_STAT_KPH_RX n) 0

/-- For each of `n` bits that differ between two words, in ascending order. -/
def State.eachChange (s : State) (n old new : Nat) (f : State → Nat → Bool → State) : State :=
  (List.range n).foldl (fun (s : State) i => if bit old i = bit new i then s else f s i (bit new i)) s

/-- A GO, its arguments stored (the GO fields of each block's registers). -/
def State.goGlobal (s : State) (who a : Nat) : State :=
  if a = Ra.PWR_WAKE_CMD then s.wakeEvent 5
  else if a = Ra.THM_REARM then s.rearmSns (s.rd Fd.THM_REARM_SENSOR)
  else if a = Ra.OTP_PROG_CTL then s.otpGo
  else if a = Ra.NVM_UPD_CTL then
    (match s.rd Fd.NVM_UPD_CTL_OP with
    | 1 => s.updBeginGo who
    | 2 => s.updFinishGo who
    | _ => s.updCancelGo who)
  else if a = Ra.FLT_ACK then s.ackGo
  else if a = Ra.FLT_TEST then s.testGo
  else if a = Ra.FLT_SB_POP then s.sbPop
  else if a = Ra.OBS_SNAP_CMD then (if s.rd Fd.OBS_SNAP_CMD_OP = 1 then s.snapUnlock else s.snapRelease)
  else if Ra.OBS_MON_CFG 0 ≤ a ∧ a ≤ Ra.OBS_MON_CTL 63 then s.monClear ((a - Ra.OBS_MON_CFG 0) / 0x100)
  else s

def State.goService (s : State) (a : Nat) : State :=
  if a = Ra.SEC_KLD_CTL then s.kldGo (s.rd Fd.SEC_KLD_CTL_OP) (s.rd Fd.SEC_KLD_CTL_SLOT)
  else if a = Ra.SEC_MK_CTL then s.mkGo
  else if a = Ra.SEC_ATT_CTL then s.attGo
  else if a = Ra.REG_LCMD then s.labelCommit
  else if a = Ra.RGN_COMMIT then s.commitGo (s.rd Fd.RGN_COMMIT_INDEX)
  else if a = Ra.QUE_POOL_CMD then s.poolReclaim
  else if a = Ra.TBL_CMD then
    (match s.rd Fd.TBL_CMD_OP with
    | 1 => s.tblDefine
    | 2 => s.tblRetire
    | _ => s.tblMove)
  else if a = Ra.PAIR_ROLE then s.roleGo (s.rd Fd.PAIR_ROLE_ROLE)
  else if a = Ra.PAIR_RESYNC then s.resyncGo (s.on Fd.PAIR_RESYNC_SOURCE_SELF)
  else s

def State.goArray (s : State) (a : Nat) : State :=
  if 0x100000 ≤ a ∧ a < 0x10D000 then
    let n := (a - 0x100000) / 0x1000
    if a = Ra.PORT_LANE_SWAP n then s.swapGo n (s.rd (Fd.PORT_LANE_SWAP_LANE n)) (s.rd (Fd.PORT_LANE_SWAP_DIR n))
    else if Ra.PORT_PRBS_CTL n 0 ≤ a ∧ a ≤ Ra.PORT_PRBS_CTL n 8 then
      let p := (a - Ra.PORT_PRBS_CTL n 0) / 4
      if s.injects n p then s.injectBit n p else s
    else s
  else if 0x280000 ≤ a ∧ a < 0x282000 then
    let g := (a - 0x280000) / 0x100
    if a = Ra.CG_CAL_CMD g then s.calGo g (s.rd (Fd.CG_CAL_CMD_OP g)) else s
  else if a = Ra.BST_CTL then s.bistGo
  else if a = Ra.BST_REP_CMD then
    let e := s.rd Fd.BST_REP_ARG0_ARG + s.rd Fd.BST_REP_ARG1_ARG * 2 ^ 32
    (match s.rd Fd.BST_REP_CMD_OP with
    | 1 => s.remapRow e
    | 2 => s.retireSpare e
    | _ => s.readEntry e)
  else s

/-- A GO runs its operation. -/
def State.runGo (s : State) (who a : Nat) : State :=
  if a < 0x80000 then s.goGlobal who a
  else if a < 0x100000 ∨ (0x10C800 ≤ a ∧ a < 0x10CC00) ∨ (0x300000 ≤ a ∧ a < 0x340000) then s.goService a
  else s.goArray a

/-- Bits whose write asks for more than a stored value: the register holds `old` again, and the owning block acts on
each bit that the write would change. None: the written word stands. -/
def State.bitHook (s : State) (a old new : Nat) : Option State :=
  let s0 := s.setReg a (BitVec.ofNat 32 old)
  if a = Ra.CLK_GATE_PORT then
    some ((s.setReg a (BitVec.ofNat 32 (setBits new 12 0 old))).eachChange 13 old new fun s i on => s.gatePort i on)
  else if a = Ra.CLK_GATE_CG then some (s0.eachChange 32 old new fun s i on => s.gateCg i on)
  else if a = Ra.RGN_FENCE_LO then some (s0.eachChange 32 old new fun s i _ => s.rgnUnfence i)
  else if a = Ra.RGN_FENCE_HI then some (s0.eachChange 32 old new fun s i _ => s.rgnUnfence (32 + i))
  else if Ra.CRM_FENCE 0 ≤ a ∧ a ≤ Ra.CRM_FENCE 7 then
    some (s0.eachChange 32 old new fun s i _ => s.bankUnfence ((a - Ra.CRM_FENCE 0) / 4 * 32 + i))
  else if 0x280000 ≤ a ∧ a < 0x282000 ∧ a % 0x100 = 0 ∧ bit old 1 ∧ !bit new 1 then
    some ((s.setReg a (BitVec.ofNat 32 (setBits new 1 1 1))).cgFenceClear ((a - 0x280000) / 0x100))
  else none

/-- CLK_SRC: SEL as written, judged domain by domain (R94). -/
def State.srcHook (s : State) (old new : Nat) : State :=
  let s := s.setReg Ra.CLK_SRC (BitVec.ofNat 32 (setBits new 1 0 old))
  let asks (s : State) (i : Nat) (cur : Fld) : Bool := bit new i != bit old i || b2n (bit new i) != s.rd cur
  let s := if asks s 0 Fd.CLK_SRC_MC_CUR then s.mcSel (b2n (bit new 0)) else s
  if asks s 1 Fd.CLK_SRC_SPI_CUR then s.spiSel (b2n (bit new 1)) else s

/-- The enable and the test bit of a port's lanes (R190, R205). -/
def State.laneHook (s : State) (n a old new : Nat) : State :=
  if a = Ra.PORT_LANE_CFG n then
    (if bit new 31 ∧ !bit old 31 then (if s.laneRuns n then s.bringup n else s)
    else if bit old 31 ∧ !bit new 31 then s.portOff n
    else s)
  else if a = Ra.PORT_LANE_TEST n then (s.setReg a (BitVec.ofNat 32 old)).laneTest n (bit new 0)
  else s

/-- What else a stored word does. -/
def State.wordHook (s : State) (a old new : Nat) : State :=
  if a = Ra.CLK_SRC then s.srcHook old new
  else if a = Ra.PWR_TIMER then
    (if s.pwr.timer.isSome then { s with pwr := { s.pwr with timer := some (new, s.clk.time) } } else s)
  else if Ra.OBS_MON_CFG 0 ≤ a ∧ a ≤ Ra.OBS_MON_BASE 63 ∧ (a % 0x100 = 0 ∨ a % 0x100 = 4) then
    s.monClear ((a - Ra.OBS_MON_CFG 0) / 0x100)
  else if Ra.SEC_LINK 0 ≤ a ∧ a ≤ Ra.SEC_LINK 12 then
    (if old = new then s else s.epochsRestart ((a - Ra.SEC_LINK 0) / 4))
  else if a = Ra.SEC_LSESSP_LO ∨ a = Ra.SEC_LSESSP_HI then (if old = new then s else s.epochsRestart 12)
  else if a = Ra.PAIR_CFG then (if bit new 0 then s.wr (Fd.PORT_LOCK_LOCK 12) 1 else s)
  else if 0x100000 ≤ a ∧ a < 0x10D000 then
    let n := (a - 0x100000) / 0x1000
    if a = Ra.PORT_LOCK 12 then (if bit new 0 then s.wr Fd.PAIR_CFG_LOCK 1 else s) else s.laneHook n a old new
  else s

/-- The words of WO data registers (R544, R559). -/
def State.dataWord (s : State) (a w : Nat) : State :=
  if Ra.SEC_KLD_K 0 ≤ a ∧ a ≤ Ra.SEC_KLD_K 3 then
    { s with sec := { s.sec with
      kldWords := Tab.put (fun _ => (0 : Word)) s.sec.kldWords ((a - Ra.SEC_KLD_K 0) / 4) (BitVec.ofNat 32 w) } }
  else if Ra.SEC_MKW 0 ≤ a ∧ a ≤ Ra.SEC_MKW 31 then
    { s with sec := { s.sec with
      mkWords := Tab.put (fun _ => (0 : Word)) s.sec.mkWords ((a - Ra.SEC_MKW 0) / 4) (BitVec.ofNat 32 w) } }
  else s

/-- Registers that only house firmware writes (R390, R664). -/
def fwOnly (a : Nat) : Bool :=
  (decide (Ra.BST_REP_CMD ≤ a) && decide (a ≤ Ra.BST_REP_ARG1)) ||
    (decide (0x280000 ≤ a) && decide (a < 0x282000) && (a % 0x100 == 0x40 || a % 0x100 == 0x44))

/-- What a write answers: done, left something unchanged (R287), or to be sent again (R142). -/
structure Written where
  ignored : Bool := false
  later : Bool := false
  deriving DecidableEq, Repr

/-- A write of GLB_MODE_REQ (R51): a reserved MODE is submitted with GO as written. -/
def State.writeModeReq (s : State) (who w : Nat) : State × Written :=
  let bad := decide (12 ≤ bits w 3 0)
  if bit w 31 then (s.modeReq (bits w 3 0) (bits w 9 8) (who != whoFw), { ignored := bad })
  else
    let s := s.wr Fd.GLB_MODE_REQ_LEVEL (bits w 9 8)
    (if bad then s else s.wr Fd.GLB_MODE_REQ_MODE (bits w 3 0), { ignored := bad })

/-- A bit that a write would change was left as it was by the register's own rule (R287): after the hooks a field that
software can change does not hold what was written. -/
def State.undone (s : State) (r : RegRow) (a old new : Nat) : Bool :=
  r.fields.any fun f => (f.ty == .rw || f.ty == .rwl || f.ty == .w1c) && bits old f.hi f.lo != bits new f.hi f.lo &&
    bits (s.reg a).toNat f.hi f.lo != bits new f.hi f.lo

/-- A GO of the register is refused with BUSY because an operation of the register is in progress (R310, R546,
R664, R710, R740): `s` before the GO, `t` after it. -/
def State.goHeld (s t : State) (a : Nat) : Bool :=
  if a = Ra.OTP_PROG_CTL then s.otp.prog.isSome
  else if a = Ra.NVM_UPD_CTL then s.nvm.upd.isSome && t.rd Fd.NVM_UPD_CTL_RESULT == 3
  else if a = Ra.SEC_KLD_CTL then s.sec.load.isSome
  else if a = Ra.REG_LCMD then s.rgl.commit.isSome
  else if a = Ra.RGN_COMMIT then s.on Fd.RGN_STAT_BUSY
  else if a = Ra.TBL_CMD then s.tbl.cmd.isSome
  else if a = Ra.PAIR_ROLE then s.pair.roleAsk.isSome
  else if a = Ra.PAIR_RESYNC then s.joined && s.pair.resync.isSome
  else if a = Ra.BST_REP_CMD then t.rd Fd.BST_REP_CMD_RESULT == 3
  else if a = Ra.BST_CTL then t.rd Fd.BST_CTL_RESULT == 4
  else if 0x280000 ≤ a ∧ a < 0x282000 ∧ a % 0x100 = 0x40 then (s.calCmd ((a - 0x280000) / 0x100)).isSome
  else false

/-- A word with a register's RW and RWL fields replaced by those of `old`. -/
def withArgs (r : RegRow) (old w : Nat) : Nat :=
  r.fields.foldl (fun w f =>
    if f.ty == .rw || f.ty == .rwl then setBits w f.hi f.lo (bits old f.hi f.lo) else w) w

/-- The fields of a register that software writes hold again what stood in `old`. -/
def State.keepArgs (s : State) (r : RegRow) (a old : Nat) : State :=
  s.setReg a (BitVec.ofNat 32 (withArgs r old (s.reg a).toNat))

/-- A write of a register that has no rule of its own: stored, then its hooks, then its GO. -/
def State.writeRow (s : State) (who a w : Nat) (r : RegRow) : State × Written :=
  let old := (s.reg a).toNat
  let x := s.writeWord a w r
  let s := s.setReg a (BitVec.ofNat 32 x.word)
  let s := match s.bitHook a old x.word with
    | some s => s
    | none => s.wordHook a old x.word
  let ignored := x.ignored || s.undone r a old x.word
  let s := s.dataWord a w
  if goBit r w ∧ !x.reserved then
    let t := s.runGo who a
    (if s.goHeld t a then t.keepArgs r a old else t, { ignored })
  else (s, { ignored })

/-- The write is a GO of PORTn_LANE_SWAP while a swap of its direction is pending: RESULT BUSY and no other effect
(R214). -/
def State.laneSwapBusy (s : State) (a w : Nat) : Bool :=
  let n := (a - 0x100000) / 0x1000
  decide (0x100000 ≤ a) && decide (n < 13) && a == Ra.PORT_LANE_SWAP n && bit w 31 && s.swapBusy n (b2n (bit w 4))

/-- A write of the register's word by port `who`, the sideband or house firmware. -/
def State.regPut (s : State) (who a w : Nat) (r : RegRow) : State × Written :=
    if a = Ra.GLB_MODE_REQ then s.writeModeReq who w
    else if Ra.NVM_UPD_DATA 0 ≤ a ∧ a ≤ Ra.NVM_UPD_DATA 3 then
      match s.updData who w with
      | (s, .done) => (s, {})
      | (s, .ignored) => (s, { ignored := true })
      | (s, .later) => (s, { later := true })
    else if a = Ra.ECC_INJ_CTL then
      let x := s.eccInjWrite w
      (x.1, { ignored := x.2 })
    else if a = Ra.CRM_INJ_CTL then
      let x := s.crmInjWrite w
      (x.1, { ignored := x.2 })
    else if s.laneSwapBusy a w then (s.wr (Fd.PORT_LANE_SWAP_RESULT ((a - 0x100000) / 0x1000)) 4, {})
    else s.writeRow who a w r

/-- A W1C bit that software cleared counts as set in this cycle where hardware sets it again (R12). -/
def State.baseCleared (s : State) (r : RegRow) (a w : Nat) : State :=
  s.setBase a (r.fields.foldl (fun b f =>
    if f.ty == .w1c then setBits b f.hi f.lo (bits b f.hi f.lo - (bits b f.hi f.lo &&& bits w f.hi f.lo)) else b)
    (s.baseReg a))

/-- Software has written the register in this cycle: `pre` is what it read as before. -/
def State.noteWrite (s : State) (who a pre : Nat) : State :=
  let ws := s.cyc.writes
  let ws := match ws.find? (fun (e : Nat × Nat × Nat) => e.1 == a) with
    | some e => ws.filter (fun (e : Nat × Nat × Nat) => e.1 != a) ++ [(a, max who e.2.1, e.2.2)]
    | none => ws ++ [(a, who, pre)]
  { s with cyc := { s.cyc with writes := ws } }

/-- A write of a register by port `who`, the sideband or house firmware (R10–R12, R23–R25). An address that names no
register takes no effect (R285). The writes of one cycle take effect as though ports came in ascending order, then the
sideband, then house firmware (R24): one that a later source has overtaken leaves the RW and RWL fields as they are. -/
def State.regWrite (s : State) (who a w : Nat) : State × Written :=
  let a := a % 0x1000000
  let w := w % 2 ^ 32
  match regRow a with
  | none => (s, {})
  | some r =>
    if fwOnly a ∧ who ≠ whoFw then (s, { ignored := true })
    else
      let old := (s.reg a).toNat
      let pre := s.look a
      let late := s.cyc.writes.any fun (e : Nat × Nat × Nat) => e.1 == a && decide (who < e.2.1)
      let x := s.regPut who a (if late ∧ !goBit r w then withArgs r old w else w) r
      let t := if late ∧ goBit r w then x.1.keepArgs r a old else x.1
      ((t.baseCleared r a w).noteWrite who a pre, x.2)

/-! ### Commands -/

/-- The registers that a critical command governs (R558). -/
def governed (a : Nat) : Bool :=
  let in' (lo hi : Nat) : Bool := decide (lo ≤ a) && decide (a ≤ hi)
  a == Ra.GLB_MODE_REQ || in' Ra.SEC_KLD_CTL (Ra.SEC_KLD_K 3) || a == Ra.SEC_MK_CTL || in' (Ra.SEC_MKW 0) (Ra.SEC_MKW 31) ||
    in' Ra.SEC_LSESSP_LO Ra.SEC_LSESSP_HI || in' Ra.RGN_STG_B Ra.RGN_COMMIT || in' Ra.RGN_FENCE_LO Ra.RGN_FENCE_HI ||
    in' Ra.TBL_STG_CFG (Ra.TBL_STG_SEED 3) || a == Ra.TBL_CMD || in' Ra.OTP_PROG_ADDR Ra.OTP_PROG_CTL ||
    in' 0x50040 0x500FF || in' 0x10C800 0x10C8FF || in' 0x400000 0x4007FF || in' 0x70000 0x700FF

/-- REGISTER_WRITE (R11, R23–R25): by port 0 to 11, 15 the sideband, or another for house firmware. A governed register
takes no plain write of a host or the sideband (R25). -/
def execRegisterWrite (who addr value : Nat) (s : State) : Host.Outcome State Fault Refusal :=
  s.act (if (who < 12 ∨ who = whoSb) ∧ governed (addr % 0x1000000) then s
  else (s.regWrite (if who < 12 ∨ who = whoSb then who else whoFw) addr value).1)

/-- LOCK (R54, R112, R139, R209): the lock of the block that holds an address. -/
def execLockWrite (addr : Nat) (s : State) : Host.Outcome State Fault Refusal :=
  s.act (match lockFld (addr % 0x1000000) with
  | some f => s.setLock f
  | none => s)

/-- OBS_MON_CFG_WRITE (R732, R737): CFG or BASE of monitor `m`. -/
def execObsMonCfgWrite (m : Nat) (base : Bool) (value : Nat) (s : State) : Host.Outcome State Fault Refusal :=
  s.act (if m < 64 then (s.regWrite whoFw (if base then Ra.OBS_MON_BASE m else Ra.OBS_MON_CFG m) value).1 else s)

/-- The value of a level quantity now (R728). -/
def State.levelOf (s : State) (qty i : Nat) : Option Nat :=
  match qty with
  | 6 => some (s.pc i).rq.length
  | 7 => some (s.pc i).writable.length
  | 8 => some (s.outstanding i)
  | 9 => some (s.poolFree i)
  | 10 => some (s.shareQ i).length
  | 11 => some (match s.maxEff (s.zoneSns i) with
    | some (_, e) => e.toNat
    | none => 0)
  | 12 => some (s.rgnVolt i)
  | _ => none

/-- LEVEL_SAMPLE (R729): monitor `m` samples its level quantity at a tick that is a multiple of its period. -/
def execLevelSample (m : Nat) (s : State) : Host.Outcome State Fault Refusal :=
  s.act (if m < 64 ∧ s.on (Fd.OBS_MON_CFG_EN m) ∧ !s.coreOff ∧ s.clk.time % 2 ^ s.rd (Fd.OBS_MON_CFG_SPER m) = 0 then
    match s.levelOf (s.rd (Fd.OBS_MON_CFG_QTY m)) (s.rd (Fd.OBS_MON_CFG_INDEX m)) with
    | some v => s.monSample m v
    | none => s
  else s)

end Sys2Proof.Machine
end

