-- ==== Sys2Proof/Machine/Mgmt.lean ====
section
/-! DEFINITION. Management requests: MGMT_RD, MGMT_WR and AUTH (R285–R291, R558–R562), the sideband (R292), and the ends of
FENCE and ORDERED holds (R266, R283). -/

namespace Sys2Proof.Machine

/-! ### Admission (R49, R292) -/

/-- The registers a management message names. -/
def mgmtAddrs (h : ReqHead) : List Nat := (List.range (h.lenArg % 8)).map fun i => h.addr % 0x1000000 + 4 * i

/-- The message an AUTH wraps (R288). -/
def wrapped (payload : List Byte) : Nat × ReqHead := parseHead (leNat ((payload.drop 32).take 16))

/-- Value `i` of a data slot (R287). -/
def slotValue (slot : List Byte) (i : Nat) : Nat := leNat ((slot.drop (4 * i)).take 4)

/-- The wrapped write names only registers of a range. -/
def wrapsOnly (payload : List Byte) (lo hi : Nat) : Bool :=
  let w := wrapped payload
  w.1 == opMGMT_WR && !(mgmtAddrs w.2).isEmpty && (mgmtAddrs w.2).all fun a => decide (lo ≤ a) && decide (a ≤ hi)

/-- The wrapped write is a mode change other than to DEEP (R49). -/
def wrapsMode (payload : List Byte) : Bool :=
  let w := wrapped payload
  (List.range (w.2.lenArg % 8)).any fun i =>
    let v := slotValue (payload.drop 48) i
    w.2.addr % 0x1000000 + 4 * i == Ra.GLB_MODE_REQ && bit v 31 && bits v 3 0 != mDEEP

/-- A write of the update's data registers alone (R142 step 2). -/
def dataOnly (h : ReqHead) : Bool :=
  !(mgmtAddrs h).isEmpty && (mgmtAddrs h).all fun a => decide (Ra.NVM_UPD_DATA 0 ≤ a) && decide (a ≤ Ra.NVM_UPD_DATA 3)

/-- Step 3 for MGMT_RD, MGMT_WR and AUTH: a refusal's status. The boot halt accepts an update over the sideband (R140):
its control writes inside AUTH, its data writes without (R142). -/
def State.mgmtMode (s : State) (port op : Nat) (h : ReqHead) (payload : List Byte) : Option Nat :=
  let m := s.mode
  if s.seq.mcRestart then some stRETRY
  else if op = opMGMT_RD then none
  else if m = mBOOT ∨ m = mSELFTEST ∨ m = mCALIBRATE then
    (if port = whoSb ∧ s.boot.halt ∧ ((op = opAUTH ∧ wrapsOnly payload 0x50040 0x5011F) ∨ (op = opMGMT_WR ∧ dataOnly h))
      then none else some stRETRY)
  else if m = mHOLD then (if op = opAUTH ∧ wrapsMode payload then some stRETRY else none)
  else if m = mLOCKDOWN then
    (if op = opAUTH ∧ wrapsOnly payload 0x70000 0x700FF then none else some stABORTED)
  else none

/-! ### Reads and writes (R286, R287) -/

/-- The registers read in ascending order, and the response's data slot. -/
def State.readRegs (s : State) (as : List Nat) : State × List Byte :=
  as.foldl (fun (x : State × List Byte) a =>
    let r := x.1.readReg a
    (r.1, x.2 ++ leBytes 4 r.2)) (s, [])

/-- The registers written in ascending order. -/
def State.writeRegs (s : State) (who : Nat) (as : List Nat) (slot : List Byte) : State × Written :=
  let n := as.length
  (List.range n).foldl (fun (x : State × Written) i =>
    let r := x.1.regWrite who (nth 0 as i) (slotValue slot i)
    (r.1, { ignored := x.2.ignored || r.2.ignored, later := x.2.later || r.2.later })) (s, {})

/-- A management request at step 9 has passed step 8 (R529, R530). -/
def State.mgmtStart (s : State) (t : Txn) : Txn := { t with label := 254, passed := true, t8 := s.clk.time }

/-- MGMT_RD from step 6. -/
def State.mgmtRead (s : State) (t : Txn) : State :=
  let as := mgmtAddrs t.head
  if !as.all inBlock then s.respond t stREJ_REGION
  else
    let r := s.readRegs as
    r.1.respond (s.mgmtStart t) stOK 0 (r.2 ++ List.replicate (16 - r.2.length) 0)

/-- MGMT_WR from step 6, its own or the one an AUTH wraps; a data write of an update that must be sent again has no
effect (R142). -/
def State.mgmtWrite (s : State) (t : Txn) (h : ReqHead) (slot : List Byte) (result : Nat) : State :=
  let as := mgmtAddrs h
  if !as.all inBlock then s.respond t stREJ_REGION result
  else
    let r := s.writeRegs t.port as slot
    if r.2.later then s.respond (s.mgmtStart t) stRETRY result
    else r.1.respond (s.mgmtStart t) stOK result [] 0 (2 * b2n r.2.ignored)

/-! ### AUTH (R288–R291, R558–R562) -/

/-- AUTH_FAIL, at most once per millisecond (R568). -/
def State.authFail (s : State) (t : Txn) (reason : Nat) : State :=
  let s := (s.count Fd.SEC_AUTH_STAT_FAILS Fd.SEC_AUTH_STAT_FAIL_OVF 1).wr Fd.SEC_AUTH_STAT_LAST_REASON reason
  let s := if rateOk s.sec.authTime s.clk.time msTicks then
      { s with sec := { s.sec with authTime := s.clk.time + 1 } }.raise 236 1
        (reason + (if t.port = whoSb then 0xFFF else t.port) * 16)
    else s
  s.respond t stREJ_AUTH

/-- AUTH_PERSIST: the counter could not be persisted (R562). -/
def State.authPersistFail (s : State) (t : Txn) : State :=
  ((s.count Fd.SEC_AUTH_STAT_FAILS Fd.SEC_AUTH_STAT_FAIL_OVF 1).raise 237 1 (b2n (s.stopped 4))).respond t stREJ_AUTH

/-- The key AUTH is verified under (R560); none: every AUTH fails its MAC check. -/
def State.authKey (s : State) : Option Nat :=
  match s.sec.mkey with
  | some k => some k
  | none => if s.lifecycle ≤ 1 then some 0 else none

/-- The counter of an AUTH (R288). -/
def authCounter (t : Txn) : Nat := leNat (t.payload.take 8)

/-- The MAC matches (R289). -/
def State.macOk (s : State) (t : Txn) : Bool :=
  match s.authKey with
  | none => false
  | some k =>
    let text := leBytes 16 (headWord opAUTH t.head) ++ t.payload.take 16 ++ (t.payload.drop 32).take 32
    Config.hmacSm3 (leBytes 32 k) text % 2 ^ 128 == leNat ((t.payload.drop 16).take 16)

/-- The counter is consumed and the wrapped MGMT_WR runs (R290, R561). -/
def State.authRun (s : State) (t : Txn) : State :=
  let c := authCounter t
  { s with sec := { s.sec with last := c } }.mgmtWrite t (wrapped t.payload).2 (t.payload.drop 48) c

/-- Step 4 of R270 for AUTH. A counter at or above P + 65,536 is persisted first (R562). -/
def State.authCheck (s : State) (t : Txn) : State :=
  let w := wrapped t.payload
  let c := authCounter t
  let n := w.2.lenArg % 8
  if w.1 ≠ opMGMT_WR ∨ n = 0 ∨ 4 < n ∨ w.2.addr % 4 ≠ 0 then s.authFail t 1
  else if !s.macOk t then s.authFail t 2
  else if !(s.sec.last < c ∧ c ≤ s.sec.last + 2 ^ 32) then s.authFail t 3
  else if c < s.sec.p + 65536 then s.authRun t
  else if s.stopped 4 then s.authPersistFail t
  else
    let s := s.setPersist 0 (leBytes 8 c)
    { s with nvm := { s.nvm with stored := none } }.setTxn { t with stage := .heldPersist }

/-- AUTH requests that waited are checked in their order until one waits again (R562). -/
def State.authNext (s : State) : List Txn → State
  | [] => s
  | t :: rest =>
    let s := s.authCheck t
    if (s.txn t.id).isSome then s else s.authNext rest

/-- AUTH requests waiting for the persist write, oldest first. -/
def State.authWaiting (s : State) : List Txn := s.req.txns.filter fun (t : Txn) => t.stage == .heldPersist

/-! ### Execution -/

/-- A management request that nothing holds runs from step 4. -/
def State.mgmtExec (s : State) (t : Txn) : State :=
  if s.seq.mcRestart then s.respond t stRETRY
  else if t.op = opMGMT_RD then s.mgmtRead t
  else if t.op = opMGMT_WR then
    (if (mgmtAddrs t.head).any governed then s.respond t stREJ_AUTH else s.mgmtWrite t t.head t.payload 0)
  else if s.authWaiting.isEmpty then s.authCheck t
  else s.setTxn { t with stage := .heldPersist }

/-- Management requests left ready by the end of a hold run in the register file's order: ports ascending, then the
sideband, and each source's own in decode order (R24, R291). -/
def State.runReady (s : State) : State :=
  let ready := s.req.txns.filter fun (t : Txn) => isMgmt t.op && t.stage == .running
  ((List.range 16).flatMap fun p => ready.filter fun (t : Txn) => t.port == p).foldl
    (fun (s : State) (t : Txn) => s.mgmtExec { t with stage := .running }) s

/-- A management request reaches its port or the sideband (R270 steps 1 to 3); its slots leave the port's receive
buffer (R237). -/
def State.mgmtRequest (s : State) (port op : Nat) (h : ReqHead) (payload : List Byte) : State :=
  let s := if port < 12 then s.freeSlots port 3 (1 + reqSlots op h) else s
  if port < 12 ∧ 2048 ≤ s.outstanding port then s.refuse port op h stRETRY 0 0 .limit
  else if malformed op h then s.refuse port op h stABORTED 4 0
  else match s.mgmtMode port op h payload with
    | some st => s.refuse port op h st 0 0
    | none =>
      let t : Txn := { id := s.req.nextId, port, op, head := h, payload, stage := .running, label := 254 }
      (({ s with req := { s.req with txns := s.req.txns ++ [t], nextId := s.req.nextId + 1 } }).checkReq t.id).runReady

/-! ### The sideband (R292, R637) -/

/-- Samovar answers the sideband while VDD_CORE is off (R637). -/
def State.samovar (s : State) (op : Nat) (h : ReqHead) (payload : List Byte) : State :=
  let as := mgmtAddrs h
  let r : Resp := { port := whoSb, op, reqId := h.reqId, tag := h.tag, status := stRETRY }
  if malformed op h then s.refuse whoSb op h stABORTED 4 0
  else if op = opMGMT_RD ∧ as.all (fun a => a == Ra.GLB_MODE || a == Ra.GLB_ID || a / 0x10000 == 2) then
    let x := s.readRegs as
    x.1.sendResp { r with status := stOK, data := x.2 ++ List.replicate (16 - x.2.length) 0 } 0
  else if op = opMGMT_WR ∧ as.all (fun a => a == Ra.PWR_WAKE_CMD || a == Ra.PWR_WAKE_EN) then
    let x := s.writeRegs whoSb as payload
    x.1.sendResp { r with status := stOK, rflags := 2 * b2n x.2.ignored } 0
  else s.sendResp r 0

/-- The sideband's slot. -/
def State.setSb (s : State) (sb : SbSlot) : State := { s with req := { s.req with sb } }

/-- A whole request message over the sideband. -/
def State.sideband (s : State) (bytes : List Byte) : State :=
  let (op, h) := parseHead (leNat (bytes.take 16))
  let payload := bytes.drop 16
  let s := s.setSb .forming
  if !isMgmt op ∨ payload.length ≠ 16 * reqSlots op h then s.refuse whoSb op h stABORTED 4 0
  else if s.coreOff then s.samovar op h payload
  else s.mgmtRequest whoSb op h payload

/-! ### Commands -/

/-- MGMT_RD (R286). -/
def execMgmtRd (port : Nat) (head : ReqHead) (s : State) : Host.Outcome State Fault Refusal :=
  s.act (if 12 ≤ port ∨ s.deaf ∨ s.portGated port then s else s.mgmtRequest port opMGMT_RD head [])

/-- MGMT_WR (R287). -/
def execMgmtWr (port : Nat) (head : ReqHead) (data : List Byte) (s : State) : Host.Outcome State Fault Refusal :=
  s.act (if 12 ≤ port ∨ s.deaf ∨ s.portGated port then s else s.mgmtRequest port opMGMT_WR head data)

/-- AUTH (R288, R290). -/
def execAuthReq (port : Nat) (head : ReqHead) (data : List Byte) (s : State) : Host.Outcome State Fault Refusal :=
  s.act (if 12 ≤ port ∨ s.deaf ∨ s.portGated port then s else s.mgmtRequest port opAUTH head data)

/-- AUTH_PERSIST_WRITE (R562): the persist record of the waiting counter has been written, or has failed. -/
def execAuthPersistWrite (s : State) : Host.Outcome State Fault Refusal :=
  s.act (match s.authWaiting, s.nvm.stored with
  | t :: rest, some (p, ok) =>
    if p ≠ authCounter t then s
    else
      let s := { s with nvm := { s.nvm with stored := none } }
      (if ok then s.authRun t
      else
        let s := s.authPersistFail t
        { s with nvm := { s.nvm with persist := leBytes 8 s.sec.p ++ s.nvm.persist.drop 8 } }).authNext rest
  | _, _ => s)

/-- SIDEBAND_WRITE (R292): NACKed while a request is in hand; a write that stops within the head is discarded. -/
def execSidebandWrite (bytes : List Byte) (s : State) : Host.Outcome State Fault Refusal :=
  s.act (if s.req.sb = .free ∧ 16 ≤ bytes.length then s.sideband bytes else s)

/-- SIDEBAND_READ (R292): the formed response is fetched, or its rest discarded; NACKed while none is formed. -/
def execSidebandRead (s : State) : Host.Outcome State Fault Refusal :=
  s.act (match s.req.sb with
  | .formed _ => s.setSb .free
  | _ => s)

/-- FENCE_COMPLETE (R283): the FENCE's covered requests have completed; those held behind it go on. -/
def execFenceComplete (txn : Nat) (s : State) : Host.Outcome State Fault Refusal :=
  s.act (match s.txn txn with
    | some t =>
      if t.op = opFENCE ∧ t.stage = .fence ∧
          !(s.req.txns.any fun x => decide (x.id < t.id) && fenceCovers t x) then
        ((s.respond t stOK).releaseStage .heldFence).runReady
      else s
    | none => s)

/-- ORDERED_START (R266): the requests before it have completed; where it is a FENCE that ends at once, what it held goes on
(R283). -/
def execOrderedStart (txn : Nat) (s : State) : Host.Outcome State Fault Refusal :=
  s.act (match s.txn txn with
    | some t => if t.stage = .heldOrdered ∧ !s.orderWaits t then
        (((s.checkReq txn).releaseBehind).releaseStage .heldFence).runReady else s
    | none => s)

end Sys2Proof.Machine
end

