-- ==== Sys2Proof/Machine/Flit.lean ====
section
/-! DEFINITION. Flits: the header and CRC (R224–R230), link keys and the counter mode (R251, R252, R556), messages as
slots (R268, R577, R682), the INIT flit and the end of the INIT exchange (R244–R247). -/

namespace Sys2Proof.Machine

def fIDLE := 0
def fDATA := 1
def fINIT := 2
def fNAK := 3
def fHOLD := 4
def fTAG := 5

/-! ### The flit's bytes (R224, R225, R229) -/

/-- SLOTS (R225). -/
def codeBits (codes : List Nat) : Nat :=
  (List.range 7).foldl (fun x k => x + nth 0 codes k % 8 * 2 ^ (28 + 3 * k)) 0

/-- The header word (R225). -/
def flitHeader (f : Flit) : Nat :=
  f.ty % 16 + f.seq % 4096 * 2 ^ 4 + f.ack % 4096 * 2 ^ 16 + codeBits f.codes + f.crVc % 4 * 2 ^ 49 +
    f.crCnt % 256 * 2 ^ 51

/-- Bytes 0 to 119. -/
def flitFront (f : Flit) : List Byte :=
  leBytes 8 (flitHeader f) ++ (List.range 7).flatMap fun k => leBytes 16 (nth 0 f.slots k)

/-- The CRC of bytes 0 to 123 (R229). -/
def flitCrc (f : Flit) : Nat := crc32 (flitFront f ++ leBytes 4 f.enc)

/-- The flit with its CRC. -/
def flitSeal (f : Flit) : Flit := { f with crc := flitCrc f }

/-- The CRC passes. -/
def flitCrcOk (f : Flit) : Bool := f.crc == flitCrc f

/-- The flit is not bad but for its SEQ (R226, R227, R232). -/
def flitGood (f : Flit) : Bool :=
  flitCrcOk f && !f.flagged && decide (f.ty ≤ 5) && (List.range 7).all fun k => !(nth 0 f.codes k == 2 || nth 0 f.codes k == 3)

/-- DATA and TAG flits take sequence numbers (R231). -/
def flitSequenced (f : Flit) : Bool := f.ty == fDATA || f.ty == fTAG

/-! ### Link keys (R251, R556) -/

/-- Direction code of a transmitter or receiver of port n (R251). Without a role the part counts as
SECONDARY. -/
def State.dirCode (s : State) (n : Nat) (tx : Bool) : Nat :=
  if n < 12 then b2n tx else if (s.rd Fd.PAIR_STAT_ROLE == 1) == tx then 2 else 3

/-- The session value of a port. -/
def State.sess (s : State) (n : Nat) : Nat :=
  if n < 12 then (s.reg (Ra.SEC_LSESS_LO n)).toNat + (s.reg (Ra.SEC_LSESS_HI n)).toNat * 2 ^ 32
  else s.rd Fd.SEC_LSESSP_LO_SESS + s.rd Fd.SEC_LSESSP_HI_SESS * 2 ^ 32

/-- LK of a port; none with its slot EMPTY. -/
def State.lk (s : State) (n : Nat) : Option Nat := s.slotKey (s.rd (Fd.SEC_LINK_SLOT n))

/-- Labels "AMYLE", "AMYLM" and "AMYLS". -/
def linkLabel (c : Nat) : List Nat := [0x41, 0x4D, 0x59, 0x4C, c]

/-- Encryption (0x45) or MAC (0x4D) key of a direction in epoch e. -/
def State.linkKey (s : State) (n : Nat) (kind : Nat) (tx : Bool) (e : Nat) : Nat :=
  kdf 16 ((s.lk n).getD 0) (linkLabel kind)
    ([BitVec.ofNat 8 n, BitVec.ofNat 8 (s.dirCode n tx)] ++ leBytes 8 (s.sess n) ++ leBytes 4 e)

/-- The salt: 8 bytes. -/
def State.linkSalt (s : State) (n : Nat) : Nat :=
  kdf 16 ((s.lk n).getD 0) (linkLabel 0x53) ([BitVec.ofNat 8 n] ++ leBytes 8 (s.sess n)) % 2 ^ 64

/-- The counter block of slot k (R251). -/
def State.ctrBlock (s : State) (n : Nat) (tx : Bool) (fcnt k kph : Nat) : Nat :=
  fcnt % 2 ^ 32 + k * 2 ^ 32 + s.dirCode n tx * 2 ^ 40 + n * 2 ^ 48 + kph * 2 ^ 56 + s.linkSalt n * 2 ^ 64

/-- The slot area in counter mode, either way (R251). -/
def State.ctrSlots (s : State) (n : Nat) (tx : Bool) (e fcnt : Nat) (slots : List Nat) : List Nat :=
  let key := s.linkKey n 0x45 tx e
  (List.range 7).map fun k => Nat.xor (nth 0 slots k) (Config.sm4Enc key (s.ctrBlock n tx fcnt k (e % 2)))

/-- The tag of a run (R252): bytes 0 to 119 of its DATA flits with ACK and the credit report zero, then bytes 0 to 5 of
the TAG flit's slot 1. -/
def State.runTag (s : State) (n : Nat) (tx : Bool) (e : Nat) (run : List Flit) (slot1 : Nat) : Nat :=
  Config.cmacSm4 (s.linkKey n 0x4D tx e)
    ((run.flatMap fun (f : Flit) => flitFront { f with ack := 0, crVc := 0, crCnt := 0 }) ++ leBytes 6 slot1) % 2 ^ 128

/-- Encryption is in force on the port (R250). -/
def State.encOn (s : State) (n : Nat) : Bool := s.on (Fd.PORT_LINK_STAT_ENC_ON n)

/-! ### Messages as slots -/

/-- A message's slot codes and slots: a head on a VC, then data slots. -/
def slotsOf (vc head : Nat) (data : List Nat) : List (Nat × Nat) := (4 + vc, head) :: data.map fun d => (1, d)

/-- Bytes as data slots. -/
def dataSlots : Nat → List Byte → List Nat
  | 0, _ => []
  | k + 1, bs => leNat (bs.take 16) :: dataSlots k (bs.drop 16)

/-- The response head (R268). -/
def Resp.head (r : Resp) : Nat :=
  r.op % 256 + r.reqId % 4096 * 2 ^ 8 + r.tag % 4096 * 2 ^ 20 + r.status % 16 * 2 ^ 32 + r.rflags % 256 * 2 ^ 40 +
    ceilDiv r.data.length 16 % 256 * 2 ^ 48 + r.pmask % 16 * 2 ^ 56 + r.result % 2 ^ 64 * 2 ^ 64

/-- The virtual channel of a response (R263). -/
def Resp.vc (r : Resp) : Nat := if isMgmt r.op then 3 else 1

def Resp.slots (r : Resp) : List (Nat × Nat) := slotsOf r.vc r.head (dataSlots (ceilDiv r.data.length 16) r.data)

/-- An event message (R682). -/
def Msg.slots (m : Msg) : List (Nat × Nat) := slotsOf 2 m.head [m.slot]

/-- The virtual channel of a pair-link code (R577); none for any other code. -/
def pairVc (code : Nat) : Option Nat :=
  if code = 0x40 ∨ code = 0x41 then some 0
  else if code = 0x42 ∨ code = 0x43 then some 1
  else if 0x44 ≤ code ∧ code ≤ 0x47 then some 2
  else if 0x48 ≤ code ∧ code ≤ 0x4C then some 3
  else none

/-- Head fields of HB and HELLO. -/
def hbHead (code role mode : Nat) (single : Bool) (current : Nat) : Nat :=
  code + role % 4 * 2 ^ 24 + mode % 16 * 2 ^ 28 + b2n single * 2 ^ 32 + current % 2 ^ 64 * 2 ^ 64

/-- A pair-link message: its VC and slots (R577). -/
def PairMsg.slots (m : PairMsg) : Nat × List (Nat × Nat) :=
  match m with
  | .mwr x line keyed poison copy urg label entry data =>
    (0, slotsOf 0 (0x40 + x % 65536 * 2 ^ 8 + b2n keyed * 2 ^ 24 + b2n poison * 2 ^ 25 + b2n copy * 2 ^ 26 +
      urg % 4 * 2 ^ 32 + label % 256 * 2 ^ 40 + 64 * line % 2 ^ 40 * 2 ^ 64) (leNat (entry.take 9) :: dataSlots 4 data))
  | .mexec x op h payload =>
    (0, slotsOf 0 (0x41 + x % 65536 * 2 ^ 8) (headWord op h :: dataSlots (reqSlots op h) payload))
  | .mcmt x status => (1, slotsOf 1 (0x42 + x % 65536 * 2 ^ 8 + status % 16 * 2 ^ 24) [])
  | .mres x r => (1, slotsOf 1 (0x43 + x % 65536 * 2 ^ 8) (r.head :: dataSlots (ceilDiv r.data.length 16) r.data))
  | .cdelta c i p b =>
    (2, slotsOf 2 (0x44 + c % 64 * 2 ^ 24 + i % 2 ^ 29 * 2 ^ 32 + p % 65536 * 2 ^ 64 + b % 2 ^ 32 * 2 ^ 80) [])
  | .cset c i lost epoch pkts bytes =>
    (2, slotsOf 2 (0x45 + c % 64 * 2 ^ 24 + i % 2 ^ 29 * 2 ^ 32 + b2n lost * 2 ^ 61 + epoch % 2 ^ 32 * 2 ^ 96)
      [pkts % 2 ^ 64 + bytes % 2 ^ 64 * 2 ^ 64])
  | .cmark t => (2, slotsOf 2 (0x46 + t % 2 ^ 64 * 2 ^ 64) [])
  | .qckpt q st pool prot limit cells pkts bytes =>
    (2, slotsOf 2 (0x47 + q % 65536 * 2 ^ 24 + st % 4 * 2 ^ 40 + pool % 16 * 2 ^ 42 + b2n prot * 2 ^ 46 +
      limit % 2 ^ 28 * 2 ^ 64) [cells % 2 ^ 32 + pkts % 2 ^ 32 * 2 ^ 32 + bytes % 2 ^ 64 * 2 ^ 64])
  | .hb r m sg c => (3, slotsOf 3 (hbHead 0x48 r m sg c) [])
  | .hello r m sg c => (3, slotsOf 3 (hbHead 0x49 r m sg c) [])
  | .leave m => (3, slotsOf 3 (0x4A + m % 16 * 2 ^ 24) [])
  | .role r ack => (3, slotsOf 3 (0x4B + r % 4 * 2 ^ 24 + b2n ack * 2 ^ 26) [])
  | .rsync c r => (3, slotsOf 3 (0x4C + c % 4 * 2 ^ 24 + r % 64 * 2 ^ 32) [])

/-- The response that a head and its data spell (R268). -/
def respOf (w : Nat) (data : List Byte) : Resp :=
  { port := 12, op := bits w 7 0, reqId := bits w 19 8, tag := bits w 31 20, status := bits w 35 32,
    rflags := bits w 47 40, pmask := bits w 59 56, result := bits w 127 64, data }

/-- The pair-link message that a head and data slots spell (R577). RSYNC's all done, code 4, stands as 0 in its two-bit
field (DEDUCED, assumption 50). -/
def pairOf (h : Nat) (data : List Nat) : Option PairMsg :=
  let x := bits h 23 8
  let d (k : Nat) := nth 0 data k
  let rest := (data.drop 1).flatMap (leBytes 16)
  let c := bits h 29 24
  let i := bits h 60 32
  match bits h 7 0 with
  | 0x40 => some (.mwr x (bits h 103 64 / 64) (bit h 24) (bit h 25) (bit h 26) (bits h 33 32) (bits h 47 40)
      (if bit h 24 then leBytes 9 (d 0) else []) rest)
  | 0x41 => some (.mexec x (parseHead (d 0)).1 (parseHead (d 0)).2 rest)
  | 0x42 => some (.mcmt x (bits h 27 24))
  | 0x43 => some (.mres x (respOf (d 0) rest))
  | 0x44 => some (.cdelta c i (bits h 79 64) (bits h 111 80))
  | 0x45 => some (.cset c i (bit h 61) (bits h 127 96) (bits (d 0) 63 0) (bits (d 0) 127 64))
  | 0x46 => some (.cmark (bits h 127 64))
  | 0x47 => some (.qckpt (bits h 39 24) (bits h 41 40) (bits h 45 42) (bit h 46) (bits h 91 64) (bits (d 0) 31 0)
      (bits (d 0) 63 32) (bits (d 0) 127 64))
  | 0x48 => some (.hb (bits h 25 24) (bits h 31 28) (bit h 32) (bits h 127 64))
  | 0x49 => some (.hello (bits h 25 24) (bits h 31 28) (bit h 32) (bits h 127 64))
  | 0x4A => some (.leave (bits h 27 24))
  | 0x4B => some (.role (bits h 25 24) (bit h 26))
  | 0x4C => some (.rsync (if bits h 25 24 = 0 then 4 else bits h 25 24) (bits h 37 32))
  | _ => none

/-- Data slots after a pair-link head, as far as the head tells; MEXEC and MRES carry a second head that tells the rest. -/
def pairSlots (code : Nat) : Nat :=
  if code = 0x40 then 5 else if code = 0x41 ∨ code = 0x43 ∨ code = 0x45 ∨ code = 0x47 then 1 else 0

/-- Data slots after the second head of an MEXEC or MRES. -/
def pairMore (code w : Nat) : Nat :=
  if code = 0x41 then reqSlots (parseHead w).1 (parseHead w).2 else if code = 0x43 then bits w 55 48 else 0

/-! ### Flits of this side -/

/-- The running count of slots freed on a VC (R237): the slots taken out of the buffer, counted no further than 127
past what has been reported, so that the unreported increase never exceeds 127. -/
def Link.running (l : Link) (v : Nat) : Nat :=
  min (Tab.get (fun _ => (0 : Nat)) l.freed v) (Tab.get (fun _ => (0 : Nat)) l.reported v + 127)

/-- The next credit report (R237): the changed VC that follows the one reported last, and its running count. -/
def Link.report (l : Link) : Nat × Nat :=
  let last := bits (l.txHdrs.headD 0) 50 49
  let r (v : Nat) := Tab.get (fun _ => (0 : Nat)) l.reported v
  let v := (((List.range 4).map fun i => (last + 1 + i) % 4).find? fun v => decide (r v < l.running v)).getD last
  (v, l.running v)

/-- A flit of this side leaves: ACK, credit report and CRC are put in, and the lanes take it into the frame (R223, R231,
R237, R724). -/
def State.sendFlit (s : State) (n : Nat) (f : Flit) : State :=
  let l := s.link n
  let (v, c) := l.report
  let f := flitSeal { f with ack := s.rd (Fd.PORT_LINK_SEQ_RX_LAST n), crVc := v, crCnt := c % 256 }
  s.setLink n { l.place n (s.rd (Fd.PORT_LANE_STAT_STATE n)) f with
    reported := Tab.put (fun _ => 0) l.reported v c
    txHdrs := (flitHeader f :: l.txHdrs).take 16
    holdN := if f.ty = fHOLD then 0 else l.holdN + 1
    sent := some f }

/-- A flit with the next SEQ and nothing in it. -/
def State.blank (s : State) (n ty : Nat) : Flit :=
  { ty, seq := s.rd (Fd.PORT_LINK_SEQ_TX_NEXT n), ack := 0, crVc := 0, crCnt := 0, codes := List.replicate 7 0,
    slots := List.replicate 7 0, enc := 0, crc := 0 }

/-- RESUME_OK (R246). -/
def State.resumeOk (s : State) (n : Nat) : Bool :=
  let l := s.link n
  !s.on (Fd.PORT_LINK_STAT_RESET_PEND n) && match l.farInit with
    | none => false
    | some f =>
      let a := (flitByte f 0 4 + 256 * flitByte f 0 5) % 4096
      a == l.covered || l.replay.any fun (x : Flit) => x.seq == a

/-- Device receive credits of a VC (R236). -/
def rxCredits (n vc : Nat) : Nat :=
  if vc = 0 then 3584 else if vc = 3 then 448 else if n < 12 then 0 else if vc = 1 then 1024 else 256

/-- The INIT flit (R244). -/
def State.initFlit (s : State) (n : Nat) : Flit :=
  let l := s.link n
  let rec_ := s.lstate n == lRECOVER
  let flags := b2n l.seen + 2 * s.rd (Fd.PORT_LINK_CFG_ENC n) + 4 * b2n rec_ + 8 * b2n (s.resumeOk n)
  let slot0 := 1 + (if n < 12 then 2 else 3) * 2 ^ 8 + flags * 2 ^ 16 + s.rd (Fd.PORT_LINK_STAT_GEN n) * 2 ^ 24 +
    s.rd (Fd.PORT_LINK_SEQ_RX_LAST n) * 2 ^ 32 + n * 2 ^ 48 + rxCredits n 0 * 2 ^ 64 + rxCredits n 1 * 2 ^ 80 +
    rxCredits n 2 * 2 ^ 96 + rxCredits n 3 * 2 ^ 112
  let slot1 := s.rd (Fd.PORT_ENC_FCNT_TX_FCNT n) + s.rd (Fd.PORT_LINK_STAT_KPH_TX n) * 2 ^ 32
  { s.blank n fINIT with slots := [slot0, slot1, 0, 0, 0, 0, 0] }

/-! ### The end of the INIT exchange (R246, R247) -/

/-- Both INITs allow a resume. -/
def State.resumes (s : State) (n : Nat) (far : Flit) : Bool :=
  s.lstate n == lRECOVER && bit (flitByte far 0 2) 2 && bit (flitByte far 0 2) 3 && s.resumeOk n &&
    flitByte far 0 3 == s.rd (Fd.PORT_LINK_STAT_GEN n)

/-- The transmitter replays from the oldest unacknowledged flit; each replay counts (R234, R261). -/
def State.replayFrom (s : State) (n : Nat) : State :=
  let l := s.link n
  match l.replay with
  | [] => s
  | f :: _ => (s.setLink n { l with resend := some f.seq, rstart := some f.seq }).count
      (Fd.PORT_LINK_CNT_REPLAYS n) (Fd.PORT_LINK_CNT_REPLAY_OVF n) 1

/-- A completed exchange resumes or resets the link. -/
def State.exchangeDone (s : State) (n : Nat) (far : Flit) : State :=
  let fresh := s.lstate n == lINIT
  let res := s.resumes n far
  let s := s.wr (Fd.PORT_LINK_STAT_ENC_ON n) (s.rd (Fd.PORT_LINK_CFG_ENC n))
  let s := if res then
      let a := (flitByte far 0 4 + 256 * flitByte far 0 5) % 4096
      let l := (s.link n).cover a
      ((s.setLink n { l with rxRun := [], nak := false, nakDue := false }).replayFrom n).showUnack n
    else
      let s := s.linkReset n far
      if n = 12 then s.losePartner 3 0 else s
  let s := s.setLink n (s.link n).freshInit
  let s := (s.setLstate n (s.linkMode n)).raise (linkSrc n 2) 8
    ((if res then 1 else if fresh then 0 else 2) + s.rd (Fd.PORT_LINK_STAT_GEN n) * 256)
  s.runReady

/-- The exchange is complete: an INIT with SEEN received and one sent (R245). -/
def State.tryExchange (s : State) (n : Nat) : State :=
  let l := s.link n
  match l.farInit with
  | some f => if l.sentSeen ∧ bit (flitByte f 0 2) 0 then s.exchangeDone n f else s
  | none => s

end Sys2Proof.Machine
end

