-- ==== Sys2Proof/Machine/FlitOut.lean ====
section
/-! DEFINITION. The transmitter of a port: which message goes next (R237, R238, R685), DATA and TAG flits (R231, R251,
R252, R254), replay (R234), NAK, HOLD, INIT and IDLE flits (R233, R244, R245, R248, R249). -/

namespace Sys2Proof.Machine

/-- A slot to send: code, content, and the response or event it ends. -/
abbrev TxSlot := Nat × Nat × Option Resp × Option Msg

/-- The slots of a message, the last one marked with what it ends. -/
def marked (r : Option Resp) (m : Option Msg) : List (Nat × Nat) → List TxSlot
  | [] => []
  | [e] => [(e.1, e.2, r, m)]
  | e :: es => (e.1, e.2, none, none) :: marked r m es

/-! ### The next message -/

/-- The next response of a port on VC 3 (`mgmt`) or VC 1: ABORTED ones of a reset first (R247), then in completion
order (R241). -/
def State.nextResp (s : State) (n : Nat) (mgmt : Bool) : Option Resp :=
  match (s.link n).aborted.find? fun (r : Resp) => isMgmt r.op == mgmt with
  | some r => some r
  | none => s.req.out.find? fun (r : Resp) => r.port == n && isMgmt r.op == mgmt

/-- The response leaves its list. -/
def State.dropResp (s : State) (n : Nat) (mgmt : Bool) : State :=
  let l := s.link n
  if l.aborted.any fun (r : Resp) => isMgmt r.op == mgmt then
    s.setLink n { l with aborted := l.aborted.eraseP fun (r : Resp) => isMgmt r.op == mgmt }
  else { s with req := { s.req with out := s.req.out.eraseP fun (r : Resp) => r.port == n && isMgmt r.op == mgmt } }

/-- The next pair-link message of a VC. -/
def State.nextPair (s : State) (vc : Nat) : Option PairMsg := s.pair.out.find? fun (m : PairMsg) => m.slots.1 == vc

/-- A message is begun: it takes its credits, its head counts under R238, its slots are to be sent. -/
def State.begin (s : State) (n vc : Nat) (slots : List TxSlot) : State :=
  let s := s.wr (credFld n vc) (s.rd (credFld n vc) - slots.length)
  let l := s.link n
  s.setLink n { l with txSlots := slots, heads := (decide (2 ≤ vc) :: l.heads).take 7 }

/-- Credits for `k` slots are held (R237). -/
def State.credit (s : State) (n vc k : Nat) : Bool := decide (k ≤ s.rd (credFld n vc))

/-- A management or event head may be sent: no response waits, or fewer than 2 of the last 7 heads were such (R238). -/
def State.headFree (s : State) (n : Nat) (waits : Bool) : Bool :=
  !waits || decide (((s.link n).heads.filter id).length < 2)

/-- The VC a port's next message goes on, by the order of R238; none where nothing can go. -/
def State.nextVc (s : State) (n : Nat) : Option Nat :=
  if n < 12 then
    let free := s.headFree n (s.nextResp n false).isSome
    let ok (mgmt : Bool) (vc : Nat) : Bool := match s.nextResp n mgmt with
      | some r => s.credit n vc r.slots.length
      | none => false
    if free ∧ ok true 3 then some 3
    else if free ∧ !(s.portQ n).isEmpty ∧ s.credit n 2 2 then some 2
    else if ok false 1 then some 1
    else none
  else
    let free := s.headFree n (s.nextPair 1).isSome
    let ok (vc : Nat) : Bool := match s.nextPair vc with
      | some m => s.credit n vc m.slots.2.length
      | none => false
    if free ∧ ok 3 then some 3 else if free ∧ ok 2 then some 2 else if ok 1 then some 1
    else if ok 0 then some 0 else none

/-- An ABORTED of R240 or R247 is counted when it goes out (R262). -/
def State.countAbort (s : State) (n : Nat) (r : Resp) : State :=
  if r.kind = .aborted then s.count (Fd.PORT_ABORTS_COUNT n) (Fd.PORT_ABORTS_OVF n) 1 else s

/-- A pair-link message that carries such a response. -/
def State.countPair (s : State) (m : PairMsg) : State :=
  match m with
  | .mres _ r => s.countAbort 12 r
  | _ => s

/-- The next message of a port is begun; a response or event leaves its queue. -/
def State.takeMsg (s : State) (n : Nat) : State :=
  match s.nextVc n with
  | none => s
  | some vc =>
    if 12 ≤ n then (match s.nextPair vc with
      | some m => let s := s.countPair m
        { s with pair := { s.pair with
          out := s.pair.out.eraseP fun (x : PairMsg) => x.slots.1 == vc } }.begin n vc (marked none none m.slots.2)
      | none => s)
    else if vc = 2 then (match s.portQ n with
      | m :: q => { s with flt := { s.flt with portQ := Tab.put (fun _ => []) s.flt.portQ n q } }.begin n 2
          (marked none (some m) m.slots)
      | [] => s)
    else match s.nextResp n (vc == 3) with
      | some r => ((s.countAbort n r).dropResp n (vc == 3)).begin n vc (marked (some r) none r.slots)
      | none => s

/-- Up to `k` slots for a DATA flit. -/
def State.fill : Nat → State → Nat → State × List TxSlot
  | 0, s, _ => (s, [])
  | k + 1, s, n =>
    let s := if (s.link n).txSlots.isEmpty then s.takeMsg n else s
    let l := s.link n
    match l.txSlots with
    | [] => (s, [])
    | e :: r =>
      let x := State.fill k (s.setLink n { l with txSlots := r }) n
      (x.1, e :: x.2)

/-! ### Sequenced flits -/

/-- A new sequenced flit takes the next SEQ and enters the replay buffer (R231, R234). -/
def State.sendSeq (s : State) (n : Nat) (f : Flit) : State :=
  let l := s.link n
  let s := s.setLink n { l with replay := l.replay ++ [f] }
  (((s.wr (Fd.PORT_LINK_SEQ_TX_NEXT n) ((f.seq + 1) % 4096)).showUnack n).sendFlit n f)

/-- The first run after FCNT 0xFFFF_FFFF is under the next phase's key, FCNT from 0 (R254). -/
def State.nextPhase (s : State) (n : Nat) : State :=
  let l := s.link n
  if l.wrap ∧ l.txRun.isEmpty then
    let e := (s.rd (Fd.SEC_LEP_TX_EPOCH n) + 1) % 2 ^ 32
    ((s.wr (Fd.SEC_LEP_TX_EPOCH n) e).wr (Fd.PORT_LINK_STAT_KPH_TX n) (e % 2)).setLink n
      { l with wrap := false, keyAsked := false, keyReady := false, stall := false }
  else s

/-- A DATA flit is encrypted and joins the open run (R230, R251, R254). -/
def State.encrypt (s : State) (n : Nat) (f : Flit) : State × Flit :=
  let s := s.nextPhase n
  let e := s.rd (Fd.SEC_LEP_TX_EPOCH n)
  let c := s.rd (Fd.PORT_ENC_FCNT_TX_FCNT n)
  let f := { f with slots := s.ctrSlots n true e c f.slots, enc := 2 ^ 31 + e % 2 * 2 ^ 30 + c % 2 ^ 24 }
  let l := s.link n
  let s := s.setLink n { l with
    txRun := l.txRun ++ [f]
    wrap := decide (c = 0xFFFFFFFF)
    keyAsked := l.keyAsked || decide (0xF0000000 ≤ c + 1) }
  (s.wr (Fd.PORT_ENC_FCNT_TX_FCNT n) ((c + 1) % 2 ^ 32), f)

/-- A DATA flit of slots. -/
def State.sendData (s : State) (n : Nat) (es : List TxSlot) : State :=
  let pad (l : List Nat) : List Nat := (l ++ List.replicate 7 0).take 7
  let f := { s.blank n fDATA with codes := pad (es.map (·.1)), slots := pad (es.map (·.2.1)) }
  let (s, f) := if s.encOn n then s.encrypt n f else (s, f)
  let l := s.link n
  let s := s.setLink n { l with
    unresp := l.unresp ++ es.filterMap fun (e : TxSlot) => e.2.2.1.map fun r => (f.seq, r)
    unev := l.unev ++ es.filterMap fun (e : TxSlot) => e.2.2.2.map fun m => (f.seq, m) }
  s.sendSeq n f

/-- The TAG flit that closes the open run (R252). Its FCNT bits are a free value: a TAG flit has no FCNT
(assumption 3). -/
def State.sendTag (s : State) (n : Nat) : State :=
  let l := s.link n
  let k := l.txRun.length
  let e := s.rd (Fd.SEC_LEP_TX_EPOCH n)
  let first := (s.rd (Fd.PORT_ENC_FCNT_TX_FCNT n) + 2 ^ 32 - k) % 2 ^ 32
  let slot1 := first + k * 2 ^ 32 + e % 2 * 2 ^ 40
  let f := { s.blank n fTAG with
    slots := [s.runTag n true e l.txRun slot1, slot1, 0, 0, 0, 0, 0], enc := 2 ^ 31 + e % 2 * 2 ^ 30 + s.free % 2 ^ 24 }
  (s.drawn.setLink n { l with txRun := [] }).sendSeq n f

/-- The next flit of the replay in progress, as first sent but for ACK and the credit report (R234). -/
def State.sendReplay (s : State) (n seq : Nat) : State :=
  let l := s.link n
  let rest := l.replay.dropWhile fun (f : Flit) => f.seq != seq
  let s := s.setLink n { l with resend := (rest.drop 1).head?.map (·.seq) }
  match rest with
  | f :: _ => s.sendFlit n f
  | [] => s

/-! ### Which flit goes next -/

/-- The open run must close: 32 flits, or the last FCNT of the phase (R252, R254). -/
def Link.runFull (l : Link) : Bool := !l.txRun.isEmpty && (decide (32 ≤ l.txRun.length) || l.wrap)

/-- The next phase's key is missing (R254). -/
def State.keyless (s : State) (n : Nat) : Bool :=
  let l := s.link n
  s.encOn n && l.wrap && l.txRun.isEmpty && !l.keyReady

/-- Room for a new DATA flit, with its run's TAG flit, below 2,047 unacknowledged (R234). -/
def State.canData (s : State) (n : Nat) : Bool :=
  decide ((s.link n).replay.length + b2n (s.encOn n) < 2047) && !s.keyless n

/-- REKEY_STALL, once per stall (R254, R257). -/
def State.rekeyStall (s : State) (n : Nat) : State :=
  let l := s.link n
  if s.keyless n ∧ !l.stall then (s.setLink n { l with stall := true }).raise (linkSrc n 3) 0xF 0 else s

/-- A flit that is not DATA: the open run is closed first (R252). -/
def State.closing (s : State) (n : Nat) (go : State → State) : State :=
  if (s.link n).txRun.isEmpty then go s else s.sendTag n

/-- The HOLD flit (R248). -/
def State.sendHold (s : State) (n : Nat) : State :=
  s.sendFlit n { s.blank n fHOLD with slots := [s.mode, 0, 0, 0, 0, 0, 0] }

/-- The NAK flit (R233). -/
def State.sendNak (s : State) (n : Nat) : State :=
  (s.setLink n { s.link n with nakDue := false }).sendFlit n (s.blank n fNAK)

/-- A flit in ACTIVE or HOLD. -/
def State.sendActive (s : State) (n : Nat) : State :=
  let s := s.rekeyStall n
  let l := s.link n
  let idle (s : State) : State :=
    s.closing n fun s => if s.lstate n = lHOLD then s.sendHold n else s.sendFlit n (s.blank n fIDLE)
  if l.runFull then s.sendTag n
  else if l.nakDue then s.closing n fun s => s.sendNak n
  else if s.lstate n = lHOLD ∧ 60 ≤ l.holdN then s.closing n fun s => s.sendHold n
  else match l.resend with
    | some q => s.closing n fun s => s.sendReplay n q
    | none =>
      if s.canData n then
        let x := State.fill 7 s n
        if x.2.isEmpty then idle s else x.1.sendData n x.2
      else idle s

/-- A flit in INIT or RECOVER (R243, R245). -/
def State.sendInit (s : State) (n : Nat) : State :=
  if s.on (Fd.PORT_LANE_STAT_UP n) then
    let s := s.sendFlit n (s.initFlit n)
    let l := s.link n
    if l.seen then (s.setLink n { l with sentSeen := true }).tryExchange n else s
  else s.sendFlit n (s.blank n fIDLE)

/-- The pair port ends a standby of its own when it has a message (R194). -/
def State.pairReturns (s : State) (n : Nat) : State :=
  if n = 12 ∧ s.lstate n = lSTANDBY ∧ s.mode ≠ mSTANDBY ∧ !s.pair.out.isEmpty then
    (s.setLink n { s.link n with farStand := false }).portsFollow
  else s

/-- A port's next flit: none before its lanes send link frames (R191). -/
def State.transmit (s : State) (n : Nat) : State :=
  let s := s.pairReturns n
  let st := s.lstate n
  if s.rd (Fd.PORT_LANE_STAT_STATE n) < 2 then s
  else if st = lINIT ∨ st = lRECOVER then s.sendInit n
  else if st = lACTIVE ∨ st = lHOLD then s.sendActive n
  else if st = lSTANDBY then s.sendFlit n (s.blank n fIDLE)
  else s

/-- An event would go next on the port (R685). -/
def State.eventNext (s : State) (n : Nat) : Bool :=
  let l := s.link n
  (s.lstate n == lACTIVE || s.lstate n == lHOLD) && decide (2 ≤ s.rd (Fd.PORT_LANE_STAT_STATE n)) && !l.runFull && !l.nakDue && l.resend.isNone && s.canData n &&
    l.txSlots.isEmpty && !(s.lstate n == lHOLD && decide (60 ≤ l.holdN)) && s.nextVc n == some 2

/-! ### Commands -/

/-- FLIT_TRANSMIT (R231). -/
def execFlitTransmit (port : Nat) (s : State) : Host.Outcome State Fault Refusal :=
  s.act (if port < 13 then s.transmit port else s)

/-- EVENT_MESSAGE (R683, R685): the pair link carries none. -/
def execEventMessage (port : Nat) (s : State) : Host.Outcome State Fault Refusal :=
  s.act (if port < 12 ∧ s.eventNext port then s.sendActive port else s)

/-- REKEY_KEY_READY (R254, R557). -/
def execRekeyKeyReady (port : Nat) (s : State) : Host.Outcome State Fault Refusal :=
  s.act (if port < 13 ∧ (s.link port).keyAsked then s.setLink port { s.link port with keyReady := true } else s)

/-- NAK_RESEND (R233). -/
def execNakResend (port : Nat) (s : State) : Host.Outcome State Fault Refusal :=
  s.act (if port < 13 ∧ (s.link port).nak then s.setLink port { s.link port with nakDue := true } else s)

/-- REPLAY_TIMEOUT (R234): no ACK progress with flits unacknowledged. -/
def execReplayTimeout (port : Nat) (s : State) : Host.Outcome State Fault Refusal :=
  s.act (if port < 13 ∧ (s.lstate port = lACTIVE ∨ s.lstate port = lHOLD) ∧ !(s.link port).replay.isEmpty then
    s.replayFrom port
  else s)

/-- REPLAY_AGE_EXPIRY (R235): the oldest unacknowledged flit is 8 µs old. -/
def execReplayAgeExpiry (port : Nat) (s : State) : Host.Outcome State Fault Refusal :=
  s.act (if port < 13 ∧ !(s.link port).replay.isEmpty then s.enterRecover port 2 true else s)

end Sys2Proof.Machine
end

