-- ==== Sys2Proof/Machine/Frame.lean ====
section
/-! DEFINITION. What the transmitters of a port send, read off its state: LM0 to LM2 (R182–R184), payload (R190, R204,
R220–R223), the frame of each physical lane (R180, R181) and its symbols (R177); and how flits stand in codewords and in
the bodies of a frame, both ways (R220–R223). -/

namespace Sys2Proof.Machine

/-! ### The flit stream (R221, R223) -/

/-- The 1,024 bits of a flit, byte 0 first, bit 0 of a byte first (R223, R224). -/
def flitBits (f : Flit) : Nat := leNat (flitFront f ++ leBytes 4 f.enc ++ leBytes 4 f.crc)

/-- Data bits of a period of the stream: its flits in order. -/
def streamBits (flits : List Flit) : Nat := flits.foldr (fun f x => flitBits f + 2 ^ 1024 * x) 0

/-- The data bits of codeword c of the period. -/
def codewordData (flits : List Flit) (c : Nat) : Nat := streamBits flits / 2 ^ (5280 * c) % 2 ^ 5280

/-- Body i of the period: body i mod 85 of codeword i / 85. -/
def periodBody (flits : List Flit) (i : Nat) : Nat := cwBody (fecEncode (codewordData flits (i / 85))) (i % 85)

/-! ### The frame being transmitted -/

/-- The logical lane a physical lane transmits, or 15 in spare role. -/
def State.txRole (s : State) (n p : Nat) : Nat :=
  ((List.range (lanesOf n)).find? fun k => s.txPhys n k == p).getD 15

/-- STATE of the frames sent (R182, R211). -/
def State.txState (s : State) (n : Nat) : Nat := s.rd (Fd.PORT_LANE_STAT_STATE n) - 1

def State.lm0Out (s : State) (n p : Nat) : Nat :=
  lm0Body (s.txRole n p) (s.txState n) ((s.link n).scrOf (s.txRole n p))

/-- LM1: REQ_LANE under R199, SWAP_LANE and SWAP_FRAME under R200, each 0xF and 0xFFF where there is none (the chapter's
Example 1). -/
def State.lm1Out (s : State) (n : Nat) : Nat :=
  let l := s.link n
  lm1Body (l.reqLane.getD 15) ((l.txAnn.map (·.2)).getD 0xFFF) ((l.txAnn.map (·.1)).getD 15) l.frame

/-- LM2: what this side's receivers show. -/
def State.lm2Out (s : State) (n : Nat) : Nat :=
  lm2Body (s.on (Fd.PORT_LANE_STAT_UP n)) (s.on (Fd.PORT_LANE_STAT_SPARE_READY n)) (s.rd (Fd.PORT_LANE_FLAG_FLAG n))
    (s.rd (Fd.PORT_LANE_STAT_LOCK n))

/-- Pattern bits from bit `i` of the frame's pattern on, 64 of them, the first ones inverted as R206 asks. -/
def State.patternBody (s : State) (n p i : Nat) : Nat :=
  let l := s.link n
  let k := prbsKey 3 64 (prbsAdvance 3 (64 * i) (l.genReg 3 p))
  Nat.xor k (2 ^ min 64 (l.toInvert p - 64 * i) - 1)

/-- Position of the frame within the period: the pair link's second frame follows 4,080 bodies. -/
def Link.half (l : Link) (n : Nat) : Nat := if n = 12 ∧ 248 < l.txFlits.length then bodiesPerFrame 4 else 0

/-- The body at a payload position, before scrambling: the link layer's in link and standby state, PRBS31 in training
and on the spare-role lane. -/
def State.payloadBody (s : State) (n p pos : Nat) : Nat :=
  let k := s.txRole n p
  if s.txState n = 0 ∨ k = 15 then s.patternBody n p (pos - 4)
  else
    let l := s.link n
    periodBody l.txFlits.reverse (l.half n + bodyIndex (lanesOf n) k pos)

/-- The code group a physical lane sends at a position of its frame (R180, R181): the comma, LM0, and then scrambled
bodies, but PRBS31 as it is. -/
def State.groupOut (s : State) (n p pos : Nat) : Group :=
  let k := s.txRole n p
  let at' (b : Nat) : Nat := scrAdvance b ((s.link n).scrOf k)
  if pos = 0 then commaGroup
  else if pos = 1 then (hControl, s.lm0Out n p)
  else if pos = 2 then (hControl, scramble (at' 0) (s.lm1Out n))
  else if pos = 3 then (hControl, scramble (at' 64) (s.lm2Out n))
  else if s.txState n = 0 ∨ k = 15 then (hData, s.payloadBody n p pos)
  else (hData, scramble (at' (64 * (pos - 2))) (s.payloadBody n p pos))

/-- The bits a physical lane sends in its frame; in raw mode, the pattern's (R204). None while the lanes send
nothing (R195). -/
def State.bitsOut (s : State) (n p : Nat) : List Bool :=
  if s.on (Fd.PORT_LANE_TEST_TEST n) then
    (let pat := s.rd (Fd.PORT_PRBS_CTL_TX_PAT n p)
    if pat = 0 then []
    else if s.on (Fd.PORT_PRBS_CTL_RAW n p) then
      (List.range (66 * 1024)).map fun i => bit (prbsKey pat 1 (prbsAdvance pat i ((s.link n).genReg pat p))) 0 !=
        decide (i < (s.link n).toInvert p)
    else (List.range 1024).flatMap fun pos =>
      groupBits (if pos < 4 then s.groupOut n p pos else (hData, Nat.xor
        (prbsKey pat 64 (prbsAdvance pat (64 * (pos - 4)) ((s.link n).genReg pat p)))
        (2 ^ min 64 ((s.link n).toInvert p - 64 * (pos - 4)) - 1))))
  else if s.rd (Fd.PORT_LANE_STAT_STATE n) = 0 then []
  else (List.range 1024).flatMap fun pos => groupBits (s.groupOut n p pos)

/-- The PAM4 symbols of the frame at the port's RATE (R177). -/
def State.symbolsOut (s : State) (n p : Nat) : List Int :=
  atRate (s.on (Fd.PORT_LANE_CFG_RATE n)) (symbolsOf (s.bitsOut n p))

/-! ### Flits out of codewords (R222, R223) -/

/-- The flit that 1,024 bits spell (R224, R225). -/
def flitOf (w : Nat) : Flit :=
  { ty := bits w 3 0, seq := bits w 15 4, ack := bits w 27 16, crVc := bits w 50 49, crCnt := bits w 58 51
    codes := (List.range 7).map fun k => bits w (30 + 3 * k) (28 + 3 * k)
    slots := (List.range 7).map fun k => bits w (191 + 128 * k) (64 + 128 * k)
    enc := bits w 991 960, crc := bits w 1023 992 }

/-- The codewords that hold a received flit, decoded: data, symbols corrected, and whether flagged; a flagged one is
handed on as received. -/
def rxDecoded (x : RxFlit) : List (Nat × Nat × Bool) :=
  x.words.map fun w => match fecDecode w with
    | some (v, k) => (v % 2 ^ 5280, k, false)
    | none => (w % 2 ^ 5280, 0, true)

/-- The bits of the flit among the data bits of its codewords. -/
def rxBits (x : RxFlit) : Nat :=
  let d := rxDecoded x
  ((nth (0, 0, false) d 0).1 + (nth (0, 0, false) d 1).1 * 2 ^ 5280) / 2 ^ (1024 * x.pos % 5280) % 2 ^ 1024

/-- A codeword counts with the flit that holds its first data bit. -/
def rxOwn (x : RxFlit) : List (Nat × Nat × Bool) :=
  if 1024 * x.pos % 5280 = 0 then rxDecoded x else (rxDecoded x).drop 1

/-- The flit received: its bytes, whether a codeword that holds any of them is flagged, and the symbols corrected and
codewords flagged that count with it (R222, R262). -/
def rxFlit (x : RxFlit) : Flit :=
  { flitOf (rxBits x) with
    flagged := (rxDecoded x).any (·.2.2)
    fecCorr := ((rxOwn x).map (·.2.1)).sum
    fecUncorr := ((rxOwn x).filter (·.2.2)).length }

/-- Codeword c of a period, put together from the bodies of the logical lanes (R220, R221). -/
def codewordOf (bodies : List Nat) (c : Nat) : Nat :=
  (List.range 85).foldr (fun b w => nth 0 bodies (85 * c + b) + 2 ^ 64 * w) 0

end Sys2Proof.Machine
end

