-- ==== Sys2Proof/Machine/FlitIn.lean ====
section
/-! DEFINITION. The receiver of a port: good, duplicate and bad flits (R232, R233), ACKs and credit reports (R234,
R237), messages out of slots and protocol errors (R228, R240), runs (R253, R254), the INIT exchange (R245), and what
waits for a comma (R188). -/

namespace Sys2Proof.Machine

/-! ### Messages out of slots -/

/-- LINK_PROTO (R257): the requester ID read, or 0xFFF, and the slot code at fault. -/
def State.linkProto (s : State) (n id code : Nat) : State :=
  s.raise (linkSrc n 2) 0xA (id % 4096 + code * 4096)

/-- The rest of a misplaced message is discarded: the data slots that follow belong to no message. `rxMsg` shows it as
VC 8 + `vc`, or 12 where no head tells the VC. -/
def State.discardRest (s : State) (n vc : Nat) : State := s.setLink n { s.link n with rxMsg := some (8 + vc, [], 0) }

/-- The answer to a pair-link message at fault: an MEXEC tells requester and tag in its second slot (R240, R256, R577). -/
def State.pairAbort (s : State) (slots : List Nat) : State × Nat :=
  match slots with
  | h :: w :: _ =>
    if h % 256 = 0x41 then
      let x := parseHead w
      let r : Resp :=
        { port := 12, op := x.1, reqId := x.2.reqId, tag := x.2.tag, status := stABORTED, kind := .aborted }
      ({ s with pair := { s.pair with out := s.pair.out ++ [.mres (bits h 23 8) r] } }, x.2.reqId)
    else (s, 0xFFF)
  | _ => (s, 0xFFF)

/-- The message whose head is at fault, or that is incomplete, is answered ABORTED where a requester ID and tag can be
read (R240); `code` is the slot code at fault, `slots` what came of the message, whose credits are freed. -/
def State.protoError (s : State) (n vc : Nat) (slots : List Nat) (code : Nat) : State :=
  let s := s.freeSlots n vc slots.length
  if n < 12 then
    let (op, h) := parseHead (slots.headD 0)
    (s.refuse n op h stABORTED 0 0 .aborted).linkProto n h.reqId code
  else
    let x := s.pairAbort slots
    x.1.linkProto n x.2 code

/-- A head's opcode or code belongs on VC `vc` of port n (R236, R263, R577). -/
def vcCarries (n vc head : Nat) : Bool :=
  let op := head % 256
  if n < 12 then (if isMgmt op then vc == 3 else vc == 0) else pairVc op == some vc

/-- Data slots that follow a head, as far as it tells. -/
def headSlots (n head : Nat) : Nat :=
  if n < 12 then reqSlots (parseHead head).1 (parseHead head).2 else pairSlots (head % 256)

/-- A whole message: head and data slots in order. -/
def State.deliverSlots (s : State) (n vc : Nat) (slots : List Nat) : State :=
  let s := s.setLink n { s.link n with rxMsg := none }
  let head := slots.headD 0
  let data := slots.drop 1
  if n < 12 then
    let (op, h) := parseHead head
    let payload := data.flatMap (leBytes 16)
    if vc = 3 then s.mgmtRequest n op h payload else s.request n op h payload
  else
    let s := s.freeSlots n vc slots.length
    match pairOf head data with
    | some m => s.pairMsg m
    | none => s

/-- The message in progress takes another slot. -/
def State.growMsg (s : State) (n vc : Nat) (slots : List Nat) (togo : Nat) : State :=
  if togo = 0 then s.deliverSlots n vc slots else s.setLink n { s.link n with rxMsg := some (vc, slots, togo) }

/-- A head slot begins a message (R240). -/
def State.headSlot (s : State) (n code slot : Nat) : State :=
  let vc := code - 4
  if vcCarries n vc slot then s.growMsg n vc [slot] (headSlots n slot)
  else (s.protoError n vc [slot] code).discardRest n vc

/-- One slot of the slot stream (R228, R240). -/
def State.takeSlot (s : State) (n code slot : Nat) : State :=
  match (s.link n).rxMsg with
  | none =>
    if code = 0 then s
    else if code = 1 then (s.linkProto n 0xFFF 1).discardRest n 4
    else s.headSlot n code slot
  | some (vc, slots, togo) =>
    if 8 ≤ vc then
      (if code = 1 then (if vc = 12 then s else s.freeSlots n (vc - 8) 1)
      else
        let s := s.setLink n { s.link n with rxMsg := none }
        if code = 0 then s else s.headSlot n code slot)
    else if code = 1 then
      let more := if 12 ≤ n ∧ slots.length = 1 then pairMore (slots.headD 0 % 256) slot else 0
      s.growMsg n vc (slots ++ [slot]) (togo - 1 + more)
    else
      let s := s.protoError n vc slots code
      let s := s.setLink n { s.link n with rxMsg := none }
      if code = 0 then s else s.headSlot n code slot

/-- A flit's slots are handed to the port in order (R232). -/
def State.takeSlots (s : State) (n : Nat) (codes slots : List Nat) : State :=
  (List.range 7).foldl (fun (s : State) k => s.takeSlot n (nth 0 codes k) (nth 0 slots k)) s

/-! ### Reports and NAK -/

/-- The credit report of a flit that passes its CRC (R237). -/
def State.takeCredit (s : State) (n : Nat) (f : Flit) : State :=
  let l := s.link n
  let d := (f.crCnt % 256 + 256 - Tab.get (fun _ => (0 : Nat)) l.farCr f.crVc) % 256
  (s.setLink n { l with farCr := Tab.put (fun _ => 0) l.farCr f.crVc (f.crCnt % 256) }).wr (credFld n f.crVc)
    (min 0xFFFF (s.rd (credFld n f.crVc) + d))

/-- The ACK of a flit (R234). -/
def State.takeAck (s : State) (n : Nat) (f : Flit) : State := (s.setLink n ((s.link n).cover f.ack)).showUnack n

/-- A NAK is due, and the pending run is given up (R233, R253). -/
def State.nakNow (s : State) (n : Nat) : State :=
  s.setLink n { s.link n with nak := true, nakDue := true, rxRun := [] }

/-- A bad flit (R232, R233, R262). -/
def State.badFlit (s : State) (n : Nat) : State :=
  let s := s.count (Fd.PORT_FLIT_ERR_COUNT n) (Fd.PORT_FLIT_ERR_OVF n) 1
  if (s.lstate n = lACTIVE ∨ s.lstate n = lHOLD) ∧ !(s.link n).nak then s.nakNow n else s

/-- A flit arrives: its header is kept, its FEC results are counted (R262, R724). -/
def State.arrive (s : State) (n : Nat) (f : Flit) : State :=
  let l := s.link n
  let s := s.setLink n { l with rxHdrs := (flitHeader f :: l.rxHdrs).take 16 }
  (s.count (Fd.PORT_FEC_CORR_COUNT n) (Fd.PORT_FEC_CORR_OVF n) f.fecCorr).count (Fd.PORT_FEC_UNCORR_COUNT n)
    (Fd.PORT_FEC_UNCORR_OVF n) f.fecUncorr

/-- The port receives flits: its receive direction is up and it is in a state with flits (R243). -/
def State.hears (s : State) (n : Nat) : Bool :=
  decide (n < 13) && s.on (Fd.PORT_LANE_STAT_UP n) &&
    [lINIT, lACTIVE, lRECOVER, lHOLD, lSTANDBY].contains (s.lstate n) && !s.coreOff

/-! ### Sequenced flits -/

/-- A tag mismatch (R253): the run is discarded and a NAK sent; the third in a row moves the port to RECOVER. -/
def State.runFail (s : State) (n seq : Nat) : State :=
  let s := ((s.count (Fd.PORT_LINK_CNT_TAG_FAILS n) (Fd.PORT_LINK_CNT_TAG_OVF n) 1).raise (linkSrc n 3) 0xE seq).nakNow n
  let k := (s.link n).mism + 1
  if 3 ≤ k then (s.setLink n { s.link n with mism := 0 }).enterRecover n 3 true
  else s.setLink n { s.link n with mism := k }

/-- A flit is accepted up to SEQ. -/
def State.acceptTo (s : State) (n seq : Nat) : State :=
  (s.setLink n { s.link n with nak := false, nakDue := false }).wr (Fd.PORT_LINK_SEQ_RX_LAST n) seq

/-- An encrypted DATA flit enters the pending run (R253). -/
def State.pendData (s : State) (n : Nat) (f : Flit) : State :=
  if !bit f.enc 31 then s.runFail n f.seq
  else
    let l := s.link n
    s.setLink n { l with rxRun := l.rxRun ++ [f], nak := false, nakDue := false }

/-- The epoch of a run: the next one when its KPH has flipped (R254). -/
def State.runEpoch (s : State) (n kph : Nat) : Nat :=
  let e := s.rd (Fd.SEC_LEP_RX_EPOCH n)
  if e % 2 = kph then e else (e + 1) % 2 ^ 32

/-- A TAG flit on an encrypting port verifies and releases its run (R252, R253, R254). -/
def State.endRun (s : State) (n : Nat) (f : Flit) : State :=
  let run := (s.link n).rxRun
  let slot1 := nth 0 f.slots 1
  let e := s.runEpoch n (bits slot1 40 40)
  if s.runTag n false e run slot1 ≠ nth 0 f.slots 0 then s.runFail n f.seq
  else
    let first := bits slot1 31 0
    let plain := (List.range run.length).map fun i =>
      let g := nth f run i
      (g.codes, s.ctrSlots n false e ((first + i) % 2 ^ 32) g.slots)
    let s := (s.setLink n { s.link n with rxRun := [], mism := 0 }).acceptTo n f.seq
    let s := (((s.wr (Fd.PORT_ENC_FCNT_RX_FCNT n) ((first + run.length) % 2 ^ 32)).wr (Fd.SEC_LEP_RX_EPOCH n) e).wr
      (Fd.PORT_LINK_STAT_KPH_RX n) (e % 2))
    plain.foldl (fun (s : State) (x : List Nat × List Nat) => s.takeSlots n x.1 x.2) s

/-- A good sequenced flit with the expected SEQ. -/
def State.acceptSeq (s : State) (n : Nat) (f : Flit) : State :=
  let s := s.takeAck n f
  if s.encOn n then (if f.ty = fTAG then s.endRun n f else s.pendData n f)
  else (s.acceptTo n f.seq).takeSlots n f.codes f.slots

/-- A sequenced flit (R232, R249): accepted in ACTIVE and HOLD. In STANDBY it is discarded without acknowledgement; in
INIT and RECOVER, whose exchange settles the sequence numbers, the expected one is so too (DEDUCED, assumption 62). -/
def State.recvSeq (s : State) (n : Nat) (f : Flit) : State :=
  let s := s.arrive n f
  let s := if flitCrcOk f then s.takeCredit n f else s
  if !flitGood f then s.badFlit n
  else if s.lstate n = lSTANDBY then s
  else
    let want := (s.rd (Fd.PORT_LINK_SEQ_RX_LAST n) + 1 + (s.link n).rxRun.length) % 4096
    let d := seqDist want f.seq
    if d = 0 then (if s.lstate n = lACTIVE ∨ s.lstate n = lHOLD then s.acceptSeq n f else s)
    else if d ≤ 2047 then s else s.badFlit n

/-- A non-sequenced flit: where its CRC passes, its credit report and ACK are used, whether or not it is bad; `go` is what
a good one does besides (R232). -/
def State.recvPlain (s : State) (n : Nat) (f : Flit) (go : State → State) : State :=
  let s := s.arrive n f
  let s := if flitCrcOk f then (s.takeCredit n f).takeAck n f else s
  if !flitGood f then s.badFlit n else go s

/-! ### NAK and INIT -/

/-- A NAK starts a replay, unless its ACK is unknown or names the start of the one in progress (R234). `l`: the link
before the flit's ACK was used. -/
def State.takeNak (s : State) (n : Nat) (l : Link) (f : Flit) : State :=
  let known := f.ack % 4096 == l.covered || l.replay.any fun (x : Flit) => x.seq == f.ack % 4096
  let again := l.resend.isSome && l.rstart == some ((f.ack + 1) % 4096)
  if !known ∨ again then s else s.replayFrom n

/-- The cause that refuses an INIT (R245, R557); none: it is good. -/
def State.initCause (s : State) (n : Nat) (f : Flit) : Option Nat :=
  let enc := s.on (Fd.PORT_LINK_CFG_ENC n)
  let slot1 := nth 0 f.slots 1
  if flitByte f 0 0 ≠ 1 then some 1
  else if flitByte f 0 1 ≠ (if n < 12 then 1 else 3) then some 2
  else if bit (flitByte f 0 2) 1 ≠ enc ∨ (enc ∧ (s.lk n).isNone) then some 3
  else if flitCredit f 1 < 128 ∨ flitCredit f 2 < 8 ∨ flitCredit f 3 < 8 then some 4
  else if enc ∧ bits slot1 32 32 = s.rd (Fd.PORT_LINK_STAT_KPH_RX n) ∧
      bits slot1 31 0 + 1 < s.rd (Fd.PORT_ENC_FCNT_RX_FCNT n) then some 5
  else none

/-- A good INIT flit advances the exchange; a refused one raises INIT_FAIL once per entry (R245). -/
def State.takeInit (s : State) (n : Nat) (f : Flit) : State :=
  let st := s.lstate n
  let s := if st = lACTIVE ∨ st = lHOLD ∨ st = lSTANDBY then s.enterRecover n 4 false else s
  let l := s.link n
  match s.initCause n f with
  | some c => if l.initFail then s else (s.setLink n { l with initFail := true }).raise (linkSrc n 3) 0xD c
  | none => (s.setLink n { l with seen := true, farInit := some f }).tryExchange n

/-! ### Commands -/

/-- A flit's effect, by its TYPE; one of a reserved TYPE is bad (R226, R232, R248). -/
def State.recv (s : State) (n : Nat) (f : Flit) : State :=
  if flitSequenced f then s.recvSeq n f
  else if f.ty = fNAK then s.recvPlain n f fun t => t.takeNak n (s.link n) f
  else if f.ty = fINIT then s.recvPlain n f fun t => t.takeInit n f
  else if f.ty = fHOLD then s.recvPlain n f fun t => t.setLink n { t.link n with holdMode := some (flitByte f 0 0) }
  else s.recvPlain n f id

/-- A flit comes in. While a comma is missing on a logical lane it is held: it is handed on once the comma is there again,
or goes with the lane's lock (R188). -/
def State.flitIn (s : State) (n : Nat) (f : Flit) : State :=
  if !s.hears n then s
  else if s.commaMissing n then s.setLink n { s.link n with heldIn := (s.link n).heldIn ++ [f] }
  else s.recv n f

/-- Flits that waited for a comma are handed on. -/
def State.releaseIn (s : State) (n : Nat) : State :=
  if s.commaMissing n then s
  else
    let fs := (s.link n).heldIn
    fs.foldl (fun s f => if s.hears n then s.recv n f else s) (s.setLink n { s.link n with heldIn := [] })

/-- LM0 (R179, R182, R186, R188, R194, R196, R201): headers of positions 2 to 1,023 since the lane's last LM0, the code
groups of positions 0 and 1, and the CTLE code and taps its loops ask for. -/
def execLm0 (port phys : Nat) (payload : List Nat) (comma lm0 : Nat × Nat) (loop : Option (Int × List Int)) (s : State) :
    Host.Outcome State Fault Refusal :=
  s.act (if port < 13 ∧ s.locked port phys then (s.lm0In port phys payload comma lm0 loop).releaseIn port else s)

/-- DATA_FLIT (R232), or a flit of a reserved TYPE (R226). -/
def execDataFlit (port : Nat) (rx : RxFlit) (s : State) : Host.Outcome State Fault Refusal :=
  s.act (if (rxFlit rx).ty = fDATA ∨ 6 ≤ (rxFlit rx).ty then s.flitIn port (rxFlit rx) else s)

/-- IDLE_FLIT (R232). -/
def execIdleFlit (port : Nat) (rx : RxFlit) (s : State) : Host.Outcome State Fault Refusal :=
  s.act (if (rxFlit rx).ty = fIDLE then s.flitIn port (rxFlit rx) else s)

/-- NAK_FLIT (R234). -/
def execNakFlit (port : Nat) (rx : RxFlit) (s : State) : Host.Outcome State Fault Refusal :=
  s.act (if (rxFlit rx).ty = fNAK then s.flitIn port (rxFlit rx) else s)

/-- INIT_FLIT (R243, R245). -/
def execInitFlit (port : Nat) (rx : RxFlit) (s : State) : Host.Outcome State Fault Refusal :=
  s.act (if (rxFlit rx).ty = fINIT then s.flitIn port (rxFlit rx) else s)

/-- HOLD_FLIT (R226, R248): the far mode code. -/
def execHoldFlit (port : Nat) (rx : RxFlit) (s : State) : Host.Outcome State Fault Refusal :=
  s.act (if (rxFlit rx).ty = fHOLD then s.flitIn port (rxFlit rx) else s)

/-- TAG_FLIT (R253, R254). -/
def execTagFlit (port : Nat) (rx : RxFlit) (s : State) : Host.Outcome State Fault Refusal :=
  s.act (if (rxFlit rx).ty = fTAG then s.flitIn port (rxFlit rx) else s)

end Sys2Proof.Machine
end

