-- ==== Sys2Proof/Machine/Image.lean ====
section
/-! DEFINITION. The boot from the calibration record to an applied image: records, repairs, sections and their checks
(R116, R134–R139, R378, R379, R423, R458, R484, R531, R596, R668, R669). -/

namespace Sys2Proof.Machine

/-! ### JTAG (R155) -/

/-- A register access that debug makes over JTAG (R155): it acts as house firmware's, an address and a value to write. -/
def State.jtagAccess (s : State) (a : Nat) (v : Option Nat) : State :=
  match v with
  | some w => (s.regWrite whoFw a w).1
  | none => (s.readReg a).1

/-- JTAG_INSTRUCTION (R155): a function not permitted behaves as BYPASS. Once the gate of debug is open, debug accesses
registers. -/
def execJtagInstruction (act : JtagAct) (s : State) : Host.Outcome State Fault Refusal :=
  s.act (
    let f := if s.jtagMay act.function then act.function else 0
    let s := { s with otp := { s.otp with jtag := f } }
    match act.access with
    | some (a, v) => if f = 2 ∧ s.otp.debug then s.jtagAccess a v else s
    | none => s)

/-! ### The calibration record and the soft-repair list (R116, R378, R379, R668) -/

/-- The soft-repair list of the winning slot (R379). -/
def State.softList (s : State) : List Nat :=
  match s.winner 3 with
  | some w =>
    let p := s.slotPayload (6 + w)
    (List.range (imgWord p 0 4)).map fun i => imgWord p (8 + 8 * i) 8
  | none => []

/-- Slot 4 to 12 is valid (R124); a journal half by its header alone (R129). -/
def State.slotGood (s : State) (k : Nat) : Bool :=
  if k < 11 then (s.slotFault k).isNone else s.headerOk k && s.digestOk k

/-- CAL_RECORD_READ (R113, R116, R145): the winners are chosen, and each slot from 4 to 12 that is not valid, an empty one
included, is reported with its number. -/
def execCalRecordRead (s : State) : Host.Outcome State Fault Refusal :=
  s.act (if !s.booting ∨ s.boot.img.isNone ∨ s.boot.cal.isSome then s
  else
    let w := (s.winner 2).getD 2
    let s := { s with
      boot := { s.boot with cal := some w }
      ecc := { s.ecc with soft := s.softList } }.wr Fd.NVM_BOOT_STAT_CAL_SLOT w
    (List.range 9).foldl (fun (s : State) i => if s.slotGood (4 + i) then s else s.raise 34 1 (4 + i)) s)

/-- The repair entries with their indices: OTP words in ascending order, then the soft list (R378). A word that failed
its check is no entry (R161); neither is KIND 0b00. -/
def State.repairEntries (s : State) : List (Nat × Bool × Nat) :=
  (((List.range 288).map fun i => (192 + i, false, s.otpWord (192 + i))) ++
    (List.range s.ecc.soft.length).map fun i => (i, true, nth 0 s.ecc.soft i)).filter fun (e : Nat × Bool × Nat) =>
      bits e.2.2 63 62 != 0 && (e.2.1 || !bit (s.rd (Fd.OTP_FAIL_FAIL (e.1 / 32))) (e.1 % 32))

/-- The two passes of R378. -/
def State.applyRepairs (s : State) : State :=
  let es := s.repairEntries
  let s := (es.filter fun (e : Nat × Bool × Nat) => entryRetires e.2.2).foldl (fun (s : State) e =>
    if entryFormat s.part.lgrp e.2.2 then
      { s with ecc := { s.ecc with retired := s.ecc.retired ++ [entryRepair e.2.2] } }
    else s.repairMap e.1 e.2.1 1) s
  (es.filter fun (e : Nat × Bool × Nat) => !entryRetires e.2.2).foldl
    (fun (s : State) e => s.applyRepair e.1 e.2.1 e.2.2) s

/-- A TSV map word of the record comes into force where its spares are free (R668). -/
def State.applyMap (s : State) (pc w : Nat) : State :=
  [(0, 0, 25), (0, 1, 20), (1, 0, 15), (1, 1, 10), (2, 0, 5), (3, 0, 0)].foldl (fun (s : State) (g : Nat × Nat × Nat) =>
    let k := bits w (g.2.2 + 4) g.2.2
    if k < tsvLanes g.1 ∧ s.tsvFree pc g.1 g.2.1 then s.wr (tsvFld pc g.1 g.2.1) k else s) s

/-- The winning record's settings and maps (R668, R669). -/
def State.applyCal (s : State) (k : Nat) : State :=
  let p := s.slotPayload (4 + k)
  let set := (List.range 33792).foldl (fun (t : Tab Nat) i =>
    Tab.put dlyDefault t i (imgWord p (0x220 + 4 * i) 4 % 2 ^ 21)) []
  let maps := (List.range 128).map fun n => imgWord p (0x20 + 4 * n) 4
  let s := { s with cal := { s.cal with set, loaded := some (set, maps) } }
  (List.range 128).foldl (fun (s : State) n => s.applyMap n (nth 0 maps n)) s

/-- REPAIR_SWITCH_IN (R378, R668). -/
def execRepairSwitchIn (s : State) : Host.Outcome State Fault Refusal :=
  s.act (if !s.booting ∨ s.boot.calUsed then s
  else match s.boot.cal with
  | none => s
  | some k =>
    let s := s.applyRepairs
    let s := if k < 2 then s.applyCal k else s
    { s with boot := { s.boot with calUsed := true } })

/-! ### Sections (R136, R138, R139) -/

/-- The section being applied, with its image. -/
def State.section? (s : State) : Option (List Byte × Sect) :=
  match s.boot.img with
  | none => none
  | some k =>
    let img := s.slotPayload (2 + k)
    match (imgSects img).find? fun (x : Sect) => x.typ == s.boot.sect with
    | some x => if s.booting ∧ s.boot.calUsed ∧ !s.boot.applied then some (img, x) else none
    | none => none

/-- The fields of a register but its RO ones, which show their unit, return to their reset values. -/
def State.resetReg (s : State) (a : Nat) : State :=
  match regRow a with
  | none => s
  | some r =>
    let d := (resetWord a).toNat
    s.setReg a (BitVec.ofNat 32 (r.fields.foldl (fun w f =>
      if f.ty = .ro then w else setBits w f.hi f.lo (bits d f.hi f.lo)) (s.reg a).toNat))

/-- A section's blocks return to their reset values (R138): with the gate bits the gates open, with the key store's
registers its slots empty. -/
def State.resetSect (s : State) (typ : Nat) : State :=
  let s := ((s.regs.map (·.1)).filter fun a => blockSect a == typ).foldl (fun (s : State) a => s.resetReg a) s
  match typ with
  | 1 =>
    let s := (List.range 13).foldl (fun (s : State) n => s.gatePort n false) s.tcLoad
    (List.range 32).foldl (fun (s : State) g => s.gateCg g false) s
  | 3 =>
    let s := (s.sec.slots.map (·.1)).foldl (fun (s : State) k => s.setSlot k none) s
    { s with sec := { s.sec with kldWords := [], mkWords := [], load := none, attest := false } }
  | 6 => s.portsOff.wr Fd.PAIR_STAT_ROLE 0
  | 7 => { s with rgl := { s.rgl with commit := none } }.showG
  | _ => s

/-- Every block that has a lock is locked (R139). -/
def lockFlds : List Fld :=
  [Fd.GLB_CTL_LOCK, Fd.CLK_CTL_LOCK, Fd.PWR_CTL_LOCK, Fd.THM_CTL_LOCK, Fd.FLT_CTL_LOCK, Fd.OBS_SNAP_CTL_LOCK, Fd.SEC_CTL_LOCK,
    Fd.REG_CTL_LOCK, Fd.RGN_CTL_LOCK, Fd.CRM_CTL_LOCK, Fd.QUE_CTL_LOCK, Fd.TBL_CTL_LOCK, Fd.CNT_CTL_LOCK, Fd.BST_CFG_LOCK,
    Fd.ECC_CTL_LOCK] ++ (List.range 13).map Fd.PORT_LOCK_LOCK ++ (List.range 32).map Fd.CG_CTL_LOCK

/-- The image is applied: locks, slot and version (R139, R146, R148). -/
def State.imageDone (s : State) (img : List Byte) : State :=
  let s := lockFlds.foldl (fun (s : State) f => s.setLock f) s
  let s := (s.wr Fd.NVM_BOOT_STAT_IMG_SLOT (s.boot.img.getD 2)).wr Fd.NVM_IMG_VER_ALL (imgWord img 8 4)
  { s with boot := { s.boot with applied := true } }

/-- The next section in the order of R136, or the end of the image. -/
def State.sectNext (s : State) (img : List Byte) (x : Sect) : State :=
  let s := { s with boot := { s.boot with record := 0, poll := false } }
  match nextSect (imgSects img) (x.typ + 1) with
  | some y => { s with boot := { s.boot with sect := y.typ } }
  | none => s.imageDone img

/-- A section fails (R138): 0xFF_FFFF, or the index of the POLL that timed out. -/
def State.sectFail (s : State) (img : List Byte) (x : Sect) (index : Nat) : State :=
  let s := ((s.resetSect x.typ).wrBit Fd.NVM_BOOT_STAT_SECT_FAIL (x.typ - 1) true).raise 36 1
    (x.typ + index % 2 ^ 24 * 256)
  if bit x.flags 0 ∨ x.typ = 7 then s.sectNext img x
  else
    let s := (List.range 8).foldl (fun (s : State) i => s.resetSect (i + 1)) s
    { s with boot := { s.boot with
      imgBad := s.boot.imgBad ++ s.boot.img.toList
      img := none
      imgSel := none
      imgBypass := false
      sect := 0
      record := 0
      poll := false } }.showBypass

/-! ### Records (R137, R138) -/

/-- The record being applied: its address, value and mask, where its OP is `op`. -/
def State.recordOf (s : State) (op : Nat) : Option (Nat × Nat × Nat) :=
  match s.section? with
  | some (img, x) =>
    let r := imgRec img x.off s.boot.record
    if s.boot.record < x.nrec ∧ r.2.1 = op ∧ !s.boot.poll then some (r.1, r.2.2.1, r.2.2.2) else none
  | none => none

def State.recordPassed (s : State) : State :=
  { s with boot := { s.boot with record := s.boot.record + 1, poll := false } }

/-- A record's write; IMAGE_RECORD_REFUSED where the register file refuses it (R138). -/
def State.recordPut (s : State) (a w : Nat) : State :=
  let r := s.regWrite whoFw a w
  (if r.2.ignored ∨ (regRow a).isNone then r.1.raise 37 1 a else r.1).recordPassed

/-- IMAGE_RECORD_WRITE (R137). -/
def execImageRecordWrite (s : State) : Host.Outcome State Fault Refusal :=
  s.act (match s.recordOf 1 with
  | some (a, v, _) => s.recordPut a v
  | none => s)

/-- (old AND NOT MASK) OR (VALUE AND MASK) (R137). -/
def maskedWord (old v m : Nat) : Nat :=
  ((BitVec.ofNat 32 old &&& ~~~BitVec.ofNat 32 m) ||| (BitVec.ofNat 32 v &&& BitVec.ofNat 32 m)).toNat

/-- IMAGE_RECORD_MASKED (R137). -/
def execImageRecordMasked (s : State) : Host.Outcome State Fault Refusal :=
  s.act (match s.recordOf 2 with
  | some (a, v, m) => s.recordPut a (maskedWord (s.look a) v m)
  | none => s)

/-- A read of a POLL record: it passes when (register AND MASK) equals VALUE (R137). One whose address names no register
is refused, and application goes on (R138). -/
def State.pollRead (s : State) (a v m : Nat) : State :=
  let r := s.readReg a
  if (regRow a).isNone then (s.raise 37 1 a).recordPassed
  else if BitVec.ofNat 32 r.2 &&& BitVec.ofNat 32 m = BitVec.ofNat 32 v then r.1.recordPassed
  else { r.1 with boot := { r.1.boot with poll := true } }

/-- IMAGE_RECORD_POLL (R137). -/
def execImageRecordPoll (s : State) : Host.Outcome State Fault Refusal :=
  s.act (match s.recordOf 3 with
  | some (a, v, m) => s.pollRead a v m
  | none => s)

/-- The record of a waiting POLL. -/
def State.polling (s : State) : Option (List Byte × Sect × Nat × Nat × Nat) :=
  match s.section? with
  | some (img, x) =>
    let r := imgRec img x.off s.boot.record
    if s.boot.poll then some (img, x, r.1, r.2.2.1, r.2.2.2) else none
  | none => none

/-- POLL_REREAD (R137). -/
def execPollReread (s : State) : Host.Outcome State Fault Refusal :=
  s.act (match s.polling with
  | some (_, _, a, v, m) => s.pollRead a v m
  | none => s)

/-- POLL_TIMEOUT (R138). -/
def execPollTimeout (s : State) : Host.Outcome State Fault Refusal :=
  s.act (match s.polling with
  | some (img, x, _) => s.sectFail img x s.boot.record
  | none => s)

/-! ### Configuration checks (R138) -/

/-- The pools' check (R423). -/
def State.poolsOk (s : State) : Bool :=
  let ps := (List.range 16).filter fun p => s.on (Fd.QUE_POOL_CFG_VALID p)
  ps.all fun p =>
    let r := s.rgn (s.poolRgn p)
    r.valid && r.kind == kBUFFER && r.win == 0 && decide (r.size ≤ 768) &&
      ps.all fun q => q == p || s.poolRgn q != s.poolRgn p

/-- The ENGINES section's check (R423, R458, R484). -/
def State.enginesOk (s : State) : Bool :=
  s.poolsOk && (s.tables.all fun t => (s.descCheck t (s.desc t)).isNone) && s.counterCheck

/-- The check of the chapter that owns a section. -/
def State.sectCheck (s : State) (typ : Nat) : Bool :=
  match typ with
  | 2 => decide (s.rd Fd.CRM_PART_CNT_SIZE ≤ 384)
  | 4 => s.rgnConsistent
  | 5 => s.enginesOk
  | 7 => s.regulationCheck
  | _ => true

/-- After PORTS: the persisted role replaces the image's (R596). -/
def State.persistedRole (s : State) (img : List Byte) : State :=
  let p := s.nvm.persist
  let role := (nth 0 p 0x40).toNat
  if bit (nth 0 p 0x41).toNat 0 ∧ imgWord p 0x44 4 = imgWord img 8 4 ∧ role ≤ 2 then
    let s := (if s.role = role then s else s.setRole role false).wr Fd.PAIR_ROLE_ROLE role
    { s with pair := { s.pair with authRole := true } }
  else s

/-- REG_ADMIT_FAIL (R532, R535): ΣG rounded up and the limit. -/
def State.admitFail (s : State) : State :=
  let g := s.sumG
  s.raise 217 1 (min 0xFFFF (ceilDiv g.1 g.2) + admitLimit (s.rd Fd.GLB_LEVEL_LIM_LVL_LOW) * 65536)

/-- SECTION_CHECK (R138): after a section's last record. -/
def execSectionCheck (s : State) : Host.Outcome State Fault Refusal :=
  s.act (match s.section? with
  | none => s
  | some (img, x) =>
    if s.boot.poll ∨ s.boot.record < x.nrec then s
    else if s.sectCheck x.typ then
      let s := if x.typ = 6 then s.persistedRole img else s
      let s := if x.typ = 7 then s.wr Fd.REG_CTL_ENFORCE 1 |>.showG else s
      s.sectNext img x
    else (if x.typ = 7 then s.admitFail else s).sectFail img x 0xFFFFFF)

end Sys2Proof.Machine
end

