-- ==== Sys2Proof/Machine/Reset.lean ====
section
/-! DEFINITION. Reset and power (R40, R43, R66–R71, R76, R77), and the wakes that repower the core: DEEP (R651) and the
retain modes (R650, R639). -/

namespace Sys2Proof.Machine

/-! ### Outputs (R77) -/

/-- What an output pin shows: a level, high impedance, electrical idle or off, or what its driver sends. -/
inductive PinState
  | low | high | hiZ | idle | off | driven
  deriving DecidableEq, Repr

/-- The output pins of R77: SPI_CLK, SPI_CS_N, SPI_D[3:0], ALERT_N, THERMTRIP_N (both open drain, released as hiZ),
CORE_VSEL, PWR_EN_CORE, PWR_EN_DRAM, the lane transmitters and JTAG_TDO. -/
structure Outputs where
  spiClk : PinState
  spiCs : PinState
  spiD : PinState
  alertN : PinState
  thermtripN : PinState
  coreVsel : Nat
  pwrEnCore : Bool
  pwrEnDram : Bool
  lanes : PinState
  tdo : PinState
  deriving DecidableEq, Repr

/-- ALERT_N is low while the sideband queue holds a message (R686). JTAG_TDO is high impedance in the four columns of
R77, else as the JTAG port drives it. -/
def State.outputs (s : State) : Outputs :=
  { spiClk := if s.inReset then .low else .driven
    spiCs := if s.inReset then .high else .driven
    spiD := if s.inReset then .hiZ else .driven
    alertN := if s.inReset ∨ s.flt.sbQ.isEmpty then .hiZ else .low
    thermtripN := if s.inReset ∨ !s.pins.thermtripLow then .hiZ else .low
    coreVsel := if s.inReset then 3 else s.pins.coreVsel
    pwrEnCore := s.inReset || s.pins.pwrEnCore
    pwrEnDram := s.inReset || s.pins.pwrEnDram
    lanes := if s.inReset then .idle else if s.coreOff ∨ s.tripB then .off else if s.pins.lanesIdle then .idle
      else .driven
    tdo := if s.inReset ∨ s.coreOff ∨ s.tripB then .hiZ else .driven }

/-! ### Full reset -/

/-- The P that house firmware still owes to flash after a restore (R563): LAST stands 65,536 above P. -/
def State.restoring (s : State) : Bool := decide (s.sec.last = s.sec.p + 65536)

/-- The registers of the held snapshot (R725), PRIOR set. -/
def State.keepSnap (s old : State) : State :=
  if old.on Fd.OBS_SNAP_STAT_HELD then
    let s := { s with obs := { s.obs with snap := old.obs.snap } }
    let s := [Ra.OBS_SNAP_STAT, Ra.OBS_SNAP_TIME_LO, Ra.OBS_SNAP_TIME_HI].foldl
      (fun (s : State) a => s.setReg a (old.reg a)) s
    (s.wr Fd.OBS_SNAP_STAT_PRIOR 1).wr Fd.OBS_SNAP_STAT_UNLOCKED 0
  else s

/-- Every block at its reset state; fuses, flash, LAST and P, and a held snapshot stay (R67, R563, R725). `early`: VDD_IO
falls before a page in progress is done (R69). -/
def State.fullReset (s : State) (early : Bool := false) : State :=
  let s := (s.finishPage early).otpAbandon
  let new : State := { Chip.fresh s.part with obs := Obs.reset, cyc := s.cyc, pending := s.pending }
  let p := if s.restoring then s.sec.last else s.sec.p
  let new := { new with
    draws := s.draws
    pins := { Pins.reset with pwrOk := s.pins.pwrOk, resetN := s.pins.resetN, sbAddr := s.pins.sbAddr, lanesIdle := true }
    otp := { Otp.reset with words := s.otp.words }
    sec := { Sec.reset with last := s.sec.last, p := s.sec.p }
    nvm := { Nvm.reset with
      flash := s.nvm.flash
      persist := leBytes 8 p ++ List.replicate 120 0
      owed := if s.restoring then [4] else [] } }
  ((new.keepSnap s).wr Fd.SEC_AUTH_STAT_RESTORED (s.rd Fd.SEC_AUTH_STAT_RESTORED)).newCycle

/-- The part boots (R40, R76, R102, R158, R556): straps, fuses, session values. The register file's first cycle begins
(R24). -/
def State.release (s : State) (reads : List OtpRead) (strap : Nat) : State :=
  let s := { s with pins := { s.pins with
    resetN := true, relPending := false, lanesIdle := false, sbAddr := strap % 4, sbDyn := none } }
  let s := (List.range 12).foldl (fun (s : State) n =>
    (s.drawn.setReg (Ra.SEC_LSESS_LO n) (BitVec.ofNat 32 s.free)).setReg (Ra.SEC_LSESS_HI n)
      (BitVec.ofNat 32 (s.free / 2 ^ 32))) s
  (s.otpBoot reads).newCycle

/-- P of the winning persist slot. -/
def State.flashP (s : State) : Option Nat := (s.winner 4).map fun w => persistP (s.slotPayload (8 + w))

/-- LAST and P are restored from flash (R563). -/
def State.restoreAuth (s : State) : State :=
  match s.flashP with
  | some p =>
    { s with
      sec := { s.sec with p := p, last := p + 65536 }
      nvm := { s.nvm with persist := leBytes 8 (p + 65536) ++ List.replicate 120 0, owed := [4] } }.wr
        Fd.SEC_AUTH_STAT_RESTORED 1
  | none => { s with sec := { s.sec with p := 0, last := 0 } }.wr Fd.SEC_AUTH_STAT_RESTORED 1

/-! ### Commands -/

/-- RESET_N_LOW (R43, R67, R68, R77): the pin falls and stays low, or has been low for `pulse` ns. Below 100 ns it is
filtered; from 100 ns to 10 µs the part ignores it or is reset in full, which of the two is not stated. -/
def execResetNLow (pulse : Option Nat) (s : State) : Host.Outcome State Fault Refusal :=
  let low (s : State) : State := { s with pins := { s.pins with resetN := false, relPending := false } }
  .next (match pulse with
  | none => if s.pins.pwrOk ∧ !s.tripB then low s.fullReset else low s
  | some n =>
    if !s.pins.pwrOk ∨ s.tripB ∨ n < 100 then s
    else if 10000 ≤ n then low s.fullReset
    else if s.free % 2 = 1 then low s.drawn.fullReset else s.drawn)

/-- RESET_N_RELEASE (R40, R43, R67, R76, R158): what the fuses read as, and the SB_ADDR straps. Before PWR_OK it waits; in
LOCKDOWN by Trip B it starts no boot. -/
def execResetNRelease (reads : List OtpRead) (strap : Nat) (s : State) : Host.Outcome State Fault Refusal :=
  .next (if !s.pins.pwrOk then { s with pins := { s.pins with resetN := true, relPending := true } }
  else if s.tripB then { s with pins := { s.pins with resetN := true } }
  else if s.pins.resetN ∧ !s.pins.relPending then s
  else s.release reads strap)

/-- PWR_OK_RISE (R67, R563): the core leaves its reset; a release that came before takes effect with the
RESET_N_RELEASE that follows. -/
def execPwrOkRise (s : State) : Host.Outcome State Fault Refusal :=
  .next (if s.pins.pwrOk then s else { s with pins := { s.pins with pwrOk := true } }.restoreAuth)

/-- PWR_OK_FALL (R43, R67–R69, R77, R725): every output takes its reset state, LOCKDOWN by Trip B ends, and the held
snapshot is lost. With RESET_N high the release counts as one before the next rise. Whether VDD_IO falls within the 3 ms
of R69, and so cuts the page in progress short, is a free value (assumption 11). R69 keeps THERMTRIP_N asserted while
VDD_IO is present, and R77 releases it once PWR_OK is low: the model releases it with PWR_OK (DESIGN CHOICE,
assumption 57). -/
def execPwrOkFall (s : State) : Host.Outcome State Fault Refusal :=
  .next (if !s.pins.pwrOk then s
  else
    let early := s.pageNow.isSome && s.free % 2 == 1
    let t := (if s.pageNow.isSome then s.drawn else s).dropSnap.fullReset early
    { t.wr Fd.SEC_AUTH_STAT_RESTORED 0 with
      sec := Sec.reset
      pins := { t.pins with pwrOk := false, resetN := s.pins.resetN, relPending := s.pins.resetN } })

/-- Fifty microseconds of device time have passed since an enable rose (R70). -/
def State.settled (s : State) (rose : Option Nat) : Bool :=
  match rose with
  | some t => decide (8750 ≤ (s.clk.time + 2 ^ 64 - t) % 2 ^ 64)
  | none => true

/-- The rail is monitored: a gated rail while its enable is high and 50 µs have passed since it rose (R64, R70). -/
def State.railOn (s : State) (rail : Nat) : Bool :=
  decide (rail < 2) || (decide (rail < 5) && s.pins.pwrEnCore && s.settled s.pwr.coreRose) ||
    (decide (5 ≤ rail ∧ rail < 7) && s.pins.pwrEnDram && s.settled s.pwr.dramRose)

/-- VDD_CORE's nominal voltage in mV by CORE_VSEL (R62). -/
def coreNominal (vsel : Nat) : Nat := nth 660 [800, 760, 720, 660] vsel

/-- A rail's recommended minimum and maximum and its monitor's fail limits, in units of 10 µV (R61). -/
def State.railLimits (s : State) (rail : Nat) : Nat × Nat × Nat × Nat :=
  let n := coreNominal s.pins.coreVsel
  match rail with
  | 0 => (76000, 84000, 72000, 88000)
  | 1 => (171000, 189000, 162000, 198000)
  | 2 => (97 * n, 103 * n, 94 * n, 106 * n)
  | 3 => (73000, 77000, 71000, 79000)
  | 4 => (116000, 124000, 113000, 127000)
  | 5 => (102000, 108000, 99000, 111000)
  | _ => (171000, 189000, 166000, 194000)

/-- A voltage in mV is outside the rail's recommended range (R61). -/
def State.railOut (s : State) (rail mv : Nat) : Bool :=
  let l := s.railLimits rail
  decide (100 * mv < l.1) || decide (l.2.1 < 100 * mv)

/-- A voltage in mV is beyond a monitor fail limit of the rail (R61). -/
def State.railBad (s : State) (rail mv : Nat) : Bool :=
  let l := s.railLimits rail
  decide (100 * mv < l.2.2.1) || decide (l.2.2.2 < 100 * mv)

/-- The address of a rail event (R70). -/
def railAddr (rail mv : Nat) : Nat := rail + mv % 4096 * 16

/-- RAIL_WARN (R70, R71): the voltage measured, outside the recommended range. -/
def execRailWarn (rail mv : Nat) (s : State) : Host.Outcome State Fault Refusal :=
  s.act (if s.railOn rail ∧ s.railOut rail mv then
    ((s.wrBit Fd.PWR_RAIL_STAT_OUT rail true).wrBit Fd.PWR_RAIL_STAT_WARN rail true).raise 12 1 (railAddr rail mv)
  else s)

/-- RAIL_FAIL (R70, R71): the voltage measured, beyond a fail limit and so outside the recommended range too. -/
def execRailFail (rail mv : Nat) (s : State) : Host.Outcome State Fault Refusal :=
  s.act (if s.railOn rail ∧ s.railBad rail mv then
    ((s.wrBit Fd.PWR_RAIL_STAT_OUT rail true).wrBit Fd.PWR_RAIL_STAT_FAIL rail true).raise 13 1 (railAddr rail mv)
  else s)

/-- RAIL_IN_RANGE (R71). -/
def execRailInRange (rail : Nat) (s : State) : Host.Outcome State Fault Refusal :=
  s.act (if rail < 7 then s.wrBit Fd.PWR_RAIL_STAT_OUT rail false else s)

/-! ### Wakes of a part whose core is off -/

/-- A wake from a mode with VDD_CORE off may begin (R647): latched, past the point of no return, and REFCLK there
after a loss (R99). -/
def State.coreWakes (s : State) : Bool :=
  s.coreOff && s.on Fd.PWR_STAT_LATCHED && (s.on Fd.CLK_STAT_REFCLK_OK || !s.on Fd.CLK_STAT_HOLD)

/-- Registers as a DEEP wake leaves them (R30, R588, R630, R651): Samovar's and the fuses' stay, every other takes its
reset value. -/
def State.deepRegs (s : State) : State :=
  let nvm (a : Nat) : Bool := decide (0x50000 ≤ a ∧ a < 0x60000) &&
    !(decide (Fd.NVM_PATCH_LD0_ALL.addr ≤ a ∧ a ≤ Fd.NVM_PATCH_BAD1_ALL.addr))
  let tsv := (List.range 128).map fun p => Ra.PC_TSV_MAP p
  let link := (List.range 13).flatMap fun n => [Ra.SEC_LEP_TX n, Ra.SEC_LEP_RX n, (Fd.PORT_ENC_FCNT_TX_FCNT n).addr,
    (Fd.PORT_ENC_FCNT_RX_FCNT n).addr, (Fd.PORT_LINK_STAT_KPH_TX n).addr]
  let lost := (s.regs.map (·.1)).filter fun a => nvm a || tsv.contains a || link.contains a
  let s := ((s.wakeRegs []).setReg Ra.PAIR_CURRENT_LO 0).setReg Ra.PAIR_CURRENT_HI 0
  let s := lost.foldl (fun (s : State) a => s.setReg a (resetWord a)) s
  s.wr Fd.PAIR_STAT_ROLE 0

/-- Every block of the base die and the core dies as power-up leaves it, with the key store cleared (R547, R651); device
time, LAST, P, the wake record and held events stay (R630). -/
def State.deepPower (s : State) : State :=
  let s := s.wakeBegins.deepRegs.powerUp true
  let slots := { Sec.reset with last := s.sec.last, p := s.sec.p }
  let fresh := Chip.fresh s.part
  let s := { s with
    sec := slots
    pins := { s.pins with lanesIdle := false, coreVsel := 3 }
    clk := { s.clk with portAsk := [], cgAsk := [], portClosed := [], cgClosed := [] }
    seq := { Seq.reset with reqs := s.seq.reqs }
    req := fresh.req
    pcs := []
    cgs := []
    ecc := { fresh.ecc with pinRaised := s.ecc.pinRaised }
    dram := []
    crm := fresh.crm
    que := fresh.que
    cnt := fresh.cnt
    pair := fresh.pair
    links := []
    nvm := { s.nvm with wr := none, upd := none, ram := [], erases := [], persist := leBytes 8 s.sec.p ++ List.replicate 120 0, owed := [] }
    boot := fresh.boot
    thm := fresh.thm
    cal := fresh.cal
    pwr := { s.pwr with save := none, entry := none, stage := 0 } }
  let s := (s.showSlots.wr Fd.SEC_STAT_MK_IN_FORCE 0).wr Fd.PWR_STAT_PNR 0
  (s.wr Fd.GLB_MODE_LEVEL 3).wr Fd.GLB_MODE_LEVEL_TGT 3

/-- A wake from DEEP (R114, R651), or one that proceeds as such (R639): the part boots at P3. The wake logic's request
is served at precedence 5. A hold goes on until REFCLK_RETURN (R99). -/
def State.deepBoot (s : State) : State :=
  let old := s.mode
  let lev := s.level
  let s := s.deepPower.modeStat 5 4
  let s := (s.wr Fd.GLB_MODE_PREV old).wr Fd.GLB_MODE_MODE mBOOT
  ((((s.modeChange old lev).modeStat 5 1).heldIn).raiseWake).discard

/-- LOCKDOWN by Trip B from DEEP (R40, R77, R616, R617): both enables rise, and the part stands as after power-up, with its
held messages accepted. -/
def State.deepLock (s : State) (r : ModeReq) : State :=
  let old := s.mode
  let lev := s.level
  let vsel := s.pins.coreVsel
  let s := (s.dropReq r).deepPower
  let s := { s with
    pins := { s.pins with coreVsel := vsel }
    thm := { s.thm with tripB := true } }
  let s := ((s.wr Fd.GLB_MODE_LEVEL lev).wr Fd.GLB_MODE_LEVEL_TGT lev).wr Fd.GLB_MODE_PREV old
  let s := s.wr Fd.GLB_MODE_MODE mLOCKDOWN
  ((((s.modeChange old lev).heldIn).enterLockdown r).modeStat r.prec 1).discard

/-- MODE_TRANSITION_START (R28, R40): with VDD_CORE off, only a Trip B of DEEP starts. -/
def State.transBegin (s : State) : State :=
  if s.mode = mDEEP then
    match s.seq.reqs.find? fun (r : ModeReq) => r.prec == 1 with
    | some r => s.deepLock r
    | none => s
  else s.transStart

/-- MODE_TRANSITION_START (R28). -/
def execModeTransitionStart (s : State) : Host.Outcome State Fault Refusal := s.act (s.transBegin).runReady

/-- MODE_TRANSITION_END (R40). -/
def execModeTransitionEnd (s : State) : Host.Outcome State Fault Refusal := s.act (s.transEnd).runReady

/-- DRAIN_TIMEOUT (R48). -/
def execDrainTimeout (s : State) : Host.Outcome State Fault Refusal := s.act (s.drainTimeout).runReady

/-- DEEP_WAKE (R651). -/
def execDeepWake (s : State) : Host.Outcome State Fault Refusal :=
  s.act (if s.mode = mDEEP ∧ s.coreWakes then s.deepBoot else s)

/-- WAKE (R639, R649, R650): from STANDBY or a retain mode; `badBlock`, a save block whose CRC fails. -/
def execWakeRestore (badBlock : Option Nat) (s : State) : Host.Outcome State Fault Refusal :=
  s.act (if s.mode = mSTANDBY ∧ s.on Fd.PWR_STAT_LATCHED then s.standbyWake
  else if isRetain s.mode ∧ s.coreWakes then
    (match badBlock with
    | none => s.retainWake
    | some b =>
      let s := s.deepBoot.wr Fd.PWR_STAT_RESTORE_FAIL 1
      { s with pwr := { s.pwr with failBlock := some b } })
  else s)

end Sys2Proof.Machine
end

