-- ==== Sys2Proof/Machine/Dispatch.lean ====
section
/-! DEFINITION. The meaning of each command, one arm per constructor. -/

namespace Sys2Proof.Machine

def exec (i : Instr) (s : State) : Host.Outcome State Fault Refusal :=
  match i with
  | .registerWrite who addr value => Sys2Proof.Machine.execRegisterWrite who addr value s
  | .readClear addr => Sys2Proof.Machine.execReadClear addr s
  | .lockWrite addr => Sys2Proof.Machine.execLockWrite addr s
  | .resetNLow pulse => Sys2Proof.Machine.execResetNLow pulse s
  | .resetNRelease reads strap => Sys2Proof.Machine.execResetNRelease reads strap s
  | .pwrOkRise => Sys2Proof.Machine.execPwrOkRise s
  | .pwrOkFall => Sys2Proof.Machine.execPwrOkFall s
  | .railWarn rail mv => Sys2Proof.Machine.execRailWarn rail mv s
  | .railFail rail mv => Sys2Proof.Machine.execRailFail rail mv s
  | .oscStart => Sys2Proof.Machine.execOscStart s
  | .oscCompareWindow ref p0 pair => Sys2Proof.Machine.execOscCompareWindow ref p0 pair s
  | .temperatureCorrection => Sys2Proof.Machine.execTemperatureCorrection s
  | .rootLock => Sys2Proof.Machine.execRootLock s
  | .romStart => Sys2Proof.Machine.execRomStart s
  | .mcSel value => Sys2Proof.Machine.execMcSel value s
  | .spiSel value => Sys2Proof.Machine.execSpiSel value s
  | .muxRelease spi => Sys2Proof.Machine.execMuxRelease spi s
  | .refclkLoss unlock => Sys2Proof.Machine.execRefclkLoss unlock s
  | .holdoverEnd => Sys2Proof.Machine.execHoldoverEnd s
  | .refclkReturn => Sys2Proof.Machine.execRefclkReturn s
  | .clkGatePort port on => Sys2Proof.Machine.execClkGatePort port on s
  | .clkGateCg cg on => Sys2Proof.Machine.execClkGateCg cg on s
  | .quiesceAck unit => Sys2Proof.Machine.execQuiesceAck unit s
  | .gateRefused unit => Sys2Proof.Machine.execGateRefused unit s
  | .gateOpen cg => Sys2Proof.Machine.execGateOpen cg s
  | .clkTimeLoRead => Sys2Proof.Machine.execClkTimeLoRead s
  | .watchdogExpiry => Sys2Proof.Machine.execWatchdogExpiry s
  | .mcRestart => Sys2Proof.Machine.execMcRestart s
  | .glbModeReq mode level auth => Sys2Proof.Machine.execGlbModeReq mode level auth s
  | .modeTransitionStart => Sys2Proof.Machine.execModeTransitionStart s
  | .modeTransitionEnd => Sys2Proof.Machine.execModeTransitionEnd s
  | .wckSwitch => Sys2Proof.Machine.execWckSwitch s
  | .coreVselWait => Sys2Proof.Machine.execCoreVselWait s
  | .firmwareVerified keys svn => Sys2Proof.Machine.execFirmwareVerified keys svn s
  | .sfdpRead ok => Sys2Proof.Machine.execSfdpRead ok s
  | .slotSelect pair => Sys2Proof.Machine.execSlotSelect pair s
  | .imageVerified => Sys2Proof.Machine.execImageVerified s
  | .imageRecordWrite => Sys2Proof.Machine.execImageRecordWrite s
  | .imageRecordMasked => Sys2Proof.Machine.execImageRecordMasked s
  | .imageRecordPoll => Sys2Proof.Machine.execImageRecordPoll s
  | .pollReread => Sys2Proof.Machine.execPollReread s
  | .pollTimeout => Sys2Proof.Machine.execPollTimeout s
  | .sectionCheck => Sys2Proof.Machine.execSectionCheck s
  | .calRecordRead => Sys2Proof.Machine.execCalRecordRead s
  | .repairSwitchIn => Sys2Proof.Machine.execRepairSwitchIn s
  | .recordWrite pair cert => Sys2Proof.Machine.execRecordWrite pair cert s
  | .sectorEraseComplete => Sys2Proof.Machine.execSectorEraseComplete s
  | .pageProgramComplete flips keys svn => Sys2Proof.Machine.execPageProgramComplete flips keys svn s
  | .journalHalfMove => Sys2Proof.Machine.execJournalHalfMove s
  | .updBegin src target len => Sys2Proof.Machine.execUpdBegin src target len s
  | .updEraseComplete => Sys2Proof.Machine.execUpdEraseComplete s
  | .nvmUpdData src word => Sys2Proof.Machine.execNvmUpdData src word s
  | .updFinish src digest => Sys2Proof.Machine.execUpdFinish src digest s
  | .updCancel src => Sys2Proof.Machine.execUpdCancel src s
  | .nvmUpdCancel => Sys2Proof.Machine.execNvmUpdCancel s
  | .fuseProgram word data => Sys2Proof.Machine.execFuseProgram word data s
  | .otpProg data ecc => Sys2Proof.Machine.execOtpProg data ecc s
  | .rereadPass reads => Sys2Proof.Machine.execRereadPass reads s
  | .scanZeroise => Sys2Proof.Machine.execScanZeroise s
  | .jtagInstruction act => Sys2Proof.Machine.execJtagInstruction act s
  | .jtagTrstN => Sys2Proof.Machine.execJtagTrstN s
  | .setdasa static dynamic => Sys2Proof.Machine.execSetdasa static dynamic s
  | .entdaa dynamic => Sys2Proof.Machine.execEntdaa dynamic s
  | .sidebandWrite bytes => Sys2Proof.Machine.execSidebandWrite bytes s
  | .sidebandRead => Sys2Proof.Machine.execSidebandRead s
  | .bringup port => Sys2Proof.Machine.execBringup port s
  | .laneLock port lane got => Sys2Proof.Machine.execLaneLock port lane got s
  | .lockLost port lane => Sys2Proof.Machine.execLockLost port lane s
  | .linkFramesStart start => Sys2Proof.Machine.execLinkFramesStart start s
  | .bringupLate port => Sys2Proof.Machine.execBringupLate port s
  | .lm0 port phys payload comma lm0 loop => Sys2Proof.Machine.execLm0 port phys payload comma lm0 loop s
  | .lm1 port bodies => Sys2Proof.Machine.execLm1 port bodies s
  | .lm2 port bodies => Sys2Proof.Machine.execLm2 port bodies s
  | .laneFlag port lane tap up => Sys2Proof.Machine.execLaneFlag port lane tap up s
  | .spareReady port rx => Sys2Proof.Machine.execSpareReady port rx s
  | .laneFailed port => Sys2Proof.Machine.execLaneFailed port s
  | .laneSwapRx port lane => Sys2Proof.Machine.execLaneSwapRx port lane s
  | .laneSwapTx port lane => Sys2Proof.Machine.execLaneSwapTx port lane s
  | .swapAnnounce port frame => Sys2Proof.Machine.execSwapAnnounce port frame s
  | .laneSwap port transmit => Sys2Proof.Machine.execLaneSwap port transmit s
  | .laneTest port on => Sys2Proof.Machine.execLaneTest port on s
  | .prbsInj port lane => Sys2Proof.Machine.execPrbsInj port lane s
  | .periodicInjection port lane => Sys2Proof.Machine.execPeriodicInjection port lane s
  | .flitTransmit port => Sys2Proof.Machine.execFlitTransmit port s
  | .rekeyKeyReady port => Sys2Proof.Machine.execRekeyKeyReady port s
  | .dataFlit port rx => Sys2Proof.Machine.execDataFlit port rx s
  | .idleFlit port rx => Sys2Proof.Machine.execIdleFlit port rx s
  | .nakFlit port rx => Sys2Proof.Machine.execNakFlit port rx s
  | .initFlit port rx => Sys2Proof.Machine.execInitFlit port rx s
  | .holdFlit port rx => Sys2Proof.Machine.execHoldFlit port rx s
  | .tagFlit port rx => Sys2Proof.Machine.execTagFlit port rx s
  | .nakResend port => Sys2Proof.Machine.execNakResend port s
  | .replayTimeout port => Sys2Proof.Machine.execReplayTimeout port s
  | .replayAgeExpiry port => Sys2Proof.Machine.execReplayAgeExpiry port s
  | .rd64 port head => Sys2Proof.Machine.execRd64 port head s
  | .rd128 port head => Sys2Proof.Machine.execRd128 port head s
  | .rd256 port head => Sys2Proof.Machine.execRd256 port head s
  | .wr64 port head data => Sys2Proof.Machine.execWr64 port head data s
  | .wr128 port head data => Sys2Proof.Machine.execWr128 port head data s
  | .wr256 port head data => Sys2Proof.Machine.execWr256 port head data s
  | .wrp port head data => Sys2Proof.Machine.execWrp port head data s
  | .atomFadd port head data => Sys2Proof.Machine.execAtomFadd port head data s
  | .atomCas port head data => Sys2Proof.Machine.execAtomCas port head data s
  | .atomSwap port head data => Sys2Proof.Machine.execAtomSwap port head data s
  | .atomMin port head data => Sys2Proof.Machine.execAtomMin port head data s
  | .atomMax port head data => Sys2Proof.Machine.execAtomMax port head data s
  | .atomAnd port head data => Sys2Proof.Machine.execAtomAnd port head data s
  | .atomOr port head data => Sys2Proof.Machine.execAtomOr port head data s
  | .orderedStart txn => Sys2Proof.Machine.execOrderedStart txn s
  | .fenceReq port head => Sys2Proof.Machine.execFenceReq port head s
  | .fenceComplete txn => Sys2Proof.Machine.execFenceComplete txn s
  | .snapReq port head => Sys2Proof.Machine.execSnapReq port head s
  | .mgmtRd port head => Sys2Proof.Machine.execMgmtRd port head s
  | .mgmtWr port head data => Sys2Proof.Machine.execMgmtWr port head data s
  | .authReq port head data => Sys2Proof.Machine.execAuthReq port head data s
  | .authPersistWrite => Sys2Proof.Machine.execAuthPersistWrite s
  | .rgnCommit index => Sys2Proof.Machine.execRgnCommit index s
  | .commitDrainEnd => Sys2Proof.Machine.execCommitDrainEnd s
  | .commitTimeout => Sys2Proof.Machine.execCommitTimeout s
  | .rgnFenceClear region => Sys2Proof.Machine.execRgnFenceClear region s
  | .readQueueEntry pc ini => Sys2Proof.Machine.execReadQueueEntry pc ini s
  | .writeQueueEntry pc ini => Sys2Proof.Machine.execWriteQueueEntry pc ini s
  | .merge pc ini => Sys2Proof.Machine.execMerge pc ini s
  | .commandIssue pc ready => Sys2Proof.Machine.execCommandIssue pc ready s
  | .dramReadData pc flips tagErr edges => Sys2Proof.Machine.execDramReadData pc flips tagErr edges s
  | .writeBurstComplete pc => Sys2Proof.Machine.execWriteBurstComplete pc s
  | .pageTimerExpiry pc bank => Sys2Proof.Machine.execPageTimerExpiry pc bank s
  | .refresh pc bank early => Sys2Proof.Machine.execRefresh pc bank early s
  | .actEpoch pc bank => Sys2Proof.Machine.execActEpoch pc bank s
  | .targetedRefresh pc bank => Sys2Proof.Machine.execTargetedRefresh pc bank s
  | .selfRefreshEntry pc => Sys2Proof.Machine.execSelfRefreshEntry pc s
  | .selfRefreshExit pc => Sys2Proof.Machine.execSelfRefreshExit pc s
  | .schedMismatch cg parityA parityB => Sys2Proof.Machine.execSchedMismatch cg parityA parityB s
  | .caRetry pc bank => Sys2Proof.Machine.execCaRetry pc bank s
  | .fenceDrain cg => Sys2Proof.Machine.execFenceDrain cg s
  | .cgFenceClear cg => Sys2Proof.Machine.execCgFenceClear cg s
  | .eccInjGo value => Sys2Proof.Machine.execEccInjGo value s
  | .scrubRead pc due flips => Sys2Proof.Machine.execScrubRead pc due flips s
  | .scrubLate => Sys2Proof.Machine.execScrubLate s
  | .promptScrub cg flips => Sys2Proof.Machine.execPromptScrub cg flips s
  | .pinWindow pc => Sys2Proof.Machine.execPinWindow pc s
  | .repRemapRow entry => Sys2Proof.Machine.execRepRemapRow entry s
  | .repRetireSpare entry => Sys2Proof.Machine.execRepRetireSpare entry s
  | .repReadEntry entry => Sys2Proof.Machine.execRepReadEntry entry s
  | .remapRead cg flips => Sys2Proof.Machine.execRemapRead cg flips s
  | .remapWrite cg => Sys2Proof.Machine.execRemapWrite cg s
  | .cremaRead bank ini flips => Sys2Proof.Machine.execCremaRead bank ini flips s
  | .cremaWrite bank ini => Sys2Proof.Machine.execCremaWrite bank ini s
  | .cremaRmw bank ini flips => Sys2Proof.Machine.execCremaRmw bank ini flips s
  | .patrolStep bank flips => Sys2Proof.Machine.execPatrolStep bank flips s
  | .cremaPatrolLate bank => Sys2Proof.Machine.execCremaPatrolLate bank s
  | .ceBankWindow bank => Sys2Proof.Machine.execCeBankWindow bank s
  | .cremaInit => Sys2Proof.Machine.execCremaInit s
  | .crmInjGo value => Sys2Proof.Machine.execCrmInjGo value s
  | .crmFenceClear bank => Sys2Proof.Machine.execCrmFenceClear bank s
  | .enq port head data => Sys2Proof.Machine.execEnq port head data s
  | .deq port head => Sys2Proof.Machine.execDeq port head s
  | .cellWordRead txn => Sys2Proof.Machine.execCellWordRead txn s
  | .linkRead qid => Sys2Proof.Machine.execLinkRead qid s
  | .pageFree pool page => Sys2Proof.Machine.execPageFree pool page s
  | .refill pool => Sys2Proof.Machine.execRefill pool s
  | .spill pool => Sys2Proof.Machine.execSpill pool s
  | .qstat port head => Sys2Proof.Machine.execQstat port head s
  | .qEnable port head => Sys2Proof.Machine.execQEnable port head s
  | .qDisable port head => Sys2Proof.Machine.execQDisable port head s
  | .qFlush port head => Sys2Proof.Machine.execQFlush port head s
  | .qSetLimit port head => Sys2Proof.Machine.execQSetLimit port head s
  | .qSetProt port head => Sys2Proof.Machine.execQSetProt port head s
  | .queDrainTimeout qid => Sys2Proof.Machine.execQueDrainTimeout qid s
  | .walkRead qid => Sys2Proof.Machine.execWalkRead qid s
  | .reclaim => Sys2Proof.Machine.execReclaim s
  | .tblProbe port head data => Sys2Proof.Machine.execTblProbe port head data s
  | .tblInsert port head data => Sys2Proof.Machine.execTblInsert port head data s
  | .displacementMove txn => Sys2Proof.Machine.execDisplacementMove txn s
  | .tblDelete port head data => Sys2Proof.Machine.execTblDelete port head data s
  | .lockGrant txn => Sys2Proof.Machine.execLockGrant txn s
  | .tblLockStall txn => Sys2Proof.Machine.execTblLockStall txn s
  | .tblDefine => Sys2Proof.Machine.execTblDefine s
  | .tblRetire => Sys2Proof.Machine.execTblRetire s
  | .tblMove => Sys2Proof.Machine.execTblMove s
  | .bucketCopy => Sys2Proof.Machine.execBucketCopy s
  | .tableEmptying tid => Sys2Proof.Machine.execTableEmptying tid s
  | .cupd port head => Sys2Proof.Machine.execCupd port head s
  | .counterFlush csid index => Sys2Proof.Machine.execCounterFlush csid index s
  | .cread port head => Sys2Proof.Machine.execCread port head s
  | .cclr port head => Sys2Proof.Machine.execCclr port head s
  | .crebuild port head => Sys2Proof.Machine.execCrebuild port head s
  | .rebuildScanEnd => Sys2Proof.Machine.execRebuildScanEnd s
  | .checkpointSweep => Sys2Proof.Machine.execCheckpointSweep s
  | .slice => Sys2Proof.Machine.execSlice s
  | .windowStart label => Sys2Proof.Machine.execWindowStart label s
  | .shareRelease => Sys2Proof.Machine.execShareRelease s
  | .urgencyRise txn => Sys2Proof.Machine.execUrgencyRise txn s
  | .shrinkRecompute => Sys2Proof.Machine.execShrinkRecompute s
  | .labelCommit => Sys2Proof.Machine.execLabelCommit s
  | .kldLoad slot => Sys2Proof.Machine.execKldLoad slot s
  | .kldClear slot => Sys2Proof.Machine.execKldClear slot s
  | .keyLoadDrainEnd => Sys2Proof.Machine.execKeyLoadDrainEnd s
  | .keyLoadTimeout => Sys2Proof.Machine.execKeyLoadTimeout s
  | .mkDecrypt => Sys2Proof.Machine.execMkDecrypt s
  | .attestationRequest => Sys2Proof.Machine.execAttestationRequest s
  | .reportFormed => Sys2Proof.Machine.execReportFormed s
  | .tagCacheEviction line err => Sys2Proof.Machine.execTagCacheEviction line err s
  | .helloSend => Sys2Proof.Machine.execHelloSend s
  | .helloRecv role mode single current => Sys2Proof.Machine.execHelloRecv role mode single current s
  | .hbSend => Sys2Proof.Machine.execHbSend s
  | .hbRecv role mode single current => Sys2Proof.Machine.execHbRecv role mode single current s
  | .hbTimeout => Sys2Proof.Machine.execHbTimeout s
  | .answerTimeout => Sys2Proof.Machine.execAnswerTimeout s
  | .leaveRecv mode => Sys2Proof.Machine.execLeaveRecv mode s
  | .mwrRecv xid line keyed poison copy urg label entry data => Sys2Proof.Machine.execMwrRecv xid line keyed poison copy urg label entry data s
  | .mcmtRecv xid status => Sys2Proof.Machine.execMcmtRecv xid status s
  | .mexecRecv xid op head data => Sys2Proof.Machine.execMexecRecv xid op head data s
  | .mresRecv xid status rflags pmask result data => Sys2Proof.Machine.execMresRecv xid status rflags pmask result data s
  | .cdeltaRecv csid index dp db => Sys2Proof.Machine.execCdeltaRecv csid index dp db s
  | .csetRecv csid index lost epoch pkts bytes => Sys2Proof.Machine.execCsetRecv csid index lost epoch pkts bytes s
  | .cmarkRecv time => Sys2Proof.Machine.execCmarkRecv time s
  | .qckptRecv qid state pool prot limit cells pkts bytes => Sys2Proof.Machine.execQckptRecv qid state pool prot limit cells pkts bytes s
  | .roleRecv role ack => Sys2Proof.Machine.execRoleRecv role ack s
  | .rsyncRecv code region => Sys2Proof.Machine.execRsyncRecv code region s
  | .resyncCopyRead => Sys2Proof.Machine.execResyncCopyRead s
  | .roleChange role => Sys2Proof.Machine.execRoleChange role s
  | .roleChangeTimeout => Sys2Proof.Machine.execRoleChangeTimeout s
  | .pairResync self => Sys2Proof.Machine.execPairResync self s
  | .sensorSample sensor code => Sys2Proof.Machine.execSensorSample sensor code s
  | .regionVoltageSample region mv => Sys2Proof.Machine.execRegionVoltageSample region mv s
  | .spreadClear region => Sys2Proof.Machine.execSpreadClear region s
  | .rearm sensor => Sys2Proof.Machine.execRearm sensor s
  | .coreDieCompare codes => Sys2Proof.Machine.execCoreDieCompare codes s
  | .deepTripBSample code => Sys2Proof.Machine.execDeepTripBSample code s
  | .drainComplete => Sys2Proof.Machine.execDrainComplete s
  | .drainTimeout => Sys2Proof.Machine.execDrainTimeout s
  | .sleepEntry => Sys2Proof.Machine.execSleepEntry s
  | .pointOfNoReturn => Sys2Proof.Machine.execPointOfNoReturn s
  | .wakePin pulse => Sys2Proof.Machine.execWakePin pulse s
  | .activity pair => Sys2Proof.Machine.execActivity pair s
  | .pwrTimer => Sys2Proof.Machine.execPwrTimer s
  | .pwrWakeCmd => Sys2Proof.Machine.execPwrWakeCmd s
  | .wakeLatch => Sys2Proof.Machine.execWakeLatch s
  | .wakeRestore badBlock => Sys2Proof.Machine.execWakeRestore badBlock s
  | .deepWake => Sys2Proof.Machine.execDeepWake s
  | .calSet cg level pc lane value => Sys2Proof.Machine.execCalSet cg level pc lane value s
  | .calSteep cg level pc lane value => Sys2Proof.Machine.execCalSteep cg level pc lane value s
  | .calTsvSwap cg level pc lane value => Sys2Proof.Machine.execCalTsvSwap cg level pc lane value s
  | .calRead cg level pc lane => Sys2Proof.Machine.execCalRead cg level pc lane s
  | .steepWindow pc bank obs => Sys2Proof.Machine.execSteepWindow pc bank obs s
  | .laneRetrain => Sys2Proof.Machine.execLaneRetrain s
  | .faultMessage source => Sys2Proof.Machine.execFaultMessage source s
  | .eventMessage port => Sys2Proof.Machine.execEventMessage port s
  | .graceExpiry slot => Sys2Proof.Machine.execGraceExpiry slot s
  | .acknowledge source seq => Sys2Proof.Machine.execAcknowledge source seq s
  | .testMessage source kind sev addr => Sys2Proof.Machine.execTestMessage source kind sev addr s
  | .fltSbPop => Sys2Proof.Machine.execFltSbPop s
  | .selftestComplete ecc crema crypto array first second => Sys2Proof.Machine.execSelftestComplete ecc crema crypto array first second s
  | .rowTest pc bank row alg => Sys2Proof.Machine.execRowTest pc bank row alg s
  | .spareTest pc bank spare alg => Sys2Proof.Machine.execSpareTest pc bank spare alg s
  | .cremaBank bank alg => Sys2Proof.Machine.execCremaBank bank alg s
  | .fullCg pc alg => Sys2Proof.Machine.execFullCg pc alg s
  | .fullCrema bank alg => Sys2Proof.Machine.execFullCrema bank alg s
  | .bistElement index fails => Sys2Proof.Machine.execBistElement index fails s
  | .retentionPause index => Sys2Proof.Machine.execRetentionPause index s
  | .bistTimeout index => Sys2Proof.Machine.execBistTimeout index s
  | .sparePeriod => Sys2Proof.Machine.execSparePeriod s
  | .snapPin => Sys2Proof.Machine.execSnapPin s
  | .snapUnlock => Sys2Proof.Machine.execSnapUnlock s
  | .snapRelease => Sys2Proof.Machine.execSnapRelease s
  | .levelSample m => Sys2Proof.Machine.execLevelSample m s
  | .monClr m => Sys2Proof.Machine.execMonClr m s
  | .obsMonCfgWrite m base value => Sys2Proof.Machine.execObsMonCfgWrite m base value s
  | .calibrationComplete trained => Sys2Proof.Machine.execCalibrationComplete trained s
  | .sensorConversionTimeout sensor => Sys2Proof.Machine.execSensorConversionTimeout sensor s
  | .railInRange rail => Sys2Proof.Machine.execRailInRange rail s
  | .driftWindow pc drift => Sys2Proof.Machine.execDriftWindow pc drift s
  | .throttleLimitEnd zone => Sys2Proof.Machine.execThrottleLimitEnd zone s
  | .deficitLimitEnd => Sys2Proof.Machine.execDeficitLimitEnd s

end Sys2Proof.Machine
end

