-- ==== Sys2Proof/Machine/Step.lean ====
section
/-! DEFINITION. One step: the command at the front of the queue runs on the state with the rest of the queue; with no
command waiting, device time goes on by one tick. -/

namespace Sys2Proof.Machine

/-- One tick of device time (R102); while it runs on the oscillator the ticks of the uncertainty bound count too (R104). -/
def State.timeTick (s : State) : State :=
  { s with clk := { s.clk with
    time := (s.clk.time + 1) % 2 ^ 64
    estTicks := if s.on Fd.CLK_STAT_TIME_EST then s.clk.estTicks + 1 else s.clk.estTicks } }

/-- A CLK_SRC.SEL that a REFCLK loss forced and a write of the same cycle overrode is asserted again while the root is not
ready (R25, R96). -/
def State.srcAssert (s : State) : State :=
  if s.cyc.srcAgain ∧ !s.on Fd.CLK_STAT_ROOT_READY then (s.wr Fd.CLK_SRC_MC_SEL 1).wr Fd.CLK_SRC_SPI_SEL 1 else s

/-- The tick of an idle step (assumption 1): device time goes on, a new arbitration cycle of the register file begins
(R24), a management request that a hold has released runs, and house firmware goes on with its periodic tests (R715). A
part held in reset does none of it. -/
def State.tick (s : State) : State :=
  if s.inReset then s else (((s.timeTick.srcAssert).newCycle).runReady).houseAll

def step (s : State) : Host.Outcome State Fault Refusal :=
  match s.pending with
  | c :: rest => exec c { s with pending := rest }
  | [] => .next s.tick

/-- The state with the command that a table word spells at the front of its queue; unchanged where it spells none. -/
def State.withFetchWord (s : State) (nbits w : Nat) : State :=
  match decodeTableWord nbits w with
  | some c => { s with pending := c :: s.pending }
  | none => s

end Sys2Proof.Machine
end

