-- ==== Sys2Proof/Safety.lean ====
section
/-! DEFINITION. What a safe step and a sound state are, in the words statements use. -/

namespace Sys2Proof

open Machine

/-- A step goes on: it answers a next state, neither a fault nor a refusal. -/
def Safe (o : Host.Outcome State Fault Refusal) : Prop := ∃ t, o = .next t

/-- The sparse tables of the part are in canonical form: registers, DRAM, Crema, flash and fuses. -/
def Machine.State.wf (s : State) : Bool :=
  Tab.wf resetWord s.regs && Memory.wf s.dram && Tab.wf cZero s.crm.store &&
    Tab.wf flashByte s.nvm.flash && Tab.wf otpBlank s.otp.words

/-- A mode code that R36 defines. -/
def Machine.State.modeOk (s : State) : Bool := decide (s.mode ≤ mLOCKDOWN)

/-- The data request that a command spells: port, opcode, head and payload (R263, R436). -/
def Instr.asRequest : Instr → Option (Nat × Nat × ReqHead × List Byte)
  | .rd64 p h => some (p, opRD64, h, [])
  | .rd128 p h => some (p, opRD128, h, [])
  | .rd256 p h => some (p, opRD256, h, [])
  | .wr64 p h d => some (p, opWR64, h, d)
  | .wr128 p h d => some (p, opWR128, h, d)
  | .wr256 p h d => some (p, opWR256, h, d)
  | .wrp p h d => some (p, opWRP, h, d)
  | .atomFadd p h d => some (p, opATOM, headSpec h 3 0 0, d)
  | .atomCas p h d => some (p, opATOM, headSpec h 3 0 1, d)
  | .atomSwap p h d => some (p, opATOM, headSpec h 3 0 2, d)
  | .atomMin p h d => some (p, opATOM, headSpec h 3 0 3, d)
  | .atomMax p h d => some (p, opATOM, headSpec h 3 0 4, d)
  | .atomAnd p h d => some (p, opATOM, headSpec h 3 0 5, d)
  | .atomOr p h d => some (p, opATOM, headSpec h 3 0 6, d)
  | .tblProbe p h d => some (p, opPROBE, h, d)
  | .tblInsert p h d => some (p, opINSERT, h, d)
  | .tblDelete p h d => some (p, opDELETE, h, d)
  | .enq p h d => some (p, opENQ, h, d)
  | .deq p h => some (p, opDEQ, h, [])
  | .qstat p h => some (p, opQSTAT, h, [])
  | .qEnable p h => some (p, opQCTL, headSpec h 18 16 0, [])
  | .qDisable p h => some (p, opQCTL, headSpec h 18 16 1, [])
  | .qFlush p h => some (p, opQCTL, headSpec h 18 16 2, [])
  | .qSetLimit p h => some (p, opQCTL, headSpec h 18 16 3, [])
  | .qSetProt p h => some (p, opQCTL, headSpec h 18 16 4, [])
  | .cupd p h => some (p, opCUPD, h, [])
  | .cread p h => some (p, opCREAD, h, [])
  | .cclr p h => some (p, opCCLR, h, [])
  | .crebuild p h => some (p, opCREBUILD, h, [])
  | .fenceReq p h => some (p, opFENCE, h, [])
  | .snapReq p h => some (p, opSNAP, h, [])
  | _ => none

namespace Machine

/-- A request as its decoder first holds it (R242). -/
def State.asTxn (s : State) (port op : Nat) (h : ReqHead) (payload : List Byte) (label : Nat) : Txn :=
  { id := s.req.nextId, port, op, head := h, payload, stage := .running, label }

/-- The state once a message of VC `vc` has left its receive buffer (R237) and its request is outstanding. -/
def State.tookReq (s : State) (vc port op : Nat) (h : ReqHead) (payload : List Byte) (label : Nat) : State :=
  let u := s.freeSlots port vc (1 + reqSlots op h)
  { u with req := { u.req with txns := u.req.txns ++ [s.asTxn port op h payload label], nextId := u.req.nextId + 1 } }

/-- The port's decoder is free and hears the message (R49, R101, R526). -/
def State.decodes (s : State) (port : Nat) : Bool :=
  decide (port < 12) && !s.deaf && !s.portGated port && !s.blocked port

/-- Steps 1 to 3 of R270 pass. -/
def State.opens (s : State) (port op : Nat) (h : ReqHead) : Bool :=
  s.decodes port && decide (s.outstanding port < 2048) && !malformed op h && !isMgmt op && s.dataMode.isNone

/-- Nothing holds the request before step 6 (R266, R283, R306, R544, R594). -/
def State.unheld (s : State) (t : Txn) : Bool :=
  !s.fenced t && !s.orderWaits t && !s.commitHolds t && !s.keyHolds t && !s.roleHolds t

/-- The request once it has passed step 8, with its label and charge (R267, R514). -/
def State.passedTxn (s : State) (t : Txn) (label : Nat) : Txn :=
  { t with
    label
    passed := true
    charge := (s.cardCharge t.op t.head t.payload).1
    t8 := s.clk.time
    urg := if bit t.head.flags 3 then 1 else 0 }

/-- Every field of a request head is in its field's range (R265). -/
def headFits (op : Nat) (h : ReqHead) : Bool :=
  decide (op < 256) && decide (h.reqId < 4096) && decide (h.tag < 4096) && decide (h.label < 256) &&
    decide (h.addr < 2 ^ 40) && decide (h.lenArg < 65536) && decide (h.flags < 256) && decide (h.spec < 2 ^ 24)

/-- Every field of a pair-link message is in its field's range, and its data fill its slots (R577). -/
def PairMsg.fits : PairMsg → Bool
  | .mwr x line keyed _ _ urg label entry data => decide (x < 65536) && decide (line < 2 ^ 34) && decide (urg < 4) &&
      decide (label < 256) && decide (entry.length = if keyed then 9 else 0) && decide (data.length = 64)
  | .mexec x op h payload => decide (x < 65536) && headFits op h && decide (payload.length = 16 * reqSlots op h)
  | .mcmt x status => decide (x < 65536) && decide (status < 16)
  | .mres x r => decide (x < 65536) && decide (r.port = 12) && decide (r.op < 256) && decide (r.reqId < 4096) &&
      decide (r.tag < 4096) && decide (r.status < 16) && decide (r.rflags < 256) && decide (r.pmask < 16) &&
      decide (r.result < 2 ^ 64) && decide (r.data.length % 16 = 0) && decide (r.data.length < 4096)
  | .cdelta c i p b => decide (c < 64) && decide (i < 2 ^ 29) && decide (p < 65536) && decide (b < 2 ^ 32)
  | .cset c i _ epoch pkts bytes => decide (c < 64) && decide (i < 2 ^ 29) && decide (epoch < 2 ^ 32) &&
      decide (pkts < 2 ^ 64) && decide (bytes < 2 ^ 64)
  | .cmark t => decide (t < 2 ^ 64)
  | .qckpt q st pool _ limit cells pkts bytes => decide (q < 65536) && decide (st < 4) && decide (pool < 16) &&
      decide (limit < 2 ^ 28) && decide (cells < 2 ^ 32) && decide (pkts < 2 ^ 32) && decide (bytes < 2 ^ 64)
  | .hb r mode _ current => decide (r < 4) && decide (mode < 16) && decide (current < 2 ^ 64)
  | .hello r mode _ current => decide (r < 4) && decide (mode < 16) && decide (current < 2 ^ 64)
  | .leave mode => decide (mode < 16)
  | .role r _ => decide (r < 4)
  | .rsync code region => decide (1 ≤ code) && decide (code ≤ 4) && decide (region < 64)

end Machine

end Sys2Proof
end

