-- ==== Sys2Proof/Certificates/Slice0/Obligations.lean ====
section
/-! DEFINITION. The statements for the provers. -/

open Sys2Proof Sys2Proof.Machine

/-- For every command and state, a step of a state whose queue starts with the command is the command's exec on the state with the rest of the queue. -/
def Obligations.StepRunsFrontCommand : Prop :=
  ∀ (c : Instr) (rest : List Instr) (s : State), s.pending = c :: rest →
    step s = exec c { s with pending := rest }

/-- With no command waiting, a step of a part that is not held in reset is one tick: device time goes on by one modulo 2^64, the uncertainty bound's ticks by one while TIME_EST is 1, and a new arbitration cycle begins, its reads seeing the registers as they now stand. That is all while no management request has been released by a hold, no periodic test of house firmware runs and no CLK_SRC.SEL is due to be asserted again; a SEL due is asserted while the root is not ready. In reset a step changes nothing. That a step on an empty queue is one tick is the model's choice (log entries 1 and 67). -/
def Obligations.IdleStepCountsDeviceTime : Prop :=
  ∀ s : State, s.pending = [] →
    (s.inReset = false → s.bst.house = [] → (∀ t ∈ s.req.txns, isMgmt t.op = true → t.stage ≠ .running) →
      (s.cyc.srcAgain = false ∨ s.on Fd.CLK_STAT_ROOT_READY = true → s.on Fd.CLK_STAT_TIME_EST = false →
        step s = .next { s with
          clk := { s.clk with time := (s.clk.time + 1) % 2 ^ 64 }
          cyc := { base := s.regs, writes := [], srcAgain := false } }) ∧
      (s.cyc.srcAgain = false ∨ s.on Fd.CLK_STAT_ROOT_READY = true → s.on Fd.CLK_STAT_TIME_EST = true →
        step s = .next { s with
          clk := { s.clk with time := (s.clk.time + 1) % 2 ^ 64, estTicks := s.clk.estTicks + 1 }
          cyc := { base := s.regs, writes := [], srcAgain := false } }) ∧
      (s.cyc.srcAgain = true → s.on Fd.CLK_STAT_ROOT_READY = false → s.on Fd.CLK_STAT_TIME_EST = true →
        let u := (s.wr Fd.CLK_SRC_MC_SEL 1).wr Fd.CLK_SRC_SPI_SEL 1
        step s = .next { u with
          clk := { s.clk with time := (s.clk.time + 1) % 2 ^ 64, estTicks := s.clk.estTicks + 1 }
          cyc := { base := u.regs, writes := [], srcAgain := false } })) ∧
    (s.inReset = true → step s = .next s)

/-- After reset the mode is BOOT at level P3 with TRIPB and BUSY 0, every register but GLB_ID, OTP_LC and OTP_TRIPS reads the word of its table's reset column, device time is 0, no request, message, fence or command waits, DRAM lists no byte and the sparse tables are canonical. (That GLB_ID, OTP_LC and OTP_TRIPS hold an AMY6416-N B0's identity and what blank fuses give is the model's choice, log entry 5; the statement says nothing of them.) -/
def Obligations.ResetStateHoldsResetValues : Prop :=
  State.reset.mode = mBOOT ∧ State.reset.level = 3 ∧ State.reset.tripB = false ∧
  State.reset.on Fd.GLB_MODE_BUSY = false ∧
  (∀ a, a ≠ Ra.GLB_ID → a ≠ Ra.OTP_LC → a ≠ Ra.OTP_TRIPS → State.reset.reg a = resetWord a) ∧
  State.reset.inReset = false ∧ State.reset.clk.time = 0 ∧ State.reset.req.txns = [] ∧ State.reset.flt.outbox = [] ∧
  State.reset.pending = [] ∧ State.reset.dram = [] ∧ State.reset.anyFence = false ∧ State.reset.wf = true

/-- While PWR_OK is low, a release waits, or RESET_N is low outside LOCKDOWN by Trip B, every command but RESET_N_LOW, RESET_N_RELEASE, PWR_OK_RISE and PWR_OK_FALL leaves the whole state as it is. -/
def Obligations.HeldInResetNothingActs : Prop :=
  ∀ (c : Instr) (s : State), s.inReset = true → (∀ p, c ≠ .resetNLow p) → (∀ r k, c ≠ .resetNRelease r k) →
    c ≠ .pwrOkRise → c ≠ .pwrOkFall → exec c s = .next s

/-- RESET_N_LOW of 10 µs or more, or held low, with PWR_OK high and outside LOCKDOWN by Trip B resets the whole part: it is held in reset, in BOOT, every register but GLB_ID, SEC_AUTH_STAT and the snapshot's reads its reset value, DRAM is not preserved, no request stands, flash holds what a page in progress leaves in it, LAST, P and the identity stay. A pulse shorter than 100 ns changes nothing; in LOCKDOWN by Trip B a low level only shows on the pin. RESET_N_RELEASE before PWR_OK waits; with PWR_OK high and the pin low it samples the straps, forgets the dynamic address, draws the session values, reads the fuses and begins the register file's first cycle; in LOCKDOWN by Trip B it starts no boot. PWR_OK_RISE restores LAST and P from flash. PWR_OK_FALL resets the whole part and holds it, THERMTRIP_N released (the model's reading, log entry 57); flash stays but for a page in progress, which is finished, or left partial where VDD_IO falls early (which of the two, a free value, log entry 11). -/
def Obligations.ResetPinCommands : Prop :=
  (∀ (s : State) (p : Option Nat), s.pins.pwrOk = true → s.tripB = false → (∀ n, p = some n → 10000 ≤ n) →
    ∃ t, exec (.resetNLow p) s = .next t ∧ t.inReset = true ∧ t.pins.resetN = false ∧ t.mode = mBOOT ∧
      (∀ a, a ∉ [Ra.GLB_ID, Ra.SEC_AUTH_STAT, Ra.OBS_SNAP_STAT, Ra.OBS_SNAP_TIME_LO, Ra.OBS_SNAP_TIME_HI] →
        t.reg a = resetWord a) ∧
      t.dram = [] ∧ t.req.txns = [] ∧ t.sec.last = s.sec.last ∧ t.sec.p = s.sec.p ∧
      t.nvm.flash = (s.finishPage false).nvm.flash ∧ t.part = s.part ∧ t.pending = s.pending) ∧
  (∀ (s : State) (n : Nat), n < 100 → exec (.resetNLow (some n)) s = .next s) ∧
  (∀ s : State, s.pins.pwrOk = true → s.tripB = true → exec (.resetNLow none) s =
    .next { s with pins := { s.pins with resetN := false, relPending := false } }) ∧
  (∀ (s : State) (reads : List OtpRead) (k : Nat), s.pins.pwrOk = false → exec (.resetNRelease reads k) s =
    .next { s with pins := { s.pins with resetN := true, relPending := true } }) ∧
  (∀ (s : State) (reads : List OtpRead) (k : Nat), s.pins.pwrOk = true → s.tripB = true →
    exec (.resetNRelease reads k) s = .next { s with pins := { s.pins with resetN := true } }) ∧
  (∀ (s : State) (reads : List OtpRead) (k : Nat), s.pins.pwrOk = true → s.tripB = false → s.pins.resetN = false →
    exec (.resetNRelease reads k) s = .next ((((List.range 12).foldl (fun (s : State) n =>
      (s.drawn.setReg (Ra.SEC_LSESS_LO n) (BitVec.ofNat 32 s.free)).setReg (Ra.SEC_LSESS_HI n)
        (BitVec.ofNat 32 (s.free / 2 ^ 32)))
      { s with pins := { s.pins with
        resetN := true, relPending := false, lanesIdle := false, sbAddr := k % 4, sbDyn := none } }).otpBoot reads).newCycle)) ∧
  (∀ s : State, s.pins.pwrOk = false → s.flashP = none → exec .pwrOkRise s =
    .next ({ s with pins := { s.pins with pwrOk := true }, sec := { s.sec with p := 0, last := 0 } }.wr
      Fd.SEC_AUTH_STAT_RESTORED 1)) ∧
  (∀ (s : State) (p : Nat), s.pins.pwrOk = false → s.flashP = some p → exec .pwrOkRise s =
    .next ({ s with
      pins := { s.pins with pwrOk := true }
      sec := { s.sec with p := p, last := p + 65536 }
      nvm := { s.nvm with persist := leBytes 8 (p + 65536) ++ List.replicate 120 0, owed := [4] } }.wr
        Fd.SEC_AUTH_STAT_RESTORED 1)) ∧
  (∀ s : State, s.pins.pwrOk = true → ∃ t, exec .pwrOkFall s = .next t ∧ t.inReset = true ∧
    t.pins.pwrOk = false ∧ t.pins.resetN = s.pins.resetN ∧ t.mode = mBOOT ∧ t.tripB = false ∧ t.pins.thermtripLow = false ∧ t.dram = [] ∧
    t.req.txns = [] ∧ t.obs.snap = none ∧ t.sec = Sec.reset ∧
    (s.pageNow = none → t.nvm.flash = s.nvm.flash) ∧
    (s.pageNow ≠ none → ∃ early, t.nvm.flash = (s.drawn.dropSnap.finishPage early).nvm.flash) ∧ t.part = s.part)

/-- On a monitored rail a voltage outside the recommended range of R61 makes RAIL_WARN set the rail's OUT and WARN bits and raise source 12 with the rail in [2:0] and the millivolts in [15:4]; one beyond a fail limit makes RAIL_FAIL set OUT and FAIL and raise source 13. A voltage inside changes nothing. VDD_AON's range is 760 to 840 mV with limits 720 and 880, VDD_CORE's at CORE_VSEL 0 776 to 824 mV with limits 752 and 848. VDD_AON is always monitored, a gated rail only while its enable is high and 50 µs have passed since it rose. RAIL_IN_RANGE clears OUT. (That RAIL_FAIL sets OUT too is the model's reading, log entry 12.) -/
def Obligations.RailCommands : Prop :=
  ∀ (s : State) (rail mv : Nat), s.inReset = false →
    (s.railOn rail = true → s.railOut rail mv = true → exec (.railWarn rail mv) s =
      .next (((s.wrBit Fd.PWR_RAIL_STAT_OUT rail true).wrBit Fd.PWR_RAIL_STAT_WARN rail true).raise 12 1
        (rail + mv % 4096 * 16))) ∧
    (s.railOn rail = true → s.railBad rail mv = true → exec (.railFail rail mv) s =
      .next (((s.wrBit Fd.PWR_RAIL_STAT_OUT rail true).wrBit Fd.PWR_RAIL_STAT_FAIL rail true).raise 13 1
        (rail + mv % 4096 * 16))) ∧
    (s.railOut rail mv = false → exec (.railWarn rail mv) s = .next s) ∧
    (s.railBad rail mv = false → exec (.railFail rail mv) s = .next s) ∧
    (rail < 7 → exec (.railInRange rail) s = .next (s.wrBit Fd.PWR_RAIL_STAT_OUT rail false)) ∧
    (s.railOut 0 mv = true ↔ mv < 760 ∨ 840 < mv) ∧ (s.railBad 0 mv = true ↔ mv < 720 ∨ 880 < mv) ∧
    (s.pins.coreVsel = 0 → ((s.railOut 2 mv = true ↔ mv < 776 ∨ 824 < mv) ∧
      (s.railBad 2 mv = true ↔ mv < 752 ∨ 848 < mv))) ∧
    s.railOn 0 = true ∧
    (∀ t, s.pwr.coreRose = some t → t ≤ s.clk.time → s.clk.time < 2 ^ 64 → 2 ≤ rail → rail < 5 →
      (s.railOn rail = true ↔ s.pins.pwrEnCore = true ∧ t + 8750 ≤ s.clk.time)) ∧
    (2 ≤ rail → rail < 5 → s.pins.pwrEnCore = false →
      exec (.railWarn rail mv) s = .next s ∧ exec (.railFail rail mv) s = .next s)

/-- OSC_START runs the oscillator, and the count is an estimate from then while the time base runs on it. A compare window of a running oscillator judges REFCLK by its count's error against 11,200, names the first reference available for the trim (the root; else PORT0's commas, else PAIR's, at RATE 0; else none), raising source 6 when it changes, writes the error of that reference's count (11,088 expected of commas) to CLK_OSC_ERR, ends the temperature correction while there is a reference, and trims one step against an error of 3 counts or more once OSC_READY is 1. Judging: a window within 224 counts clears OSC_UNJUDGED, and the second in a row sets REFCLK_OK and OSC_READY; the 16th without an edge before OSC_READY sets OSC_READY and OSC_UNJUDGED; the 16th in a row outside before OSC_READY, without the root, raises OSC_FAIL; one outside with the root clears OSC_READY and raises it. Without a trim reference TEMPERATURE_CORRECTION takes the temperature nearest Samovar: inside the table's span it corrects by linear interpolation between the entries, outside it takes a free value; with a reference it changes nothing. (That OSC_UNJUDGED clears at the first window that agrees is the model's choice, log entry 52.) -/
def Obligations.OscillatorWindows : Prop :=
  ∀ s : State, s.inReset = false →
    (s.on Fd.CLK_SRC_TB_CUR = true → exec .oscStart s =
      .next ({ s with clk := { s.clk with oscRunning := true } }.wr Fd.CLK_STAT_TIME_EST 1)) ∧
    (s.on Fd.CLK_SRC_TB_CUR = false → exec .oscStart s =
      .next { s with clk := { s.clk with oscRunning := true } }) ∧
    (∀ ref p0 pair, s.clk.oscRunning = true →
      exec (.oscCompareWindow ref p0 pair) s = .next (s.oscWindow ref p0 pair)) ∧
    (∀ ref p0 pair, s.clk.oscRunning = false → exec (.oscCompareWindow ref p0 pair) s = .next s) ∧
    (∀ e : Int, e.natAbs ≤ 224 → s.clk.agreeWin = 0 →
      s.judge (some e) = { s with clk := { s.clk with agreeWin := 1, outWin := 0, noEdgeWin := 0 } }.wr
        Fd.CLK_STAT_OSC_UNJUDGED 0) ∧
    (∀ e : Int, e.natAbs ≤ 224 → 1 ≤ s.clk.agreeWin →
      s.judge (some e) = ((({ s with clk := { s.clk with agreeWin := 2, outWin := 0, noEdgeWin := 0 } }.wr
        Fd.CLK_STAT_OSC_UNJUDGED 0).wr Fd.CLK_STAT_REFCLK_OK 1).wr Fd.CLK_STAT_OSC_READY 1)) ∧
    (s.clk.noEdgeWin = 15 → s.on Fd.CLK_STAT_OSC_READY = false →
      s.judge none = ({ s with clk := { s.clk with agreeWin := 0, outWin := 0, noEdgeWin := 16 } }.wr
        Fd.CLK_STAT_OSC_READY 1).wr Fd.CLK_STAT_OSC_UNJUDGED 1) ∧
    (∀ e : Int, 224 < e.natAbs → s.clk.outWin = 15 → s.on Fd.CLK_STAT_OSC_READY = false →
      s.on Fd.CLK_STAT_ROOT_READY = false →
      s.judge (some e) = { s with clk := { s.clk with agreeWin := 0, outWin := 16, noEdgeWin := 0 } }.raise 7 1 0) ∧
    (∀ e : Int, 224 < e.natAbs → s.clk.outWin = 0 → s.on Fd.CLK_STAT_ROOT_READY = true →
      s.judge (some e) = ({ s with clk := { s.clk with agreeWin := 0, outWin := 1, noEdgeWin := 0 } }.wr
        Fd.CLK_STAT_OSC_READY 0).raise 7 1 0) ∧
    (∀ (p0 pair : Option Nat), (s.trimRef p0 pair = 0 ↔ s.on Fd.CLK_STAT_ROOT_READY = true) ∧
      (s.trimRef p0 pair = 1 ↔ s.on Fd.CLK_STAT_ROOT_READY = false ∧ p0.isSome = true ∧
        s.on (Fd.PORT_LANE_CFG_RATE 0) = false)) ∧
    (∀ (p0 pair : Option Nat), let u := s.judge none
      u.trimRef p0 pair = u.rd Fd.CLK_STAT_TRIM_REF → u.trimRef p0 pair = 3 → s.oscWindow none p0 pair = u) ∧
    (∀ (ref : Nat) (p0 pair : Option Nat), let u := s.judge (some ((ref : Int) - 11200))
      u.trimRef p0 pair = 0 → u.rd Fd.CLK_STAT_TRIM_REF = 0 →
      s.oscWindow (some ref) p0 pair =
        ({ u with clk := { u.clk with tempCorr := 0 } }.wr Fd.CLK_OSC_ERR (wrapInt 16 ((ref : Int) - 11200))).trimStep
          ((ref : Int) - 11200)) ∧
    (∀ (n : Nat) (pair : Option Nat), let u := s.judge none
      u.trimRef (some n) pair = 1 → u.rd Fd.CLK_STAT_TRIM_REF ≠ 1 →
      let v := (u.wr Fd.CLK_STAT_TRIM_REF 1).raise 6 1 1
      s.oscWindow none (some n) pair =
        ({ v with clk := { v.clk with tempCorr := 0 } }.wr Fd.CLK_OSC_ERR (wrapInt 16 ((n : Int) - 11088))).trimStep
          ((n : Int) - 11088)) ∧
    (∀ e : Int, s.on Fd.CLK_STAT_OSC_READY = true →
      (3 ≤ e → s.trimStep e = s.wr Fd.CLK_OSC_TRIM (wrapInt 9 (max (-256) (signed 9 (s.rd Fd.CLK_OSC_TRIM) - 1)))) ∧
      (e ≤ -3 → s.trimStep e = s.wr Fd.CLK_OSC_TRIM (wrapInt 9 (min 255 (signed 9 (s.rd Fd.CLK_OSC_TRIM) + 1))))) ∧
    (s.rd Fd.CLK_STAT_TRIM_REF = 3 → 0 ≤ s.aoTempNow + 40 → s.aoTempNow + 40 ≤ 1200 →
      exec .temperatureCorrection s = .next { s with clk := { s.clk with
        tempCorr := s.tcEntry ((s.aoTempNow + 40) / 80).toNat * 80 +
          (s.tcEntry (min 15 (((s.aoTempNow + 40) / 80).toNat + 1)) - s.tcEntry ((s.aoTempNow + 40) / 80).toNat) *
            ((s.aoTempNow + 40) % 80) } }) ∧
    (s.rd Fd.CLK_STAT_TRIM_REF = 3 → s.aoTempNow + 40 < 0 ∨ 1200 < s.aoTempNow + 40 →
      ∃ c : Int, exec .temperatureCorrection s = .next { s.drawn with clk := { s.clk with tempCorr := c } }) ∧
    (s.rd Fd.CLK_STAT_TRIM_REF ≠ 3 → exec .temperatureCorrection s = .next s)

/-- With REFCLK good and the core powered ROOT_LOCK runs the root and sets ROOT_READY; in a boot outside a hold a time base on the oscillator goes to the root, and device time is exact from then. A write of MC_SEL or SPI_SEL to a ready source (0 the root, 1 the oscillator) stores SEL and starts a switch where CUR differs, and none where it does not; to one that is not ready it sets REF and raises source 8 with the domain. MUX_RELEASE ends the switch and shows the new source in CUR. -/
def Obligations.ClockSources : Prop :=
  ∀ s : State, s.inReset = false →
    (s.on Fd.CLK_STAT_REFCLK_OK = true → s.coreOff = false →
      s.mode ≠ mBOOT ∨ s.on Fd.CLK_SRC_TB_CUR = false ∨ s.on Fd.CLK_STAT_HOLD = true → exec .rootLock s =
        .next ({ s with clk := { s.clk with rootRunning := true } }.wr Fd.CLK_STAT_ROOT_READY 1)) ∧
    (s.on Fd.CLK_STAT_REFCLK_OK = true → s.coreOff = false → s.on Fd.CLK_SRC_TB_CUR = true → s.mode = mBOOT →
      s.on Fd.CLK_STAT_HOLD = false → exec .rootLock s =
        .next (({ s with clk := { s.clk with rootRunning := true } }.wr Fd.CLK_STAT_ROOT_READY 1).resyncTime)) ∧
    (∀ v, s.srcReady (v % 2) = true → v % 2 ≠ (s.wr Fd.CLK_SRC_MC_SEL (v % 2)).rd Fd.CLK_SRC_MC_CUR →
      exec (.mcSel v) s = .next { s.wr Fd.CLK_SRC_MC_SEL (v % 2) with clk := { s.clk with mcSwitch := some (v % 2) } }) ∧
    (∀ v, s.srcReady (v % 2) = true → v % 2 = (s.wr Fd.CLK_SRC_MC_SEL (v % 2)).rd Fd.CLK_SRC_MC_CUR →
      exec (.mcSel v) s = .next { s.wr Fd.CLK_SRC_MC_SEL (v % 2) with clk := { s.clk with mcSwitch := none } }) ∧
    (∀ v, s.srcReady (v % 2) = false → exec (.mcSel v) s = .next ((s.wr Fd.CLK_SRC_MC_REF 1).raise 8 1 0)) ∧
    (∀ v, s.srcReady (v % 2) = true → v % 2 ≠ (s.wr Fd.CLK_SRC_SPI_SEL (v % 2)).rd Fd.CLK_SRC_SPI_CUR →
      exec (.spiSel v) s =
        .next { s.wr Fd.CLK_SRC_SPI_SEL (v % 2) with clk := { s.clk with spiSwitch := some (v % 2) } }) ∧
    (∀ v, s.srcReady (v % 2) = false → exec (.spiSel v) s = .next ((s.wr Fd.CLK_SRC_SPI_REF 1).raise 8 1 1)) ∧
    (∀ v, s.clk.mcSwitch = some v → exec (.muxRelease false) s =
      .next ({ s with clk := { s.clk with mcSwitch := none } }.wr Fd.CLK_SRC_MC_CUR v)) ∧
    (∀ v, s.clk.spiSwitch = some v → exec (.muxRelease true) s =
      .next ({ s with clk := { s.clk with spiSwitch := none } }.wr Fd.CLK_SRC_SPI_CUR v))

/-- The loss of REFCLK, or of the root's lock, outside a hold records its time, clears REFCLK_OK and ROOT_READY, sets HOLD, counts the loss, idles the lane transmitters, marks every outstanding request as caught by the loss, takes every port out of its link, undoes a sleep entry before its point of no return, puts DRAM in self-refresh, moves every clock domain to the oscillator with TIME_EST set, and raises source 4 with the cause; with VDD_CORE off it sets HOLD and TIME_EST only. HOLDOVER_END stops the root. REFCLK_RETURN with REFCLK and the root good ends the hold, resynchronises device time, leaves self-refresh, brings the ports up, their transmitters staying off in LOCKDOWN by Trip B, and raises source 5 with the hold's duration in µs. A read of CLK_TIME_LO latches the upper half of device time. -/
def Obligations.ReferenceLossAndReturn : Prop :=
  ∀ s : State, s.inReset = false →
    (∀ unlock, (if unlock then s.on Fd.CLK_STAT_ROOT_READY else s.on Fd.CLK_STAT_REFCLK_OK) = true →
      s.on Fd.CLK_STAT_HOLD = false →
      let u := (({ s with clk := { s.clk with agreeWin := 0, lossTime := s.clk.time } }.wr
        Fd.CLK_STAT_REFCLK_OK 0).wr Fd.CLK_STAT_ROOT_READY 0).wr Fd.CLK_STAT_HOLD 1
      (u.coreOff = true → exec (.refclkLoss unlock) s = .next (u.wr Fd.CLK_STAT_TIME_EST 1)) ∧
      (u.coreOff = false →
      let v := u.count Fd.CLK_STAT_LOSS_CNT Fd.CLK_STAT_LOSS_OVF 1
      exec (.refclkLoss unlock) s = .next ((((((List.range 13).foldl (fun (s : State) n =>
          (s.enterRecover n 5 true).portOff n)
        { v with
          pins := { v.pins with lanesIdle := true }
          req := { v.req with txns := v.req.txns.map fun (t : Txn) => { t with lost := true } } }).lossAborts).allSelfRef).toOscillator).raise
            4 1 (b2n unlock)))) ∧
    (s.on Fd.CLK_STAT_HOLD = true → s.on Fd.CLK_STAT_ROOT_READY = false →
      exec .holdoverEnd s = .next { s with clk := { s.clk with rootRunning := false } }) ∧
    (s.on Fd.CLK_STAT_HOLD = true → s.on Fd.CLK_STAT_REFCLK_OK = true → s.on Fd.CLK_STAT_ROOT_READY = true →
      s.coreOff = false →
      let u := (s.wr Fd.CLK_STAT_HOLD 0).resyncTime
      exec .refclkReturn s = .next ((({ u with pins := { u.pins with lanesIdle := u.tripB } }.leaveSelfRef).bringupAll).holdEnds)) ∧
    s.holdEnds = s.raise 5 1 (min ((s.clk.time + 2 ^ 64 - s.clk.lossTime) % 2 ^ 64 / 175) (2 ^ 40 - 1)) ∧
    exec .clkTimeLoRead s =
      .next { s with clk := { s.clk with timeShadow := s.clk.time / 2 ^ 32 % 2 ^ 32 } }

/-- Setting a GATE bit asks the port or channel group to quiesce. A quiet unit acknowledges and its gate closes, a port leaving its link; a unit that does not acknowledge has its GATE bit cleared and its REF bit set, and source 9 is raised with its number. Clearing the bit before the gate closes withdraws a port's request; a closed port's gate opens and its lanes come up; a channel group's request is withdrawn, or its gate opens, and it leaves self-refresh. A transfer that waits for a gated, unfenced group opens its gate. -/
def Obligations.ClockGates : Prop :=
  ∀ s : State, s.inReset = false →
    (∀ n, n < 13 → (s.wrBit Fd.CLK_GATE_PORT_GATE n true).clk.portClosed.contains n = false →
      exec (.clkGatePort n true) s =
        .next { s.wrBit Fd.CLK_GATE_PORT_GATE n true with clk := { s.clk with portAsk := addTo s.clk.portAsk n } }) ∧
    (∀ n, n < 13 → s.clk.portClosed.contains n = false → exec (.clkGatePort n false) s =
      .next { s.wrBit Fd.CLK_GATE_PORT_GATE n false with clk := { s.clk with
        portAsk := s.clk.portAsk.filter (· != n) } }) ∧
    (∀ n, n < 13 → s.clk.portClosed.contains n = true → exec (.clkGatePort n false) s =
      .next ({ s.wrBit Fd.CLK_GATE_PORT_GATE n false with clk := { s.clk with
        portAsk := s.clk.portAsk.filter (· != n) } }.openPort n)) ∧
    (∀ g, g < 32 → s.clk.cgClosed.contains g = false → exec (.clkGateCg g true) s =
      .next { s.wrBit Fd.CLK_GATE_CG_GATE g true with clk := { s.clk with cgAsk := addTo s.clk.cgAsk g } }) ∧
    (∀ g, g < 32 → s.clk.cgClosed.contains g = false → s.clk.cgAsk.contains g = false → exec (.clkGateCg g false) s =
      .next { s.wrBit Fd.CLK_GATE_CG_GATE g false with clk := { s.clk with cgAsk := s.clk.cgAsk.filter (· != g) } }) ∧
    (∀ g, g < 32 → s.clk.cgClosed.contains g = true ∨ s.clk.cgAsk.contains g = true →
      exec (.clkGateCg g false) s = .next ({ s.wrBit Fd.CLK_GATE_CG_GATE g false with clk := { s.clk with
        cgAsk := s.clk.cgAsk.filter (· != g) } }.openCg g)) ∧
    (∀ n, n < 13 → s.clk.portAsk.contains n = true → s.portQuiet n = true → exec (.quiesceAck n) s =
      .next (({ s with clk := { s.clk with
        portAsk := s.clk.portAsk.filter (· != n), portClosed := addTo s.clk.portClosed n } }.enterRecover n 5 true).portOff n)) ∧
    (∀ g, s.clk.cgAsk.contains g = true → s.cgQuiet g = true → exec (.quiesceAck (g + 16)) s =
      .next { s with clk := { s.clk with
        cgAsk := s.clk.cgAsk.filter (· != g), cgClosed := addTo s.clk.cgClosed g } }) ∧
    (∀ n, n < 13 → s.clk.portAsk.contains n = true → exec (.gateRefused n) s =
      .next (((s.gatePort n false).wrBit Fd.CLK_GATE_PORT_REF n true).raise 9 1 n)) ∧
    (∀ g, s.clk.cgAsk.contains g = true → exec (.gateRefused (g + 16)) s =
      .next (((s.gateCg g false).wrBit Fd.CLK_GATE_CG_REF_REF g true).raise 9 1 (g + 16))) ∧
    (∀ g, s.clk.cgClosed.contains g = true → s.cgFenced g = false →
      (s.fabric.any fun (a : Acc) => decide (a.line < 2 ^ 33) && pcOf (64 * a.line) / 4 == g) = true →
      exec (.gateOpen g) s = .next (s.openCg g))

/-- A write of a register that starts nothing of its own stores its fields by their types, clears the W1C bits written 1 from what the cycle began with, notes the write and its writer for the cycle, and changes nothing else: here a write by house firmware to a register of the table in a block whose words have no rule of their own (OTP, FLT but its GO registers, REG, QUE, TBL, CNT). A plain write by a host port or the sideband of a register that a critical command governs, and a write of an address that names no register, change nothing. A read clears the RC fields of its register of what they held when the arbitration cycle began, so that what the cycle adds is kept and where it has added nothing they read 0 (a read of CLK_TIME_LO latches the upper half of device time too). LOCK sets the lock bit of its block; PAIR_LOCK's is PAIR_CFG's too. A write of a monitor's CFG or BASE stores it by the same rules and clears the monitor. (That the commands between two idle steps share one arbitration cycle is the model's choice, log entry 67.) -/
def Obligations.RegisterAccessCommands : Prop :=
  ∀ s : State, s.inReset = false →
    (∀ who a v r, 16 ≤ who → a < 0x1000000 → regRow a = some r → fwOnly a = false → goBit r (v % 2 ^ 32) = false →
      ((0x40000 ≤ a ∧ a < 0x50000) ∨ (0x60000 ≤ a ∧ a < 0x70000) ∨ (0x90000 ≤ a ∧ a < 0xA0000) ∨
        (0x310000 ≤ a ∧ a < 0x340000)) → (∀ e ∈ s.cyc.writes, e.2.1 ≤ whoFw) →
      exec (.registerWrite who a v) s =
        .next (((s.setReg a (BitVec.ofNat 32 (s.writeWord a (v % 2 ^ 32) r).word)).baseCleared r a (v % 2 ^ 32)).noteWrite
          whoFw a (s.look a))) ∧
    (∀ who a v, who < 12 ∨ who = whoSb → governed (a % 0x1000000) = true → exec (.registerWrite who a v) s = .next s) ∧
    (∀ who a v, regRow (a % 0x1000000) = none → exec (.registerWrite who a v) s = .next s) ∧
    (∀ a r, regRow a = some r → a ≠ Ra.CLK_TIME_LO → exec (.readClear a) s =
      .next ((s.setReg a (BitVec.ofNat 32 (rcLeft (rcMax a) r (s.baseReg a) (s.reg a).toNat))).setBase a
        (rcCleared r (s.baseReg a)))) ∧
    (∀ r, regRow Ra.CLK_TIME_LO = some r → exec (.readClear Ra.CLK_TIME_LO) s =
      .next ((s.latchTime.setReg Ra.CLK_TIME_LO (BitVec.ofNat 32 (rcLeft (rcMax Ra.CLK_TIME_LO) r
        (s.baseReg Ra.CLK_TIME_LO) (s.reg Ra.CLK_TIME_LO).toNat))).setBase Ra.CLK_TIME_LO
        (rcCleared r (s.baseReg Ra.CLK_TIME_LO)))) ∧
    (∀ m r w, rcLeft m r w w = rcCleared r w) ∧
    (∀ a f, lockFld (a % 0x1000000) = some f → f.addr ≠ Ra.PORT_LOCK 12 → exec (.lockWrite a) s = .next (s.wr f 1)) ∧
    (∀ a f, lockFld (a % 0x1000000) = some f → f.addr = Ra.PORT_LOCK 12 →
      exec (.lockWrite a) s = .next ((s.wr f 1).wr Fd.PAIR_CFG_LOCK 1)) ∧
    (∀ m v r, m < 64 → regRow (Ra.OBS_MON_BASE m) = some r → goBit r (v % 2 ^ 32) = false →
      (∀ e ∈ s.cyc.writes, e.2.1 ≤ whoFw) → exec (.obsMonCfgWrite m true v) s =
        .next ((((s.setReg (Ra.OBS_MON_BASE m) (BitVec.ofNat 32 (s.writeWord (Ra.OBS_MON_BASE m) (v % 2 ^ 32) r).word)).monClear
          m).baseCleared r (Ra.OBS_MON_BASE m) (v % 2 ^ 32)).noteWrite whoFw (Ra.OBS_MON_BASE m)
            (s.look (Ra.OBS_MON_BASE m)))) ∧
    (∀ m v r, m < 64 → regRow (Ra.OBS_MON_CFG m) = some r → goBit r (v % 2 ^ 32) = false →
      (∀ e ∈ s.cyc.writes, e.2.1 ≤ whoFw) → exec (.obsMonCfgWrite m false v) s =
        .next ((((s.setReg (Ra.OBS_MON_CFG m) (BitVec.ofNat 32 (s.writeWord (Ra.OBS_MON_CFG m) (v % 2 ^ 32) r).word)).monClear
          m).baseCleared r (Ra.OBS_MON_CFG m) (v % 2 ^ 32)).noteWrite whoFw (Ra.OBS_MON_CFG m)
            (s.look (Ra.OBS_MON_CFG m))))

/-- In every state, a write of a word to a register changes a field by its type: RO, RC and WO fields keep their bits; a W1C field loses exactly the bits written 1 that stood set when the arbitration cycle began (one that hardware has set in the cycle stays set); a W1S field gains exactly them; an RW field, and an RWL field of an unlocked block, takes the value written when that value is no reserved encoding, and keeps its own when it is; an RWL field of a locked block keeps its value. In every case the bits outside the field stay. (Sources' SEV and ESC while FIXED, R705, are left out by hypothesis.) -/
def Obligations.FieldTypesOnWrite : Prop :=
  ∀ (s : State) (a w : Nat) (locked : Bool) (x : WordWrite) (f : FieldRow), f.lo ≤ f.hi →
    ¬ (Ra.FLT_SRC 0 ≤ a ∧ a ≤ Ra.FLT_SRC 255) →
    let y := (s.writeField a locked w x f).word
    let old := bits x.word f.hi f.lo
    let v := bits w f.hi f.lo
    (∀ i, i < f.lo ∨ f.hi < i → bit y i = bit x.word i) ∧
    (f.ty = .ro ∨ f.ty = .rc ∨ f.ty = .wo → y = x.word) ∧
    (f.ty = .w1c → ∀ i, f.lo ≤ i → i ≤ f.hi → bit y i = (bit x.word i && !(bit w i && bit (s.baseReg a) i))) ∧
    (f.ty = .w1s → ∀ i, f.lo ≤ i → i ≤ f.hi → bit y i = (bit x.word i || bit w i)) ∧
    (f.ty = .rw ∨ (f.ty = .rwl ∧ locked = false) → f.legalValue v = true → s.fieldOk a f v x.word = true →
      bits y f.hi f.lo = v) ∧
    (f.ty = .rw ∨ f.ty = .rwl → f.legalValue v = false → bits y f.hi f.lo = old) ∧
    (f.ty = .rwl → locked = true → y = x.word)

/-- A mode request stores LEVEL and a defined MODE and, with the core on, is refused (result ILLEGAL) or accepted as pending with its precedence, 7 inside AUTH and 6 from house firmware; a sleep request accepted arms the wake latch. MODE_TRANSITION_START with the core on: a permitted request for LOCKDOWN or THERMAL-HOLD preempts what is under way, in a REFCLK hold only Trip B's; else, the sequencer idle, a part whose image is applied and whose REFCLK is there leaves BOOT for SELFTEST, unless it is SCRAPPED, and otherwise the request that is served first starts when it is permitted; in DEEP a request at precedence 1 brings LOCKDOWN. A management request that the new state releases then runs. A transition whose end is not held back (by a sleep entry before its point of no return, a latched wake or a REFCLK hold) ends by entering its mode; GLB_MODE_STAT shows the request done when its mode is reached, a request of the wake logic spends the latch and raises PWR_WAKE, and a level that the request names beside the mode is begun. A level change that waits for nothing writes the next group's write queues, closes its banks and lets it follow the level; the last group ends it. The wait for VDD_CORE ends. CALIBRATION_COMPLETE stores the trained settings, takes the level LVL_START and enters SERVICE, MODE_CHANGE naming the level before as the old one. -/
def Obligations.ModeCommands : Prop :=
  ∀ s : State, s.inReset = false →
    (∀ mode level auth, mode < 12 → level < 4 →
      let r : ModeReq := { prec := if auth then 7 else 6, mode, level }
      let u := (s.wr Fd.GLB_MODE_REQ_LEVEL level).wr Fd.GLB_MODE_REQ_MODE mode
      u.coreOff = false →
        (u.badReq r = false → (u.seqIdle = false ∨ u.permitted r = true) →
          exec (.glbModeReq mode level auth) s = .next ((u.askMode r).armEntry r)) ∧
        (u.badReq r = true → exec (.glbModeReq mode level auth) s = .next (u.refuseMode r 3)) ∧
        (u.seqIdle = true → u.permitted r = false → exec (.glbModeReq mode level auth) s = .next (u.refuseMode r 3))) ∧
    (∀ r, s.coreOff = false → s.preemptor = some r → s.on Fd.CLK_STAT_HOLD = false ∨ r.prec = 1 →
      exec .modeTransitionStart s = .next ((((s.interrupt).dropReq r).beginReq r).runReady)) ∧
    (∀ r, s.coreOff = false → s.preemptor = none → s.seqIdle = true → s.mode ≠ mBOOT → s.mode ≠ mDRAIN →
      pickReq s.seq.reqs = some r → (s.dropReq r).permitted r = true →
      exec .modeTransitionStart s = .next (((s.dropReq r).beginReq r).runReady)) ∧
    (s.coreOff = false → s.preemptor = none → s.seqIdle = true → s.mode = mBOOT → s.boot.applied = true →
      s.on Fd.CLK_STAT_REFCLK_OK = true → s.lifecycle ≠ 5 →
      exec .modeTransitionStart s = .next ((s.setTrans (some
        { goal := mSELFTEST, req := { prec := 0, mode := mSELFTEST, level := s.level } })).runReady)) ∧
    (∀ r, s.mode = mDEEP → (s.seq.reqs.find? fun (x : ModeReq) => x.prec == 1) = some r →
      exec .modeTransitionStart s = .next ((s.deepLock r).runReady)) ∧
    (∀ t, s.seq.trans = some t →
      (t.goal ≠ mRETAIN → t.goal ≠ mRETAINP → t.goal ≠ mDEEP → t.goal ≠ mSTANDBY ∨ s.on Fd.PWR_STAT_LATCHED = false →
        s.on Fd.CLK_STAT_HOLD = false → s.mayEnd t = true) ∧
      (s.mayEnd t = true →
        let u := (s.setTrans none).enterMode t.goal t.req
        (t.req.prec = 0 ∨ (t.goal ≠ t.req.mode ∧ t.req.prec ≠ 5) →
          exec .modeTransitionEnd s = .next (((u.dropTarget).discard).runReady)) ∧
        (1 ≤ t.req.prec → t.req.prec ≤ 4 → t.goal = t.req.mode → exec .modeTransitionEnd s =
          .next ((((u.modeStat t.req.prec 1).dropTarget).discard).runReady)) ∧
        (t.req.prec = 6 ∨ t.req.prec = 7 → t.goal = t.req.mode → u.serves = false ∨ t.req.level = u.level →
          exec .modeTransitionEnd s = .next ((((u.modeStat t.req.prec 1).dropTarget).discard).runReady)) ∧
        (t.req.prec = 6 ∨ t.req.prec = 7 → t.goal = t.req.mode → u.serves = true → t.req.level ≠ u.level →
          exec .modeTransitionEnd s = .next ((((u.dropTarget).discard).beginLevel t.req).runReady)) ∧
        (t.req.prec = 5 → t.goal = t.req.mode → exec .modeTransitionEnd s =
          .next (((((((s.wakeBegins.setTrans none).enterMode t.goal t.req).modeStat 5 1).dropTarget).discard).raiseWake).runReady)))) ∧
    (∀ l, s.seq.lvl = some l → l.waitV = false → s.seq.trans = none → s.serves = true → s.on Fd.CLK_STAT_HOLD = false →
      let u := (List.range 4).foldl (fun (s : State) i =>
        let s := s.flushPc (4 * l.nextCg + i) false
        let p := s.pc (4 * l.nextCg + i)
        s.setPc (4 * l.nextCg + i) { p with
          banks := p.banks.map fun (e : Nat × Bank) => (e.1, { e.2 with openRow := none }) }) s
      let v := ((u.setLvl (some { l with nextCg := l.nextCg + 1 })).groupFollow l.nextCg).calSettle l.nextCg
      (l.nextCg < 31 → exec .wckSwitch s = .next v) ∧
      (l.nextCg = 31 → exec .wckSwitch s = .next (v.endLevel { l with nextCg := 32 }))) ∧
    (∀ l, s.seq.lvl = some l → exec .coreVselWait s = .next (s.setLvl (some { l with waitV := false }))) ∧
    (∀ trained, s.mode = mCALIBRATE → s.on Fd.CLK_STAT_HOLD = false → s.seq.trans = none →
      let u := trained.foldl (fun (s : State) (e : Nat × Nat × Nat × Nat) =>
        s.setDly (e.1 % 128) (e.2.1 % 4) (e.2.2.1 % 66) e.2.2.2) s
      let l := u.rd Fd.GLB_LEVEL_LIM_LVL_START
      ∃ d : Bool, exec (.calibrationComplete trained) s =
        .next (((({ u with cal := { u.cal with dirty := d } }.setVsel l).setLevel l).enterFrom mSERVICE
          { prec := 0, mode := mSERVICE, level := l } u.level).discard))

/-- Among pending mode requests the one served first is pending, no pending request has a lower precedence number, every request that came before it has a higher number, and one is found whenever any is pending. -/
def Obligations.RequestOfHighestPrecedence : Prop :=
  ∀ l : List ModeReq,
    (∀ r, pickReq l = some r → ∃ a b, l = a ++ r :: b ∧ (∀ x ∈ a, r.prec < x.prec) ∧ (∀ x ∈ b, r.prec ≤ x.prec)) ∧
    (pickReq l = none → l = [])

/-- With the core on and no restart under way the watchdog's expiry answers every AUTH that waits for its persist write RETRY_LATER, closes the update session, drops a record write (house firmware owes its record again), and marks the restart; nothing else of flash or of the queue of owed records changes. With the core off or during a restart it does nothing. The restart ends with the firmware slot in use verified again, where house firmware runs: house firmware's state is reloaded (the persist payload from the winning persist slot with P from Samovar; what RAM held is lost; the soft-repair record stays owed), the mark is cleared and source 39 raised; firmware that fails is reported, and the restart does not end (that it does not is the model's choice, log entry 58). -/
def Obligations.ControllerRestart : Prop :=
  ∀ s : State, s.inReset = false →
    (s.coreOff = false → s.seq.mcRestart = false → s.nvm.wr = none →
      (s.req.txns.filter fun (t : Txn) => t.stage == .heldPersist) = [] →
      exec .watchdogExpiry s = .next { s with
        nvm := { s.nvm with upd := none }
        seq := { s.seq with mcRestart := true } }) ∧
    (∀ w, s.coreOff = false → s.seq.mcRestart = false → s.nvm.wr = some w → s.nvm.owed.contains (w.slot / 2) = false →
      (s.req.txns.filter fun (t : Txn) => t.stage == .heldPersist) = [] →
      exec .watchdogExpiry s = .next { s with
        nvm := { s.nvm with upd := none, wr := none, owed := s.nvm.owed ++ [w.slot / 2] }
        seq := { s.seq with mcRestart := true } }) ∧
    (∀ t, s.coreOff = false → s.seq.mcRestart = false →
      (s.req.txns.filter fun (x : Txn) => x.stage == .heldPersist) = [t] →
      ∃ u, exec .watchdogExpiry s = .next u ∧ u.seq.mcRestart = true ∧ u.nvm.upd = none ∧ u.nvm.wr = none ∧
        u.req.txns = (s.respond t stRETRY).req.txns ∧ u.req.out = (s.respond t stRETRY).req.out) ∧
    (s.coreOff = true ∨ s.seq.mcRestart = true → exec .watchdogExpiry s = .next s) ∧
    (s.seq.mcRestart = true →
      let k := s.rd Fd.NVM_BOOT_STAT_FW_SLOT % 2
      (s.boot.fwRun = false ∨
          (s.slotFault k = none ∧ ∃ l, s.fwVerdict s.boot.fwSig.1 s.boot.fwSig.2 = .accepted l) →
        exec .mcRestart s = .next ({ s.reload with seq := { s.seq with mcRestart := false } }.raise 39 1 0)) ∧
      (∀ r, s.boot.fwRun = true → s.slotFault k = some r → exec .mcRestart s = .next (s.slotInvalid k r false)) ∧
      (∀ r l, s.boot.fwRun = true → s.slotFault k = none →
        s.fwVerdict s.boot.fwSig.1 s.boot.fwSig.2 = .refused r l →
        exec .mcRestart s = .next (s.slotInvalid k r false))) ∧
    (s.seq.mcRestart = false → exec .mcRestart s = .next s) ∧
    (∀ w, s.nvm.owed.contains 4 = false → s.winner 4 = some w → (s.slotPayload (8 + w)).length = 128 →
      s.reload = { s with nvm := { s.nvm with
        persist := leBytes 8 s.sec.p ++ (s.slotPayload (8 + w)).drop 8
        ram := []
        erases := []
        owed := s.nvm.owed.filter (· == 3) } })

/-- In BOOT with the oscillator ready and no REFCLK hold the ROM starts. While the boot runs: an SFDP read that meets R121 is recorded, one that does not halts the boot with reason 3; slot selection reports and shuts out the faulty slots of the pair and chooses the winner, and halts with reason 1 (firmware) or 2 (image) where none is left; a chosen firmware slot that its verification refuses is reported and shut out, and one it accepts runs house firmware with its slot and SVN shown; the same of the chosen image, whose first section is then the one to apply; each check that an open part passes over is reported and shown. The firmware's signature counts under vendor key 0, or under key 1 once key 0 is revoked, and an SVN below the least is refused first. CAL_RECORD_READ chooses the calibration slot, reads the soft-repair list and reports each slot from 4 to 12 that is not valid; REPAIR_SWITCH_IN applies the repairs and, with a valid record, its settings. -/
def Obligations.BootSteps : Prop :=
  ∀ s : State, s.inReset = false →
    (s.mode = mBOOT → s.on Fd.CLK_STAT_OSC_READY = true → s.on Fd.CLK_STAT_HOLD = false →
      exec .romStart s = .next { s with boot := { s.boot with rom := true } }) ∧
    (s.booting = true →
      (s.boot.rom = true → s.boot.sfdp = false →
        exec (.sfdpRead true) s = .next { s with boot := { s.boot with sfdp := true } } ∧
        exec (.sfdpRead false) s = .next ({ s with boot := { s.boot with halt := true } }.raise 35 1 3)) ∧
      (s.boot.sfdp = true → s.boot.fwRun = false →
        let x := s.wearBoot.pairFaults 0 s.boot.fwBad
        let u : State := { x.1 with boot := { x.1.boot with fwBad := x.2, fwSel := x.1.winner 0 x.2 } }
        (x.1.winner 0 x.2 ≠ none → exec (.slotSelect 0) s = .next u) ∧
        (x.1.winner 0 x.2 = none → exec (.slotSelect 0) s = .next (u.bootHalt 1))) ∧
      (s.boot.fwRun = true → s.boot.img = none →
        let x := s.pairFaults 1 s.boot.imgBad
        let u : State := { x.1 with boot := { x.1.boot with imgBad := x.2, imgSel := x.1.winner 1 x.2 } }
        (x.1.winner 1 x.2 ≠ none → exec (.slotSelect 1) s = .next u) ∧
        (x.1.winner 1 x.2 = none → exec (.slotSelect 1) s = .next (u.bootHalt 2))) ∧
      (∀ k keys svn r l, s.boot.fwRun = false → s.boot.fwSel = some k → s.fwVerdict keys svn = .refused r l →
        let u := ((s.bypassed k l).slotInvalid k r false).shutOut k true
        exec (.firmwareVerified keys svn) s = .next { u with boot := { u.boot with fwSel := none } }) ∧
      (∀ k keys svn l, s.boot.fwRun = false → s.boot.fwSel = some k → s.fwVerdict keys svn = .accepted l →
        let u := s.bypassed k l
        let v := { u with boot := { u.boot with fwBypass := !l.isEmpty, fwSig := (keys, svn) } }.showBypass
        let w := (v.wr Fd.NVM_BOOT_STAT_FW_SLOT k).wr Fd.NVM_FW_SVN_ALL svn
        exec (.firmwareVerified keys svn) s =
          .next (State.loadPersist { w with boot := { w.boot with fwRun := true } })) ∧
      (∀ k r l, s.boot.img = none → s.boot.imgSel = some k → s.imgVerdict (s.slotPayload (2 + k)) = .refused r l →
        let u := ((s.bypassed (2 + k) l).slotInvalid (2 + k) r false).shutOut (2 + k) true
        exec .imageVerified s = .next { u with boot := { u.boot with imgSel := none } }) ∧
      (∀ k l x, s.boot.img = none → s.boot.imgSel = some k → s.imgVerdict (s.slotPayload (2 + k)) = .accepted l →
        nextSect (imgSects (s.slotPayload (2 + k))) 1 = some x →
        let u := s.bypassed (2 + k) l
        let v := { u with boot := { u.boot with imgBypass := !l.isEmpty } }.showBypass
        exec .imageVerified s =
          .next { v with boot := { v.boot with img := some k, sect := x.typ, record := 0, poll := false } }) ∧
      (s.boot.img ≠ none → s.boot.cal = none → exec .calRecordRead s =
        .next (let w := (s.winner 2).getD 2
          let u := { s with
            boot := { s.boot with cal := some w }
            ecc := { s.ecc with soft := s.softList } }.wr Fd.NVM_BOOT_STAT_CAL_SLOT w
          [4, 5, 6, 7, 8, 9, 10, 11, 12].foldl
            (fun (v : State) k => if v.slotGood k then v else v.raise 34 1 k) u)) ∧
      (∀ k, s.boot.calUsed = false → s.boot.cal = some k → k < 2 →
        let u := s.applyRepairs.applyCal k
        exec .repairSwitchIn s = .next { u with boot := { u.boot with calUsed := true } }) ∧
      (s.boot.calUsed = false → s.boot.cal = some 2 →
        exec .repairSwitchIn s = .next { s.applyRepairs with boot := { s.applyRepairs.boot with calUsed := true } })) ∧
    (∀ key0 key1 svn,
      (svn < s.svnMin 24 → s.fwVerdict (key0, key1) svn = .refused 4 []) ∧
      (s.svnMin 24 ≤ svn → (if s.revoke0 then key1 else key0) = true → s.fwVerdict (key0, key1) svn = .accepted []) ∧
      (s.svnMin 24 ≤ svn → (if s.revoke0 then key1 else key0) = false →
        s.fwVerdict (key0, key1) svn = if s.on Fd.OTP_LC_SECBOOT then .refused 5 [] else .accepted [5]))

/-- Of the record that the image's section has reached: a WRITE record writes its value to its register, a MASKED record writes (register AND NOT MASK) OR (VALUE AND MASK), a POLL record that matches passes and one that does not waits; a record that the register file refuses, or whose address names no register, raises source 37 and passes. A waiting POLL is read again the same way, and its timeout fails the section with the record's index. After the last record a section whose check holds gives way to the next one (or ends the image), after PORTS with the persisted role and after REGULATION with ENFORCE set, and one whose check fails is failed with 0xFF_FFFF, REGULATION raising source 217 first. A failed section returns its blocks to their reset values, sets its SECT_FAIL bit and raises source 36 with the section's type and the index; an optional section, and REGULATION, then gives way to the next section, and any other drops the image with every block at its reset values. -/
def Obligations.ImageApplication : Prop :=
  ∀ s : State, s.inReset = false →
    (∀ a v m, s.recordOf 1 = some (a, v, m) → exec .imageRecordWrite s = .next (s.recordPut a v)) ∧
    (∀ a v m, s.recordOf 2 = some (a, v, m) →
      exec .imageRecordMasked s = .next (s.recordPut a (maskedWord (s.look a) v m))) ∧
    (∀ a w, let u := (s.regWrite whoFw a w).1
      let v := u.raise 37 1 a
      ((s.regWrite whoFw a w).2.ignored = false → (regRow a).isSome = true →
        s.recordPut a w = { u with boot := { u.boot with record := u.boot.record + 1, poll := false } }) ∧
      ((s.regWrite whoFw a w).2.ignored = true ∨ (regRow a).isSome = false →
        s.recordPut a w = { v with boot := { v.boot with record := v.boot.record + 1, poll := false } })) ∧
    (∀ a v m, let u := (s.readReg a).1
      let w := s.raise 37 1 a
      ((regRow a).isSome = true → BitVec.ofNat 32 (s.readReg a).2 &&& BitVec.ofNat 32 m = BitVec.ofNat 32 v →
        s.pollRead a v m = { u with boot := { u.boot with record := u.boot.record + 1, poll := false } }) ∧
      ((regRow a).isSome = true → BitVec.ofNat 32 (s.readReg a).2 &&& BitVec.ofNat 32 m ≠ BitVec.ofNat 32 v →
        s.pollRead a v m = { u with boot := { u.boot with poll := true } }) ∧
      ((regRow a).isSome = false →
        s.pollRead a v m = { w with boot := { w.boot with record := w.boot.record + 1, poll := false } })) ∧
    (∀ a v m, s.recordOf 3 = some (a, v, m) → exec .imageRecordPoll s = .next (s.pollRead a v m)) ∧
    (∀ img x a v m, s.polling = some (img, x, a, v, m) →
      exec .pollReread s = .next (s.pollRead a v m) ∧ exec .pollTimeout s = .next (s.sectFail img x s.boot.record)) ∧
    (∀ img x, s.section? = some (img, x) → s.boot.poll = false → x.nrec ≤ s.boot.record →
      (s.sectCheck x.typ = true → x.typ ≠ 6 → x.typ ≠ 7 → exec .sectionCheck s = .next (s.sectNext img x)) ∧
      (s.sectCheck x.typ = true → x.typ = 6 → exec .sectionCheck s = .next ((s.persistedRole img).sectNext img x)) ∧
      (s.sectCheck x.typ = true → x.typ = 7 →
        exec .sectionCheck s = .next (((s.wr Fd.REG_CTL_ENFORCE 1).showG).sectNext img x)) ∧
      (s.sectCheck x.typ = false → x.typ ≠ 7 → exec .sectionCheck s = .next (s.sectFail img x 0xFFFFFF)) ∧
      (s.sectCheck x.typ = false → x.typ = 7 → exec .sectionCheck s = .next (s.admitFail.sectFail img x 0xFFFFFF))) ∧
    (∀ img x i,
      let u := ((s.resetSect x.typ).wrBit Fd.NVM_BOOT_STAT_SECT_FAIL (x.typ - 1) true).raise 36 1
        (x.typ + i % 2 ^ 24 * 256)
      (bit x.flags 0 = true ∨ x.typ = 7 → s.sectFail img x i = u.sectNext img x) ∧
      (bit x.flags 0 = false → x.typ ≠ 7 →
        let v := [1, 2, 3, 4, 5, 6, 7, 8].foldl (fun (v : State) k => v.resetSect k) u
        s.sectFail img x i = { v with boot := { v.boot with
          imgBad := v.boot.imgBad ++ v.boot.img.toList
          img := none
          imgSel := none
          imgBypass := false
          sect := 0
          record := 0
          poll := false } }.showBypass))

/-- With house firmware running, no record write and no update session open, a record that is owed is written to the losing slot of its pair with the next SEQ; of a stopped pair it is kept in RAM only, and then nothing more is owed of it; in lifecycle state 2 the certificate slot may be written. A completed sector erase makes exactly the bytes of its 4,096-byte sector read 0xFF. A completed page is programmed, and after the last page the record is read back; with no record write the page is the update session's, whose verified slot raises what its check finds. A full journal half moves to the other half. -/
def Obligations.FlashRecordCommands : Prop :=
  ∀ s : State, s.inReset = false →
    (∀ pair cert, s.boot.fwRun = true → s.seq.mcRestart = false → s.coreOff = false → s.tripB = false → s.nvm.wr = none →
      s.nvm.upd = none → s.recordDue pair = true → pair ≠ 5 →
      (s.stopped pair = false → exec (.recordWrite pair cert) s =
        .next ((s.paid pair).recordStart (s.loser pair).1 (s.loser pair).2 (s.payloadOf pair cert))) ∧
      (s.stopped pair = true → exec (.recordWrite pair cert) s =
        .next { s.paid pair with nvm := { (s.paid pair).nvm with
          ram := Tab.put (fun _ => []) s.nvm.ram pair (s.payloadOf pair cert)
          stored := if pair = 4 then some (persistP (s.payloadOf pair cert), false) else s.nvm.stored } })) ∧
    (∀ cert : List Byte, s.boot.fwRun = true → s.seq.mcRestart = false → s.coreOff = false → s.tripB = false →
      s.nvm.wr = none → s.nvm.upd = none → s.lifecycle = 2 → cert.length ≤ 4032 → exec (.recordWrite 5 cert) s =
        .next (s.recordStart 10 (if (s.slotFault 10).isNone then (s.slotWord 10 8 + 1) % 2 ^ 32 else 1) cert)) ∧
    (∀ w a rest, s.nvm.wr = some w → w.sectors = a :: rest → ∃ t, exec .sectorEraseComplete s = .next t ∧
      (∀ i, a ≤ i → i < a + 4096 → t.flash i = 0xFF) ∧ (∀ i, i < a ∨ a + 4096 ≤ i → t.flash i = s.flash i) ∧
      (w.pre = false → t.nvm.wr = some { w with sectors := rest }) ∧
      (w.pre = true → rest = [] → t.nvm.wr = none) ∧
      t.regs = s.regs ∧ t.dram = s.dram ∧ t.nvm.upd = s.nvm.upd ∧ t.nvm.erases = s.nvm.erases) ∧
    (∀ w a bs rest flips keys svn, s.nvm.wr = some w → w.sectors = [] → w.pages = (a, bs) :: rest →
      (rest ≠ [] → exec (.pageProgramComplete flips keys svn) s = .next { s.program a (flipped flips bs) with
        nvm := { (s.program a (flipped flips bs)).nvm with wr := some { w with pages := rest } } }) ∧
      (rest = [] → exec (.pageProgramComplete flips keys svn) s =
        .next ((s.program a (flipped flips bs)).recordEnd w))) ∧
    (∀ u flips keys svn, s.nvm.wr = none → s.nvm.upd = some u →
      exec (.pageProgramComplete flips keys svn) s = .next (s.updPage u flips keys svn)) ∧
    (∀ (bs : List Byte) (a i : Nat), (s.program a bs).flash i =
      if a ≤ i ∧ i < a + bs.length then nth 0 bs (i - a) else s.flash i) ∧
    (∀ h, s.jHalf = some h → 2046 ≤ s.journal.length → s.stopped 5 = false → s.boot.fwRun = true →
      exec .journalHalfMove s = .next (s.halfMove h))

/-- In SERVICE or DEGRADED a BEGIN of firmware or image with a length that fits and is a multiple of 4 opens a session on the losing slot while none is open, no record write stands and the pair is not stopped; else RESULT is BUSY, 3, while a session is open, LENGTH, 5, or 8 for a stopped pair; outside SERVICE, DEGRADED and the boot halt RESULT is 7. A session that waited behind a record write opens once there is none. The end of the erase blanks the session's sectors and makes it ready. A data word of the session's own interface that fits adds four bytes in little-endian order. A FINISH of the session with every byte received runs it to its digest, one too early gives RESULT 5, and one while a FINISH runs has no effect (the model's choice, log entry 56); one by another interface gives RESULT 4 and closes nothing. CANCEL by the session's interface closes it with RESULT 1; by another, or with no session, RESULT 4. Ten seconds of silence close it and raise source 38 with the slot and bit 5. -/
def Obligations.UpdateSession : Prop :=
  ∀ s : State, s.inReset = false →
    (∀ src target len, target = 1 ∨ target = 2 →
      let u := ((s.wr Fd.NVM_UPD_LEN_LEN len).wr Fd.NVM_UPD_CTL_OP 1).wr Fd.NVM_UPD_CTL_TARGET target
      (u.mode = mSERVICE ∨ u.mode = mDEGRADED) → u.rd Fd.NVM_UPD_CTL_TARGET = target → u.rd Fd.NVM_UPD_LEN_LEN = len →
      (s.nvm.upd ≠ none →
        exec (.updBegin src target len) s = .next ((s.wr Fd.NVM_UPD_LEN_LEN len).wr Fd.NVM_UPD_CTL_RESULT 3)) ∧
      (s.nvm.upd = none → s.nvm.wr = none → len % 4 ≠ 0 →
        exec (.updBegin src target len) s = .next (u.wr Fd.NVM_UPD_CTL_RESULT 5)) ∧
      (s.nvm.upd = none → s.nvm.wr = none → len ≠ 0 → len % 4 = 0 → len ≤ slotSize (2 * (target - 1)) - 64 →
        u.stopped (target - 1) = true → exec (.updBegin src target len) s = .next (u.wr Fd.NVM_UPD_CTL_RESULT 8)) ∧
      (s.nvm.upd = none → s.nvm.wr = none → len ≠ 0 → len % 4 = 0 → len ≤ slotSize (2 * (target - 1)) - 64 →
        u.stopped (target - 1) = false →
        let ks := u.loser (target - 1) (if target - 1 = 0 then u.boot.fwBad else u.boot.imgBad)
        exec (.updBegin src target len) s = .next (u.updOpen
          { src, slot := ks.1, seq := ks.2, erases := 0, len, off := 0, buf := [], sectors := [], begun := false,
            fin := false, hdr := false }))) ∧
    (∀ src target len, target = 1 ∨ target = 2 → s.nvm.upd = none →
      let u := ((s.wr Fd.NVM_UPD_LEN_LEN len).wr Fd.NVM_UPD_CTL_OP 1).wr Fd.NVM_UPD_CTL_TARGET target
      u.mode ≠ mSERVICE → u.mode ≠ mDEGRADED → u.mode ≠ mBOOT →
      exec (.updBegin src target len) s = .next (u.wr Fd.NVM_UPD_CTL_RESULT 7)) ∧
    (∀ u, s.nvm.upd = some u → u.begun = false → s.nvm.wr = none → exec .updEraseComplete s = .next (s.updOpen u)) ∧
    (∀ u, s.nvm.upd = some u → u.begun = true → u.sectors ≠ [] →
      let v := u.sectors.foldl (fun (s : State) a => s.eraseSector a) s
      exec .updEraseComplete s =
        .next ({ v with nvm := { v.nvm with upd := some { u with sectors := [] } } }.wr Fd.NVM_UPD_CTL_RESULT 1)) ∧
    (∀ u w, s.nvm.upd = some u → u.fin = false → u.off + 4 ≤ u.len → u.begun = true → u.sectors = [] →
      u.buf.length + 4 ≤ 4096 → exec (.nvmUpdData u.src w) s =
        .next { s with nvm := { s.nvm with upd := some { u with off := u.off + 4, buf := u.buf ++ leBytes 4 w } } }) ∧
    (∀ src d, let v := ((List.range 8).foldl (fun (s : State) k =>
        s.wr (Fd.NVM_UPD_DIG_DIG k) (d / 2 ^ (32 * k))) s).wr Fd.NVM_UPD_CTL_OP 2
      (∀ u, s.nvm.upd = some u → u.src = src → u.fin = false → u.off = u.len → u.buf ≠ [] →
        exec (.updFinish src d) s = .next { v.wr Fd.NVM_UPD_CTL_RESULT 2 with
          nvm := { v.nvm with upd := some { u with fin := true } } }) ∧
      (∀ u, s.nvm.upd = some u → u.src = src → u.fin = true → exec (.updFinish src d) s = .next v) ∧
      (∀ u, s.nvm.upd = some u → u.src = src → u.fin = false → u.off ≠ u.len →
        exec (.updFinish src d) s = .next (v.wr Fd.NVM_UPD_CTL_RESULT 5)) ∧
      (∀ u, s.nvm.upd = some u → u.src ≠ src → exec (.updFinish src d) s = .next (v.wr Fd.NVM_UPD_CTL_RESULT 4))) ∧
    (∀ u, s.nvm.upd = some u → exec (.updCancel u.src) s =
      .next ({ s.wr Fd.NVM_UPD_CTL_OP 3 with nvm := { s.nvm with upd := none } }.wr Fd.NVM_UPD_CTL_RESULT 1)) ∧
    (∀ u src, s.nvm.upd = some u → u.src ≠ src → exec (.updCancel src) s =
      .next ((s.wr Fd.NVM_UPD_CTL_OP 3).wr Fd.NVM_UPD_CTL_RESULT 4)) ∧
    (∀ src, s.nvm.upd = none → exec (.updCancel src) s =
      .next ((s.wr Fd.NVM_UPD_CTL_OP 3).wr Fd.NVM_UPD_CTL_RESULT 4)) ∧
    (∀ u, s.nvm.upd = some u → exec .nvmUpdCancel s =
      .next ({ s with nvm := { s.nvm with upd := none } }.raise 38 1 (u.slot + 32)))

/-- A GO on a fuse word that passes every check starts the program with the value asked for, sets BUSY and RESULT 9; a word that is not blank is refused with RESULT 3, and one asked for while another is being programmed with RESULT 2. The end of a program stores what the word reads as, clears BUSY, and reports RESULT 1 when it reads as asked, with source 45 for a lifecycle marker and the hard repair of a repair entry, and 8 when it does not; a program does not end while a re-read pass runs. A re-read pass asked for during a program is put off; another one begins, sets BUSY, and its end sets the MARG bit of every critical word on which the tightened reference disagrees. A JTAG function the part does not permit behaves as BYPASS; in debug a register access goes with it. Debug or internal scan is entered only after the key slots and the management key are cleared and source 46 raised. TRST_N leaves debug and not internal scan. -/
def Obligations.FuseCommands : Prop :=
  ∀ s : State, s.inReset = false →
    (∀ w d, let u := ((s.wr Fd.OTP_PROG_ADDR_WORD w).wr Fd.OTP_PROG_DLO_DATA d).wr Fd.OTP_PROG_DHI_DATA (d / 2 ^ 32)
      let a := u.rd Fd.OTP_PROG_ADDR_WORD
      let v := u.rd Fd.OTP_PROG_DLO_DATA + u.rd Fd.OTP_PROG_DHI_DATA * 2 ^ 32
      (s.otp.prog ≠ none → exec (.fuseProgram w d) s = .next (u.fuseResult a 2)) ∧
      (s.otp.prog = none → u.fuse a ≠ {} → exec (.fuseProgram w d) s = .next (u.fuseResult a 3)) ∧
      (s.otp.prog = none → u.fuse a = {} → bit (u.rd Fd.OTP_LOCKS_LOCKED) (otpRegion a) = false →
        u.classOk a = true → otpClass a ≠ 7 → u.formatOk a v = true → u.fuseConditions = true →
        exec (.fuseProgram w d) s =
          .next (({ u with otp := { u.otp with prog := some (a, v) } }.wr Fd.OTP_PROG_CTL_RESULT 9).wr
            Fd.OTP_STAT_BUSY 1))) ∧
    (∀ w d, s.otp.prog = some (w, d) → s.otp.rereadRun = false → s.otp.rereadDue = false → d < 2 ^ 64 →
      let u (x : Nat) := (({ s with otp := { s.otp with prog := none, done := s.otp.done ++ [w] } }.setFuse w { data := x }).wr
        Fd.OTP_STAT_BUSY 0)
      (w ≤ 4 → exec (.otpProg d 0) s = .next (((u d).fuseResult w 1).raise 45 1 (w + 1))) ∧
      (4 < w → exec (.otpProg d 0) s = .next (((u d).fuseResult w 1).hardRepair w d)) ∧
      (∀ x, x < 2 ^ 64 → x ≠ d → exec (.otpProg x 0) s = .next ((u x).fuseResult w 8))) ∧
    (∀ d ecc, s.otp.rereadRun = true → exec (.otpProg d ecc) s = .next s) ∧
    (s.coreOff = false → s.otp.rereadRun = false → s.otp.prog ≠ none → exec (.rereadPass none) s =
      .next { s with otp := { s.otp with rereadDue := true } }) ∧
    (s.coreOff = false → s.otp.rereadRun = false → s.otp.prog = none → exec (.rereadPass none) s =
      .next ({ s with otp := { s.otp with rereadDue := false, rereadRun := true } }.wr Fd.OTP_STAT_BUSY 1)) ∧
    (∀ reads, s.coreOff = false → s.otp.rereadRun = true → ∃ t, exec (.rereadPass (some reads)) s = .next t ∧
      t.otp.rereadRun = false ∧ t.otp.prog = s.otp.prog ∧ t.dram = s.dram ∧ t.nvm = s.nvm ∧
      ∀ r ∈ reads, otpCritical (r.1 % 512) = true → r.2.2.2 = true →
        bit (t.rd (Fd.OTP_MARG_MARG (r.1 % 512 / 32))) (r.1 % 512 % 32) = true) ∧
    (s.otp.jtag = 3 → s.otp.scan = false → let u := (s.zeroise.raise 46 1 0).abortTests
      exec .scanZeroise s = .next { u with otp := { u.otp with scan := true } }) ∧
    (s.otp.jtag = 2 → s.otp.debug = false → let u := s.zeroise.raise 46 1 1
      exec .scanZeroise s = .next { u with otp := { u.otp with debug := true } }) ∧
    (∀ f, s.jtagMay f = true → exec (.jtagInstruction { function := f }) s = .next { s with otp := { s.otp with jtag := f } }) ∧
    (∀ f access, s.jtagMay f = false →
      exec (.jtagInstruction { function := f, access := access }) s = .next { s with otp := { s.otp with jtag := 0 } }) ∧
    (∀ a v, s.jtagMay 2 = true → s.otp.debug = true → exec (.jtagInstruction { function := 2, access := some (a, v) }) s =
      .next ({ s with otp := { s.otp with jtag := 2 } }.jtagAccess a v)) ∧
    exec .jtagTrstN s =
      .next { s with otp := { s.otp with debug := false, jtag := if s.otp.scan then s.otp.jtag else 0 } }

/-- SETDASA at the part's static address 0x48 + SB_ADDR, and ENTDAA, assign the dynamic address; SETDASA at another address changes nothing. The sideband carries one request at a time: while one is in hand a write changes nothing, and so does one that stops within the head. A request with another opcode than MGMT_RD, MGMT_WR and AUTH, or whose length does not match its head, is answered ABORTED with MALFORMED and its response stands formed in the slot. A read takes the formed response and frees the slot. -/
def Obligations.SidebandCommands : Prop :=
  ∀ s : State, s.inReset = false →
    (∀ a d, a = 0x48 + s.pins.sbAddr → exec (.setdasa a d) s = .next { s with pins := { s.pins with sbDyn := some (d % 128) } }) ∧
    (∀ a d, a ≠ 0x48 + s.pins.sbAddr → exec (.setdasa a d) s = .next s) ∧
    (∀ d, exec (.entdaa d) s = .next { s with pins := { s.pins with sbDyn := some (d % 128) } }) ∧
    (∀ bytes, s.req.sb ≠ .free → exec (.sidebandWrite bytes) s = .next s) ∧
    (∀ bytes, bytes.length < 16 → exec (.sidebandWrite bytes) s = .next s) ∧
    (∀ bytes, s.req.sb = .free → 16 ≤ bytes.length →
      let h := parseHead (leNat (bytes.take 16))
      (isMgmt h.1 = false ∨ bytes.length ≠ 16 * (1 + reqSlots h.1 h.2)) →
      exec (.sidebandWrite bytes) s = .next { s with req := { s.req with sb := (SbSlot.formed
        { port := whoSb, op := h.1, reqId := h.2.reqId, tag := h.2.tag, status := stABORTED, rflags := 4 }) } }) ∧
    (∀ bytes, s.req.sb = .free → 16 ≤ bytes.length → s.coreOff = false →
      let h := parseHead (leNat (bytes.take 16))
      isMgmt h.1 = true → bytes.length = 16 * (1 + reqSlots h.1 h.2) →
      exec (.sidebandWrite bytes) s =
        .next ({ s with req := { s.req with sb := .forming } }.mgmtRequest whoSb h.1 h.2 (bytes.drop 16))) ∧
    (∀ r, s.req.sb = .formed r → exec .sidebandRead s = .next { s with req := { s.req with sb := .free } })

/-- Bring-up starts only in OFF or TEST of a port whose transmitters may run, and no other register than the lane map, lane state, lane swap, lane flags and link state changes. A lane locks where the hunt finds and confirms a comma in what it receives and its skew can be taken out; its equaliser's settings become the trained ones of a logical lane, and the receive direction comes up, with LANE_UP raised and the link in INIT, when every logical lane is locked. A logical lane's loss of lock is counted, raises LANE_LOCK_LOST, takes the receive direction down and requests a swap; on the lane in the spare role it ends the spare's readiness. Link frames start once the direction is up. BRINGUP_LATE is reported once. LM1 and LM2 act from the lowest locked lane whose descrambled body's CRC passes and do nothing without one; LM2 shows the far side's state, of the pair link only its lanes'. A tap driven to its window's edge is clamped there and, the first time, sets the lane's flag, raises LANE_FLAG and requests a swap; in standby nothing adapts. The spare is judged each millisecond by the errors its generator's pattern shows, and is ready only locked and with three milliseconds in a row within the limit; not ready for a second it raises LANE_FAILED once. A frame's control groups on a locked lane add its code errors up to the maximum, the comma is followed, and a control group at LM0's place is taken as LM0; its seed reseeds the descrambler, its code is kept, and two frames' equal codes on the spare-role lane, with no swap announced, move the logical lane unannounced (R203). -/
def Obligations.LaneBringUpAndMessages : Prop :=
  ∀ (s : State) (n : Nat), s.inReset = false → n < 13 →
    (s.laneRuns n = true → (s.lstate n = lOFF ∨ s.lstate n = lTEST) →
      exec (.bringup n) s = .next (s.bringup n) ∧ (s.bringup n).pins = s.pins ∧ (s.bringup n).flt = s.flt ∧
        (∀ a, a ≠ Ra.PORT_LANE_MAP n → a ≠ Ra.PORT_LANE_TXMAP n → a ≠ Ra.PORT_LANE_STAT n → a ≠ Ra.PORT_LINK_STAT n →
          a ≠ Ra.PORT_LANE_SWAP n → a ≠ Ra.PORT_LANE_FLAG n → (s.bringup n).reg a = s.reg a)) ∧
    (s.laneRuns n = false → exec (.bringup n) s = .next s) ∧
    (∀ p raw len skew ctle taps, p ∈ physOf n → s.lstate n ≠ lOFF → s.judged n p = true → s.locked n p = false →
      (hunt raw len).isSome = true → skew ≤ 80 →
      let u := s.setLocked n p true
      let x : LaneRx := { u.laneRx n p with ctle := eqCtle ctle, taps := eqTaps taps, clamp := none, miss := 0 }
      (u.rxLogical n p = none → exec (.laneLock n p ⟨raw, len, skew, ctle, taps⟩) s = .next ((u.setLaneRx n p x).lanesUp n)) ∧
      ((u.rxLogical n p).isSome = true → exec (.laneLock n p ⟨raw, len, skew, ctle, taps⟩) s =
        .next ((u.setLaneRx n p { x with ctleTrn := x.ctle, tapsTrn := x.taps }).lanesUp n))) ∧
    (∀ p raw len skew ctle taps, hunt raw len = none →
      exec (.laneLock n p ⟨raw, len, skew, ctle, taps⟩) s = .next s) ∧
    ((∀ k, k < lanesOf n → s.locked n (s.rxPhys n k) = true) → s.on (Fd.PORT_LANE_STAT_UP n) = false →
      s.lstate n = lTRAIN → s.lanesUp n =
        (let u := ((s.wr (Fd.PORT_LANE_STAT_UP n) 1).wr (Fd.PORT_LANE_STAT_LATE n) 0).raise (linkSrc n 0) 1 0
        if u.lstate n = lTRAIN then (u.setLstate n lINIT).setLink n (u.link n).freshInit else u)) ∧
    (∀ p, s.locked n p = true → s.judged n p = true → exec (.lockLost n p) s = .next (s.loseLock n p)) ∧
    (∀ p, let v := s.setLocked n p false
      let u := v.setLaneRx n p { v.laneRx n p with seed := none, codes := [], stN := 0, miss := 0, errs := [] }
      (∀ k, u.rxLogical n p = some k → s.loseLock n p =
        ((((((u.setLink n { u.link n with heldIn := [] }).count (Fd.PORT_LANE_CNT_LOSSES n)
          (Fd.PORT_LANE_CNT_LOSS_OVF n) 1).raise (linkSrc n 1) 5 (laneAddr p k 0 0 0)).lanesDown n).reqSwap n k false).1)) ∧
      (u.rxLogical n p = none → s.loseLock n p = (u.wr (Fd.PORT_LANE_STAT_SPARE_READY n) 0).withdraw n)) ∧
    (∀ f, s.on (Fd.PORT_LANE_STAT_UP n) = true → s.rd (Fd.PORT_LANE_STAT_STATE n) = 1 →
      exec (.linkFramesStart (n, f)) s = .next ((s.toFrame n f).wr (Fd.PORT_LANE_STAT_STATE n) 2)) ∧
    (s.on (Fd.PORT_LANE_STAT_UP n) = false → s.lstate n = lTRAIN →
      exec (.bringupLate n) s = .next (if s.on (Fd.PORT_LANE_STAT_LATE n) then s else
        (s.wr (Fd.PORT_LANE_STAT_LATE n) 1).raise (linkSrc n 0) 2 0)) ∧
    (∀ bodies, (s.lmPick n 0 bodies = none → exec (.lm1 n bodies) s = .next s) ∧
      (s.lmPick n 64 bodies = none → exec (.lm2 n bodies) s = .next s)) ∧
    (∀ bodies b, s.lmPick n 64 bodies = some b →
      let own (v : Nat) : Nat := if n = 12 then v &&& 0x10F else v
      exec (.lm2 n bodies) s = .next ((((s.setLink n { s.link n with farFlag := own (bits b 24 16) }).wr
        (Fd.PORT_LANE_FLAG_FAR_UP n) (bits b 33 33)).wr
        (Fd.PORT_LANE_FLAG_FAR_SPARE_READY n) (bits b 32 32)).wr (Fd.PORT_LANE_FLAG_FAR_LOCK n) (own (bits b 8 0)))) ∧
    (∀ bodies b, s.lmPick n 0 bodies = some b →
      exec (.lm1 n bodies) s = .next (s.setLink n { s.link n with
        farFrame := bits b 11 0
        farReq := if bits b 31 28 < lanesOf n then some (bits b 31 28) else none
        farAnn := if bits b 15 12 = 15 then (s.link n).farAnn else some (bits b 15 12, bits b 27 16) })) ∧
    (∀ p k, s.rxLogical n p = some k → s.rd (Fd.PORT_LANE_STAT_STATE n) ≠ 3 →
      let x := s.laneRx n p
      let win : Int := s.rd (Fd.PORT_LANE_CFG_TAP_WIN n)
      let y : LaneRx := { x with
        ctle := eqCtle (inWindow (s.rd (Fd.PORT_LANE_CFG_TAP_WIN n)) x.ctleTrn (x.ctleTrn + win))
        taps := eqTaps ((List.range 16).map fun i =>
          inWindow (s.rd (Fd.PORT_LANE_CFG_TAP_WIN n)) (nth 0 x.tapsTrn i) (nth 0 x.taps i)) }
      let z : LaneRx := { y with clamp := atEdge (s.rd (Fd.PORT_LANE_CFG_TAP_WIN n)) y }
      let u := s.setLaneRx n p z
      z.clamp ≠ none → exec (.laneFlag n p 0 true) s = .next (if bit (s.rd (Fd.PORT_LANE_FLAG_FLAG n)) p then u else
        (((u.wrBit (Fd.PORT_LANE_FLAG_FLAG n) p true).raise (linkSrc n 0) 3 (laneAddr p k 0 0 0)).reqSwap n k false).1)) ∧
    (∀ p tap up, s.rd (Fd.PORT_LANE_STAT_STATE n) = 3 → exec (.laneFlag n p tap up) s = .next s) ∧
    (s.on (Fd.PORT_LANE_STAT_SPARE_READY n) = false → bit (s.rd (Fd.PORT_LANE_STAT_FAILED n)) (s.sparePhys n) = false →
      1000 ≤ (s.laneRx n (s.sparePhys n)).spareMs →
      exec (.laneFailed n) s = .next (((s.wrBit (Fd.PORT_LANE_STAT_FAILED n) (s.sparePhys n) true).raise (linkSrc n 1) 7
        (laneAddr (s.sparePhys n) 15 0 0 0)).withdraw n)) ∧
    (∀ len rx, s.lstate n ≠ lOFF → s.on (Fd.PORT_LANE_TEST_TEST n) = false → s.sparePhys n ∈ physOf n →
      let p := s.sparePhys n
      ∃ t, exec (.spareReady n [(p, len, rx)]) s = .next (t.judgeSpare n (s.checked n p len rx)) ∧
        (s.checked n p len rx = none → t = s) ∧
        (∀ k, s.checked n p len rx = some k → t = s.count (Fd.PORT_PRBS_ERR_COUNT n p) (Fd.PORT_PRBS_ERR_OVF n p) k)) ∧
    (∀ errs, (s.judgeSpare n errs).on (Fd.PORT_LANE_STAT_SPARE_READY n) = true → s.locked n (s.sparePhys n) = true ∧
      ∃ e e1 e2, errs = some e ∧ (s.laneRx n (s.sparePhys n)).errs.take 2 = [e1, e2] ∧
        e ≤ s.rd (Fd.PORT_LANE_CFG_SPARE_ERR_LIM n) ∧ e1 ≤ s.rd (Fd.PORT_LANE_CFG_SPARE_ERR_LIM n) ∧
        e2 ≤ s.rd (Fd.PORT_LANE_CFG_SPARE_ERR_LIM n)) ∧
    (∀ p pay comma lm loop, s.locked n p = false → exec (.lm0 n p pay comma lm loop) s = .next s) ∧
    (∀ p pay comma lm, s.locked n p = true →
      let f := Fd.PORT_LANE_CNT_CODE_ERR n
      let u := (s.wr f (min f.max (s.rd f + codeErrors pay comma lm))).commaAt n p comma
      (u.locked n p = false → exec (.lm0 n p pay comma lm none) s = .next (u.releaseIn n)) ∧
      (u.locked n p = true → lm.1 ≠ hControl → exec (.lm0 n p pay comma lm none) s = .next (u.releaseIn n)) ∧
      (u.locked n p = true → lm.1 = hControl → exec (.lm0 n p pay comma lm none) s =
        .next ((u.lm0Fields n p (lm.2 % 2 ^ 64)).releaseIn n))) ∧
    (∀ p body, let lane := bits body 63 60
      let u := s.reseed n p (bits body 57 0)
      let x := u.laneRx n p
      let k := if x.st = bits body 59 58 then x.stN + 1 else 1
      let v := u.setLaneRx n p { x with codes := [lane], st := bits body 59 58, stN := k }
      k ≠ 2 →
      (x.codes = [lane] → lane < lanesOf n → v.sparePhys n = p → (v.link n).farAnn = none →
        s.lm0Fields n p body = v.swapRx n lane 1) ∧
      (x.codes ≠ [lane] → s.lm0Fields n p body = v))

/-- LANE_SWAP while a swap is requested, or for a transmit swap announced or asked for, is answered 4 and changes nothing else; one of a lane beyond the port's is answered 5; a receive swap without a ready spare 3 with NO_SPARE, otherwise 2 and the request stands; a transmit swap otherwise 2. An announcement takes the far side's request before the port's own, four frames ahead, and only with the far spare ready. A swap moves the lane onto the spare and makes its old lane the spare; transmit swaps raise LANE_SWAPPED and end the announcement. Entering lane test takes the link down with a reset, and leaving it brings the port up again where its lanes may run; the generator's injection adds one bit to be inverted where it runs and nothing elsewhere, the periodic one after the pattern bits that lie between. Re-training asks a port with a ready spare, here the only one, for a receive swap of its next lane in turn. -/
def Obligations.LaneSwaps : Prop :=
  ∀ (s : State) (n : Nat), s.inReset = false → n < 13 →
    (∀ k, let u := (s.wr (Fd.PORT_LANE_SWAP_DIR n) 0).wr (Fd.PORT_LANE_SWAP_LANE n) (k % 8)
      ((s.link n).reqLane.isSome = true →
        exec (.laneSwapRx n k) s = .next (s.wr (Fd.PORT_LANE_SWAP_RESULT n) 4)) ∧
      ((s.link n).reqLane = none → lanesOf n ≤ k % 8 →
        exec (.laneSwapRx n k) s = .next (u.wr (Fd.PORT_LANE_SWAP_RESULT n) 5)) ∧
      ((s.link n).reqLane = none → k % 8 < lanesOf n → u.spareOk n = false →
        exec (.laneSwapRx n k) s = .next ((u.noSpare n (k % 8)).wr (Fd.PORT_LANE_SWAP_RESULT n) 3)) ∧
      ((s.link n).reqLane = none → k % 8 < lanesOf n → u.spareOk n = true → exec (.laneSwapRx n k) s =
        .next ((u.setLink n { u.link n with reqLane := some (k % 8), reqSw := true }).wr (Fd.PORT_LANE_SWAP_RESULT n) 2))) ∧
    (∀ k, let u := (s.wr (Fd.PORT_LANE_SWAP_DIR n) 1).wr (Fd.PORT_LANE_SWAP_LANE n) (k % 8)
      ((s.link n).txAnn ≠ none ∨ (s.link n).swReq ≠ none →
        exec (.laneSwapTx n k) s = .next (s.wr (Fd.PORT_LANE_SWAP_RESULT n) 4)) ∧
      ((s.link n).txAnn = none → (s.link n).swReq = none → lanesOf n ≤ k % 8 →
        exec (.laneSwapTx n k) s = .next (u.wr (Fd.PORT_LANE_SWAP_RESULT n) 5)) ∧
      ((s.link n).txAnn = none → (s.link n).swReq = none → k % 8 < lanesOf n → exec (.laneSwapTx n k) s =
        .next ((u.setLink n { u.link n with swReq := some (k % 8) }).wr (Fd.PORT_LANE_SWAP_RESULT n) 2))) ∧
    (∀ f k, (s.link n).txAnn = none → s.on (Fd.PORT_LANE_FLAG_FAR_SPARE_READY n) = true →
      s.rd (Fd.PORT_LANE_STAT_STATE n) ≠ 0 →
      ((s.link n).farReq = some k ∨ ((s.link n).farReq = none ∧ (s.link n).swReq = some k)) →
      exec (.swapAnnounce n f) s = .next ((s.toFrame n f).setLink n
        { (s.toFrame n f).link n with txAnn := some (k, (f + 4) % 4096) })) ∧
    (∀ f, s.on (Fd.PORT_LANE_FLAG_FAR_SPARE_READY n) = false → exec (.swapAnnounce n f) s = .next s) ∧
    (∀ k f, (s.link n).txAnn = some (k, f) → let u := s.toFrame n f
      exec (.laneSwap n true) s = .next (u.swapTx n k) ∧ ((u.swapTx n k).link n).txAnn = none ∧
      ((u.swapTx n k).link n).txSpare = u.txPhys n k ∧
      (k < 8 → (u.swapTx n k).txPhys n k = (u.link n).txSpare % 16)) ∧
    (∀ k f, (s.link n).farAnn = some (k, f) → k < lanesOf n → exec (.laneSwap n false) s = .next (s.swapRx n k 0)) ∧
    (s.on (Fd.PORT_LANE_TEST_TEST n) = false → exec (.laneTest n true) s =
      .next ((((s.wr (Fd.PORT_LANE_TEST_TEST n) 1).wr (Fd.PORT_LANE_STAT_UP n) 0).enterRecover n 1 true).setLstate n lTEST)) ∧
    (s.on (Fd.PORT_LANE_TEST_TEST n) = true →
      let u := s.wr (Fd.PORT_LANE_TEST_TEST n) 0
      exec (.laneTest n false) s = .next (if u.laneRuns n then u.bringup n else u.portOff n)) ∧
    (∀ p, (s.injects n p = true → exec (.prbsInj n p) s = .next (s.injectBit n p)) ∧
      (s.injects n p = false → exec (.prbsInj n p) s = .next s) ∧
      (∀ r, s.rd (Fd.PORT_PRBS_CTL_INJ_RATE n p) = r →
        (s.injects n p = true → r ≠ 0 → exec (.periodicInjection n p) s =
          .next ((s.sendPattern n p (2 ^ (r + 9) - 1)).injectBit n p)) ∧
        (s.injects n p = false ∨ r = 0 → exec (.periodicInjection n p) s = .next s)) ∧
      (s.injectBit n p).link n = { s.link n with
        inj := Tab.put (fun _ => 0) (s.link n).inj p ((s.link n).toInvert p + 1) }) ∧
    (s.on (Fd.PORT_LANE_STAT_SPARE_READY n) = true →
      (∀ m, m < 13 → m ≠ n → s.on (Fd.PORT_LANE_STAT_SPARE_READY m) = false) →
      exec .laneRetrain s = .next ({ s with cal := { s.cal with
        turn := Tab.put (fun _ => 0) s.cal.turn n ((Tab.get (fun _ => 0) s.cal.turn n + 1) % lanesOf n) } }.swapGo n
          (Tab.get (fun _ => 0) s.cal.turn n) 0))

/-- A port whose lanes do not yet send link frames sends nothing, and so does one in OFF, TRAIN or TEST. Otherwise it sends the INIT flit in INIT and RECOVER with its receive direction up and an IDLE flit while it is down; in ACTIVE with no open run a NAK flit that is due, then the flit a replay has reached, then a DATA flit of the slots that may go, then an IDLE flit; in STANDBY an IDLE flit. NAK_RESEND makes the NAK due again while a NAK stands. A replay timeout starts a replay from the oldest unacknowledged flit and counts it; one that is 8 us old moves the port to RECOVER with cause 2 and a reset. The next phase's key is marked ready once asked for. An event that may go next goes as the port's next flit. On the pair link, the statement is of a state that does not first leave standby for a waiting message (`State.pairReturns`). -/
def Obligations.FlitTransmission : Prop :=
  ∀ (s : State) (n : Nat), s.inReset = false → n < 13 →
    (n < 12 → s.pairReturns n = s) ∧
    (s.pairReturns n = s →
      ((s.lstate n = lOFF ∨ s.lstate n = lTRAIN ∨ s.lstate n = lTEST) → exec (.flitTransmit n) s = .next s) ∧
      (s.rd (Fd.PORT_LANE_STAT_STATE n) < 2 → exec (.flitTransmit n) s = .next s) ∧
      (2 ≤ s.rd (Fd.PORT_LANE_STAT_STATE n) →
        (s.lstate n = lSTANDBY → exec (.flitTransmit n) s = .next (s.sendFlit n (s.blank n fIDLE))) ∧
        ((s.lstate n = lINIT ∨ s.lstate n = lRECOVER) → s.on (Fd.PORT_LANE_STAT_UP n) = false →
          exec (.flitTransmit n) s = .next (s.sendFlit n (s.blank n fIDLE))) ∧
        ((s.lstate n = lINIT ∨ s.lstate n = lRECOVER) → s.on (Fd.PORT_LANE_STAT_UP n) = true →
          (s.link n).seen = false → exec (.flitTransmit n) s = .next (s.sendFlit n (s.initFlit n))) ∧
        (s.lstate n = lACTIVE → s.encOn n = false → (s.link n).txRun = [] → (s.link n).nakDue = true →
          exec (.flitTransmit n) s = .next (s.sendNak n)) ∧
        (∀ q, s.lstate n = lACTIVE → s.encOn n = false → (s.link n).txRun = [] → (s.link n).nakDue = false →
          (s.link n).resend = some q → exec (.flitTransmit n) s = .next (s.sendReplay n q)) ∧
        (s.lstate n = lACTIVE → s.encOn n = false → (s.link n).txRun = [] → (s.link n).nakDue = false →
          (s.link n).resend = none → s.canData n = true → (State.fill 7 s n).2 ≠ [] →
          exec (.flitTransmit n) s = .next ((State.fill 7 s n).1.sendData n (State.fill 7 s n).2)) ∧
        (s.lstate n = lACTIVE → s.encOn n = false → (s.link n).txRun = [] → (s.link n).nakDue = false →
          (s.link n).resend = none → (s.canData n = false ∨ (s.link n).txSlots = [] ∧ s.nextVc n = none) →
          exec (.flitTransmit n) s = .next (s.sendFlit n (s.blank n fIDLE))))) ∧
    (∀ q f rest, ((s.link n).replay.dropWhile fun (x : Flit) => x.seq != q) = f :: rest →
      s.sendReplay n q = (s.setLink n { s.link n with resend := rest.head?.map (·.seq) }).sendFlit n f) ∧
    ((s.link n).nak = true → exec (.nakResend n) s = .next (s.setLink n { s.link n with nakDue := true })) ∧
    ((s.link n).nak = false → exec (.nakResend n) s = .next s) ∧
    (∀ f rest, (s.lstate n = lACTIVE ∨ s.lstate n = lHOLD) → (s.link n).replay = f :: rest →
      exec (.replayTimeout n) s =
        .next ((s.setLink n { s.link n with resend := some f.seq, rstart := some f.seq }).count
          (Fd.PORT_LINK_CNT_REPLAYS n) (Fd.PORT_LINK_CNT_REPLAY_OVF n) 1)) ∧
    ((s.link n).replay ≠ [] → exec (.replayAgeExpiry n) s = .next (s.enterRecover n 2 true)) ∧
    ((s.link n).keyAsked = true →
      exec (.rekeyKeyReady n) s = .next (s.setLink n { s.link n with keyReady := true })) ∧
    (n < 12 → s.eventNext n = true → exec (.eventMessage n) s = .next (s.sendActive n)) ∧
    (s.eventNext n = false → exec (.eventMessage n) s = .next s)

/-- The flit the lanes' codewords hold, as the FEC decodes them, of a port that hears flits, is kept among the recent headers and its FEC results are counted; while a comma is missing it is held (log entry 59). A flit that passes its CRC reports credits, and one that is not sequenced uses its ACK. A bad flit is counted and, in ACTIVE or HOLD with no NAK outstanding, makes a NAK due. A good HOLD flit shows the far mode. A NAK flit of an unknown ACK starts no replay; one of the ACK reached starts one. A sequenced flit in STANDBY is discarded without acknowledgement, and so is the one expected outside ACTIVE and HOLD (log entry 62); one already received is dropped, one that is too new is a bad flit, and the one expected is accepted: its slots are taken on a port without encryption, and kept for the run's tag on one with it. An INIT flit that is refused raises INIT_FAIL once, with its cause. A port that does not hear flits ignores every one. Entry to RECOVER from ACTIVE, HOLD or STANDBY stores the cause, sets RESET_PEND where a reset is asked for and starts the INIT exchange afresh; from any other state only RESET_PEND may change. -/
def Obligations.FlitReception : Prop :=
  ∀ (s : State) (n : Nat) (rx : RxFlit), s.inReset = false →
    let f := rxFlit rx
    let a := s.arrive n f
    let b := a.takeCredit n f
    let c := b.takeAck n f
    (s.hears n = false → exec (.dataFlit n rx) s = .next s ∧ exec (.idleFlit n rx) s = .next s ∧
      exec (.nakFlit n rx) s = .next s ∧ exec (.initFlit n rx) s = .next s ∧ exec (.holdFlit n rx) s = .next s ∧
      exec (.tagFlit n rx) s = .next s) ∧
    (s.hears n = true → s.commaMissing n = true →
      let h := s.setLink n { s.link n with heldIn := (s.link n).heldIn ++ [f] }
      ((f.ty = fDATA ∨ 6 ≤ f.ty) → exec (.dataFlit n rx) s = .next h) ∧
      (f.ty = fIDLE → exec (.idleFlit n rx) s = .next h) ∧ (f.ty = fNAK → exec (.nakFlit n rx) s = .next h) ∧
      (f.ty = fINIT → exec (.initFlit n rx) s = .next h) ∧ (f.ty = fHOLD → exec (.holdFlit n rx) s = .next h) ∧
      (f.ty = fTAG → exec (.tagFlit n rx) s = .next h)) ∧
    (s.hears n = true → s.commaMissing n = false → flitCrcOk f = false →
      ((f.ty = fDATA ∨ 6 ≤ f.ty) → exec (.dataFlit n rx) s = .next (a.badFlit n)) ∧
      (f.ty = fIDLE → exec (.idleFlit n rx) s = .next (a.badFlit n)) ∧
      (f.ty = fNAK → exec (.nakFlit n rx) s = .next (a.badFlit n)) ∧
      (f.ty = fINIT → exec (.initFlit n rx) s = .next (a.badFlit n)) ∧
      (f.ty = fHOLD → exec (.holdFlit n rx) s = .next (a.badFlit n)) ∧
      (f.ty = fTAG → exec (.tagFlit n rx) s = .next (a.badFlit n))) ∧
    (s.hears n = true → s.commaMissing n = false → flitCrcOk f = true → flitGood f = false →
      (f.ty = fDATA → exec (.dataFlit n rx) s = .next (b.badFlit n)) ∧
      (6 ≤ f.ty → exec (.dataFlit n rx) s = .next (c.badFlit n)) ∧
      (f.ty = fIDLE → exec (.idleFlit n rx) s = .next (c.badFlit n)) ∧
      (f.ty = fNAK → exec (.nakFlit n rx) s = .next (c.badFlit n)) ∧
      (f.ty = fINIT → exec (.initFlit n rx) s = .next (c.badFlit n)) ∧
      (f.ty = fHOLD → exec (.holdFlit n rx) s = .next (c.badFlit n)) ∧
      (f.ty = fTAG → exec (.tagFlit n rx) s = .next (b.badFlit n))) ∧
    (s.hears n = true → s.commaMissing n = false → flitGood f = true →
      (f.ty = fIDLE → exec (.idleFlit n rx) s = .next c) ∧
      (f.ty = fHOLD → exec (.holdFlit n rx) s = .next (c.setLink n
        { c.link n with holdMode := some (flitByte f 0 0) })) ∧
      (f.ty = fNAK → f.ack % 4096 ≠ (s.link n).covered → (∀ x ∈ (s.link n).replay, x.seq ≠ f.ack % 4096) →
        exec (.nakFlit n rx) s = .next c) ∧
      (f.ty = fNAK → f.ack % 4096 = (s.link n).covered → (s.link n).resend = none →
        exec (.nakFlit n rx) s = .next (c.replayFrom n)) ∧
      (∀ x, f.ty = fINIT → c.lstate n = lINIT → c.initCause n f = some x →
        (c.link n).initFail = false → exec (.initFlit n rx) s =
          .next ((c.setLink n { c.link n with initFail := true }).raise (linkSrc n 3) 0xD x)) ∧
      (f.ty = fINIT → c.lstate n = lINIT → c.initCause n f = none →
        exec (.initFlit n rx) s = .next ((c.setLink n { c.link n with seen := true, farInit := some f }).tryExchange n)) ∧
      (b.lstate n = lSTANDBY →
        (f.ty = fDATA → exec (.dataFlit n rx) s = .next b) ∧ (f.ty = fTAG → exec (.tagFlit n rx) s = .next b)) ∧
      (b.lstate n ≠ lSTANDBY →
        let want := (b.rd (Fd.PORT_LINK_SEQ_RX_LAST n) + 1 + (b.link n).rxRun.length) % 4096
        let taken := b.lstate n = lACTIVE ∨ b.lstate n = lHOLD
        (seqDist want f.seq = 0 → ¬ taken →
          (f.ty = fDATA → exec (.dataFlit n rx) s = .next b) ∧ (f.ty = fTAG → exec (.tagFlit n rx) s = .next b)) ∧
        (f.ty = fDATA → seqDist want f.seq = 0 → taken → c.encOn n = false →
          exec (.dataFlit n rx) s = .next ((c.acceptTo n f.seq).takeSlots n f.codes f.slots)) ∧
        (f.ty = fDATA → seqDist want f.seq = 0 → taken → c.encOn n = true →
          exec (.dataFlit n rx) s = .next (c.pendData n f)) ∧
        (f.ty = fTAG → seqDist want f.seq = 0 → taken → c.encOn n = true →
          exec (.tagFlit n rx) s = .next (c.endRun n f)) ∧
        (0 < seqDist want f.seq → seqDist want f.seq ≤ 2047 →
          (f.ty = fDATA → exec (.dataFlit n rx) s = .next b) ∧ (f.ty = fTAG → exec (.tagFlit n rx) s = .next b)) ∧
        (2047 < seqDist want f.seq →
          (f.ty = fDATA → exec (.dataFlit n rx) s = .next (b.badFlit n)) ∧
          (f.ty = fTAG → exec (.tagFlit n rx) s = .next (b.badFlit n))))) ∧
    (∀ cause reset, n < 13 → cause < 8 → (s.lstate n = lACTIVE ∨ s.lstate n = lHOLD ∨ s.lstate n = lSTANDBY) →
      let e := s.enterRecover n cause reset
      e.lstate n = lRECOVER ∧ e.rd (Fd.PORT_LINK_STAT_CAUSE n) = cause ∧ e.link n = (s.link n).freshInit ∧
      e.on (Fd.PORT_LINK_STAT_RESET_PEND n) = (reset || s.on (Fd.PORT_LINK_STAT_RESET_PEND n))) ∧
    (∀ cause reset, s.lstate n ≠ lACTIVE → s.lstate n ≠ lHOLD → s.lstate n ≠ lSTANDBY →
      s.enterRecover n cause reset = if reset then s.wr (Fd.PORT_LINK_STAT_RESET_PEND n) 1 else s)

/-- For every command that spells a data request (rd64, rd128, rd256, wr64, wr128, wr256, wrp, atomFadd, atomCas, atomSwap, atomMin, atomMax, atomAnd, atomOr, tblProbe, tblInsert, tblDelete, enq, deq, qstat, qEnable, qDisable, qFlush, qSetLimit, qSetProt, cupd, cread, cclr, crebuild, fenceReq and snapReq): on a port whose decoder is free, with steps 1 to 3 passed, no hold, a region admitted at step 6, a label at step 7 and no fence at step 8, the message leaves its buffer, the request is outstanding under the next number, and is charged. An uncharged request, and one the regulator lets go, goes to its engine at once unless an older request of its port to the same target is still held; one that must wait joins its label's share queue; one without room there holds its decoder and REG_SHARE_FULL is reported. -/
def Obligations.DataRequestAccepted : Prop :=
  ∀ (s : State) (c : Instr) (port op : Nat) (h : ReqHead) (payload : List Byte) (rgn : Option Nat) (l : Nat),
    c.asRequest = some (port, op, h, payload) → s.inReset = false → s.opens port op h = true →
    s.txn s.req.nextId = none →
    let u := s.tookReq 0 port op h payload 0
    let t := s.asTxn port op h payload 0
    u.unheld t = true → u.step6 op h = .ok rgn → u.step7 h rgn = some l → u.step8 op h payload rgn = false →
    let p := u.passedTxn t l
    let v := (u.setTxn p).passLabel t.id l p.charge (u.cardCharge op h payload).2
    (p.charge = 0 → (u.setTxn p).behind p = false → exec c s = .next ((u.setTxn p).dispatch p)) ∧
    (p.charge ≠ 0 → v.2 = .go → v.1.txn t.id = some p → v.1.behind p = false → exec c s = .next (v.1.dispatch p)) ∧
    (p.charge ≠ 0 → v.2 = .go → v.1.txn t.id = some p → v.1.behind p = true →
      exec c s = .next (v.1.setTxn { p with stage := .heldBehind })) ∧
    (p.charge ≠ 0 → v.2 = .held → exec c s = .next (v.1.setTxn { p with stage := .heldShare })) ∧
    (p.charge ≠ 0 → v.2 = .noRoom →
      exec c s = .next ((v.1.setTxn { p with stage := .heldRoom }).shareFull l port))

/-- For every command that spells a data request (`Instr.asRequest`: the 31 named in `Obligations.DataRequestAccepted`): a port that hears nothing, or whose clock is gated, ignores it; a decoder that waits keeps it in order, with whether the mode admitted it when it came. Otherwise its slots are freed and, in this order, an outstanding count of 2,048 answers RETRY_LATER, a malformed head ABORTED with RFLAGS bit 2, the mode its status. A request that is held stays outstanding in the first of the holds of R266, R283, R306, R544 and R594 that applies. A failed step 6 answers its status, a failed step 7 REJ_LABEL, a fenced target FENCED. -/
def Obligations.DataRequestRefused : Prop :=
  ∀ (s : State) (c : Instr) (port op : Nat) (h : ReqHead) (payload : List Byte),
    c.asRequest = some (port, op, h, payload) → s.inReset = false →
    (12 ≤ port ∨ s.deaf = true ∨ s.portGated port = true → exec c s = .next s) ∧
    (port < 12 → s.deaf = false → s.portGated port = false → s.blocked port = true →
      exec c s = .next (s.setInbox port (s.inbox port ++
        [{ op, head := h, data := payload, early := s.dataMode.isNone }]))) ∧
    (s.decodes port = true →
      let u := s.freeSlots port 0 (1 + reqSlots op h)
      (2048 ≤ u.outstanding port → exec c s = .next (u.refuse port op h stRETRY 0 0 .limit)) ∧
      (u.outstanding port < 2048 → malformed op h = true → exec c s = .next (u.refuse port op h stABORTED 4 0)) ∧
      (∀ st, u.outstanding port < 2048 → malformed op h = false → u.dataMode = some st →
        exec c s = .next (u.refuse port op h st 0 0))) ∧
    (s.opens port op h = true → s.txn s.req.nextId = none →
      let u := s.tookReq 0 port op h payload 0
      let t := s.asTxn port op h payload 0
      let held (st : Stage) : Prop := exec c s = .next (u.setTxn { t with stage := st })
      (u.fenced t = true → held .heldFence) ∧
      (u.fenced t = false → u.orderWaits t = true → held .heldOrdered) ∧
      (u.fenced t = false → u.orderWaits t = false → u.commitHolds t = true → held .heldRegion) ∧
      (u.fenced t = false → u.orderWaits t = false → u.commitHolds t = false → u.keyHolds t = true → held .heldKey) ∧
      (u.fenced t = false → u.orderWaits t = false → u.commitHolds t = false → u.keyHolds t = false →
        u.roleHolds t = true → held .heldRole) ∧
      (u.unheld t = true →
        (∀ st fl, u.step6 op h = .error (st, fl) → exec c s = .next (u.respond t st 0 [] 0 fl)) ∧
        (∀ rgn, u.step6 op h = .ok rgn → u.step7 h rgn = none → exec c s = .next (u.respond t stREJ_LABEL)) ∧
        (∀ rgn l, u.step6 op h = .ok rgn → u.step7 h rgn = some l → u.step8 op h payload rgn = true →
          exec c s = .next (u.respond t stFENCED))))

/-- A line request that goes to no partner and touches no table bucket sends its line accesses into the fabric in ascending line order, numbered in that order, and waits for all of them: RD64 to RD256 one, two or four line reads, WR64 to WR256 as many line writes of its payload's lines, ATOM one merge, WRP one merge or, with its whole mask or poison, one write. A WRP of no byte sends none and is answered OK. -/
def Obligations.LineAccessesPresented : Prop :=
  ∀ (s : State) (t : Txn), isLine t.op = true → s.goesAway t = false →
    (∀ a ∈ lineAccs t, s.bucketOf (64 * a.line) = none) →
    let n := opLines t.op
    (lineAccs t ≠ [] →
      (s.dispatch t).fabric =
        s.fabric ++ (lineAccs t).mapIdx (fun i a => { a with seq := s.nextSeq + i, born := s.clk.time }) ∧
      (s.dispatch t).req = (s.setTxn { t with stage := .running, left := (lineAccs t).length }).req ∧
      (s.dispatch t).regs = s.regs ∧ (s.dispatch t).dram = s.dram) ∧
    (isRead t.op = true → (lineAccs t).map (fun a => (a.kind, a.line)) =
      (List.range n).map fun i => (AccKind.read, t.head.addr / 64 + i)) ∧
    (isWrite t.op = true → (lineAccs t).map (fun a => (a.kind, a.line, a.data)) =
      (List.range n).map fun i => (AccKind.write, t.head.addr / 64 + i, (t.payload.drop (64 * i)).take 64)) ∧
    (t.op = opATOM → (lineAccs t).map (fun a => (a.kind, a.line)) = [(AccKind.merge, t.head.addr / 64)]) ∧
    (t.op = opWRP → bit t.head.spec 0 = false → leNat (t.payload.take 8) % 2 ^ 64 = 0 →
      lineAccs t = [] ∧ (s.setTxn { t with stage := .running, left := 0 }).settle t.id = s.dispatch t)

/-- A FENCE with nothing to wait for is answered OK at once, and otherwise waits. Its completion answers OK, and requests held behind it go through their checks; while a covered request is outstanding nothing happens. An ORDERED request whose earlier requests have completed goes through its checks, and so do the requests held behind it; before that nothing happens. SNAP answers EXISTS with the held snapshot's time while one is held since an earlier tick, or was released in this one (log entry 65), shares a wave of its own device time, and otherwise takes one and answers OK with its time. -/
def Obligations.FencesAndOrder : Prop :=
  ∀ (s : State) (t : Txn), s.inReset = false →
    (t.op = opFENCE → s.goesAway t = false →
      s.dispatch t = if s.req.txns.any (fun x => decide (x.id < t.id) && fenceCovers t x)
        then s.setTxn { t with stage := .fence } else s.respond t stOK) ∧
    (t.op = opSNAP → s.goesAway t = false →
      (s.tooLate = true → s.dispatch t = (s.missed 3).respond t stEXISTS s.snapTime) ∧
      (s.tooLate = false → s.waving = false →
        s.dispatch t = (s.wave 3 t.port).respond t stOK (s.wave 3 t.port).snapTime) ∧
      (s.tooLate = false → s.waving = true →
        s.dispatch t = (s.share 3 t.port).respond t stOK (s.share 3 t.port).snapTime)) ∧
    (s.on Fd.OBS_SNAP_STAT_HELD = true → s.snapTime ≠ s.clk.time → s.tooLate = true) ∧
    (s.on Fd.OBS_SNAP_STAT_HELD = false → s.obs.freed ≠ s.clk.time + 1 → s.tooLate = false ∧ s.waving = false) ∧
    (∀ k, s.txn k = some t → t.op = opFENCE → t.stage = .fence →
      ((∀ x ∈ s.req.txns, ¬ (x.id < t.id ∧ fenceCovers t x = true)) →
        exec (.fenceComplete k) s = .next (((s.respond t stOK).releaseStage .heldFence).runReady)) ∧
      ((∃ x ∈ s.req.txns, x.id < t.id ∧ fenceCovers t x = true) → exec (.fenceComplete k) s = .next s)) ∧
    (∀ k, s.txn k = some t → t.stage = .heldOrdered →
      (s.orderWaits t = false → exec (.orderedStart k) s = .next ((((s.checkReq k).releaseBehind).releaseStage .heldFence).runReady)) ∧
      (s.orderWaits t = true → exec (.orderedStart k) s = .next s))

/-- A management request on a port that hears it and whose clock is not gated, with no management request ready before it and nothing that holds it, runs at once. MGMT_RD reads its registers in ascending order and answers OK with their words, or REJ_REGION where one lies in no block. MGMT_WR of a register that a critical command governs is answered REJ_AUTH; otherwise it writes its registers in ascending order and answers OK, with RFLAGS bit 1 where a write was ignored. AUTH is refused, with the reason recorded, when it wraps no MGMT_WR of one to four aligned registers, when its MAC does not match, or when its counter is not above LAST and at most 2^32 beyond it; a good one below P + 65,536 runs, and one beyond waits for the persist record. The persist write's success runs the AUTH that waited. -/
def Obligations.ManagementRequests : Prop :=
  ∀ (s : State) (port : Nat) (h : ReqHead) (d : List Byte), s.inReset = false → port < 12 → s.deaf = false → s.portGated port = false →
    s.txn s.req.nextId = none → (∀ x ∈ s.req.txns, ¬ (isMgmt x.op = true ∧ x.stage = .running)) →
    s.outstanding port < 2048 → s.seq.mcRestart = false →
    let u (op : Nat) : State := s.tookReq 3 port op h (if op = opMGMT_RD then [] else d) 254
    let t (op : Nat) : Txn := s.asTxn port op h (if op = opMGMT_RD then [] else d) 254
    (malformed opMGMT_RD h = false → (u opMGMT_RD).fenced (t opMGMT_RD) = false →
      (u opMGMT_RD).orderWaits (t opMGMT_RD) = false →
      ((mgmtAddrs h).all inBlock = true → exec (.mgmtRd port h) s =
        .next (((u opMGMT_RD).readRegs (mgmtAddrs h)).1.respond ((u opMGMT_RD).mgmtStart (t opMGMT_RD)) stOK 0
          (((u opMGMT_RD).readRegs (mgmtAddrs h)).2 ++
            List.replicate (16 - ((u opMGMT_RD).readRegs (mgmtAddrs h)).2.length) 0))) ∧
      ((mgmtAddrs h).all inBlock = false →
        exec (.mgmtRd port h) s = .next ((u opMGMT_RD).respond (t opMGMT_RD) stREJ_REGION))) ∧
    (malformed opMGMT_WR h = false → s.mgmtMode port opMGMT_WR h d = none → (u opMGMT_WR).fenced (t opMGMT_WR) = false →
      (u opMGMT_WR).orderWaits (t opMGMT_WR) = false →
      ((mgmtAddrs h).any governed = true →
        exec (.mgmtWr port h d) s = .next ((u opMGMT_WR).respond (t opMGMT_WR) stREJ_AUTH)) ∧
      ((mgmtAddrs h).any governed = false → (mgmtAddrs h).all inBlock = true →
        let r := (u opMGMT_WR).writeRegs port (mgmtAddrs h) d
        r.2.later = false → exec (.mgmtWr port h d) s =
          .next (r.1.respond ((u opMGMT_WR).mgmtStart (t opMGMT_WR)) stOK 0 [] 0 (2 * b2n r.2.ignored)))) ∧
    (malformed opAUTH h = false → s.mgmtMode port opAUTH h d = none → (u opAUTH).fenced (t opAUTH) = false →
      s.authWaiting = [] →
      let w := wrapped d
      let c := leNat (d.take 8)
      (w.1 ≠ opMGMT_WR ∨ w.2.lenArg % 8 = 0 ∨ 4 < w.2.lenArg % 8 ∨ w.2.addr % 4 ≠ 0 →
        exec (.authReq port h d) s = .next ((u opAUTH).authFail (t opAUTH) 1)) ∧
      (w.1 = opMGMT_WR → 0 < w.2.lenArg % 8 → w.2.lenArg % 8 ≤ 4 → w.2.addr % 4 = 0 →
        ((u opAUTH).macOk (t opAUTH) = false → exec (.authReq port h d) s = .next ((u opAUTH).authFail (t opAUTH) 2)) ∧
        ((u opAUTH).macOk (t opAUTH) = true →
          (¬ (s.sec.last < c ∧ c ≤ s.sec.last + 2 ^ 32) →
            exec (.authReq port h d) s = .next ((u opAUTH).authFail (t opAUTH) 3)) ∧
          (s.sec.last < c → c ≤ s.sec.last + 2 ^ 32 → c < s.sec.p + 65536 → exec (.authReq port h d) s =
            .next ({ (u opAUTH) with sec := { s.sec with last := c } }.mgmtWrite (t opAUTH) w.2 (d.drop 48) c)) ∧
          (s.sec.last < c → c ≤ s.sec.last + 2 ^ 32 → s.sec.p + 65536 ≤ c → s.stopped 4 = false →
            ∃ v, exec (.authReq port h d) s = .next v ∧ v.authWaiting = [{ t opAUTH with stage := .heldPersist }] ∧
              v.sec = s.sec ∧ v.nvm.persist.take 8 = leBytes 8 c)))) ∧
    (∀ x p, s.authWaiting = [x] → s.nvm.stored = some (p, true) → p = authCounter x →
      exec .authPersistWrite s =
        .next (({ s with nvm := { s.nvm with stored := none } }.authRun x).authNext []))

/-- A GO for a region answers 3 while a commit is busy, and changes nothing else; 13 outside SERVICE and DEGRADED, the first check's result where a check fails, 1 at once for a staged entry that differs only in LABEL, PAGE, RET or the allowed set, 11 for a region in use; otherwise requests to the old and new span are held and RESULT reads 2. The commit ends, with RESULT 1 and the entry staged at GO in force, when no request to the old span is left, and with RESULT 12 and the old entry at its timeout; held requests then go on. RGN_CHANGE is raised with each result. Clearing a region's fence clears its bit; a mirrored region's copy counts as current from then on while not joined. -/
def Obligations.RegionCommits : Prop :=
  ∀ (s : State) (i : Nat), s.inReset = false →
    let n := i % 64
    let u := s.wr Fd.RGN_COMMIT_INDEX n
    let new := u.rgnStaged
    let go : Host.Outcome State Machine.Fault Refusal := exec (.rgnCommit i) s
    let chk := rgnCheck u (fun m => if m = n then new else u.rgn m) n
    (∀ v : State, ∀ r, v.commitDone n r = (v.wr Fd.RGN_COMMIT_RESULT r).raise 10 1 (n + r * 256)) ∧
    (s.on Fd.RGN_STAT_BUSY = true → go = .next (s.commitDone n 3)) ∧
    (s.on Fd.RGN_STAT_BUSY = false → u.mode ≠ mSERVICE → u.mode ≠ mDEGRADED → go = .next (u.commitDone n 13)) ∧
    (s.on Fd.RGN_STAT_BUSY = false → (u.mode = mSERVICE ∨ u.mode = mDEGRADED) →
      (∀ r, chk = some r → go = .next (u.commitDone n r)) ∧
      (chk = none → (u.rgn n).light new = true → go = .next ((u.commitApply n new).commitDone n 1)) ∧
      (chk = none → (u.rgn n).light new = false → u.rgnInUse n new = true → go = .next (u.commitDone n 11)) ∧
      (chk = none → (u.rgn n).light new = false → u.rgnInUse n new = false →
        go = .next ((((({ u with req := { u.req with
            commit := some (n, (u.rgn n).span3, new.span3, u.stageWords)
            commitId := u.req.nextId } }).wr Fd.RGN_STAT_BUSY 1).wr
          Fd.RGN_STAT_HOLDING 1).wr Fd.RGN_STAT_INDEX n).wr Fd.RGN_COMMIT_RESULT 2))) ∧
    (∀ m o w ws, s.req.commit = some (m, o, w, ws) →
      (s.commitBusy o = true → exec .commitDrainEnd s = .next s) ∧
      (s.commitBusy o = false →
        exec .commitDrainEnd s = .next ((s.commitApply m (s.setStage ws).rgnStaged).commitEnd m 1)) ∧
      exec .commitTimeout s = .next (s.commitEnd m 12)) ∧
    (s.req.commit = none → exec .commitDrainEnd s = .next s ∧ exec .commitTimeout s = .next s) ∧
    (∀ r, r < 64 → s.rgnFenced r = true →
      let v := s.wrBit (rgnFenceFld r) (r % 32) false
      exec (.rgnFenceClear r) s =
        .next (if (v.rgn r).valid = true ∧ (v.rgn r).mirror = true ∧ v.joined = false then v.setCurrent r true else v)) ∧
    (∀ r, s.rgnFenced r = false → exec (.rgnFenceClear r) s = .next s)

/-- The next transfer of an initiator to a pseudo-channel is the one its group grants: it is the group's to take, and no other initiator's first transfer there that the group can take has the higher urgency. When it is of the command's kind, it leaves the fabric for the controller with the request's other accesses to that pseudo-channel, and the group notes the initiator it granted: a read and a merge join their queue's end, and count as waiting when they follow a queued write or a merge of their line. A fenced group answers a read and a merge ABORTED. A write is encrypted, queued, mirrored and answered. Without such a transfer nothing happens. -/
def Obligations.ControllerEntries : Prop :=
  ∀ (s : State) (k ini : Nat), s.inReset = false →
    (s.nextFor k ini = none → exec (.readQueueEntry k ini) s = .next s ∧ exec (.writeQueueEntry k ini) s = .next s ∧
      exec (.merge k ini) s = .next s) ∧
    (∀ a, s.nextFor k ini = some a →
      (a.ini = ini ∧ pcOf (64 * a.line) = k ∧ s.takes a = true ∧ a ∈ s.fabric ∧
        ∀ j b, j < 17 → s.headFor j (k / 4) = some b → s.takes b = true → b.urg ≤ a.urg) ∧
      (a.kind = .read → s.accessOf a = [a] → s.cgFenced (k / 4) = true →
        exec (.readQueueEntry k ini) s = .next ((s.taken a (k / 4)).aborted a.txn)) ∧
      (a.kind = .read → s.accessOf a = [a] → s.cgFenced (k / 4) = false →
        exec (.readQueueEntry k ini) s = .next (s.enterRead k a)) ∧
      (a.kind = .read → s.cgFenced (k / 4) = false →
        exec (.readQueueEntry k ini) s = .next ((s.accessOf a).foldl (fun s x => s.enterRead k x) s)) ∧
      (a.kind = .merge → s.cgFenced (k / 4) = true →
        exec (.merge k ini) s = .next ((s.taken a (k / 4)).aborted a.txn)) ∧
      (a.kind = .merge → s.cgFenced (k / 4) = false → exec (.merge k ini) s = .next (s.enterMerge k a)) ∧
      (a.kind = .write →
        exec (.writeQueueEntry k ini) s = .next ((s.accessOf a).foldl (fun s x => s.enterWrite k x) s))) ∧
    (∀ a, ((s.enterRead k a).pc k).rq = (s.pc k).rq ++ [{ a with seq := s.nextSeq, born := s.clk.time }] ∧
      (s.enterRead k a).fabric = s.fabric.filter (fun x => x.seq != a.seq) ∧
      (s.enterRead k a).grant = Tab.put (fun _ => 0) s.grant (k / 4) a.ini ∧ (s.enterRead k a).dram = s.dram ∧
      ((s.enterMerge k a).pc k).mb = (s.pc k).mb ++ [{ a with seq := s.nextSeq, born := s.clk.time }] ∧
      (s.enterMerge k a).fabric = s.fabric.filter (fun x => x.seq != a.seq) ∧ (s.enterMerge k a).dram = s.dram)

/-- A controller in self-refresh or of a fenced group issues no command. Otherwise, with no candidate, it only sets its direction; with candidates, one of them gets its next command, which ends a run of CA failures of its bank: an activate of a closed bank, its column command in its open row, a precharge of another row. The oldest issued read returns and is decoded. A burst's entry leaves the queue for the array. A page timer closes its row unless it is 255 or a queued access hits the row. A busy bank's refresh interval raises its debt, and at 7 owed it refreshes; an idle bank refreshes, and once more early while it is not 8 ahead. An epoch clears the activation table. A targeted refresh is counted, and the 65th of an epoch raises kind 3. Self-refresh is entered while a reason holds, and left, with every bank recovering, when none does. -/
def Obligations.ControllerCommands : Prop :=
  ∀ (s : State) (k : Nat), s.inReset = false → k < 128 →
    (∀ ready, (s.pc k).selfRef = true ∨ s.cgFenced (k / 4) = true → exec (.commandIssue k ready) s = .next s) ∧
    (∀ ready, (s.pc k).selfRef = false → s.cgFenced (k / 4) = false →
      let w := s.writeMode k
      let u := s.setPc k { s.pc k with wmode := w, burst3 := if w = (s.pc k).wmode then (s.pc k).burst3 else 0 }
      let cs := (u.pc k).accs.filter fun a => ready.contains a.seq && u.candidate k w a
      (cs = [] → exec (.commandIssue k ready) s = .next u) ∧
      (cs ≠ [] → ∃ a ∈ cs, exec (.commandIssue k ready) s = .next ((u.caPassed k a.bank).command k a))) ∧
    (∀ a, (((s.pc k).bank a.bank).openRow = none → s.command k a = s.activate k a.bank a.row) ∧
      (((s.pc k).bank a.bank).openRow = some a.row → s.command k a = s.column k a) ∧
      (∀ r, ((s.pc k).bank a.bank).openRow = some r → r ≠ a.row → s.command k a =
        s.setPc k ((s.pc k).setBank a.bank { (s.pc k).bank a.bank with openRow := none }))) ∧
    (∀ n rest a flips, (s.pc k).issued = n :: rest →
      ((s.pc k).rq ++ (s.pc k).mb).find? (fun x => x.seq == n) = some a →
      exec (.dramReadData k flips 0 []) s = .next ((s.lineTagError a.line 0).readReturns k a flips)) ∧
    (∀ n rest a, (s.pc k).wissued = n :: rest → (s.pc k).wq.find? (fun x => x.seq == n) = some a →
      (∀ o ∈ (s.pc k).rq ++ (s.pc k).mb, ¬ (o.line = a.line ∧ o.seq < a.seq)) →
      exec (.writeBurstComplete k) s = .next ((s.burstDone k a).settleBank k a.bank)) ∧
    (∀ b r, ((s.pc k).bank b).openRow = some r → s.pageTimer (nth 0 (rowLines k b r) 0) ≠ 255 →
      (∀ a ∈ (s.pc k).accs, ¬ (a.bank = b ∧ a.row = r)) → exec (.pageTimerExpiry k b) s =
        .next (s.setPc k ((s.pc k).setBank b { (s.pc k).bank b with openRow := none }))) ∧
    (∀ b, b < s.bankCount → (s.pc k).selfRef = false →
      let x := (s.pc k).bank b
      ((∃ a ∈ (s.pc k).accs, a.bank = b) → ∀ early,
        (x.debt < 7 → exec (.refresh k b early) s =
          .next (s.setPc k ((s.pc k).setBank b { x with debt := x.debt + 1, refRow := x.refRow % 8208 }))) ∧
        (7 ≤ x.debt → exec (.refresh k b early) s = .next (s.setPc k ((s.pc k).setBank b
          { x with debt := min 8 x.debt, refRow := (x.refRow + 1) % 8208, openRow := none })))) ∧
      ((∀ a ∈ (s.pc k).accs, a.bank ≠ b) →
        exec (.refresh k b false) s = .next (s.setPc k ((s.pc k).setBank b
          { x with debt := min 8 x.debt, refRow := (x.refRow + 1) % 8208, openRow := none })) ∧
        (-8 < x.debt → exec (.refresh k b true) s = .next (s.setPc k ((s.pc k).setBank b
          { x with debt := min 8 (x.debt - 1), refRow := (x.refRow + 2) % 8208, openRow := none })))) ) ∧
    (∀ b early, (s.pc k).selfRef = true → exec (.refresh k b early) s = .next s) ∧
    (∀ b, exec (.actEpoch k b) s =
      .next (s.setPc k ((s.pc k).setBank b { (s.pc k).bank b with acts := [], trrN := 0 }))) ∧
    (∀ b r rest, ((s.pc k).bank b).trrDue = r :: rest →
      let x := (s.pc k).bank b
      let y : Bank := { x with trrDue := rest, trrN := x.trrN + 1, openRow := none, trrRows := neighbours (s.on (Fd.CG_TRR_NEIGH2 (k / 4))) r }
      let u := (s.setPc k ((s.pc k).setBank b y)).count (Fd.PC_TRR_COUNT k) (Fd.PC_TRR_OVF k) 1
      exec (.targetedRefresh k b) s =
        .next (if x.trrN = 64 then u.raise (104 + k / 4) 3 (k + b * 128) else u)) ∧
    (s.selfRefDue (k / 4) = true → exec (.selfRefreshEntry k) s = .next (s.enterSelfRef k) ∧
      ((s.enterSelfRef k).pc k).selfRef = true ∧ exec (.selfRefreshExit k) s = .next s) ∧
    (s.selfRefDue (k / 4) = false → exec (.selfRefreshEntry k) s = .next s ∧
      ((s.pc k).selfRef = true → exec (.selfRefreshExit k) s =
        .next ((s.setPc k { s.pc k with selfRef := false }).recoverAll k)))

/-- A disagreement of an unfenced group with both copies counts and every bank recovers: with one copy's parity error the group goes on with the other copy and raises kind 4, with none it raises kind 1; both copies' errors, or the fourth disagreement within 1 us, raises kind 5 and fences the group. With one copy left nothing is compared, and that copy's own parity error raises kind 5 and fences (log entry 64). A CA retry counts, closes the bank's row and raises kind 2; the 17th failure in a row raises kind 6 and fences, and is not issued again (log entry 64). Fencing sets the fence bit, starts the drain and asks for DEGRADED. A fenced group drains once: its accesses end, its pseudo-channels enter self-refresh, and the draining ends. A fence is not cleared after SCHED_FAIL or CA_FAIL; cleared, the group follows its level again, the counter engine's held updates go on, and house firmware acknowledges its CA_FAIL messages. A fenced group ignores further faults. -/
def Obligations.ChannelGroupFaults : Prop :=
  ∀ (s : State) (g : Nat), s.inReset = false → g < 32 →
    (s.cgFenced g = true → (∀ a b, exec (.schedMismatch g a b) s = .next s) ∧
      (∀ k b, k / 4 = g → exec (.caRetry k b) s = .next s) ∧ s.fenceCg g = s) ∧
    (s.cgFenced g = false → s.on (Fd.CG_STAT_SIMPLEX g) = true → ∀ a b : Bool,
      ((if s.on (Fd.CG_STAT_COPY g) then b else a) = false → exec (.schedMismatch g a b) s = .next s) ∧
      ((if s.on (Fd.CG_STAT_COPY g) then b else a) = true → exec (.schedMismatch g a b) s =
        .next (((s.setCg g { s.cg g with schedFail := true }).raise (104 + g) 5 (4 * g)).fenceCg g))) ∧
    (s.cgFenced g = false → s.on (Fd.CG_STAT_SIMPLEX g) = false → ∀ a b : Bool,
      let u := s.count (Fd.CG_CNT_MISMATCH g) (Fd.CG_CNT_MIS_OVF g) 1
      let mism := ((u.cg g).mism.filter fun t => decide (u.clk.time < t + 175)) ++ [u.clk.time]
      let v := u.setCg g { u.cg g with mism, parityA := (u.cg g).parityA || a, parityB := (u.cg g).parityB || b }
      let w := (List.range 4).foldl (fun s i => (List.range s.bankCount).foldl (fun s k =>
        s.setPc (4 * g + i) ((s.pc (4 * g + i)).setBank k { (s.pc (4 * g + i)).bank k with recovering := true })) s) v
      let one : Host.Outcome State Machine.Fault Refusal := exec (.schedMismatch g a b) s
      (mism.length < 4 → a = false → b = false → one = .next (w.raise (104 + g) 1 (4 * g))) ∧
      (mism.length < 4 → a ≠ b → one = .next (((w.wr (Fd.CG_STAT_SIMPLEX g) 1).wr (Fd.CG_STAT_COPY g) (b2n a)).raise
        (104 + g) 4 (4 * g + b2n a * 2 ^ 26))) ∧
      (4 ≤ mism.length ∨ (a = true ∧ b = true) →
        one = .next (((w.setCg g { w.cg g with schedFail := true }).raise (104 + g) 5 (4 * g)).fenceCg g))) ∧
    (s.cgFenced g = false → ∀ k b, k / 4 = g → b < s.bankCount →
      let n := Tab.get (fun _ => 0) (s.cg g).caRun (64 * k + b) + 1
      let u := s.setCg g { s.cg g with caRun := Tab.put (fun _ => 0) (s.cg g).caRun (64 * k + b) n }
      let v := u.count (Fd.CG_CNT_CA_RETRY g) (Fd.CG_CNT_CA_OVF g) 1
      (n ≠ 17 → exec (.caRetry k b) s =
        .next ((v.setPc k ((v.pc k).setBank b { (v.pc k).bank b with openRow := none })).raise (104 + g) 2 (k + b * 128))) ∧
      (n = 17 → exec (.caRetry k b) s =
        .next (((u.setCg g { u.cg g with caFail := true }).raise (104 + g) 6 (k + b * 128)).fenceCg g))) ∧
    (s.cgFenced g = false → s.fenceCg g =
      (((s.wr (Fd.CG_CTL_FENCE g) 1).setCg g { s.cg g with draining := true }).abortCgTest g).askDegraded false) ∧
    (s.cgFenced g = true → (s.cg g).draining = true →
      let u := (List.range 4).foldl (fun s i => s.drainPc (4 * g + i)) (s.remapFinish g)
      let v := (List.range 4).foldl (fun s i => s.enterSelfRef (4 * g + i)) u
      exec (.fenceDrain g) s = .next (((v.setCg g { v.cg g with draining := false }).mwrRetry).calSettle g)) ∧
    ((s.cg g).draining = false → exec (.fenceDrain g) s = .next s) ∧
    (s.cgFenced g = true → (s.cg g).schedFail = true ∨ (s.cg g).caFail = true → exec (.cgFenceClear g) s = .next s) ∧
    (s.cgFenced g = true → (s.cg g).schedFail = false → (s.cg g).caFail = false →
      let u := (s.fenceDrain g).wr (Fd.CG_CTL_FENCE g) 0
      let v := if u.selfRefDue g then u else (List.range 4).foldl (fun s i => s.exitSelfRef (4 * g + i)) u
      exec (.cgFenceClear g) s = .next ((((v.groupFollow g).calSettle g).cntUnfence).fwAck fun (m : Msg) => m.source == 104 + g && m.kind == 6))

/-- A clean store leaves the line's 64 bytes and its four check symbols in DRAM, and a poison store zeros and the poison symbols; both leave every other byte of DRAM as it was. A write burst whose row is not in remap transit makes one of these stores, and takes its entry out of the write queue. A line stored as poison decodes, with no further error and no injection, as stored poison with zeros. -/
def Obligations.DramLineStores : Prop :=
  ∀ (s : State) (line : Nat), line < 2 ^ 33 →
    let mine (k : Nat) : Prop := (64 * line ≤ k ∧ k < 64 * line + 64) ∨ (checkKey line ≤ k ∧ k < checkKey line + 8)
    (∀ d : List Byte, (s.storeLine line d).memBytes (64 * line) 64 = line64 d ∧
      (∀ k, ¬ mine k → (s.storeLine line d).memByte k = s.memByte k)) ∧
    ((s.poisonStore line).memBytes (64 * line) 64 = List.replicate 64 0 ∧
      (s.poisonStore line).memBytes (checkKey line) 8 = poisonSyms.flatMap (leBytes 2) ∧
      (∀ k, ¬ mine k → (s.poisonStore line).memByte k = s.memByte k)) ∧
    (∀ k a, a.line = line → s.inTransit line = none →
      (s.burstDone k a).dram = (if a.poison then s.poisonStore line else s.storeLine line a.data).dram ∧
      ((s.burstDone k a).pc k).wq = (s.pc k).wq.filter (fun x => x.seq != a.seq)) ∧
    (∀ access, s.on Fd.ECC_INJ_CTL_ARMED = false →
      ((s.poisonStore line).readArray line access []).out = .storedPoison ∧
      ((s.poisonStore line).readArray line access []).data = List.replicate 64 0)

/-- The GO of an injector arms it with COUNT when injection is enabled and its operands are in range, and otherwise arms nothing. A scrub read that falls due where it may run scrubs the walk's line, or one the walk passed over while it moved, and the walk goes on; where it may not, it is owed; an owed read is issued once it may. No scrub runs while the walk is off, outside SERVICE and DEGRADED, or at a pseudo-channel whose pass is done. A late pass is reported once. A group's oldest prompt scrub runs when it may. The pin window's end clears its pseudo-channel's counts and no others. -/
def Obligations.InjectionAndScrub : Prop :=
  ∀ (s : State), s.inReset = false →
    (∀ v, let w := setBits v 31 31 1
      let u := ((s.wr Fd.ECC_INJ_CTL_SRC (bits w 29 27)).wr Fd.ECC_INJ_CTL_POS_A (bits w 20 15)).wr Fd.ECC_INJ_CTL_POS_B
        (bits w 26 21)
      bits w 20 15 ≤ 35 → (bits w 26 21 ≤ 35 ∨ bits w 26 21 = 63) → bits w 14 0 ≠ 0 → u.on Fd.ECC_CTL_INJ_EN = true →
      u.rd Fd.ECC_INJ_PAT_VALUE_A ≠ 0 → (bits w 26 21 = 63 ∨ u.rd Fd.ECC_INJ_PAT_VALUE_B ≠ 0) →
      exec (.eccInjGo v) s = .next ((u.wr Fd.ECC_INJ_CTL_COUNT (bits w 14 0)).wr Fd.ECC_INJ_CTL_ARMED 1)) ∧
    (∀ v t, exec (.eccInjGo v) s = .next t → s.on Fd.ECC_CTL_INJ_EN = false →
      t.rd Fd.ECC_INJ_CTL_ARMED = s.rd Fd.ECC_INJ_CTL_ARMED) ∧
    (∀ v, let w := setBits v 31 31 1
      let u := (s.wr Fd.CRM_INJ_CTL_SRC (bits w 29 28)).wr Fd.CRM_INJ_CTL_FLIP (bits w 27 15)
      u.on Fd.ECC_CTL_INJ_EN = true →
      exec (.crmInjGo v) s = .next (if bits w 14 0 ≠ 0 ∧ u.rd Fd.CRM_INJ_CTL_FLIP ≠ 0 then
        (u.wr Fd.CRM_INJ_CTL_COUNT (bits w 14 0)).wr Fd.CRM_INJ_CTL_ARMED 1 else u)) ∧
    (∀ k flips, k < 128 → s.on Fd.ECC_CTL_SCRUB_EN = true → (s.mode = mSERVICE ∨ s.mode = mDEGRADED) →
      k ∉ s.ecc.passDone →
      let u := s.skipMoving k 16
      (∀ q, u.scrubPlace k = some q → u.scrubbable k (walkLine k q) = true →
        exec (.scrubRead k true flips) s = .next (u.scrubNext k q flips) ∧
        ((s.pc k).owed ≠ 0 → exec (.scrubRead k false flips) s =
          .next ((u.setPc k { u.pc k with owed := (u.pc k).owed - 1 }).scrubNext k q flips))) ∧
      ((∀ q, u.scrubPlace k = some q → u.scrubbable k (walkLine k q) = false) →
        exec (.scrubRead k true flips) s = .next (u.setPc k { u.pc k with owed := (u.pc k).owed + 1 }) ∧
        ((s.pc k).owed ≠ 0 → exec (.scrubRead k false flips) s = .next u)) ∧
      ((s.pc k).owed = 0 → exec (.scrubRead k false flips) s = .next s)) ∧
    (∀ k due flips, (s.on Fd.ECC_CTL_SCRUB_EN = false ∨ k ∈ s.ecc.passDone ∨
      (s.mode ≠ mSERVICE ∧ s.mode ≠ mDEGRADED)) → exec (.scrubRead k due flips) s = .next s) ∧
    (exec .scrubLate s = .next (if s.on Fd.ECC_SCRUB_STAT_LATE then s else
      (s.wr Fd.ECC_SCRUB_STAT_LATE 1).raise 143 1 0)) ∧
    (∀ g l rest flips, (s.cg g).prompt = l :: rest → s.scrubbable (pcOf (64 * l)) l = true →
      exec (.promptScrub g flips) s =
        .next ((s.setCg g { s.cg g with prompt := rest }).scrubLine (pcOf (64 * l)) l flips)) ∧
    (∀ k, ∃ t, exec (.pinWindow k) s = .next t ∧ t = { s with ecc := { s.ecc with pinCnt := t.ecc.pinCnt } } ∧
      (∀ e, e ∈ t.ecc.pinCnt ↔ e ∈ s.ecc.pinCnt ∧ (e.1 < 36 * k ∨ 36 * (k + 1) ≤ e.1)))

/-- A remap of a badly formed entry answers 5, of a fenced group 6, while a remap or a test of the group runs 3 with OP left as it was, without a free spare of the bank 4 with SPARES_EXHAUSTED and house firmware's acknowledgement of the row's messages, with a spare that is taken 7; otherwise it starts and RESULT reads 2. A spare is retired, answering 1, unless the entry is badly formed (5) or an entry in force uses it (7). The entry read answers 1 with the entry in force for the target, or zeros. The remap's read, in a slot the bank can lend, fills the buffer with the row's 16 lines; its write, once read, in another such slot, writes them and switches the map. -/
def Obligations.RepairCommands : Prop :=
  ∀ (s : State) (e : Nat), s.inReset = false →
    let r := entryRepair e
    let args (op : Nat) : State :=
      ((s.wr Fd.BST_REP_ARG0_ARG e).wr Fd.BST_REP_ARG1_ARG (e / 2 ^ 32)).wr Fd.BST_REP_CMD_OP op
    let res (u : State) (x : Nat) : State := u.wr Fd.BST_REP_CMD_RESULT x
    let u := args 1
    let good : Prop := entryFormat u.part.lgrp e = true ∧ r.kind = 1 ∧ entryRetires e = false
    (¬ good → exec (.repRemapRow e) s = .next (res u 5)) ∧
    (good → u.cgFenced (r.pc / 4) = true → exec (.repRemapRow e) s = .next (res u 6)) ∧
    (good → u.cgFenced (r.pc / 4) = false →
      ((u.cg (r.pc / 4)).remap ≠ none ∨ u.cgTested (r.pc / 4) = true →
        exec (.repRemapRow e) s = .next ((res u 3).wr Fd.BST_REP_CMD_OP (s.rd Fd.BST_REP_CMD_OP))) ∧
      ((u.cg (r.pc / 4)).remap = none → u.cgTested (r.pc / 4) = false →
        ((∀ i, i < 16 → u.spareFree r.pc r.bank i = false) → exec (.repRemapRow e) s =
          .next (((res u 4).raise 140 1 (rowAddr r.pc r.bank r.target)).rowAcked r.pc r.bank r.target)) ∧
        ((∃ i, i < 16 ∧ u.spareFree r.pc r.bank i = true) → u.spareFree r.pc r.bank r.spare = false →
          exec (.repRemapRow e) s = .next (res u 7)) ∧
        (r.spare < 16 → u.spareFree r.pc r.bank r.spare = true → exec (.repRemapRow e) s =
          .next (res (u.setCg (r.pc / 4) { u.cg (r.pc / 4) with
            remap := some { pc := r.pc, bank := r.bank, row := r.target, spare := r.spare, lines := none } }) 2)))) ∧
    (let u := args 2;
      (entryFormat u.part.lgrp e = false ∨ entryRetires e = false → exec (.repRetireSpare e) s = .next (res u 5)) ∧
      (entryFormat u.part.lgrp e = true → entryRetires e = true →
        ((u.spareUser r).isSome = true → exec (.repRetireSpare e) s = .next (res u 7)) ∧
        (u.spareUser r = none → exec (.repRetireSpare e) s =
          .next (res { u with ecc := { u.ecc with retired := u.ecc.retired ++ [r] } } 1)))) ∧
    (let u := args 3;
      (entryFormat u.part.lgrp e = false → exec (.repReadEntry e) s = .next (res u 5)) ∧
      (entryFormat u.part.lgrp e = true →
        let f := match u.ecc.repairs.find? (sameTarget r) with
          | some x => x.entry false
          | none => 0
        exec (.repReadEntry e) s =
          .next (res ((u.wr Fd.BST_REP_ARG0_ARG f).wr Fd.BST_REP_ARG1_ARG (f / 2 ^ 32)) 1))) ∧
    (∀ g m flips, (s.cg g).remap = some m → m.lines = none → s.lends m.pc m.bank = true →
      ∃ t, exec (.remapRead g flips) s = .next t ∧ ∃ ls, (t.cg g).remap = some { m with lines := some ls } ∧ ls.length = 16) ∧
    (∀ g m ls, (s.cg g).remap = some m → m.lines = some ls → s.lends m.pc m.bank = true →
      exec (.remapWrite g) s = .next ((s.lend m.pc m.bank).remapFinish g)) ∧
    (∀ g flips, (s.cg g).remap = none → exec (.remapRead g flips) s = .next s ∧ exec (.remapWrite g) s = .next s)

/-- The next transfer of an initiator to a bank, when it is of the command's kind, leaves the fabric: a fenced bank answers it FENCED; a read is decoded and delivered, poisoned where any byte is; a write stores its masked bytes; a read-modify-write of a clean line stores the bytes that change and answers the old value, and of a poisoned line stores nothing. A patrol step takes a queued line of its bank before its walk, which goes on only while the patrol runs, and at the bank's last line ends its pass and its lateness; a fenced bank has none. A late bank is reported once. The 1 ms window's end clears the bank's count. CREMA_INIT leaves every byte 0x00 with valid check bits, INIT_DONE set. A bank fence is cleared unless R410 set it, and the counter engine's held updates go on. -/
def Obligations.CremaTransfers : Prop :=
  ∀ (s : State) (b ini : Nat), s.inReset = false →
    (∀ a flips, s.nextCrema b ini = some a →
      (s.bankFenced b = true → (a.kind = .read → exec (.cremaRead b ini flips) s = .next (s.cFenced a)) ∧
        (a.kind = .write → exec (.cremaWrite b ini) s = .next (s.cFenced a)) ∧
        (a.kind = .merge → exec (.cremaRmw b ini flips) s = .next (s.cFenced a))) ∧
      (s.bankFenced b = false → a.kind = .read →
        let r := (s.taken a 32).cRead (64 * s.cLine a) 64 (if a.ini ≤ 12 then 0 else 1) flips
        exec (.cremaRead b ini flips) s = .next (r.1.deliver a r.2.1 (r.2.2.any id))) ∧
      (s.bankFenced b = false → a.kind = .write →
        let u := (s.taken a 32).cWriteMask (64 * s.cLine a) a.mask a.data a.poison
        exec (.cremaWrite b ini) s = .next ((u.cForward a).answered a.txn id)) ∧
      (∀ m, s.bankFenced b = false → a.kind = .merge → a.mop = some m →
        let r := (s.taken a 32).cRead (64 * s.cLine a) 64 (if a.ini ≤ 12 then 0 else 1) flips
        (r.2.2.any id = true → exec (.cremaRmw b ini flips) s =
          .next (r.1.answered a.txn fun t => { t with poison := true, result := 0 })) ∧
        (r.2.2.any id = false → (m.run r.2.1).2.2 = false → exec (.cremaRmw b ini flips) s =
          .next (r.1.answered a.txn fun t => { t with result := (m.run r.2.1).2.1 })) ∧
        (r.2.2.any id = false → (m.run r.2.1).2.2 = true →
          ∃ v : State, exec (.cremaRmw b ini flips) s = .next ((v.cForward a).answered a.txn fun t =>
            { t with result := (m.run r.2.1).2.1 }) ∧ v = { r.1 with crm := { r.1.crm with store := v.crm.store } } ∧
            ∀ i, i < 64 → nth 0 (m.run r.2.1).1 i ≠ nth 0 r.2.1 i →
              v.cWord (64 * s.cLine a + i) = cEncode (nth 0 (m.run r.2.1).1 i)))) ∧
    (s.nextCrema b ini = none → ∀ flips, exec (.cremaRead b ini flips) s = .next s ∧
      exec (.cremaWrite b ini) s = .next s ∧ exec (.cremaRmw b ini flips) s = .next s) ∧
    (∀ flips, s.bankFenced b = false → b < 256 → s.coreOff = false →
      (∀ l, s.crm.prompt.find? (fun x => cBank (64 * x) == b) = some l →
        exec (.patrolStep b flips) s = .next (s.patrolLine l flips)) ∧
      (s.crm.prompt.find? (fun x => cBank (64 * x) == b) = none →
        (s.patrols = false → exec (.patrolStep b flips) s = .next s) ∧
        (s.patrols = true →
          let u := s.patrolLine (cOffset b (s.patrolPos b % bankLines) / 64) flips
          let v : State := { u with crm := { u.crm with patrolPos := Tab.put (fun _ => 0) u.crm.patrolPos b (s.patrolPos b + 1) } }
          ((s.patrolPos b + 1) % bankLines ≠ 0 → exec (.patrolStep b flips) s = .next v) ∧
          ((s.patrolPos b + 1) % bankLines = 0 →
            let w : State := { v with crm := { v.crm with late := v.crm.late.filter (· != b) } }
            exec (.patrolStep b flips) s = .next ((w.wr Fd.CRM_STAT_LATE (b2n !w.crm.late.isEmpty)).cPasses))))) ∧
    (s.bankFenced b = true → ∀ flips, exec (.patrolStep b flips) s = .next s) ∧
    (exec (.cremaPatrolLate b) s = .next (if s.crm.late.contains b then s else
      ({ s with crm := { s.crm with late := b :: s.crm.late } }.wr Fd.CRM_STAT_LATE 1).raise 156 1 b)) ∧
    (exec (.ceBankWindow b) s = .next { s with crm := { s.crm with
      ceWin := Tab.put (fun _ => 0) s.crm.ceWin b 0, suspect := s.crm.suspect.filter (· != b) } }) ∧
    (∃ t, exec .cremaInit s = .next t ∧ t.on Fd.CRM_STAT_INIT_DONE = true ∧
      ∀ o, t.cWord o = cEncode 0 ∧ cDecode (t.cWord o) = .clean 0) ∧
    (s.bankFenced b = true → s.crm.fence410.contains b = false → exec (.crmFenceClear b) s =
      .next ((s.wrBit (Fd.CRM_FENCE_FENCE (b / 32)) (b % 32) false).fencedN.cntUnfence)) ∧
    (s.crm.fence410.contains b = true → exec (.crmFenceClear b) s = .next s)

/-- The stored-poison word is 0x1F00. It differs in three bits or more from the stored word of every byte. With one bit inverted it decodes as uncorrectable. A valid word with one or two bits inverted does not decode as stored poison. With three or more inverted it never reads as its own byte, clean or corrected (it is detected or taken as some other value; which, the rule leaves open and R395's table decides). The byte 0xA5 is stored as 0x03A5, and 0x0385 is corrected to it (Example 1, which follows the rule). -/
def Obligations.CremaStoredPoison : Prop :=
  cPoison = 0x1F00 ∧ cDecode cPoison = .storedPoison ∧
  (∀ b : Byte, 3 ≤ popCount 13 (cEncode b ^^^ cPoison).toNat) ∧
  (∀ i, i < 13 → cDecode (cPoison ^^^ (1#13 <<< i)) = .uncorrectable) ∧
  (∀ (b : Byte) (i j : Nat), i < 13 → j < 13 → cDecode (cEncode b ^^^ (1#13 <<< i)) ≠ .storedPoison ∧
    cDecode (cEncode b ^^^ (1#13 <<< i) ^^^ (1#13 <<< j)) ≠ .storedPoison) ∧
  (∀ (b : Byte) (e : BitVec 13), 3 ≤ popCount 13 e.toNat → cDecode (cEncode b ^^^ e) ≠ .clean b ∧
    cDecode (cEncode b ^^^ e) ≠ .corrected b) ∧
  cEncode 0xA5 = 0x03A5 ∧ cDecode 0x0385 = .corrected 0xA5

/-- Every byte's stored word decodes as clean to the byte, with any one of its 13 bits inverted as corrected to the byte, and with any two as uncorrectable. A byte written at an offset reads back there, and no other byte of Crema changes. -/
def Obligations.CremaByteCode : Prop :=
  (∀ b : Byte, cDecode (cEncode b) = .clean b) ∧
  (∀ (b : Byte) (i : Nat), i < 13 → cDecode (cEncode b ^^^ (1#13 <<< i)) = .corrected b) ∧
  (∀ (b : Byte) (i j : Nat), i < j → j < 13 → cDecode (cEncode b ^^^ (1#13 <<< i) ^^^ (1#13 <<< j)) = .uncorrectable) ∧
  (∀ (s : State) (o : Nat) (bs : List Byte) (x : Nat),
    (s.cWrite o bs).cWord x = if o ≤ x ∧ x < o + bs.length then cEncode (nth 0 bs (x - o)) else s.cWord x)

/-- At its queue, once its bank is not fenced and the queue's state decodes clean: ENQ answers REJ_REGION of a disabled queue, DRAINING of a draining or flushing one, ABORTED with RFLAGS bit 2 for a bad LEN or, with the mark check, bad marks, which it reports; FULL beyond the limit; otherwise, while the page holds the cells, it stores them from the tail and answers OK with the new counts. DEQ answers EMPTY of an empty queue and DRAINING of a flushing one, and within the head page unlinks its cells in order. QSTAT answers the record. ENABLE of an enabled queue sets LIMIT and PROT. DISABLE of an enabled queue drains it, FLUSH moves it to flushing, SET_LIMIT and SET_PROT change their field of any queue that is not disabled, each answering the state. A queue whose state does not decode answers POISON, and one of a fenced bank FENCED. -/
def Obligations.QueueRequests : Prop :=
  ∀ (s u : State) (t : Txn), s.goesAway t = false →
    let n := t.head.spec % 65536
    let c := t.head.lenArg % 8
    let r := u.q n
    let sub := bits t.head.spec 18 16
    (isQueue t.op = true → s.bankFenced (cBank (queueOff n)) = true → s.dispatch t = s.respond t stFENCED) ∧
    (isQueue t.op = true → s.bankFenced (cBank (queueOff n)) = false → s.queueLost n = (u, true) →
      s.dispatch t = u.respond t stPOISON) ∧
    (s.bankFenced (cBank (queueOff n)) = false → s.queueLost n = (u, false) →
      (t.op = opENQ →
        let ws := cellWords c t.payload
        let m := marks r.opn ws
        let lens := ws.all fun w => decide (1 ≤ cellLen w) && decide (cellLen w ≤ 248)
        (r.state = 0 → s.dispatch t = u.respond t stREJ_REGION) ∧
        (2 ≤ r.state → s.dispatch t = u.respond t stDRAINING) ∧
        (r.state = 1 → lens = false → (u.on Fd.QUE_CTL_MARK_CHK = false ∨ m.2 = true) →
          s.dispatch t = u.respond t stABORTED 0 [] 0 4) ∧
        (r.state = 1 → u.on Fd.QUE_CTL_MARK_CHK = true → m.2 = false →
          s.dispatch t = (u.raise 174 1 (n + r.pool * 65536)).respond t stABORTED 0 [] 0 4) ∧
        (r.state = 1 → lens = true → (u.on Fd.QUE_CTL_MARK_CHK = false ∨ m.2 = true) →
          (r.limit ≠ 0 → r.limit < r.cells + c →
            s.dispatch t = (u.count Fd.QUE_FULL_CNT_COUNT Fd.QUE_FULL_CNT_OVF 1).respond t stFULL) ∧
          (r.limit = 0 ∨ r.cells + c ≤ r.limit → r.tail % 16 + c < 16 →
            (∀ i, i < c → u.lineFenced (u.cellAddr r.pool (r.tail + i)) = false) →
            let v := (List.range c).foldl (fun (v : State) i =>
              v.storeCell t.id n r.pool (r.tail + i) 0 ((t.payload.drop (256 * i)).take 256)) u
            let q : QRec := { r with
              tail := r.tail + c
              cells := r.cells + c
              bytes := r.bytes + (ws.map cellLen).foldl (· + ·) 0
              pkts := r.pkts + (ws.filter cellEop).length
              opn := m.1 }
            s.dispatch t = ((v.setQ n q).count Fd.QUE_ENQ_CELLS_COUNT Fd.QUE_ENQ_CELLS_OVF c).respond t stOK q.result))) ∧
      (t.op = opDEQ →
        (r.state = 0 → s.dispatch t = u.respond t stREJ_REGION) ∧
        (r.state = 3 → s.dispatch t = u.respond t stDRAINING) ∧
        ((r.state = 1 ∨ r.state = 2) → r.cells = 0 → s.dispatch t = u.respond t stEMPTY) ∧
        (let k := min c r.cells;
          (r.state = 1 ∨ r.state = 2 ∧ k < r.cells) → r.cells ≠ 0 → bit t.head.spec 16 = false → r.head % 16 + k < 16 → r.hlost = false →
          (r.hnext.isSome = true ∨ r.head / 16 = r.tail / 16) →
          (∀ i, i < k → u.lineFenced (u.cellAddr r.pool (r.head + i)) = false) →
          (s.dispatch t).que.deqs = u.que.deqs ++ [⟨t.id, n, r.pool, (List.range k).map (r.head + ·), [], 0, k, false, [], false⟩] ∧
          (s.dispatch t).q n = { r with head := r.head + k, cells := r.cells - k } ∧
          (s.dispatch t).req = (u.setTxn { t with stage := .running, left := 1 }).req)) ∧
      (t.op = opQSTAT → s.dispatch t = u.respond t stOK r.result (leBytes 16 (r.head + r.tail * 2 ^ 28 + r.bytes * 2 ^ 56 +
        r.limit * 2 ^ 92 + r.pool * 2 ^ 120 + r.state * 2 ^ 124 + b2n r.prot * 2 ^ 126))) ∧
      (t.op = opQCTL →
        (sub = 0 → 2 ≤ r.state → s.dispatch t = u.respond t stDRAINING) ∧
        (sub = 0 → r.state = 1 → s.dispatch t =
          (u.setQ n { r with limit := bits t.head.addr 31 4, prot := bit t.head.addr 32 }).respond t stOK 1) ∧
        (∀ v g, sub = 0 → r.state = 0 → u.canAlloc (t.head.addr % 16) = true →
          u.allocPage (t.head.addr % 16) = (v, some g) → 
          let q : QRec := {
            state := 1
            pool := t.head.addr % 16
            head := 16 * g
            tail := 16 * g
            limit := bits t.head.addr 31 4
            prot := bit t.head.addr 32 }
          s.dispatch t = (v.setQ n q).respond t stOK 1) ∧
        (sub = 0 → r.state = 0 → u.canAlloc (t.head.addr % 16) = false →
          s.dispatch t = (u.count Fd.QUE_FULL_CNT_COUNT Fd.QUE_FULL_CNT_OVF 1).respond t stFULL) ∧
        (sub = 1 → r.state = 1 → r.cells ≠ 0 → u.que.drains.length < 64 →
          ∃ code, s.dispatch t = ((u.setQ n { r with state := 2 }).drainEnt n code).respond t stOK 2) ∧
        (sub = 1 → r.state = 1 → r.cells = 0 → s.dispatch t = (u.disabled n false).respond t stOK 0) ∧
        (sub = 1 → r.state = 0 → s.dispatch t = u.respond t stREJ_REGION) ∧
        (sub = 2 → (r.state = 1 ∧ u.que.drains.length < 64 ∨ r.state = 2) →
          ∃ v : State, v = (u.drainEnt n 0).flushing n ∧ s.dispatch t = v.respond t stOK (v.q n).state) ∧
        (sub = 3 → r.state ≠ 0 → s.dispatch t =
          (u.setQ n { r with limit := bits t.head.addr 31 4 }).respond t stOK r.state) ∧
        (sub = 4 → r.state ≠ 0 → s.dispatch t =
          (u.setQ n { r with prot := bit t.head.addr 32 }).respond t stOK r.state) ∧
        (3 ≤ sub → sub ≤ 4 → r.state = 0 → s.dispatch t = u.respond t stREJ_REGION)))

/-- A DEQ's next cell is read, and with none left it completes. A queue's next link is read while the queue is enabled or draining. A page whose cells' reads are all done returns to its pool's cache, and not before. A cache below 4,096 of a valid pool is refilled and one above 28,672 spilled; a refill with no stack page takes the next 1,024 pages, and a page's index is stored in the cache's next place in Crema. A drain that times out moves its queue to flushing, and raises QUE_DRAIN_TIMEOUT once. A flush walk frees the head page once its next is known and disables the queue at the tail page. A reclaim answers 3 for an invalid pool, 2 while a queue of the pool is not disabled, 1 otherwise with the pool's pages all free. -/
def Obligations.QueueEngineSteps : Prop :=
  ∀ s : State, s.inReset = false →
    (∀ k d, s.que.deqs.find? (fun x => x.txn == k) = some d → exec (.cellWordRead k) s = .next (s.deqCell d) ∧
      (d.cells = [] → s.deqCell d = s.deqDone d)) ∧
    (∀ n, n < 65536 → ((s.q n).state = 1 ∨ (s.q n).state = 2) → exec (.linkRead n) s = .next (s.linkRead n) ∧
      (let a := s.cellAddr (s.q n).pool ((s.q n).head / 16 * 16 + 15);
        (s.q n).hnext = none → (s.q n).hlost = false → (s.q n).head / 16 ≠ (s.q n).tail / 16 → s.lineFenced a = false →
        ∀ u d, (s.memReadReal a 13 = (u, d, false) → bits (leNat (d.take 8)) 63 48 = n →
            s.linkRead n = u.setQ n { u.q n with hnext := some (leNat (d.take 8) % 2 ^ 24) }) ∧
          (s.memReadReal a 13 = (u, d, true) → s.linkRead n = u.setQ n { u.q n with hlost := true }))) ∧
    (∀ p g, (p, g) ∈ s.que.freeing → (∀ d ∈ s.que.deqs, d.pool = p → ∀ c ∈ d.cells, c / 16 ≠ g) →
      exec (.pageFree p g) s =
        .next ({ s with que := { s.que with freeing := s.que.freeing.erase (p, g) } }.freePage p g)) ∧
    (∀ p g, (∃ d ∈ s.que.deqs, d.pool = p ∧ ∃ c ∈ d.cells, c / 16 = g) → exec (.pageFree p g) s = .next s) ∧
    (∀ p, p < 16 → s.on (Fd.QUE_POOL_CFG_VALID p) = true → (s.pool p).cache.length < 4096 →
      exec (.refill p) s = .next (s.refill p) ∧
      ((s.pool p).depth = 0 →
        let b := (s.pool p).bump
        let k := min 1024 (s.poolM p - b)
        s.refill p = (List.range k).reverse.foldl (fun s i => s.cachePut p (b + i))
          (s.setPool p { s.pool p with bump := b + k }))) ∧
    (∀ p g, let r := s.pool p
      let off := cacheOff p r.top
      s.bankFenced (cBank off) = false → s.cachePut p g =
        (s.cWrite off (leBytes 4 g)).setPool p { r with cache := (r.top, g) :: r.cache, top := r.top + 1 }) ∧
    (∀ p, p < 16 → s.on (Fd.QUE_POOL_CFG_VALID p) = true → 28672 < (s.pool p).cache.length →
      exec (.spill p) s = .next (s.spill p)) ∧
    (∀ n, n < 65536 → (∃ d ∈ s.que.drains, d.qid = n ∧ d.timedOut = false) → (s.q n).state = 2 →
      let u : State := { s with que := { s.que with drains := s.que.drains.map fun (d : DrainEnt) =>
        if d.qid = n then { d with timedOut := true } else d } }
      exec (.queDrainTimeout n) s = .next ((u.flushing n).raise 169 1 (n + (s.q n).pool * 65536))) ∧
    (∀ n, (∀ d ∈ s.que.drains, d.qid = n % 65536 → d.timedOut = true) → exec (.queDrainTimeout n) s = .next s) ∧
    (∀ n, n < 65536 → (s.q n).state = 3 →
      ((s.q n).head / 16 = (s.q n).tail / 16 → exec (.walkRead n) s = .next (s.disabled n true)) ∧
      (∀ g, (s.q n).head / 16 ≠ (s.q n).tail / 16 → (s.q n).hlost = false → (s.q n).hnext = some g →
        exec (.walkRead n) s = .next ((s.releasePage (s.q n).pool ((s.q n).head / 16)).setQ n { s.q n with
          head := 16 * g, hnext := none, cells := (s.q n).cells - (16 - (s.q n).head % 16) }))) ∧
    (let u := s.wr Fd.QUE_POOL_CMD_OP 1
      let p := u.rd Fd.QUE_POOL_CMD_POOL
      u.rd Fd.QUE_POOL_CMD_OP = 1 ∧
      (u.on (Fd.QUE_POOL_CFG_VALID p) = false → exec .reclaim s = .next (u.wr Fd.QUE_POOL_CMD_RESULT 3)) ∧
      (u.on (Fd.QUE_POOL_CFG_VALID p) = true → u.poolBusy p = true →
        exec .reclaim s = .next (u.wr Fd.QUE_POOL_CMD_RESULT 2)) ∧
      (u.on (Fd.QUE_POOL_CFG_VALID p) = true → u.poolBusy p = false →
        exec .reclaim s = .next (((u.setPool p {}).poolLow p).wr Fd.QUE_POOL_CMD_RESULT 1)))

/-- At its table a request is answered REJ_REGION when the descriptor is not valid, RETRY_LATER when it is not READY, FENCED when a candidate bucket is fenced, and waits for older operations of its port and for its locks. Otherwise both candidate buckets are read. PROBE answers OK with the way, choice and bucket and the result bytes of the entry found, NOT_FOUND without one, POISON where a bucket was poisoned; a key in both buckets raises TBL_DUPLICATE. INSERT of a present key answers EXISTS, or replaces the result with REPLACE; of an absent one it takes the lowest free way of the first bucket, then of the second, and with both full starts a displacement, or waits for the table's. DELETE empties the way found and takes one from the count. -/
def Obligations.TableRequests : Prop :=
  ∀ (s : State) (t : Txn), isTable t.op = true → s.goesAway t = false →
    let d := s.desc t.tid
    let h := d.hash (t.payload.take d.keylen)
    let f1 := s.bucketFenced t.tid h.1
    let f2 := s.bucketFenced t.tid h.2.1
    let excl := t.op != opPROBE
    let waits := s.tblBehind t = true ∨ s.lockFree (t.tid, h.1) excl = false ∨ s.lockFree (t.tid, h.2.1) excl = false
    (d.valid = false → s.dispatch t = s.tblAnswer t.id stREJ_REGION) ∧
    (d.valid = true → s.on (Fd.TBL_D_STAT_READY t.tid) = false → s.dispatch t = s.tblAnswer t.id stRETRY) ∧
    (d.valid = true → s.on (Fd.TBL_D_STAT_READY t.tid) = true → (f1 = true ∨ f2 = true) →
      s.dispatch t = s.tblAnswer t.id stFENCED) ∧
    (d.valid = true → s.on (Fd.TBL_D_STAT_READY t.tid) = true → f1 = false → f2 = false → waits →
      s.dispatch t = s.setTxn { t with stage := .heldLock }) ∧
    (d.valid = true → s.on (Fd.TBL_D_STAT_READY t.tid) = true → f1 = false → f2 = false → ¬ waits →
      let x := { t with stage := .running, left := 1 }
      let u := s.setTxn x
      (t.op = opPROBE → ∀ w c, (u.count Fd.TBL_PROBE_CNT_COUNT Fd.TBL_PROBE_CNT_OVF 1).cands x = (w, c) →
        let bytes (b : List Byte) (k : Nat) : List Byte := (List.range 16).map fun i =>
          if i < (u.desc t.tid).reslen then nth 0 ((u.desc t.tid).wayBytes b k) ((u.desc t.tid).keylen + i) else 0
        (∀ k, c.w1 = some k → c.w2 = none → s.dispatch t = (w.count Fd.TBL_HIT_CNT_COUNT Fd.TBL_HIT_CNT_OVF 1).tblAnswer
          t.id stOK (tblResult k 0 0 c.h1 false) (bytes c.b1 k)) ∧
        (∀ k j, c.w1 = some k → c.w2 = some j → s.dispatch t =
          ((w.raise 186 1 (t.tid + c.h1 * 256)).count Fd.TBL_HIT_CNT_COUNT Fd.TBL_HIT_CNT_OVF 1).tblAnswer
            t.id stOK (tblResult k 0 0 c.h1 false) (bytes c.b1 k)) ∧
        (∀ k, c.w1 = none → c.w2 = some k → s.dispatch t = (w.count Fd.TBL_HIT_CNT_COUNT Fd.TBL_HIT_CNT_OVF 1).tblAnswer
          t.id stOK (tblResult k 1 0 c.h2 false) (bytes c.b2 k)) ∧
        (c.w1 = none → c.w2 = none → s.dispatch t =
          w.tblAnswer t.id (if c.p1 = true ∨ c.p2 = true then stPOISON else stNOTFOUND))) ∧
      (t.op = opINSERT → ∀ w c, u.cands x = (w, c) →
        (∀ k, c.w1 = some k → bit t.head.spec 8 = false →
          s.dispatch t = w.tblAnswer t.id stEXISTS (tblResult k 0 0 c.h1 false)) ∧
        (∀ k, c.w1 = none → c.w2 = some k → bit t.head.spec 8 = false →
          s.dispatch t = w.tblAnswer t.id stEXISTS (tblResult k 1 0 c.h2 false)) ∧
        (∀ k, c.w1 = some k → bit t.head.spec 8 = true → s.dispatch t =
          (w.writeBucketAt t.id (w.bucketAddr t.tid c.h1) (splice c.b1 (16 + (w.desc t.tid).way * k + (w.desc t.tid).keylen)
            (insertResult (w.desc t.tid) t.payload))).tblAnswer t.id stOK (tblResult k 0 0 c.h1 true)) ∧
        (∀ k, c.w1 = none → c.w2 = some k → bit t.head.spec 8 = true → s.dispatch t =
          (w.writeBucketAt t.id (w.bucketAddr t.tid c.h2) (splice c.b2 (16 + (w.desc t.tid).way * k + (w.desc t.tid).keylen)
            (insertResult (w.desc t.tid) t.payload))).tblAnswer t.id stOK (tblResult k 1 0 c.h2 true)) ∧
        (c.w1 = none → c.w2 = none → (c.p1 = true ∨ c.p2 = true) → s.dispatch t = w.tblAnswer t.id stPOISON) ∧
        (c.w1 = none → c.w2 = none → c.p1 = false → c.p2 = false →
          (∀ k, freeWay c.b1 = some k → s.dispatch t = w.insertPlace x 0 c.b1 k 0 c.h1 c.fp c.key) ∧
          (∀ k, freeWay c.b1 = none → freeWay c.b2 = some k →
            s.dispatch t = w.insertPlace x 0 c.b2 k 1 c.h2 c.fp c.key) ∧
          (freeWay c.b1 = none → freeWay c.b2 = none →
            ((∃ e ∈ w.tbl.disp, e.tid = t.tid) → s.dispatch t = w.setTxn { t with stage := .heldLock, left := 1 }) ∧
            ((∀ e ∈ w.tbl.disp, e.tid ≠ t.tid) → s.dispatch t = w.displace x c 0 false)))) ∧
      (t.op = opDELETE → ∀ w c, u.cands x = (w, c) →
        let del (b : List Byte) (k ch g : Nat) : State :=
          ((w.writeBucketAt t.id (w.bucketAddr t.tid g) ((u.desc t.tid).setWay b k 0 0 [])).addEntry t.tid g (-1)).tblAnswer
            t.id stOK (tblResult k ch 0 g false)
        (∀ k, c.w1 = some k → s.dispatch t = del c.b1 k 0 c.h1) ∧
        (∀ k, c.w1 = none → c.w2 = some k → s.dispatch t = del c.b2 k 1 c.h2) ∧
        (c.w1 = none → c.w2 = none → s.dispatch t =
          w.tblAnswer t.id (if c.p1 = true ∨ c.p2 = true then stPOISON else stNOTFOUND))))

/-- In a bucket of the table's size, writing a way with VALID, the fingerprint and a key of KEYLEN bytes leaves the other ways' FLAGS, FP and bytes as they were and puts the FLAGS, FP and key into that way; a key found in a bucket lies in a valid way of its fingerprint, and none is reported of a bucket without one. -/
def Obligations.TableBucketLayout : Prop :=
  ∀ (d : Desc) (b : List Byte) (w fp : Nat) (x : List Byte), w < 4 → d.bsize ≤ 2 → b.length = d.bytes → fp < 256 →
    let y := d.setWay b w 1 fp x
    y.length = b.length ∧ wayValid y w = true ∧ wayFp y w = fp ∧
    d.wayBytes y w = (List.range d.way).map (fun i => nth 0 x i) ∧
    (∀ v, v < 4 → v ≠ w → nth 0 y v = nth 0 b v ∧ wayFp y v = wayFp b v ∧ d.wayBytes y v = d.wayBytes b v) ∧
    (∀ key k, d.find b key fp = some k → k < 4 ∧ wayValid b k = true ∧ wayFp b k = fp ∧
      (d.wayBytes b k).take d.keylen = key) ∧
    (∀ key, d.find b key fp = none → ∀ k, k < 4 → wayValid b k = true → wayFp b k = fp →
      (d.wayBytes b k).take d.keylen ≠ key)

/-- DEFINE, RETIRE and MOVE answer 3 while a command runs, 9 outside SERVICE and DEGRADED, 4 of a table in the wrong state, and the first failed check of the staged descriptor. DEFINE installs the descriptor, counts it empty and makes it READY unless its buckets are to be emptied; RETIRE ends its validity and completes once its operations have; MOVE sets MOVING and copies bucket by bucket, a free, unfenced bucket at a time. Emptying writes every bucket with zeros and sets READY. A displacement move waits for its locks, checks its entry, and moves it; after the last the insert is tried again. A request that waited for a lock goes on through its table's checks; its waiting line accesses enter the fabric. A stall is reported with its table and bucket. -/
def Obligations.TableCommands : Prop :=
  ∀ s : State, s.inReset = false →
    let t := s.rd Fd.TBL_CMD_TID
    let d := { s.descStaged with valid := true }
    (∀ v : State, ∀ op r, v.cmdDone t op r = (v.wr Fd.TBL_CMD_RESULT r).raise 187 1 (t + op * 256 + r * 4096)) ∧
    (s.tbl.cmd ≠ none → exec .tblDefine s = .next (s.cmdDone t 1 3) ∧ exec .tblRetire s = .next (s.cmdDone t 2 3) ∧
      exec .tblMove s = .next (s.cmdDone t 3 3)) ∧
    (s.tbl.cmd = none → s.tblMode = false → exec .tblDefine s = .next (s.cmdDone t 1 9) ∧
      exec .tblRetire s = .next (s.cmdDone t 2 9) ∧ exec .tblMove s = .next (s.cmdDone t 3 9)) ∧
    (s.tbl.cmd = none → s.tblMode = true →
      ((s.desc t).valid = true → exec .tblDefine s = .next (s.cmdDone t 1 4)) ∧
      ((s.desc t).valid = false →
        (∀ e, s.descCheck t d = some e → exec .tblDefine s = .next (s.cmdDone t 1 e)) ∧
        (s.descCheck t d = none → exec .tblDefine s = .next (((s.putDesc t d).tblUse t).cmdDone t 1 1)) ∧
        exec .tblRetire s = .next (s.cmdDone t 2 4) ∧ exec .tblMove s = .next (s.cmdDone t 3 4)) ∧
      ((s.desc t).valid = true →
        let u := ((s.wr (Fd.TBL_D_CFG_VALID t) 0).wr (Fd.TBL_D_STAT_READY t) 0).wr Fd.TBL_CMD_RESULT 2
        exec .tblRetire s = .next ({ u with tbl := { u.tbl with
          cmd := some (2, t, 0, 0, 0), emptying := u.tbl.emptying.filter (· != t) } }.retireCheck t)) ∧
      ((s.desc t).valid = true → { d with rgn := (s.desc t).rgn, off := (s.desc t).off } = s.desc t →
        (∀ e, s.descCheck t d = some e → exec .tblMove s = .next (s.cmdDone t 3 e)) ∧
        (s.descCheck t d = none → exec .tblMove s =
          .next (({ s with tbl := { s.tbl with cmd := some (3, t, 0, d.rgn, d.off) } }.wr (Fd.TBL_D_STAT_MOVING t) 1).wr
            Fd.TBL_CMD_RESULT 2)))) ∧
    (∀ m cp r o, s.tbl.cmd = some (3, m, cp, r, o) →
      let dst := (s.rgn r).start + 256 * o + (s.desc m).bytes * cp
      let free := s.lockFree (m, cp) true = true ∧ s.bucketFenced m cp = false ∧
        ∀ i, i < (s.desc m).bytes / 64 → s.lineFenced (dst + 64 * i) = false
      (¬ free → exec .bucketCopy s = .next s) ∧
      (free → ∀ x : State × List Byte × Bool, (List.range ((s.desc m).bytes / 64)).foldl
          (fun (x : State × List Byte × Bool) i =>
            let r := x.1.memReadReal (s.bucketAddr m cp + 64 * i) 14
            (r.1, x.2.1 ++ r.2.1, x.2.2 || r.2.2)) (s, [], false) = x →
        let u := if x.2.2 then x.1.bucketPoison m cp else x.1
        let v := (List.range ((s.desc m).bytes / 64)).foldl (fun (v : State) i =>
          v.engineWrite 0 (dst + 64 * i) 14 ((x.2.1.drop (64 * i)).take 64) x.2.2) u
        (cp + 1 < (s.desc m).nb → exec .bucketCopy s =
          .next { v with tbl := { v.tbl with cmd := some (3, m, cp + 1, r, o) } }) ∧
        ((s.desc m).nb ≤ cp + 1 →
          let w := (v.putDesc m { s.desc m with rgn := r, off := o }).wr (Fd.TBL_D_STAT_MOVING m) 0
          exec .bucketCopy s = .next ({ w with tbl := { w.tbl with cmd := none } }.cmdDone m 3 1)))) ∧
    (∀ k, k ∈ s.tbl.emptying →
      let e := s.desc k
      let v := (List.range (e.nb * e.bytes / 64)).foldl (fun (v : State) i =>
        v.engineWrite 0 (v.tblBase e + 64 * i) 14 (List.replicate 64 0) false) s
      exec (.tableEmptying k) s =
        .next ({ v with tbl := { v.tbl with emptying := v.tbl.emptying.filter (· != k) } }.wr (Fd.TBL_D_STAT_READY k) 1)) ∧
    (∀ k, k ∉ s.tbl.emptying → exec (.tableEmptying k) s = .next s) ∧
    (∀ k x q, s.tbl.disp.find? (fun e => e.txn == k) = some x → s.txn k = some q →
      exec (.displacementMove k) s = .next (s.displacementMove k) ∧
      (∀ b w b2 w2 e rest, x.moves = (b, w, b2, w2, e) :: rest →
        (s.lockFree (x.tid, b) true = false ∨ s.lockFree (x.tid, b2) true = false →
          exec (.displacementMove k) s = .next s) ∧
        (s.lockFree (x.tid, b) true = true → s.lockFree (x.tid, b2) true = true →
          (s.bucketFenced x.tid b = true ∨ s.bucketFenced x.tid b2 = true) →
          exec (.displacementMove k) s = .next (s.displaceFail q x))) ∧
      (∀ b w b2 w2 e rest, x.moves = (b, w, b2, w2, e) :: rest →
        s.lockFree (x.tid, b) true = true → s.lockFree (x.tid, b2) true = true →
        s.bucketFenced x.tid b = false → s.bucketFenced x.tid b2 = false →
        ∀ u src v dst, s.readBucket x.tid b = (u, src, false) → u.readBucket x.tid b2 = (v, dst, false) →
          ((s.desc x.tid).entry src w ≠ e ∨ wayValid dst w2 = true →
            exec (.displacementMove k) s = .next (v.displaceFail q x)) ∧
          ((s.desc x.tid).entry src w = e → wayValid dst w2 = false →
            let y := (v.writeBucketAt k (v.bucketAddr x.tid b2)
              ((s.desc x.tid).setWay dst w2 (nth 0 e 0).toNat (nth 0 e 1).toNat (e.drop 2)))
            let z := ((y.writeBucketAt k (y.bucketAddr x.tid b) ((s.desc x.tid).setWay src w 0 0 [])).count
              Fd.TBL_MOVE_CNT_COUNT Fd.TBL_MOVE_CNT_OVF 1)
            let o := z.charge q.label (2 * (s.desc x.tid).bytes) (z.pinned (s.desc x.tid))
            exec (.displacementMove k) s = .next { o with tbl := { o.tbl with disp := o.tbl.disp.map fun f =>
              if f.txn = k then { x with moves := rest, made := x.made + 1 } else f } })) ∧
      (x.moves = [] → let h := (s.desc x.tid).hash (q.payload.take (s.desc x.tid).keylen)
        (s.bucketFenced x.tid h.1 = true ∨ s.bucketFenced x.tid h.2.1 = true →
          exec (.displacementMove k) s = .next (s.tblAnswer k stFENCED)) ∧
        (s.bucketFenced x.tid h.1 = false → s.bucketFenced x.tid h.2.1 = false →
          s.lockFree (x.tid, h.1) true = true → s.lockFree (x.tid, h.2.1) true = true →
          exec (.displacementMove k) s = .next (s.insertTry q x.made fun s _ => s.displaceFail q x)))) ∧
    (∀ k q, s.txn k = some q →
      (q.stage = .heldLock → exec (.lockGrant k) s = .next (s.tableExec q)) ∧
      (q.stage ≠ .heldLock → exec (.lockGrant k) s = .next (s.grantLines k)) ∧
      (isTable q.op = true → q.stage = .heldLock → exec (.tblLockStall k) s =
        .next (s.raise 190 1 (q.tid + ((s.desc q.tid).hash (q.payload.take (s.desc q.tid).keylen)).1 * 256))))

/-- A request beyond the set's counters is answered NOT_FOUND; one whose record or slot is fenced FENCED. Without its ancestry option, CUPD adds its packet count and length to the counter and answers OK; CREAD flushes the counter, reads its record and answers the lost mark, the epoch and both counts; CCLR answers the low halves of the counts it read and leaves the counter zero. CREBUILD starts a scan, or answers RETRY_LATER while one runs. An update of a set without slots adds to the record; one whose slot already holds the counter adds to the slot below its limits, and past them the delta goes to the record, or waits for it while its channel group is fenced, and the slot starts at zero. -/
def Obligations.CounterRequests : Prop :=
  ∀ (s : State) (t : Txn), isCounter t.op = true → s.goesAway t = false →
    let n := t.csid
    let i := t.ctr
    let c := s.cset n
    let x : CRun := { s, bad := none }
    (c.nctr ≤ i → s.dispatch t = s.respond t stNOTFOUND) ∧
    (i < c.nctr → s.ctrFenced n i = true → (t.op ≠ opCREBUILD ∨ s.cnt.rebuild = none) →
      s.dispatch t = s.respond t stFENCED) ∧
    (i < c.nctr → s.ctrFenced n i = false →
      (t.op = opCUPD → bit t.head.spec 6 = true →
        s.dispatch t = s.cEnd t (x.update n i (bits t.head.spec 15 8) t.head.lenArg) stOK) ∧
      (t.op = opCREAD → bit t.head.spec 6 = false → ∀ y r, x.flushRead n i = (y, r) → y.bad = none →
        s.dispatch t = y.s.respond t stOK (b2n r.lost + r.epoch * 2 ^ 32) (leBytes 8 r.pkts ++ leBytes 8 r.bytes)) ∧
      (t.op = opCCLR → bit t.head.spec 6 = false → ∀ y r, x.flushRead n i = (y, r) →
        let z := ((y.setCtr n i ⟨0, 0, false, 0⟩).upd fun s => s.dropAnc n i).upd fun s => s.forwardSet n i ⟨0, 0, false, 0⟩
        s.dispatch t = s.cEnd t z stOK (r.pkts % 2 ^ 32 + r.bytes % 2 ^ 32 * 2 ^ 32)) ∧
      (t.op = opCREBUILD → s.cnt.rebuild = none →
        let u := (s.wr Fd.CNT_STAT_REBUILD 1).wr Fd.CNT_STAT_REBUILD_SET n
        s.dispatch t = { u with cnt := { u.cnt with rebuild := some ⟨t.id, n, i⟩ } }.setTxn
          { t with stage := .running, left := 1 })) ∧
    (i < c.nctr → t.op = opCREBUILD → s.cnt.rebuild ≠ none → s.dispatch t = s.respond t stRETRY) ∧
    (∀ (w : CRun) (p b : Nat), (w.s.cset n).hot = false → w.update n i p b =
      ((w.counted Fd.CNT_UPD_CNT_COUNT Fd.CNT_UPD_CNT_OVF).addRec n i p b).upd fun s => s.forwardDelta n i p b) ∧
    (∀ (w y : CRun) (p b dp db : Nat), (w.s.cset n).hot = true →
      let k := (w.s.cset n).slot i
      let tag := (w.s.cset n).tag i
      (w.counted Fd.CNT_UPD_CNT_COUNT Fd.CNT_UPD_CNT_OVF).readSlot k = (y, .held tag dp db) →
      (dp + p < 0x8000 → db + b < 0x80000000 → w.update n i p b = y.writeSlot k tag (dp + p) (db + b) true) ∧
      (0x8000 ≤ dp + p ∨ 0x80000000 ≤ db + b → w.update n i p b =
        (y.flushDelta n i (dp + p) (db + b)).writeSlot k tag 0 0 true)) ∧
    (∀ (w : CRun) (dp db : Nat),
      let v := (w.counted Fd.CNT_FLUSH_CNT_COUNT Fd.CNT_FLUSH_CNT_OVF).upd fun s => (s.charge 254 128 false).forwardDelta n i dp db
      (v.s.recFenced n i = true → w.flushDelta n i dp db = v.upd fun s => s.cntHold n i (.delta dp db)) ∧
      (v.s.recFenced n i = false → w.flushDelta n i dp db = v.addRec n i dp db))

/-- A flush of a counter of a valid set that is not fenced takes its slot's delta to its record; of a fenced one it does nothing. A rebuild's scan ends it: REBUILD falls, and the request is answered POISON on a poisoned entry, FENCED on a fenced one, NOT_FOUND without a child, otherwise OK with the number of children and the counter holding their sum. With no rebuild nothing happens. A checkpoint sweep starts, or, while the one before goes on, raises CNT_CKPT_LATE and waits for its end; it flushes every checkpointed set and, with no delta kept back by a fence, ends: while joined it sends the mark and the protected queues' records. -/
def Obligations.CounterEngineSteps : Prop :=
  ∀ s : State, s.inReset = false →
    (∀ n i, n < 64 → (s.cset n).valid = true → s.ctrFenced n i = false →
      exec (.counterFlush n i) s = .next (s.cOwn ((⟨s, none⟩ : CRun).flush n i))) ∧
    (∀ n i, n < 64 → s.ctrFenced n i = true → exec (.counterFlush n i) s = .next s) ∧
    (∀ (x y : CRun) (n i dp db : Nat), (x.s.cset n).hot = true → (dp ≠ 0 ∨ db ≠ 0) →
      x.readSlot ((x.s.cset n).slot i) = (y, .held ((x.s.cset n).tag i) dp db) →
      x.flush n i = (y.flushDelta n i dp db).writeSlot ((x.s.cset n).slot i) ((x.s.cset n).tag i) 0 0 true) ∧
    (s.cnt.rebuild = none → exec .rebuildScanEnd s = .next s) ∧
    (∀ r t, s.cnt.rebuild = some r → s.txn r.txn = some t →
      let u := { s with cnt := { s.cnt with rebuild := none } }.wr Fd.CNT_STAT_REBUILD 0
      let z := (List.range (u.cset r.set).nctr).foldl (Scan.step r.set r.ctr (u.cset r.set))
        ⟨{ s := u, bad := none }, ⟨0, 0, false, 0⟩, 0, false, false⟩
      (z.psn = true → exec .rebuildScanEnd s = .next (u.cEnd t z.x stPOISON)) ∧
      (z.psn = false → (z.fenced = true ∨ u.ctrFenced r.set r.ctr = true) →
        exec .rebuildScanEnd s = .next (u.cEnd t z.x stFENCED)) ∧
      (z.psn = false → z.fenced = false → u.ctrFenced r.set r.ctr = false →
        (z.kids = 0 → exec .rebuildScanEnd s = .next (u.cEnd t z.x stNOTFOUND)) ∧
        (z.kids ≠ 0 → exec .rebuildScanEnd s = .next (u.cEnd t
          ((z.x.setCtr r.set r.ctr z.sum).upd fun s => s.forwardSet r.set r.ctr z.sum) stOK z.kids)))) ∧
    (s.on Fd.CNT_STAT_SWEEP = false → exec .checkpointSweep s = .next (s.wr Fd.CNT_STAT_SWEEP 1).sweepRun) ∧
    (s.on Fd.CNT_STAT_SWEEP = true → exec .checkpointSweep s =
      .next (({ s with cnt := { s.cnt with sweepDue := true } }.raise 204 1 0).sweepRun)) ∧
    (s.on Fd.CNT_STAT_SWEEP = true →
      let sets := s.csets.filter fun n => (s.cset n).ckpt
      let v := sets.foldl (fun (s : State) n => s.flushSet n) s
      ((∃ n ∈ sets, v.setDirty n ≠ 0) → s.sweepRun = v) ∧
      ((∀ n ∈ sets, v.setDirty n = 0) → v.cnt.sweepDue = false →
        s.sweepRun = ({ v with cnt := { v.cnt with sweepDue := false } }.wr Fd.CNT_STAT_SWEEP 0).sweepMark)) ∧
    (s.joined = false → s.sweepMark = s) ∧
    (s.joined = true →
      let u := s.sendPair (.cmark s.clk.time)
      let prot := (u.que.qs.filter fun (e : Nat × QRec) => e.2.prot).map (·.1)
      let old := u.pair.prevProt.filter fun q => !prot.contains q
      let w := (prot ++ old).foldl (fun (w : State) q => w.sendPair (w.queueCkpt q)) u
      s.sweepMark = { w with pair := { w.pair with prevProt := prot } })

/-- A slice gives its pool 256 ns of the capacity last computed less the guaranteed bytes of the slice before and any overdraft, and starts a new guaranteed count; none starts in a REFCLK hold. A window start, at a slice that its WIN divides, clears the label's count, gives it its guarantee for the window (of a disabled label with requests held, the one in force before, log entry 70), and judges its queued requests again while data may be released. Requests released from the share queues, and those behind them, go to their engines, and waiting decoders go on. A request's urgency rises to what its age gives and never falls, and its accesses carry it. The capacity and the shrink factor are recomputed once they have been computed (log entry 70); a change is reported. A held deficit report is raised at its limit's end. A label commit answers 3 while one waits, 6 without enforcement, 7 for a fixed label, 5 for a bad window, 4 beyond the admission limit, and otherwise waits for the window start with RESULT 2. -/
def Obligations.RegulatorSteps : Prop :=
  ∀ s : State, s.inReset = false →
    (s.on Fd.CLK_STAT_HOLD = false → exec .slice s = .next { s with rgl := { s.rgl with
      slice := s.rgl.slice + 1
      pool := 16 * s.rgl.k - 75 * s.rgl.guar + min s.rgl.pool 0
      guar := 0 } }) ∧
    (s.on Fd.CLK_STAT_HOLD = true → exec .slice s = .next s) ∧
    (∀ l, l < 256 → s.windowDue l = true →
      let u := s.labelApply l
      let v := { u with rgl := { u.rgl with
        counts := Tab.put (fun _ => 0) u.rgl.counts l 0
        gEff := Tab.put (fun _ => 0) u.rgl.gEff l ((u.lCfg l).2.2 * u.rd Fd.REG_STAT_SHRINK / 1024 * 256) } }
      (v.releasing = false → exec (.windowStart l) s = .next ((v.letGoAll []).roomRelease)) ∧
      (v.releasing = true → let r := v.rejudge l (v.shareQ l)
        exec (.windowStart l) s = .next (((r.1.setShareQ l r.2.2).letGoAll r.2.1).roomRelease))) ∧
    (∀ l, (s.labelEn l = true → s.lCfg l =
        (s.rd (Fd.REG_L_CFG_WEIGHT l), s.rd (Fd.REG_L_CFG_WIN l), s.rd (Fd.REG_L_GUAR_G l))) ∧
      (s.labelEn l = false → Tab.get (fun _ => none) s.rgl.old l = none → s.lCfg l =
        (s.rd (Fd.REG_L_CFG_WEIGHT l), s.rd (Fd.REG_L_CFG_WIN l), 0)) ∧
      (∀ c, s.labelEn l = false → Tab.get (fun _ => none) s.rgl.old l = some c → s.lCfg l = c)) ∧
    (∀ (v : State) (l id n : Nat) (q : List (Nat × Nat)), v.lCount l < v.gEff l →
      let r := ((v.addCount l n).addGuar n).rejudge l q
      v.rejudge l ((id, n) :: q) = (r.1, id :: r.2.1, r.2.2)) ∧
    (exec .shareRelease s = .next (((s.shareRounds 65536).1.letGoAll (s.shareRounds 65536).2).roomRelease)) ∧
    ((s.rgl.pool ≤ 0 ∨ s.releasing = false) → ∀ k, s.shareRounds (k + 1) = (s, [])) ∧
    (∀ k t, s.txn k = some t →
      (s.urgency t ≤ t.urg → exec (.urgencyRise k) s = .next s) ∧
      (t.urg < s.urgency t → ∃ v, exec (.urgencyRise k) s = .next v ∧
        v.req = (s.setTxn { t with urg := s.urgency t }).req ∧ v.fabric = s.fabric.map (Acc.age k (s.urgency t)))) ∧
    (let k := s.capacity;
      let new := if s.on Fd.REG_CTL_ENFORCE then shrink k s.sumG else 1024
      let v := ({ s with rgl := { s.rgl with k } }.wr Fd.REG_STAT_KEFF (k / 1200)).wr Fd.REG_STAT_SHRINK new
      (s.rgl.ran = true →
        exec .shrinkRecompute s = .next (if new ≠ s.rd Fd.REG_STAT_SHRINK then v.raiseDeficit else v)) ∧
      (s.rgl.ran = false → exec .shrinkRecompute s = .next s)) ∧
    (s.rgl.defHeld = true → exec .deficitLimitEnd s =
      .next ({ s with rgl := { s.rgl with defHeld := false, defTime := s.clk.time + 1 } }.raise 216 1
        (s.rd Fd.REG_STAT_SHRINK + s.rd Fd.REG_STAT_KEFF * 65536))) ∧
    (s.rgl.defHeld = false →
      exec .deficitLimitEnd s = .next { s with rgl := { s.rgl with defTime := 0 } }) ∧
    (let l := s.rd Fd.REG_LCMD_LABEL;
      let cfg := s.reg Ra.REG_STG_CFG
      let g := s.reg Ra.REG_STG_GUAR
      let win := bits cfg.toNat 7 0
      let labels := setNth s.labels l (bit cfg.toNat 31, win, bits g.toNat 19 0)
      let fixed := l = 254 ∨ (l = 255 ∧ (s.pair.resync ≠ none ∨ (bit cfg.toNat 31 = false ∧ s.on (Fd.PORT_LANE_CFG_EN 12) = true)))
      (s.rgl.commit ≠ none → exec .labelCommit s = .next (s.lcmdDone l 3)) ∧
      (s.rgl.commit = none → s.on Fd.REG_CTL_ENFORCE = false → exec .labelCommit s = .next (s.lcmdDone l 6)) ∧
      (s.rgl.commit = none → s.on Fd.REG_CTL_ENFORCE = true →
        (fixed → exec .labelCommit s = .next (s.lcmdDone l 7)) ∧
        (¬ fixed → (win = 0 ∨ 250 < win) → exec .labelCommit s = .next (s.lcmdDone l 5)) ∧
        (¬ fixed → win ≠ 0 → win ≤ 250 →
          (withinLimit (s.rd Fd.GLB_LEVEL_LIM_LVL_LOW) (gSum labels) = false →
            exec .labelCommit s = .next (s.lcmdDone l 4)) ∧
          (withinLimit (s.rd Fd.GLB_LEVEL_LIM_LVL_LOW) (gSum labels) = true → exec .labelCommit s =
            .next ({ s with rgl := { s.rgl with commit := some (l, cfg, g) } }.wr Fd.REG_LCMD_RESULT 2)))))

/-- LOAD and CLEAR answer 3 while a load runs, with OP and SLOT left as they were, 6 outside BOOT, SERVICE and DEGRADED, 4 for a LOAD without a management key, and otherwise start with RESULT 2 and BUSY. The drain's end, once no request to the slot is left, puts the unwrapped key, or none, into the slot, clears BUSY, reports RESULT 1 and lets held requests go on; its timeout leaves the slot and reports 5. MK_DECRYPT answers 4 without an identity, 3 for a blob that does not decrypt, and otherwise puts the key in force, seals it and answers 1. An attestation request without an identity answers 3 with an empty report, otherwise 2; the report is then formed and signed, with RESULT 1. A dirty tag-cache line that is neither lost nor in a fenced group is written to DRAM when evicted. -/
def Obligations.KeysAndReports : Prop :=
  ∀ s : State, s.inReset = false →
    (∀ slot op, slot < 64 → (op = 1 ∨ op = 2) →
      let u := (s.wr Fd.SEC_KLD_CTL_OP op).wr Fd.SEC_KLD_CTL_SLOT slot
      let c := if op = 1 then Instr.kldLoad slot else Instr.kldClear slot
      let ok := u.mode = mBOOT ∨ u.mode = mSERVICE ∨ u.mode = mDEGRADED
      (s.sec.load ≠ none → exec c s = .next (s.kldDone slot 3)) ∧
      (s.sec.load = none → ¬ ok → exec c s = .next (u.kldDone slot 6)) ∧
      (s.sec.load = none → ok → op = 1 → s.sec.mkey = none → exec c s = .next (u.kldDone slot 4)) ∧
      (s.sec.load = none → ok → (op = 2 ∨ s.sec.mkey ≠ none) → exec c s =
        .next (({ u with sec := { u.sec with load := some (slot, op) } }.wr Fd.SEC_KLD_CTL_RESULT 2).wr
          Fd.SEC_STAT_KLD_BUSY 1))) ∧
    (∀ slot op, s.sec.load = some (slot, op) →
      (s.kldBusy slot = true → exec .keyLoadDrainEnd s = .next s) ∧
      (s.kldBusy slot = false → op = 2 → exec .keyLoadDrainEnd s = .next ((s.setSlot slot none).kldEnd slot 1)) ∧
      (∀ mk, s.kldBusy slot = false → op = 1 → s.sec.mkey = some mk → exec .keyLoadDrainEnd s =
        .next ((s.setSlot slot (some (Config.sm4Dec (kwk mk slot) s.wrappedKey % 2 ^ 128))).kldEnd slot 1)) ∧
      exec .keyLoadTimeout s = .next (s.kldEnd slot 5)) ∧
    (s.sec.load = none → exec .keyLoadDrainEnd s = .next s ∧ exec .keyLoadTimeout s = .next s) ∧
    (let fin (v : State) (r : Nat) : State := (v.wr Fd.SEC_MK_CTL_RESULT r).raise 232 1 (r * 256 + 4096);
      (s.root = none → exec .mkDecrypt s = .next (fin s 4)) ∧
      (∀ root, s.root = some root → Config.sm2Decrypt (identity root) s.mkBlob = none →
        exec .mkDecrypt s = .next (fin s 3)) ∧
      (∀ root m, s.root = some root → Config.sm2Decrypt (identity root) s.mkBlob = some m →
        exec .mkDecrypt s = .next (fin ((s.setMk m).sealMk root m) 1) ∧
        ((s.setMk m).sealMk root m).sec.mkey = some (m % 2 ^ 256))) ∧
    (s.root = none → exec .attestationRequest s =
      .next (((s.putReport []).wr Fd.SEC_ATT_CTL_RESULT 3).raise 238 1 1) ∧ exec .reportFormed s = .next s) ∧
    (∀ root, s.root = some root →
      exec .attestationRequest s = .next ({ s with sec := { s.sec with attest := true } }.wr Fd.SEC_ATT_CTL_RESULT 2) ∧
      (s.sec.attest = true →
        let h := s.reportHead root
        let sig := Config.sm2Sign (identity root) h
        let v := s.putReport (h ++ leBytes 32 sig.1 ++ leBytes 32 sig.2)
        exec .reportFormed s =
          .next (({ v with sec := { v.sec with attest := false } }.wr Fd.SEC_ATT_CTL_RESULT 1).raise 238 1 0))) ∧
    (∀ l t, s.tagLine l = some t →
      (t.lost = false → t.dirty = true → s.cgFenced (pcOf (64 * l) / 4) = false → exec (.tagCacheEviction l 0) s =
        .next ((s.setTagLine l none).writeCurrent l 16 t.data false)) ∧
      (t.lost = false → t.dirty = false → exec (.tagCacheEviction l 0) s = .next (s.setTagLine l none)) ∧
      (t.lost = true → exec (.tagCacheEviction l 0) s = .next s))

/-- For every pair-link message whose fields are in their ranges, the slots it is sent as begin with one head on the message's virtual channel, the head tells how many data slots follow (with MEXEC's and MRES's second head telling the rest), and reading head and data slots gives the message back, every field at every value. A request head is read back from its 128 bits. RSYNC's all done, code 4 in a two-bit field, rests on assumption 50. -/
def Obligations.PairMessagesRoundTrip : Prop :=
  (∀ m : PairMsg, m.fits = true → ∃ head data, m.slots.2 = slotsOf m.slots.1 head data ∧
    pairVc (head % 256) = some m.slots.1 ∧
    data.length = pairSlots (head % 256) + (match data with
      | d :: _ => pairMore (head % 256) d
      | [] => 0) ∧
    (∀ d ∈ data, d < 2 ^ 128) ∧ head < 2 ^ 128 ∧ pairOf head data = some m) ∧
  (∀ op h, headFits op h = true → headWord op h < 2 ^ 128 ∧ parseHead (headWord op h) = (op, h))

/-- MWR of an unlocked line with none waiting: outside a mirrored region it is answered REJ_REGION, in a fence FENCED with the region STALE, where the PRIMARY has a write of its own to the line pending OK without a write, otherwise the line is written and answered OK, and a copy's line moves the copy's point; else it waits. MEXEC of a joined partner enters the decoder as port 12. MCMT and MRES end the exchange they name and do nothing for an unknown one; MRES answers its request. CDELTA and CSET act on a checkpointed set's counter, and wait while its record or slot is fenced, CMARK keeps the time, QCKPT writes the shadow entry or reports once that there is none. HB keeps the partner's state; HELLO with this part's own role reports a conflict once, and with another role counts toward the join; LEAVE loses the partner. A ROLE request of a joined partner is taken when none is in progress, an acknowledgement ends this part's own. RSYNC starts or ends a region or ends the copy. -/
def Obligations.PairMessagesReceived : Prop :=
  ∀ s : State, s.inReset = false →
    (∀ x line keyed psn copy urg label entry data n,
      let e := exec (.mwrRecv x line keyed psn copy urg label entry data) s
      ((s.pair.waitW ≠ [] ∨ s.mwrWaits line = true) → e = .next { s with pair := { s.pair with
        waitW := s.pair.waitW ++ [PairMsg.mwr x line keyed psn copy urg label entry data] } }) ∧
      (s.pair.waitW = [] → s.mwrWaits line = false →
        (s.rgnOf (64 * line) = none → e = .next (s.pairSend (.mcmt x 8))) ∧
        (s.rgnOf (64 * line) = some n → (s.rgn n).mirror = false → e = .next (s.pairSend (.mcmt x 8))) ∧
        (s.rgnOf (64 * line) = some n → (s.rgn n).mirror = true →
          (s.mwrFenced n (64 * line) = true → e =
            .next (((s.setCurrent n false).raise 103 2 (64 * line / 64 * 64)).pairSend (.mcmt x 7))) ∧
          (s.mwrFenced n (64 * line) = false → s.rd Fd.PAIR_STAT_ROLE = 1 → copy = false →
            (∃ p ∈ s.pair.pendW, p.2.1 = line) → e = .next (s.pairSend (.mcmt x 0))) ∧
          (s.mwrFenced n (64 * line) = false → (s.rd Fd.PAIR_STAT_ROLE ≠ 1 ∨ copy = true ∨ ∀ p ∈ s.pair.pendW, p.2.1 ≠ line) →
            let v := s.mwrWrite line keyed psn copy urg label entry data
            ((copy = false ∨ v.pair.resync = none) → e = .next (v.pairSend (.mcmt x 0))) ∧
            (∀ r, copy = true → v.pair.resync = some r →
              (r.inRgn ≠ some n → e = .next (v.pairSend (.mcmt x 0))) ∧
              (r.inRgn = some n → e = .next ({ v with pair := { v.pair with
                resync := some { r with inPoint := max r.inPoint line } } }.pairSend (.mcmt x 0)))))))) ∧
    (∀ x op h d, exec (.mexecRecv x op h d) s = .next (if s.joined then s.decodeReq 12 op h d x else s)) ∧
    (∀ x st, (∀ p ∈ s.pair.pendW, p.1 ≠ x) → exec (.mcmtRecv x st) s = .next s) ∧
    (∀ x p t, s.pair.pendW.find? (fun (e : Nat × Nat × Nat) => e.1 == x) = some p → s.txn p.2.2 = some t →
      let u := { s with pair := { s.pair with pendW := s.pair.pendW.filter fun (e : Nat × Nat × Nat) => e.1 != x } }
      exec (.mcmtRecv x 0) s =
        .next (((u.setTxn { t with mirrorLeft := t.mirrorLeft - 1 }).settle p.2.2).roleSettle.retireSettle)) ∧
    (∀ x st fl m r d, (∀ p ∈ s.pair.pendX, p.1 ≠ x) → exec (.mresRecv x st fl m r d) s = .next s) ∧
    (∀ x st fl m r d p t, s.pair.pendX.find? (fun (e : Nat × Nat) => e.1 == x) = some p → s.txn p.2 = some t →
      let u := { s with pair := { s.pair with pendX := s.pair.pendX.filter fun (e : Nat × Nat) => e.1 != x } }
      exec (.mresRecv x st fl m r d) s = .next ((u.respond t st r d m fl).roleSettle)) ∧
    (∀ n i p b, (s.ckptSet n = false ∨ (s.cset n).nctr ≤ i) → exec (.cdeltaRecv n i p b) s = .next (s.ckptGap 2)) ∧
    (∀ n i p b, s.ckptSet n = true → i < (s.cset n).nctr →
      (s.ctrFenced n i = true → exec (.cdeltaRecv n i p b) s = .next (s.cntHold n i (.delta p b))) ∧
      (s.ctrFenced n i = false → exec (.cdeltaRecv n i p b) s = .next (s.cOwn ((⟨s, none⟩ : CRun).addRec n i p b)))) ∧
    (∀ n i lost ep p b, ((s.ckptSet n = false ∨ (s.cset n).nctr ≤ i) → exec (.csetRecv n i lost ep p b) s = .next (s.ckptGap 2)) ∧
      (s.ckptSet n = true → i < (s.cset n).nctr → s.ctrFenced n i = false →
        exec (.csetRecv n i lost ep p b) s = .next (s.cOwn ((⟨s, none⟩ : CRun).setCtr n i ⟨p, b, lost, ep⟩))) ∧
      (s.ckptSet n = true → i < (s.cset n).nctr → s.ctrFenced n i = true → exec (.csetRecv n i lost ep p b) s =
        .next ({ s with cnt := { s.cnt with transit := s.cnt.transit.filter fun e => !(e.1 == n && e.2.1 == i) } }.cntHold n i
          (.value lost ep p b)))) ∧
    (∀ t, exec (.cmarkRecv t) s = .next { s with pair := { s.pair with lastMark := t } }) ∧
    (∀ q st pool prot lim cells pkts bytes, s.shadowOk = false → exec (.qckptRecv q st pool prot lim cells pkts bytes) s =
      .next (if s.pair.noShadow then s else { s with pair := { s.pair with noShadow := true } }.raise 103 3 0)) ∧
    (∀ q st pool prot lim cells pkts bytes u d, q < 65536 → s.shadowOk = true →
      s.memRead (s.shadowAddr q) 13 = (u, d, false) → exec (.qckptRecv q st pool prot lim cells pkts bytes) s =
        .next (u.memWrite (s.shadowAddr q) 13
          (patch d (s.shadowAddr q % 64) (shadowEntry st pool prot lim cells pkts bytes)) false)) ∧
    (∀ r m sg c, exec (.hbRecv r m sg c) s = .next ((s.farState r m sg c).roleSettle)) ∧
    (∀ r m sg c, let u := (s.losePartner 5 m).farState r m sg c
      (u.role = 0 → exec (.helloRecv r m sg c) s = .next u) ∧
      (u.role ≠ 0 → r = u.role → exec (.helloRecv r m sg c) s = .next (if u.pair.conflict then u else
        { u with pair := { u.pair with conflict := true } }.raise 102 2 0)) ∧
      (u.role ≠ 0 → r ≠ u.role → exec (.helloRecv r m sg c) s =
        .next ({ u with pair := { u.pair with helloGot := true } }.tryJoin))) ∧
    (∀ m, exec (.leaveRecv m) s = .next (s.losePartner 2 m)) ∧
    (∀ r, s.joined = true → s.pair.roleAsk = none → exec (.roleRecv r false) s =
      .next ({ s with pair := { s.pair with roleAsk := some r, roleFar := true } }.roleSettle)) ∧
    (∀ r o, s.pair.roleAsk = some o → s.pair.roleFar = false →
      exec (.roleRecv r true) s = .next ((s.setRole o true).roleEnd 1) ∧ exec (.roleRecv r false) s = .next s) ∧
    (∀ n, exec (.rsyncRecv 1 n) s = .next (((s.setCurrent n false).setResync { s.resync with
        inRgn := some n
        inPoint := (s.rgn n).start / 64
        inTodo := s.resync.inTodo.filter (· != n)
        inOpen := true }).wr Fd.PAIR_STAT_RESYNC_RGN n) ∧
      exec (.rsyncRecv 3 n) s = .next s ∧
      exec (.rsyncRecv 4 n) s = .next (s.resyncDone { s.resync with inRgn := none, inTodo := [], inOpen := false }) ∧
      (let u := ({ s with pair := { s.pair with diverged := setBits s.pair.diverged n n 0 } } : State).setCurrent n true;
        exec (.rsyncRecv 2 n) s = .next ((u.wr Fd.PAIR_STAT_DIVERGED (b2n (u.pair.diverged != 0))).setResync
          { s.resync with inRgn := none })))

/-- A part with a role that may speak and is not joined sends HELLO and joins when both have passed; a joined part sends HB. The heartbeat's and the answer's timeouts lose the partner, the latter only while an answer is awaited; losing the partner while not joined does nothing. A role change answers 3 while one runs, with ROLE left as it was, takes effect at once when not joined, and otherwise asks the partner; its timeout answers 4 and reports it. A resynchronisation answers 2 when not joined, 3 while one runs, otherwise 1 and starts with this part or the partner as the source. The copy starts the next region, ends one whose lines are all sent, which is current then, and reads and sends the next line outside a fence. -/
def Obligations.PairOwnSteps : Prop :=
  ∀ s : State, s.inReset = false →
    (s.pairTalks = true → s.joined = false → s.role ≠ 0 →
      let u := s.pairSend (.hello s.role s.mode (s.on Fd.PAIR_STAT_SINGLE_WR) s.currentMask)
      exec .helloSend s = .next ({ u with pair := { u.pair with helloSent := true } }.tryJoin)) ∧
    (s.joined = true ∨ s.role = 0 ∨ s.pairTalks = false → exec .helloSend s = .next s) ∧
    (s.joined = true → exec .hbSend s =
      .next ((s.pairSend (.hb s.role s.mode (s.on Fd.PAIR_STAT_SINGLE_WR) s.currentMask)).roleSettle)) ∧
    (s.joined = false → exec .hbSend s = .next s ∧ exec .hbTimeout s = .next s ∧ exec .answerTimeout s = .next s) ∧
    (exec .hbTimeout s = .next (s.losePartner 1 0)) ∧
    (s.pair.pendW ≠ [] ∨ s.pair.pendX ≠ [] → exec .answerTimeout s = .next (s.losePartner 4 0)) ∧
    (s.pair.pendW = [] → s.pair.pendX = [] → exec .answerTimeout s = .next s) ∧
    (∀ r, r < 3 → let u := s.wr Fd.PAIR_ROLE_ROLE r
      (s.pair.roleAsk ≠ none → exec (.roleChange r) s = .next (s.wr Fd.PAIR_ROLE_RESULT 3)) ∧
      (s.pair.roleAsk = none → u.joined = false →
        exec (.roleChange r) s = .next ((u.setRole r (u.mode != mBOOT)).wr Fd.PAIR_ROLE_RESULT 1)) ∧
      (s.pair.roleAsk = none → u.joined = true → r = 0 → exec (.roleChange r) s =
        .next ((((u.losePartner 2 u.mode).pairSend (.leave u.mode)).setRole 0 true).wr Fd.PAIR_ROLE_RESULT 1)) ∧
      (s.pair.roleAsk = none → u.joined = true → r ≠ 0 → exec (.roleChange r) s =
        .next (({ u with pair := { u.pair with roleAsk := some r, roleFar := false } }.wr Fd.PAIR_ROLE_RESULT 2).pairSend
          (.role (3 - r) false)))) ∧
    (s.pair.roleAsk ≠ none → exec .roleChangeTimeout s = .next ((s.roleEnd 4).raise 102 4 0)) ∧
    (s.pair.roleAsk = none → exec .roleChangeTimeout s = .next s) ∧
    (∀ self, let u := s.wr Fd.PAIR_RESYNC_SOURCE_SELF (b2n self)
      (s.joined = false → exec (.pairResync self) s = .next (u.wr Fd.PAIR_RESYNC_RESULT 2)) ∧
      (s.joined = true → s.pair.resync ≠ none → exec (.pairResync self) s = .next (s.wr Fd.PAIR_RESYNC_RESULT 3)) ∧
      (s.joined = true → s.pair.resync = none → u.joined = true →
        let v := { u with pair := { u.pair with diverged := 0 } }.wr Fd.PAIR_STAT_DIVERGED 0
        exec (.pairResync self) s =
          .next ((if self then v.startResync u.mirrored [] true else v.startResync [] u.mirrored false).wr
            Fd.PAIR_RESYNC_RESULT 1))) ∧
    (∀ n rest, s.resync.outRgn = none → s.resync.outTodo = n :: rest → exec .resyncCopyRead s =
      .next (((s.setResync { s.resync with
        outRgn := some n
        outNext := (s.rgn n).start / 64
        outTodo := rest }).wr Fd.PAIR_STAT_RESYNC_RGN n).pairSend (.rsync 1 n))) ∧
    (∀ n, s.resync.outRgn = some n → (s.rgn n).kind ≠ kTAGSTORE → 64 * s.resync.outNext < (s.rgn n).stop →
      (s.mwrFenced n (64 * s.resync.outNext) = true → exec .resyncCopyRead s = .next s) ∧
      (s.mwrFenced n (64 * s.resync.outNext) = false →
        let a := 64 * s.resync.outNext
        let l := (s.charge 255 64 (decide (cremaWin ≤ a))).storedLine n a
        let x := l.1.pair.nextXid % 65536
        let v := l.1.pairSend (.mwr x s.resync.outNext (!l.2.2.1.isEmpty) l.2.2.2 true 0 255 l.2.2.1 l.2.1)
        exec .resyncCopyRead s = .next (((({ v with pair := { v.pair with
            nextXid := v.pair.nextXid + 1
            pendW := v.pair.pendW ++ [(x, s.resync.outNext, 0)] } }).setResync
          { s.resync with outNext := s.resync.outNext + 1 }).wr Fd.PAIR_RSYNC_PT_LO_ADDR (bits a 31 6)).wr
            Fd.PAIR_RSYNC_PT_HI_ADDR (bits a 39 32)))) ∧
    (∀ n m rest, s.resync.outRgn = some n → s.resync.outTodo = m :: rest →
      ((s.rgn n).kind = kTAGSTORE ∨ (s.rgn n).stop ≤ 64 * s.resync.outNext) →
      let u := (s.setCurrent n true).pairSend (.rsync 2 n)
      let v : State := { u with pair := { u.pair with diverged := setBits u.pair.diverged n n 0 } }
      exec .resyncCopyRead s = .next ((v.wr Fd.PAIR_STAT_DIVERGED (b2n (v.pair.diverged != 0))).setResync
        { s.resync with outRgn := none })) ∧
    (s.resync.outRgn = none → s.resync.outTodo = [] → s.resync.outCnt = false → exec .resyncCopyRead s = .next s)

/-- A sensor that is absent or FAILED, and any sensor while the base die is off, is not sampled. Otherwise a code outside −40 °C to 150 °C fails with code 2; the first code after reset or a rearm within that range passes unless it is stuck; a passing code becomes the reading. A failing sample, and a conversion timeout with code 1, puts a substitute in effect, reports it once, counts it, and on the third in a row marks the sensor FAILED and reports that. After it the sensor's neighbours note the reading, and Kettle evaluates spread, calibration drift, at the OTP's own sensor the band of its re-read passes, and Trip B at a base-die sensor, and its zone, its layer group's band, Trip A and the end of THERMAL-HOLD at a core-die sensor. -/
def Obligations.SensorSamples : Prop :=
  ∀ (s : State) (i w : Nat), s.inReset = false →
    ((s.snsPresent i = false ∨ (s.sns i).failed = true ∨ s.coreOff = true) →
      exec (.sensorSample i w) s = .next s ∧ exec (.sensorConversionTimeout i) s = .next s) ∧
    (s.snsPresent i = true → (s.sns i).failed = false → s.coreOff = false →
      let x := (s.sns i).code (w % 4096)
      let r := signed 12 w
      let sub := s.zoneSub (i % 4)
      let first := !(s.sns i).sampled
      (exec (.sensorConversionTimeout i) s =
        .next (((s.sampleFails i 1 (s.sns i)).noteNeighbours i).snsEval i sub first)) ∧
      (s.sampleCheck x r = 0 → exec (.sensorSample i w) s = .next (((s.setSns i { x with
        pass := some r
        passAt := s.clk.time
        sampled := true
        ok := true
        fails := 0
        fresh := false
        rearm := x.rearm - 1
        sub := decide (1 < x.rearm) }).noteNeighbours i).snsEval i sub first)) ∧
      (s.sampleCheck x r ≠ 0 → exec (.sensorSample i w) s =
        .next (((s.sampleFails i (s.sampleCheck x r) x).noteNeighbours i).snsEval i sub first)) ∧
      ((r < -320 ∨ 1200 < r) → s.sampleCheck x r = 2) ∧
      (-320 ≤ r → r ≤ 1200 → x.fresh = true → x.run < 4096 → s.sampleCheck x r = 0)) ∧
    (∀ (c : Nat) (x : Sns),
      let y := { x with
        sampled := true
        ok := false
        fails := x.fails + 1
        failed := decide (2 ≤ x.fails)
        fresh := false
        rearm := if x.rearm = 0 then 0 else 3
        sub := true }
      let u := if x.hasSub then s.setSns i y
        else ((s.setSns i y).count Fd.THM_CNT_SUBST_N Fd.THM_CNT_SUBST_OVF 1).raise 20 1 (i + c * 256)
      (x.fails < 2 → s.sampleFails i c x = u) ∧
      (2 ≤ x.fails → s.sampleFails i c x = (u.raise 21 1 (i + c * 256)).lostEval i)) ∧
    (∀ sub first, i < 64 → i ≠ 17 → s.snsEval i sub first =
      (((s.spreadEval (snsRgn i) false).calDrift (2 * snsRgn i)).calDrift (2 * snsRgn i + 1)).tripBEval) ∧
    (∀ sub first, s.snsEval 17 sub first =
      ((((s.spreadEval (snsRgn 17) false).calDrift (2 * snsRgn 17)).calDrift (2 * snsRgn 17 + 1)).otpBand first).tripBEval) ∧
    (∀ sub first, 64 ≤ i → s.snsEval i sub first =
      (((s.zoneEval (i % 4) sub).bandEval (dieOf i / 4)).tripAEval).holdExit)

/-- The computed level is 0 below the start threshold and one more for each step above it, up to 7. A zone at a lower level takes the computed one at once; one at a higher level falls by one step only below the fall threshold, with no substitute in effect at the sample's start and 10 ms after its last change. Trip A crossed by a sensor, which ends STANDBY first, requests THERMAL-HOLD at precedence 3 and is reported once until every reading is below it; Trip B drives THERMTRIP_N and requests LOCKDOWN at precedence 1, or in LOCKDOWN records the request and stops the ports. THERMAL-HOLD ends below the exit value when no zone or region is lost. A region is dropped when a pair has differed on three samples: of a voltage breach the lower region, otherwise the hotter; a dropped region's two groups switch. -/
def Obligations.KettleDecisions : Prop :=
  (∀ (s : State) (z : Int), (z < s.startEff → s.thrLevel z = 0) ∧
    (∀ k : Nat, k < 7 → 0 < s.stepC → s.startEff + s.stepC * k ≤ z → z < s.startEff + s.stepC * (k + 1) →
      s.thrLevel z = k + 1) ∧
    (0 < s.stepC → s.startEff + s.stepC * 6 ≤ z → s.thrLevel z = 7)) ∧
  (∀ (s : State) (q j : Nat) (z : Int) (sub : Bool), s.maxEff (s.zoneSns q) = some (j, z) →
    let l := s.rd (Fd.THM_ZONE_LEVEL q)
    (l < s.thrLevel z → s.zoneEval q sub = s.setZone q (s.thrLevel z)) ∧
    (s.thrLevel z ≤ l → (sub = true ∨ s.thrFloor l - 8 * (s.rd Fd.THM_THR_HYST : Int) ≤ z) → s.zoneEval q sub = s) ∧
    (s.thrLevel z < l → z < s.thrFloor l - 8 * (s.rd Fd.THM_THR_HYST : Int) → sub = false →
      rateOk (Tab.get (fun _ => 0) s.thm.zoneTime q) s.clk.time 1750 = true → s.zoneEval q sub = s.setZone q (l - 1))) ∧
  (∀ (s : State) (i : Nat) (e : Int), s.maxEff (s.snsClass 64) = some (i, e) →
    (e < s.tripAt true → s.tripAEval = { s with thm := { s.thm with tripA := false } }) ∧
    (s.tripAt true ≤ e → s.thm.tripA = true → s.tripAEval = s) ∧
    (s.tripAt true ≤ e → s.thm.tripA = false → s.mode ≠ mSTANDBY →
      let u := { s with thm := { s.thm with tripA := true } }.count Fd.THM_CNT_TRIPA_N Fd.THM_CNT_TRIPA_OVF 1
      s.tripAEval = (u.askMode { prec := 3, mode := mHOLD, level := u.level }).raise 17 1 (i + wrapInt 12 e * 256)) ∧
    (s.tripAt true ≤ e → s.thm.tripA = false → s.mode = mSTANDBY →
      let u := { s with thm := { s.thm with tripA := true } }.count Fd.THM_CNT_TRIPA_N Fd.THM_CNT_TRIPA_OVF 1
      s.tripAEval = (u.tripAWake.askMode { prec := 3, mode := mHOLD, level := u.tripAWake.level }).raise 17 1
        (i + wrapInt 12 e * 256)) ∧
    (s.mode = mHOLD → s.thm.exitAsked = false → s.thm.lost = [] → e < 680 + s.gradeC →
      s.holdExit = ({ s with thm := { s.thm with exitAsked := true } }.askMode
        { prec := 3, mode := s.seq.preHold, level := s.level }).raise 18 1 0) ∧
    (s.mode ≠ mHOLD ∨ s.thm.lost ≠ [] ∨ 680 + s.gradeC ≤ e → s.holdExit = s)) ∧
  (∀ (s : State) (i : Nat) (e : Int), s.maxEff (s.snsClass 0) = some (i, e) →
    (e < s.tripAt false → s.tripBEval = { s with thm := { s.thm with tripB := false } }) ∧
    (s.tripAt false ≤ e → s.thm.tripB = true → s.tripBEval = s) ∧
    (s.tripAt false ≤ e → s.thm.tripB = false →
      let v := { s with pins := { s.pins with thermtripLow := true }, thm := { s.thm with tripB := true } }
      let u := v.raise 19 1 (i + wrapInt 12 e * 256)
      (u.mode ≠ mLOCKDOWN → s.tripBEval = u.askMode { prec := 1, mode := mLOCKDOWN, level := u.level }) ∧
      (u.mode = mLOCKDOWN → let w := (u.modeStat 1 4).modeStat 1 1
        (w.tripB = false → s.tripBEval = w.tripStop) ∧ (w.tripB = true → s.tripBEval = w)))) ∧
  (∀ (s : State) (slow other : Nat) (volt : Bool), s.dropped slow = false →
    let u := (s.wrBit Fd.THM_DROP_DROP slow true).count Fd.THM_CNT_SPREAD_N Fd.THM_CNT_SPREAD_OVF 1
    s.dropRgn slow other volt =
      ((u.groupSwitch (2 * slow)).groupSwitch (2 * slow + 1)).raise 23 1 (slow + other * 16 + b2n volt * 256))

/-- A voltage sample writes the region's reading and evaluates its pairs; a region number from 16 does nothing. A dropped region within 40 mV and 20 °C of its neighbours is released, its two groups switch and SPREAD_CLEAR is raised; any other is left. REARM gives a FAILED sensor a fresh start of three samples under substitutes and does nothing to any other. The end of the report limit reports a held throttle change once. Core-die codes count only in a retain mode, where each die sets its self-refresh rate from its own sensors, and a code from Trip A sets every rate to High, is recorded and wakes the part. A code of the deep-sleep sensor is kept in DEEP only, and one from Trip B takes effect there once. -/
def Obligations.KettleCommands : Prop :=
  ∀ s : State, s.inReset = false →
    (∀ r mv, r < 16 → s.coreOff = false → exec (.regionVoltageSample r mv) s =
      .next ((s.wr (Fd.THM_RGN_VOLT r) mv).spreadEval r true)) ∧
    (∀ r mv, (16 ≤ r ∨ s.coreOff = true) → exec (.regionVoltageSample r mv) s = .next s) ∧
    (∀ r, s.dropped r = true → s.spreadCalm r = true →
      let u := s.wrBit Fd.THM_DROP_DROP r false
      exec (.spreadClear r) s = .next (((u.groupSwitch (2 * r)).groupSwitch (2 * r + 1)).raise 24 1 r)) ∧
    (∀ r, s.dropped r = false ∨ s.spreadCalm r = false → exec (.spreadClear r) s = .next s) ∧
    (∀ i, i < 128 → let u := s.wr Fd.THM_REARM_SENSOR i
      ((u.sns i).failed = false → exec (.rearm i) s = .next u) ∧
      ((u.sns i).failed = true →
        let v := u.setSns i { u.sns i with failed := false, fails := 0, rearm := 3, fresh := true, sub := true }
        exec (.rearm i) s = .next { v with thm := { v.thm with
          lost := v.thm.lost.filter (· != (if i < 64 then 16 + snsRgn i else i % 4)) } })) ∧
    (∀ z, Tab.get (fun _ => (0 : Nat)) s.thm.thrHeld z = 0 → exec (.throttleLimitEnd z) s = .next s) ∧
    (∀ z old, Tab.get (fun _ => (0 : Nat)) s.thm.thrHeld z = old + 1 →
      let u := { s with thm := { s.thm with
        thrTime := Tab.put (fun _ => 0) s.thm.thrTime z (s.clk.time + 1)
        thrHeld := Tab.put (fun _ => 0) s.thm.thrHeld z 0 } }
      exec (.throttleLimitEnd z) s = .next (u.raise 16 1 (z + s.rd (Fd.THM_ZONE_LEVEL z) * 16 + old * 256))) ∧
    (∀ l, s.mode ≠ mRETAIN → s.mode ≠ mRETAINP → exec (.coreDieCompare l) s = .next s) ∧
    (∀ i c, (s.mode = mRETAIN ∨ s.mode = mRETAINP) → 64 ≤ i → s.snsPresent i = true →
      -320 ≤ signed 12 c → signed 12 c ≤ 1200 →
      (signed 12 c < s.tripAt true →
        let v := if 760 + s.gradeC < signed 12 c then 2 else if 680 + s.gradeC < signed 12 c then 1 else 0
        let m := Tab.put (fun _ => 0) s.pwr.srRate (dieOf i) v
        exec (.coreDieCompare [(i, c)]) s = .next { s with pwr := { s.pwr with srRate := m } }) ∧
      (s.tripAt true ≤ signed 12 c → ∃ u : State, exec (.coreDieCompare [(i, c)]) s =
        .next ((u.wr Fd.THM_CTL_RETAIN_TRIP 1).wakeEvent 4) ∧
          u = { s with pwr := { s.pwr with srRate := u.pwr.srRate } } ∧
          (∀ d, d < 4 * s.part.lgrp → Tab.get (fun _ => (0 : Nat)) u.pwr.srRate d = 2))) ∧
    (∀ c, let u : State := { s with clk := { s.clk with aoTemp := signed 12 c } }
      (s.mode = mDEEP → -320 ≤ signed 12 c → signed 12 c ≤ 1200 →
        (s.thm.tripB = false → u.tripAt false ≤ signed 12 c →
          exec (.deepTripBSample c) s = .next (u.tripBNow 56 (signed 12 c))) ∧
        (s.thm.tripB = true ∨ signed 12 c < u.tripAt false → exec (.deepTripBSample c) s = .next u)) ∧
      (s.mode ≠ mDEEP ∨ signed 12 c < -320 ∨ 1200 < signed 12 c → exec (.deepTripBSample c) s = .next s))

/-- A draining part ends DRAIN toward its target when nothing is in flight and, for a retain mode without a counter save, nothing is left unflushed; the timeout answers the rest ABORTED, raises DRAIN_TIMEOUT (source 3), gives up the deltas still unflushed, ends the drain anyway and runs the management requests held behind what it answered. The save of a retain entry keeps every register, sets self-refresh rates and every pseudo-channel in self-refresh, and its size is a free value (assumption 35 and R638). The point of no return closes the ports and turns the core's supply off, and for DEEP the DRAM's; it is not passed while a wake is latched, nor in HOLD before the ABORTED answers are sent. A source event is recorded when the latch is armed and the source enabled: the first of a latch names source, target and time. A WAKE_N pulse of 100 ns acts, one of 20 ns does not, one between may (free value). A latched wake aborts an entry before the point of no return and is marked for replay after it, once. DEEP_WAKE boots the part, unless REFCLK is absent in a hold; in STANDBY WAKE_RESTORE submits the wake's request at precedence 5 once; from a retain mode it restores, and with a bad save block it boots the part with RESTORE_FAIL. -/
def Obligations.SleepAndWakeCommands : Prop :=
  ∀ s : State, s.inReset = false →
    (s.draining = none → exec .drainComplete s = .next s ∧ exec .drainTimeout s = .next s.runReady) ∧
    (∀ m, s.draining = some m →
      ((isRetain m = false ∨ s.cntSavable (s.keptClass m) = true) →
        (s.inFlight = true → exec .drainComplete s = .next s) ∧
        (s.inFlight = false → exec .drainComplete s = .next (s.drainEnd m))) ∧
      (isRetain m = true → s.cntSavable (s.keptClass m) = false →
        (s.flushAll.inFlight = false → s.flushAll.unflushed = 0 →
          exec .drainComplete s = .next (s.flushAll.drainEnd m)) ∧
        ((s.flushAll.inFlight = true ∨ s.flushAll.unflushed ≠ 0) → exec .drainComplete s = .next s.flushAll)) ∧
      (let u := s.abortData.raise 3 1 0;
        ((isRetain m = false ∨ u.cntSavable (u.keptClass m) = true) →
          exec .drainTimeout s = .next (u.drainEnd m).runReady) ∧
        (isRetain m = true → u.cntSavable (u.keptClass m) = false →
          exec .drainTimeout s = .next (u.loseDeltas.drainEnd m).runReady))) ∧
    (∀ t, s.seq.trans = some t → isRetain t.goal = true → s.pwr.stage = 1 →
      let u := (((s.queSave (s.keptClass t.goal)).cntSave (s.keptClass t.goal)).cleanTags).allSelfRef
      ∃ v : State, exec .sleepEntry s = .next (v.drawn.wr Fd.PWR_STAT_SAVE_BYTES (v.free % 15361)) ∧
        v = { u with pwr := { u.pwr with stage := 2, save := some u.regs, srRate := v.pwr.srRate } } ∧
        (∀ lg, lg < 4 → Tab.get (fun _ => (0 : Nat)) v.pwr.srRate lg = if u.band lg = 2 then 2 else 1)) ∧
    (s.seq.trans = none → exec .sleepEntry s = .next s) ∧
    (∀ t, s.seq.trans = some t → (isRetain t.goal = false ∨ s.pwr.stage ≠ 1) → exec .sleepEntry s = .next s) ∧
    ((s.seq.trans = none ∨ s.on Fd.PWR_STAT_LATCHED = true ∨ (s.mode = mHOLD ∧ s.abortsSent = false)) →
      exec .pointOfNoReturn s = .next s) ∧
    (∀ t, s.seq.trans = some t → ((isRetain t.goal = true ∧ s.pwr.stage ≠ 2) ∨ (t.goal = mDEEP ∧ s.pwr.stage ≠ 1 ∧ s.pwr.stage ≠ 2) ∨
      (isRetain t.goal = false ∧ t.goal ≠ mDEEP)) → exec .pointOfNoReturn s = .next s) ∧
    (∀ t, s.seq.trans = some t → s.on Fd.PWR_STAT_LATCHED = false → (s.mode ≠ mHOLD ∨ s.abortsSent = true) →
      let u := (s.wr Fd.PWR_STAT_PNR 1).portsOff
      let w := ({ u with pwr := { u.pwr with stage := 3 }, pins := { u.pins with pwrEnCore := false, pwrEnDram := true } } : State)
      (t.goal = mRETAIN → s.pwr.stage = 2 → exec .pointOfNoReturn s = .next w.coreLost) ∧
      (t.goal = mRETAINP → s.pwr.stage = 2 →
        exec .pointOfNoReturn s = .next (w.dropUnkept (w.keptClass mRETAINP)).coreLost) ∧
      (t.goal = mDEEP → (s.pwr.stage = 1 ∨ s.pwr.stage = 2) →
        let v := ({ u with pwr := { u.pwr with stage := 3 }, pins := { u.pins with pwrEnCore := false, pwrEnDram := false } } : State).coreLost
        exec .pointOfNoReturn s = .next { v with
          dram := []
          que := Que.reset
          cnt := Cnt.reset
          pwr := { v.pwr with save := none } })) ∧
    (∀ c, (s.on Fd.PWR_STAT_ARMED = false ∨ bit (s.rd Fd.PWR_WAKE_EN_EN) c = false) → s.wakeEvent c = s) ∧
    (∀ c e, s.on Fd.PWR_STAT_ARMED = true → bit (s.rd Fd.PWR_WAKE_EN_EN) c = true → s.on Fd.PWR_STAT_LATCHED = false →
      s.pwr.entry = some e →
      let u := (((s.setReg Ra.PWR_WAKE_LAST 0).wr Fd.PWR_WAKE_LAST_VALID 1).wr Fd.PWR_WAKE_LAST_TGT e.mode).wr
        Fd.PWR_WAKE_LAST_MASK (2 ^ c)
      let v := (u.wr Fd.PWR_WAKE_LAST_FIRST c).wr Fd.PWR_WAKE_TIME_LO_TIME s.clk.time
      s.wakeEvent c = (v.wr Fd.PWR_WAKE_TIME_HI_TIME (s.clk.time / 2 ^ 32)).wr Fd.PWR_STAT_LATCHED 1) ∧
    (exec (.wakePin none) s = .next (({ s with pwr := { s.pwr with wakeLow := true } } : State).wakeEvent 0)) ∧
    (∀ n, let u := ({ s with pwr := { s.pwr with wakeLow := false } } : State);
      (100 ≤ n → exec (.wakePin (some n)) s = .next (u.wakeEvent 0)) ∧
      (n ≤ 20 → exec (.wakePin (some n)) s = .next u) ∧
      (20 < n → n < 100 → exec (.wakePin (some n)) s = .next (if u.free % 2 = 1 then u.drawn.wakeEvent 0 else u.drawn))) ∧
    (∀ b, exec (.activity b) s = .next (s.wakeEvent (if b then 2 else 1))) ∧
    (s.pwr.timer ≠ none → exec .pwrTimer s =
      .next (({ s with pwr := { s.pwr with timer := none } } : State).wakeEvent 3)) ∧
    (s.pwr.timer = none → exec .pwrTimer s = .next s) ∧
    (exec .pwrWakeCmd s = .next (s.wakeEvent 5)) ∧
    (s.on Fd.PWR_STAT_LATCHED = false ∨ s.pwr.entry = none → exec .wakeLatch s = .next s) ∧
    (s.on Fd.PWR_STAT_LATCHED = true → s.pwr.entry ≠ none →
      (s.pwr.stage = 3 → s.on Fd.PWR_WAKE_LAST_REPLAYED = true → exec .wakeLatch s = .next s) ∧
      (s.pwr.stage = 3 → s.on Fd.PWR_WAKE_LAST_REPLAYED = false → exec .wakeLatch s =
        .next ((s.wr Fd.PWR_WAKE_LAST_REPLAYED 1).count Fd.PWR_CNT_REPLAYS Fd.PWR_CNT_RPL_OVF 1)) ∧
      (s.pwr.stage ≠ 3 → exec .wakeLatch s = .next
        (((s.wr Fd.PWR_WAKE_LAST_ABORTED 1).count Fd.PWR_CNT_ABORTS Fd.PWR_CNT_ABT_OVF 1).undoEntry).raiseWake)) ∧
    (s.coreWakes = true ↔ (s.coreOff = true ∧ s.on Fd.PWR_STAT_LATCHED = true ∧
      (s.on Fd.CLK_STAT_REFCLK_OK = true ∨ s.on Fd.CLK_STAT_HOLD = false))) ∧
    (s.mode = mDEEP → s.coreWakes = true → exec .deepWake s = .next s.deepBoot) ∧
    (s.mode ≠ mDEEP ∨ s.coreWakes = false → exec .deepWake s = .next s) ∧
    (∀ b, s.mode = mSTANDBY → s.on Fd.PWR_STAT_LATCHED = true →
      (s.wakeAsked = false → exec (.wakeRestore b) s = .next (s.askMode { s.preDrain with prec := 5 })) ∧
      (s.wakeAsked = true → exec (.wakeRestore b) s = .next s)) ∧
    (∀ b, ((s.mode ≠ mRETAIN ∧ s.mode ≠ mRETAINP) ∨ s.coreWakes = false) →
      (s.mode ≠ mSTANDBY ∨ s.on Fd.PWR_STAT_LATCHED = false) → exec (.wakeRestore b) s = .next s) ∧
    ((s.mode = mRETAIN ∨ s.mode = mRETAINP) → s.coreWakes = true →
      exec (.wakeRestore none) s = .next s.retainWake ∧
      (∀ b, let u := s.deepBoot.wr Fd.PWR_STAT_RESTORE_FAIL 1
        exec (.wakeRestore (some b)) s = .next { u with pwr := { u.pwr with failBlock := some b } }))

/-- House firmware's calibration command of a group writes its argument and, unless one waits, its operation. It answers 3 while one waits, 5 for a lane past 65. SET stores the setting and answers 1 where the level is not in force or the group is fenced, else 5. CAL_READ answers the setting. STEEP waits and takes effect at once where it needs no window; a TSV swap answers 5 for a spare lane or the second spare of a command lane, and of a lane that has no free spare answers 4 with an event, which house firmware acknowledges (assumption 65). A granted window lends the bank, counts, lets the pending command of its pseudo-channel take effect and notes the disagreements; one not granted does nothing. A drift window notes its lane's disagreements and then zeroes the four counts of its lane and no other (assumption 73). A trigger of an enabled SNAP_N while VDD_CORE is on counts a miss when a latched set is held from another tick or a release came in this tick, shares a wave of this tick, else latches every block (assumption 65). UNLOCK and RELEASE answer 2 when none is held; a release keeps its tick. A level sample of an enabled monitor at a multiple of its sample period samples its quantity's value; a frozen monitor only counts it skipped. CLR puts MIN to its maximum and MAX, counts and bins to 0. -/
def Obligations.CalibrationAndObservation : Prop :=
  ∀ s : State, s.inReset = false →
    (∀ g level pc lane value, g < 32 → level < 4 → pc < 4 → lane < 128 → value < 2 ^ 21 →
      let w := s.calArgs g level pc lane value
      let u := fun (op : Nat) => w.wr (Fd.CG_CAL_CMD_OP g) op
      ((w.calCmd g ≠ none → (exec (.calSet g level pc lane value) s = .next (w.wr (Fd.CG_CAL_CMD_RESULT g) 3) ∧
          exec (.calSteep g level pc lane value) s = .next (w.wr (Fd.CG_CAL_CMD_RESULT g) 3) ∧
          exec (.calTsvSwap g level pc lane value) s = .next (w.wr (Fd.CG_CAL_CMD_RESULT g) 3))) ∧
        (w.calCmd g = none → 65 < lane → (exec (.calSet g level pc lane value) s = .next ((u 1).wr (Fd.CG_CAL_CMD_RESULT g) 5) ∧
          exec (.calSteep g level pc lane value) s = .next ((u 2).wr (Fd.CG_CAL_CMD_RESULT g) 5) ∧
          exec (.calTsvSwap g level pc lane value) s = .next ((u 3).wr (Fd.CG_CAL_CMD_RESULT g) 5))) ∧
        (w.calCmd g = none → lane < 66 → (level ≠ (u 1).rd (Fd.CG_STAT_EFF_LEVEL g) ∨ (u 1).cgFenced g = true) →
          let v := (u 1).setDly (4 * g + pc) level lane value
          exec (.calSet g level pc lane value) s =
            .next (({ v with cal := { v.cal with dirty := true } } : State).wr (Fd.CG_CAL_CMD_RESULT g) 1)) ∧
        (w.calCmd g = none → lane < 66 → level = (u 1).rd (Fd.CG_STAT_EFF_LEVEL g) → (u 1).cgFenced g = false →
          exec (.calSet g level pc lane value) s = .next ((u 1).wr (Fd.CG_CAL_CMD_RESULT g) 5))) ∧
      (w.calCmd g = none → lane < 66 → exec (.calSteep g level pc lane value) s =
        .next (((u 2).setCal g (some ⟨2, level, 4 * g + pc, lane, value⟩) 2).calSettle g)) ∧
      (w.calCmd g = none → lane < 66 → (spareLane lane = true ∨ (40 ≤ lane ∧ value % 2 = 1)) →
        exec (.calTsvSwap g level pc lane value) s = .next ((u 3).wr (Fd.CG_CAL_CMD_RESULT g) 5)) ∧
      (w.calCmd g = none → lane < 66 → spareLane lane = false → (lane < 40 ∨ value % 2 = 0) →
        ((u 3).tsvFree (4 * g + pc) (tsvPlace lane).1 (value % 2) = true → exec (.calTsvSwap g level pc lane value) s =
          .next (((u 3).setCal g (some ⟨3, level, 4 * g + pc, lane, value⟩) 2).calSettle g)) ∧
        ((u 3).tsvFree (4 * g + pc) (tsvPlace lane).1 (value % 2) = false → exec (.calTsvSwap g level pc lane value) s =
          .next ((((u 3).setCal g none 4).raise (104 + g) 9
            (4 * g + pc + lane * 128 + (tsvPlace lane).1 * 2 ^ 14 + value % 2 * 2 ^ 16)).laneAck (4 * g + pc) lane)))) ∧
    (∀ g level pc lane, g < 32 → level < 4 → pc < 4 → lane < 128 →
      let w := s.calArgs g level pc lane 0
      let u := w.wr (Fd.CG_CAL_CMD_OP g) 4
      (w.calCmd g ≠ none → exec (.calRead g level pc lane) s = .next (w.wr (Fd.CG_CAL_CMD_RESULT g) 3)) ∧
      (w.calCmd g = none → 65 < lane → exec (.calRead g level pc lane) s = .next (u.wr (Fd.CG_CAL_CMD_RESULT g) 5)) ∧
      (w.calCmd g = none → lane < 66 → exec (.calRead g level pc lane) s = .next ((u.wr (Fd.CG_CAL_ARG_VALUE g)
        (u.dly (4 * g + pc) level lane)).wr (Fd.CG_CAL_CMD_RESULT g) 1))) ∧
    (∀ p b obs, (128 ≤ p ∨ s.windowOk p b = false) → exec (.steepWindow p b obs) s = .next s) ∧
    (∀ p b obs, p < 128 → s.windowOk p b = true →
      let u := (s.lend p b).count (Fd.CG_CAL_STAT_WIN_CNT (p / 4)) (Fd.CG_CAL_STAT_WIN_OVF (p / 4)) 1
      let note := fun (v : State) => obs.foldl
        (fun (v : State) (e : Nat × Nat × Nat × Nat) => v.driftNote p e.1 (e.2.1 % 2) (e.2.2.1 % 2) e.2.2.2) v
      (u.calCmd (p / 4) = none → exec (.steepWindow p b obs) s = .next (note u)) ∧
      (∀ c, u.calCmd (p / 4) = some c → c.pc = p → exec (.steepWindow p b obs) s = .next (note (u.calApply (p / 4)))) ∧
      (∀ c, u.calCmd (p / 4) = some c → c.pc ≠ p → exec (.steepWindow p b obs) s = .next (note u))) ∧
    (∀ p lane obs, ∃ t : State, exec (.driftWindow p { lane := lane, seen := obs }) s = .next t ∧
      (∀ v : State, (128 ≤ p → v = s) → (p < 128 → v = obs.foldl
          (fun (v : State) (e : Nat × Nat × Nat) => v.driftNote p lane (e.1 % 2) (e.2.1 % 2) e.2.2) s) →
        t = { v with cal := { v.cal with mon := t.cal.mon } } ∧
        ∀ k, Tab.get (fun _ => (0 : Nat)) t.cal.mon k =
          if k / 4 = 66 * p + lane then 0 else Tab.get (fun _ => 0) v.cal.mon k)) ∧
    (s.on Fd.OBS_SNAP_CTL_PIN_EN = false ∨ s.coreOff = true → exec .snapPin s = .next s) ∧
    (s.on Fd.OBS_SNAP_CTL_PIN_EN = true → s.coreOff = false →
      (s.tooLate = true → exec .snapPin s = .next (s.missed 1)) ∧
      (s.tooLate = false → s.waving = true → exec .snapPin s = .next (s.share 1 0)) ∧
      (s.tooLate = false → s.waving = false → exec .snapPin s = .next (s.wave 1 0) ∧
        (s.wave 1 0).obs.snap = some s.toChip)) ∧
    (s.tooLate = true ↔ (s.obs.freed = s.clk.time + 1 ∨ (s.on Fd.OBS_SNAP_STAT_HELD = true ∧ s.waving = false))) ∧
    (s.waving = true ↔ (s.on Fd.OBS_SNAP_STAT_HELD = true ∧ s.on Fd.OBS_SNAP_STAT_PRIOR = false ∧
      s.snapTime = s.clk.time)) ∧
    (s.on Fd.OBS_SNAP_STAT_HELD = false → exec .snapUnlock s = .next (s.wr Fd.OBS_SNAP_CMD_RESULT 2) ∧
      exec .snapRelease s = .next (s.wr Fd.OBS_SNAP_CMD_RESULT 2)) ∧
    (s.on Fd.OBS_SNAP_STAT_HELD = true →
      exec .snapUnlock s = .next ((s.wr Fd.OBS_SNAP_STAT_UNLOCKED 1).wr Fd.OBS_SNAP_CMD_RESULT 1) ∧
      exec .snapRelease s = .next (({ s.dropSnap with
        obs := { s.dropSnap.obs with freed := s.clk.time + 1 } } : State).wr Fd.OBS_SNAP_CMD_RESULT 1) ∧
      s.dropSnap.obs.snap = none) ∧
    (∀ m, (64 ≤ m ∨ s.on (Fd.OBS_MON_CFG_EN m) = false ∨ s.coreOff = true ∨
      s.clk.time % 2 ^ s.rd (Fd.OBS_MON_CFG_SPER m) ≠ 0) → exec (.levelSample m) s = .next s) ∧
    (∀ m, m < 64 → s.on (Fd.OBS_MON_CFG_EN m) = true → s.coreOff = false →
      s.clk.time % 2 ^ s.rd (Fd.OBS_MON_CFG_SPER m) = 0 →
      (∀ v, s.levelOf (s.rd (Fd.OBS_MON_CFG_QTY m)) (s.rd (Fd.OBS_MON_CFG_INDEX m)) = some v →
        exec (.levelSample m) s = .next (s.monSample m v)) ∧
      (s.levelOf (s.rd (Fd.OBS_MON_CFG_QTY m)) (s.rd (Fd.OBS_MON_CFG_INDEX m)) = none →
        exec (.levelSample m) s = .next s)) ∧
    (∀ (u : State) m v, u.on (Fd.OBS_MON_CTL_FREEZE m) = true → u.rd (Fd.OBS_MON_CTL_SKIPPED m) < 0xFFFF →
      u.monSample m v = u.wr (Fd.OBS_MON_CTL_SKIPPED m) (u.rd (Fd.OBS_MON_CTL_SKIPPED m) + 1)) ∧
    (∀ m, m < 64 →
      let u := ((((s.wr (Fd.OBS_MON_MIN_MIN m) 0xFFFFFFFF).wr (Fd.OBS_MON_MAX_MAX m) 0).wr
        (Fd.OBS_MON_SAMPLES_COUNT m) 0).wr (Fd.OBS_MON_CTL_OVF m) 0).wr (Fd.OBS_MON_CTL_SKIPPED m) 0
      exec (.monClr m) s = .next ((List.range 32).foldl (fun (u : State) b => u.wr (Fd.OBS_MON_BIN_COUNT m b) 0) u))

/-- With no message waiting, and while VDD_CORE is off, the collector accepts none. Otherwise the oldest message of the named source, or of all, leaves its outbox, takes the next sequence number, is delivered to the log and queues, triggers, and acts: an INFO, NOTICE or test message sets off nothing, an ACTION message opens or joins an entry, a FATAL one applies a fence rule and requests LOCKDOWN with its cause (Kettle's source 19 apart); of Crema's patrol errors house firmware acknowledges those whose line its prompt patrol has already covered (assumption 65). An entry's expiry closes it and applies its source's escalation rule, counted and raised (one that requests LOCKDOWN is a snapshot trigger first); with VDD_CORE off the expiry is held, and with no such entry nothing happens. An acknowledgement closes the entry it names before its timer expires with result 1, otherwise answers 2. TEST_MESSAGE writes FLT_TEST and posts an injected test message, except with the reserved KIND 0. FLT_SB_POP removes the oldest sideband message. -/
def Obligations.CollectorCommands : Prop :=
  ∀ s : State, s.inReset = false →
    (∀ src, (s.coreOff = true ∨ s.flt.outbox = []) → exec (.faultMessage src) s = .next s) ∧
    (∀ src m pre post, s.coreOff = false → s.flt.outbox = pre ++ m :: post → m.source = src →
      (∀ x ∈ pre, x.source ≠ src) → exec (.faultMessage src) s =
        .next (({ s with flt := { s.flt with outbox := pre ++ post } } : State).acceptMsg m)) ∧
    (∀ src m post, s.coreOff = false → s.flt.outbox = m :: post → (∀ x ∈ s.flt.outbox, x.source ≠ src) →
      exec (.faultMessage src) s = .next (({ s with flt := { s.flt with outbox := post } } : State).acceptMsg m)) ∧
    (∀ m : Msg, let n := s.rd Fd.FLT_SEQ_SEQ
      let x := { m with seq := n }
      let u := ((s.wr Fd.FLT_SEQ_SEQ (n + 1)).deliverMsg x).msgTrigger x
      ((m.test = true ∨ m.sev < 2) → s.acceptMsg m = u.ackPatrolled x) ∧
      (m.test = false → m.sev = 2 → m.source ≠ 19 → s.acceptMsg m = (u.openAction x).ackPatrolled x) ∧
      (m.test = false → 2 < m.sev → m.source ≠ 19 → s.acceptMsg m = ((if u.rd (Fd.FLT_SRC_ESC m.source) = 1 then
        u.applyFence (u.fenceTarget x) else u).askLockdown x).ackPatrolled x)) ∧
    (∀ m : Msg, (m.source ≠ 153 ∨ m.kind = 2) → s.ackPatrolled m = s) ∧
    (∀ k, (∀ a ∈ s.flt.acts, a.slot ≠ k) → exec (.graceExpiry k) s = .next s) ∧
    (∀ k a, s.flt.acts.find? (fun (a : Act) => a.slot == k) = some a →
      (s.coreOff = true → exec (.graceExpiry k) s =
        .next { s with pwr := { s.pwr with heldExp := s.pwr.heldExp.filter (· != k) ++ [k] } }) ∧
      (s.coreOff = false → s.rd (Fd.FLT_SRC_ESC a.msg.source) ≠ 3 → exec (.graceExpiry k) s = .next (({ s with
        flt := { s.flt with acts := s.flt.acts.filter fun (x : Act) => x.slot != k } } : State).escalate a.msg a.target)) ∧
      (s.coreOff = false → s.rd (Fd.FLT_SRC_ESC a.msg.source) = 3 → exec (.graceExpiry k) s = .next ((({ s with
        flt := { s.flt with acts := s.flt.acts.filter fun (x : Act) => x.slot != k } } : State).lockTrigger a.msg).escalate
          a.msg a.target))) ∧
    (∀ m : Msg, ((s.on Fd.OBS_SNAP_CTL_LOCKDOWN_EN = false ∨ s.lockCaused = true) → s.lockTrigger m = s) ∧
      (s.on Fd.OBS_SNAP_CTL_LOCKDOWN_EN = true → s.lockCaused = false → s.lockTrigger m = s.trigger 4 m.source)) ∧
    (∀ (m : Msg) t,
      let done := fun (u : State) => (u.count Fd.FLT_CNT_ESC Fd.FLT_CNT_ESC_OVF 1).raise 249 1
        (m.source + s.rd (Fd.FLT_SRC_ESC m.source) * 256 + m.seq % 2 ^ 24 * 2 ^ 16)
      (s.rd (Fd.FLT_SRC_ESC m.source) = 0 → s.escalate m t = s) ∧
      (s.rd (Fd.FLT_SRC_ESC m.source) = 1 → s.escalate m t = done (s.applyFence t)) ∧
      (s.rd (Fd.FLT_SRC_ESC m.source) = 2 → s.mode ≠ mLOCKDOWN → s.escalate m t = done (s.askDegraded true)) ∧
      (s.rd (Fd.FLT_SRC_ESC m.source) = 3 → s.mode ≠ mLOCKDOWN → s.escalate m t = done (s.askLockdown m)) ∧
      ((s.rd (Fd.FLT_SRC_ESC m.source) = 2 ∨ s.rd (Fd.FLT_SRC_ESC m.source) = 3) → s.mode = mLOCKDOWN →
        s.escalate m t = done s)) ∧
    (∀ src seq, let u := (s.wr Fd.FLT_ACK_SEQ_SEQ seq).wr Fd.FLT_ACK_SOURCE src
      let hit := fun (a : Act) => a.covers (u.rd Fd.FLT_ACK_SOURCE) (u.rd Fd.FLT_ACK_SEQ_SEQ) s.clk.time
      (s.flt.acts.find? hit = none → exec (.acknowledge src seq) s = .next (u.wr Fd.FLT_ACK_RESULT 2)) ∧
      (∀ a, s.flt.acts.find? hit = some a → exec (.acknowledge src seq) s = .next (({ u with flt := { u.flt with
        acts := s.flt.acts.filter fun (x : Act) => x.slot != a.slot } } : State).wr Fd.FLT_ACK_RESULT 1))) ∧
    (∀ src kind sev addr,
      let u := (((s.wr Fd.FLT_TEST_ADDR_ADDR addr).wr Fd.FLT_TEST_ADDR_HI (addr / 2 ^ 32)).wr Fd.FLT_TEST_SOURCE src).wr
        Fd.FLT_TEST_SEV sev
      (kind % 64 = 0 → exec (.testMessage src kind sev addr) s = .next u) ∧
      (0 < kind → kind < 64 → src < 256 → sev < 4 → addr < 2 ^ 40 → exec (.testMessage src kind sev addr) s =
        .next ((u.wr Fd.FLT_TEST_KIND kind).post
          { source := src
            kind := kind
            sev := sev
            addr := addr
            time := s.stamp
            injected := true
            test := true }))) ∧
    (exec .fltSbPop s = .next { s with flt := { s.flt with sbQ := s.flt.sbQ.drop 1 } })

/-- A test command writes its target and operation, then is refused with 5 outside its lifecycle states, 7 outside SERVICE and DEGRADED, 6 with its target in the wrong state and 4 while one runs there, which leaves OP and ALG as they were; a test that moves no data starts with the records cleared and result 2, and a row test without a free spare answers 9. The next element of a test waits while the test is paused, held or between moves, and while its bank is in debt; otherwise it borrows its bank (for a row or spare test), is charged to label 254 and carried by the maintenance port (assumption 73), a reading element records its failing bits, the test goes on and, after its last element, ends. The retention pause ends the pause it is given for, and BIST_TIMEOUT aborts the test. A spare period of 0 disables the periodic tests. SELFTEST_COMPLETE acts in SELFTEST only: a failing checker, Crema checker, crypto unit or array is reported and stops the boot; otherwise an extended test asked where the lifecycle forbids it is reported, the repairs of both passes are made from the records that the boot's algorithms can make and, unless the records overflow, the part enters CALIBRATE with Crema initialised. -/
def Obligations.SelfTestCommands : Prop :=
  ∀ s : State, s.inReset = false →
    (∀ pc bank row alg, let u := ((s.wr Fd.BST_TGT_PC pc).wr Fd.BST_TGT_BANK bank).wr Fd.BST_TGT_ROW row
      exec (.rowTest pc bank row alg) s = .next (u.bistCmd 1 alg) ∧
      exec (.spareTest pc bank row alg) s = .next (u.bistCmd 2 alg)) ∧
    (∀ pc alg, let u := ((s.wr Fd.BST_TGT_PC pc).wr Fd.BST_TGT_BANK 0).wr Fd.BST_TGT_ROW 0
      exec (.fullCg pc alg) s = .next (u.bistCmd 4 alg)) ∧
    (∀ bank alg, let u := s.wr Fd.BST_TGT_CRM_CBANK bank
      exec (.cremaBank bank alg) s = .next (u.bistCmd 3 alg) ∧
      exec (.fullCrema bank alg) s = .next (u.bistCmd 5 alg)) ∧
    (∀ op alg, let u := ((s.wr Fd.BST_CTL_OP op).wr Fd.BST_CTL_ALG alg).bistGo
      (u.rd Fd.BST_CTL_RESULT ≠ 4 → s.bistCmd op alg = u) ∧
      (u.rd Fd.BST_CTL_RESULT = 4 → s.bistCmd op alg =
        (u.wr Fd.BST_CTL_OP (s.rd Fd.BST_CTL_OP)).wr Fd.BST_CTL_ALG (s.rd Fd.BST_CTL_ALG))) ∧
    (let t := s.testAsked;
      let lc := if t.op < 4 then s.lcRuntime else s.lcFull;
      0 < t.op → t.op < 6 →
      (lc = false → s.bistGo = (s.wr Fd.BST_CTL_RESULT 5).raise 245 1 (t.op + 80)) ∧
      (lc = true → s.serves = false → s.bistGo = (s.wr Fd.BST_CTL_RESULT 7).raise 245 1 (t.op + 112)) ∧
      (lc = true → s.serves = true → s.targetOk t = false →
        s.bistGo = (s.wr Fd.BST_CTL_RESULT 6).raise 245 1 (t.op + 96)) ∧
      (lc = true → s.serves = true → s.targetOk t = true → s.testBusy t = true →
        s.bistGo = (s.wr Fd.BST_CTL_RESULT 4).raise 245 1 (t.op + 64)) ∧
      (lc = true → s.serves = true → s.targetOk t = true → s.testBusy t = false → 1 < t.op →
        let u := ({ s with bst := { s.bst with recs := [] } } : State).wr Fd.BST_CTL_RESULT 2
        s.bistGo = { u with bst := { u.bst with tests := u.bst.tests ++ [t] } }) ∧
      (lc = true → s.serves = true → s.targetOk t = true → s.testBusy t = false → t.op = 1 →
        let u := ({ s with bst := { s.bst with recs := [] } } : State).wr Fd.BST_CTL_RESULT 2
        ((∀ i, i < 16 → u.spareFree t.pc t.bank i = false) → s.bistGo = (u.wr Fd.BST_CTL_RESULT 9).raise 240 1 145) ∧
        (∀ i, i < 16 → u.spareFree t.pc t.bank i = true → (∀ j, j < i → u.spareFree t.pc t.bank j = false) →
          let m : Remap := { pc := t.pc, bank := t.bank, row := t.row, spare := i, lines := none, bist := 1 }
          let v : State := { u with bst := { u.bst with tests := u.bst.tests ++ [{ t with spare := i, phase := 0 }] } }
          s.bistGo = v.setCg (t.pc / 4) { u.cg (t.pc / 4) with remap := some m }))) ∧
    (∀ k fails, s.bst.tests.length ≤ k → exec (.bistElement k fails) s = .next s ∧
      exec (.retentionPause k) s = .next s ∧ exec (.bistTimeout k) s = .next s) ∧
    (∀ k t, s.bst.tests[k]? = some t →
      exec (.bistTimeout k) s = .next (s.abortTest t) ∧
      exec (.retentionPause k) s = .next (if t.pause then s.setTest { t with pause := false } else s) ∧
      (∀ fails, (t.phase ≠ 1 ∨ t.pause = true ∨ s.bistHeld = true ∨
          ((t.op = 1 ∨ t.op = 2) ∧ 2 < ((s.pc t.pc).bank t.bank).debt)) → exec (.bistElement k fails) s = .next s) ∧
      (∀ fails a e, t.phase = 1 → t.pause = false → s.bistHeld = false →
        (((t.op = 1 ∨ t.op = 2) ∧ ((s.pc t.pc).bank t.bank).debt ≤ 2) ∨ (t.op ≠ 1 ∧ t.op ≠ 2)) →
        (algElems t.alg)[t.elem]? = some (a, e) →
        let c := (if t.op = 1 ∨ t.op = 2 then s.lend t.pc t.bank else s).bistCarry t a e
        let x := (if elemReads a e then fails else []).foldl
          (fun (x : State × Test) f => x.1.addRec x.2 (t.record c.part.lgrp a e f)) (c, t)
        let y := { x.2 with elem := x.2.elem + 1, pause := elemPauses a e }
        exec (.bistElement k fails) s = .next (if y.elem < (algElems y.alg).length then x.1.setTest y
          else (x.1.setTest y).testOver y))) ∧
    (s.rd Fd.BST_CFG_SPARE_PERIOD = 0 → exec .sparePeriod s = .next s) ∧
    (s.rd Fd.BST_CFG_SPARE_PERIOD ≠ 0 → exec .sparePeriod s = .next ((List.range 32).foldl (fun (u : State) g =>
      ({ u with bst := { u.bst with house := Tab.put (fun _ => none) u.bst.house g (some 0) } } : State).houseNext
        g u.housePlaces) s)) ∧
    (∀ ecc crema crypto array r1 r2,
      let e := exec (.selftestComplete ecc crema crypto array r1 r2) s
      ((s.mode ≠ mSELFTEST ∨ s.on Fd.CLK_STAT_HOLD = true) → e = .next s) ∧
      (s.mode = mSELFTEST → s.on Fd.CLK_STAT_HOLD = false →
        (∀ k, ecc = some k → e = .next (s.selftestFail 144 (k % 128))) ∧
        (ecc = none → crema = true → e = .next (s.selftestFail 157 0)) ∧
        (ecc = none → crema = false → crypto = true → e = .next (s.selftestFail 239 0)) ∧
        (ecc = none → crema = false → crypto = false →
          let u := s.wr Fd.SEC_STAT_SELFTEST_OK 1
          (∀ a, array = some a → e = .next (u.selftestFail 246 (a % 256))) ∧
          (array = none → ∀ v w ok, (v = if u.extAsked = true ∧ u.lcFull = false then u.raise 245 1 80 else u) →
            v.bootResult (r1.filter (bootRec (v.extAsked && v.lcFull))) (r2.filter (bootRec (v.extAsked && v.lcFull))) =
              (w, ok) →
            (ok = true → e = .next (w.cremaInit.enterMode mCALIBRATE
              { prec := 0, mode := mCALIBRATE, level := w.level })) ∧
            (ok = false → e = .next ((w.raise 244 1 (w.rd Fd.BST_STAT_REC_LOST)).selftestFail 246 0xFF))))))

/-- With VDD_CORE on (with it off R632 holds events instead) and fewer than four messages of its source waiting, a raised message waits last, with OVERFLOW where one of the source was discarded since the last one sent; the mark is then gone, so the message after it carries none. With four waiting the new message is discarded: the outbox stays, the source is marked, FLT_CNT.LOST goes up by one and nothing else changes but that register. In no case do more than four messages of a source wait where at most four did. -/
def Obligations.OutboxOfFour : Prop :=
  ∀ (s : State) (source kind addr : Nat) (inj : Bool), s.coreOff = false →
    let mine := fun (u : State) => (u.flt.outbox.filter fun (x : Msg) => x.source == source).length
    let t := s.raise source kind addr inj
    let m : Msg :=
      { source := source
        kind := kind
        sev := s.sevOf source kind
        addr := addr % 2 ^ 40
        time := s.stamp
        injected := inj
        overflow := decide (source ∈ s.flt.lostSrc) }
    (mine s < 4 → t = { s with flt := { s.flt with
      outbox := s.flt.outbox ++ [m]
      lostSrc := s.flt.lostSrc.filter (· != source) } } ∧ source ∉ t.flt.lostSrc) ∧
    (4 ≤ mine s → t.flt.outbox = s.flt.outbox ∧ source ∈ t.flt.lostSrc ∧
      (∀ k, k ≠ source → (k ∈ t.flt.lostSrc ↔ k ∈ s.flt.lostSrc)) ∧
      (s.rd Fd.FLT_CNT_LOST < 0xFFFF → t.rd Fd.FLT_CNT_LOST = s.rd Fd.FLT_CNT_LOST + 1) ∧
      (∀ a, a ≠ Ra.FLT_CNT → t.reg a = s.reg a) ∧
      t = { s with regs := t.regs, flt := { s.flt with lostSrc := t.flt.lostSrc } }) ∧
    (mine s ≤ 4 → mine t ≤ 4) ∧
    (∀ k, k ≠ source → (t.flt.outbox.filter fun (x : Msg) => x.source == k) =
      s.flt.outbox.filter fun (x : Msg) => x.source == k)
end

