-- ==== Sys2Proof/Laws/Bits.lean ====
section
/-! SUPPORT. The laws of bit fields: a field written reads as written, and leaves the others alone. -/

namespace Sys2Proof.Machine

theorem bits_lt (x hi lo : Nat) : bits x hi lo < 2 ^ (hi - lo + 1) := Nat.mod_lt _ (Nat.two_pow_pos _)

theorem testBit_bits (x hi lo i : Nat) :
    (bits x hi lo).testBit i = (decide (i < hi - lo + 1) && x.testBit (lo + i)) := by
  unfold bits
  rw [Nat.testBit_mod_two_pow, Nat.testBit_div_two_pow, Nat.add_comm i lo]

theorem testBit_setBits (x v : Nat) {hi lo : Nat} (h : lo ≤ hi) (i : Nat) :
    (setBits x hi lo v).testBit i =
      if i < lo then x.testBit i else if i ≤ hi then v.testBit (i - lo) else x.testBit i := by
  have e : 2 ^ (hi + 1) = 2 ^ lo * 2 ^ (hi - lo + 1) := by rw [← Nat.pow_add]; congr 1; omega
  have hv : v % 2 ^ (hi - lo + 1) < 2 ^ (hi - lo + 1) := Nat.mod_lt _ (Nat.two_pow_pos _)
  have hx : x % 2 ^ lo < 2 ^ lo := Nat.mod_lt _ (Nat.two_pow_pos _)
  have s : setBits x hi lo v =
      2 ^ lo * (2 ^ (hi - lo + 1) * (x / 2 ^ (hi + 1)) + v % 2 ^ (hi - lo + 1)) + x % 2 ^ lo := by
    unfold setBits
    rw [e, Nat.mul_add, ← Nat.mul_assoc (2 ^ lo) (2 ^ (hi - lo + 1)), Nat.mul_comm (x / _), Nat.mul_comm (v % _)]
    omega
  rw [s, Nat.testBit_two_pow_mul_add _ hx, Nat.testBit_two_pow_mul_add _ hv]
  by_cases h1 : i < lo
  · simp [h1]
  · by_cases h2 : i ≤ hi
    · have : i - lo < hi - lo + 1 := by omega
      simp [h1, h2, this]
    · have : ¬ i - lo < hi - lo + 1 := by omega
      simp only [h1, h2, this, if_false, Nat.testBit_div_two_pow]
      congr 1; omega

/-- A field written reads as the low bits of the value. -/
theorem bits_setBits_same (x v : Nat) {hi lo : Nat} (h : lo ≤ hi) :
    bits (setBits x hi lo v) hi lo = v % 2 ^ (hi - lo + 1) := by
  apply Nat.eq_of_testBit_eq; intro i
  rw [testBit_bits, testBit_setBits x v h, Nat.testBit_mod_two_pow]
  by_cases h1 : i < hi - lo + 1
  · have a : ¬ lo + i < lo := by omega
    have b : lo + i ≤ hi := by omega
    simp [h1, a, b]
  · simp [h1]

/-- A field apart from the one written keeps its value. -/
theorem bits_setBits_other (x v : Nat) {hi lo h l : Nat} (hh : lo ≤ hi) (hl : l ≤ h) (hd : h < lo ∨ hi < l) :
    bits (setBits x hi lo v) h l = bits x h l := by
  apply Nat.eq_of_testBit_eq; intro i
  rw [testBit_bits, testBit_bits, testBit_setBits x v hh]
  by_cases h1 : i < h - l + 1
  · by_cases h2 : l + i < lo
    · simp [h2]
    · have : ¬ l + i ≤ hi := by omega
      simp [h2, this]
  · simp [h1]

/-- A field written within 32 bits leaves a 32-bit word. -/
theorem setBits_lt {x v hi lo : Nat} (h : lo ≤ hi) (h31 : hi < 32) (hx : x < 2 ^ 32) : setBits x hi lo v < 2 ^ 32 := by
  apply Nat.lt_pow_two_of_testBit
  intro i hi'
  have b : ¬ i ≤ hi := by omega
  have a : ¬ i < lo := by omega
  rw [testBit_setBits x v h]
  simp only [a, b, if_false]
  exact Nat.testBit_lt_two_pow (Nat.lt_of_lt_of_le hx (Nat.pow_le_pow_right (by omega) hi'))

end Sys2Proof.Machine
end

