-- ==== Sys2Proof/Laws/Tab.lean ====
section
/-! SUPPORT. The laws of sparse tables: read after write, and the canonical form is kept. -/

namespace Sys2Proof.Machine.Tab

variable {α : Type} (d : Nat → α)

@[simp] theorem get_nil (k : Nat) : get d [] k = d k := rfl

theorem above_mono {t : Tab α} {a b : Nat} (h : above b t = true) (hab : a ≤ b) :
    above a t = true := by
  simp only [above, List.all_eq_true, decide_eq_true_eq] at *
  intro e he; exact Nat.lt_of_le_of_lt hab (h e he)

theorem get_of_above {t : Tab α} {b : Nat} (h : above b t = true) {k : Nat} (hk : k ≤ b) :
    get d t k = d k := by
  induction t with
  | nil => rfl
  | cons e t ih =>
    obtain ⟨i, v⟩ := e
    simp only [above, List.all_cons, Bool.and_eq_true, decide_eq_true_eq] at h
    have : i ≠ k := by omega
    simp only [get, this, if_false]
    exact ih h.2

theorem get_insert_same (t : Tab α) (k : Nat) (v : α) : get d (insert t k v) k = v := by
  induction t with
  | nil => simp [insert, get]
  | cons e t ih =>
    obtain ⟨i, w⟩ := e
    by_cases h1 : i = k
    · simp [insert, h1, get]
    · by_cases h2 : k < i
      · simp [insert, h1, h2, get]
      · simp [insert, h1, h2, get, ih]

theorem get_insert_other (t : Tab α) {k k' : Nat} (v : α) (h : k' ≠ k) :
    get d (insert t k v) k' = get d t k' := by
  have hk : ¬ k = k' := fun e => h e.symm
  induction t with
  | nil => simp [insert, get, hk]
  | cons e t ih =>
    obtain ⟨i, w⟩ := e
    by_cases h1 : i = k
    · subst h1; simp [insert, get, hk]
    · by_cases h2 : k < i
      · simp [insert, h1, h2, get, hk]
      · simp [insert, h1, h2, get, ih]

section
variable [DecidableEq α]

theorem wf_cons {i : Nat} {v : α} {t : Tab α} :
    wf d ((i, v) :: t) = true ↔ above i t = true ∧ v ≠ d i ∧ wf d t = true := by
  simp [wf, and_assoc]

omit [DecidableEq α] in
theorem get_drop_same (t : Tab α) (k : Nat) : get d (drop t k) k = d k := by
  induction t with
  | nil => rfl
  | cons e t ih =>
    obtain ⟨i, w⟩ := e
    by_cases h1 : i = k
    · simpa [drop, h1] using ih
    · simpa [drop, h1, get] using ih

omit [DecidableEq α] in
theorem get_drop_other (t : Tab α) {k k' : Nat} (h : k' ≠ k) :
    get d (drop t k) k' = get d t k' := by
  induction t with
  | nil => rfl
  | cons e t ih =>
    obtain ⟨i, w⟩ := e
    by_cases h1 : i = k
    · subst h1
      have : ¬ i = k' := fun e => h e.symm
      simpa [drop, get, this] using ih
    · simp [drop, h1, get, ih]

/-- Read after write, same key. -/
@[simp] theorem get_put_same (t : Tab α) (k : Nat) (v : α) : get d (put d t k v) k = v := by
  by_cases hv : v = d k
  · simp only [put, hv, if_true]; exact get_drop_same d t k
  · simp only [put, hv, if_false]; exact get_insert_same d t k v

/-- A write leaves every other key alone. -/
theorem get_put_other (t : Tab α) {k k' : Nat} (v : α) (h : k' ≠ k) :
    get d (put d t k v) k' = get d t k' := by
  by_cases hv : v = d k
  · simp only [put, hv, if_true]; exact get_drop_other d t h
  · simp only [put, hv, if_false]; exact get_insert_other d t v h

omit [DecidableEq α] in
theorem above_drop {t : Tab α} {b k : Nat} (h : above b t = true) : above b (drop t k) = true := by
  induction t with
  | nil => rfl
  | cons e t ih =>
    obtain ⟨i, w⟩ := e
    simp only [above, List.all_cons, Bool.and_eq_true, decide_eq_true_eq] at h
    have := ih h.2
    by_cases h1 : i = k
    · simpa [drop, h1] using this
    · simp only [above] at this
      simp [drop, h1, above, h.1, this]

omit [DecidableEq α] in
theorem above_insert {t : Tab α} {b k : Nat} {v : α} (h : above b t = true) (hk : b < k) :
    above b (insert t k v) = true := by
  induction t with
  | nil => simp [insert, above, hk]
  | cons e t ih =>
    obtain ⟨i, w⟩ := e
    have h' := h
    simp only [above, List.all_cons, Bool.and_eq_true, decide_eq_true_eq] at h
    by_cases h1 : i = k
    · subst h1; simp only [insert, if_true, above, List.all_cons, h.1, decide_true, Bool.true_and]
      exact h.2
    · by_cases h2 : k < i
      · simp only [insert, h1, h2, if_true, if_false, above, List.all_cons, hk, h.1, decide_true,
          Bool.true_and]
        exact h.2
      · have := ih h.2
        simp only [above] at this
        simp [insert, h1, h2, above, h.1, this]

theorem wf_drop {t : Tab α} (h : wf d t = true) (k : Nat) : wf d (drop t k) = true := by
  induction t with
  | nil => rfl
  | cons e t ih =>
    obtain ⟨i, w⟩ := e
    obtain ⟨ha, hn, hw⟩ := (wf_cons d).1 h
    by_cases h1 : i = k
    · simpa [drop, h1] using ih hw
    · simp only [drop, h1, if_false]
      exact (wf_cons d).2 ⟨above_drop ha, hn, ih hw⟩

theorem wf_insert {t : Tab α} (h : wf d t = true) {k : Nat} {v : α} (hv : v ≠ d k) :
    wf d (insert t k v) = true := by
  induction t with
  | nil => simp [insert, wf, above, hv]
  | cons e t ih =>
    obtain ⟨i, w⟩ := e
    obtain ⟨ha, hn, hw⟩ := (wf_cons d).1 h
    by_cases h1 : i = k
    · subst h1; simp only [insert, if_true]; exact (wf_cons d).2 ⟨ha, hv, hw⟩
    · by_cases h2 : k < i
      · simp only [insert, h1, h2, if_true, if_false]
        refine (wf_cons d).2 ⟨?_, hv, h⟩
        have := above_mono ha (Nat.le_of_lt h2)
        simp only [above] at this
        simp [above, h2, this]
      · simp only [insert, h1, h2, if_false]
        exact (wf_cons d).2 ⟨above_insert ha (by omega), hn, ih hw⟩

/-- A write keeps the canonical form. -/
theorem wf_put {t : Tab α} (h : wf d t = true) (k : Nat) (v : α) : wf d (put d t k v) = true := by
  by_cases hv : v = d k
  · simp only [put, hv, if_true]; exact wf_drop d h k
  · simp only [put, hv, if_false]; exact wf_insert d h hv

end

end Sys2Proof.Machine.Tab
end

