-- ==== Sys2Proof/Laws/Regs.lean ====
section
/-! SUPPORT. The laws of the register file: a register or field written reads as written, every other keeps its value. -/

namespace Sys2Proof.Machine

/-- The field lies within its register, high bit first. -/
def Fld.ok (f : Fld) : Bool := decide (f.lo ≤ f.hi) && decide (f.hi < 32)

/-- Two fields share no bit. -/
def Fld.apart (f g : Fld) : Bool := f.addr != g.addr || decide (g.hi < f.lo) || decide (f.hi < g.lo)

@[simp] theorem reg_setReg_same (s : State) (a : Nat) (w : Word) : (s.setReg a w).reg a = w := Tab.get_put_same _ _ _ _

theorem reg_setReg_other (s : State) {a b : Nat} (w : Word) (h : b ≠ a) : (s.setReg a w).reg b = s.reg b :=
  Tab.get_put_other _ _ _ h

theorem reg_of_regs {s t : State} (h : t.regs = s.regs) (a : Nat) : t.reg a = s.reg a := by simp [State.reg, h]

theorem rd_of_regs {s t : State} (h : t.regs = s.regs) (f : Fld) : t.rd f = s.rd f := by simp [State.rd, State.reg, h]

theorem on_of_regs {s t : State} (h : t.regs = s.regs) (f : Fld) : t.on f = s.on f := by simp [State.on, State.rd, State.reg, h]

theorem rd_lt (s : State) (f : Fld) : s.rd f < 2 ^ (f.hi - f.lo + 1) := bits_lt _ _ _

/-- A field written reads as the low bits of the value written. -/
theorem rd_wr_same (s : State) {f : Fld} (v : Nat) (h : f.ok = true) :
    (s.wr f v).rd f = v % 2 ^ (f.hi - f.lo + 1) := by
  simp only [Fld.ok, Bool.and_eq_true, decide_eq_true_eq] at h
  have hl := setBits_lt (x := (s.reg f.addr).toNat) (v := v) h.1 h.2 (s.reg f.addr).isLt
  simp only [State.rd, State.wr, reg_setReg_same, BitVec.toNat_ofNat, Nat.mod_eq_of_lt hl]
  exact bits_setBits_same _ _ h.1

/-- A field apart from the one written keeps its value. -/
theorem rd_wr_other (s : State) {f g : Fld} (v : Nat) (h : f.ok = true) (hg : g.lo ≤ g.hi) (hd : f.apart g = true) :
    (s.wr f v).rd g = s.rd g := by
  simp only [Fld.ok, Bool.and_eq_true, decide_eq_true_eq] at h
  by_cases e : f.addr = g.addr
  · have hl := setBits_lt (x := (s.reg f.addr).toNat) (v := v) h.1 h.2 (s.reg f.addr).isLt
    simp only [Fld.apart, e, bne_self_eq_false, Bool.false_or, Bool.or_eq_true, decide_eq_true_eq] at hd
    simp only [State.rd, State.wr, ← e, reg_setReg_same, BitVec.toNat_ofNat, Nat.mod_eq_of_lt hl]
    exact bits_setBits_other _ _ h.1 hg hd
  · have e' : g.addr ≠ f.addr := fun x => e x.symm
    simp only [State.rd, State.wr, reg_setReg_other s _ e']

theorem reg_wr_other (s : State) {f : Fld} {a : Nat} (v : Nat) (h : a ≠ f.addr) : (s.wr f v).reg a = s.reg a :=
  reg_setReg_other s _ h

theorem on_wr_other (s : State) {f g : Fld} (v : Nat) (h : f.ok = true) (hg : g.lo ≤ g.hi) (hd : f.apart g = true) :
    (s.wr f v).on g = s.on g := by simp [State.on, rd_wr_other s v h hg hd]

/-- What a count does: it rises by `n` where there is room, else it stands at its maximum and OVF is set. -/
theorem count_cases (s : State) (f ovf : Fld) (n : Nat) :
    (s.rd f + n ≤ f.max ∧ s.count f ovf n = s.wr f (s.rd f + n)) ∨
      (f.max < s.rd f + n ∧ s.count f ovf n = (s.wr f f.max).wr ovf 1) := by
  unfold State.count
  by_cases h : s.rd f + n ≤ f.max
  · exact .inl ⟨h, by simp [h]⟩
  · exact .inr ⟨by omega, by simp [h]⟩

/-- A register write keeps the register table's canonical form. -/
theorem regs_wf_setReg {s : State} (h : Tab.wf resetWord s.regs = true) (a : Nat) (w : Word) :
    Tab.wf resetWord (s.setReg a w).regs = true := Tab.wf_put _ h _ _

theorem regs_wf_wr {s : State} (h : Tab.wf resetWord s.regs = true) (f : Fld) (v : Nat) :
    Tab.wf resetWord (s.wr f v).regs = true := regs_wf_setReg h _ _

end Sys2Proof.Machine
end

