-- ==== Sys2Proof/Laws/State.lean ====
section
/-! SUPPORT. What the named updates of the state leave alone, field by field. Their proofs stand as `(rfl)`, so that a
rewriting with them is a step of its own and the kernel never compares two whole states. -/

namespace Sys2Proof.Machine

variable (s : State)

/-! A register written. -/

@[simp] theorem setReg_part (a : Nat) (w : Word) : (s.setReg a w).part = s.part := (rfl)
@[simp] theorem setReg_pins (a : Nat) (w : Word) : (s.setReg a w).pins = s.pins := (rfl)
@[simp] theorem setReg_clk (a : Nat) (w : Word) : (s.setReg a w).clk = s.clk := (rfl)
@[simp] theorem setReg_seq (a : Nat) (w : Word) : (s.setReg a w).seq = s.seq := (rfl)
@[simp] theorem setReg_flt (a : Nat) (w : Word) : (s.setReg a w).flt = s.flt := (rfl)
@[simp] theorem setReg_req (a : Nat) (w : Word) : (s.setReg a w).req = s.req := (rfl)
@[simp] theorem setReg_fabric (a : Nat) (w : Word) : (s.setReg a w).fabric = s.fabric := (rfl)
@[simp] theorem setReg_nextSeq (a : Nat) (w : Word) : (s.setReg a w).nextSeq = s.nextSeq := (rfl)
@[simp] theorem setReg_grant (a : Nat) (w : Word) : (s.setReg a w).grant = s.grant := (rfl)
@[simp] theorem setReg_pcs (a : Nat) (w : Word) : (s.setReg a w).pcs = s.pcs := (rfl)
@[simp] theorem setReg_cgs (a : Nat) (w : Word) : (s.setReg a w).cgs = s.cgs := (rfl)
@[simp] theorem setReg_ecc (a : Nat) (w : Word) : (s.setReg a w).ecc = s.ecc := (rfl)
@[simp] theorem setReg_dram (a : Nat) (w : Word) : (s.setReg a w).dram = s.dram := (rfl)
@[simp] theorem setReg_crm (a : Nat) (w : Word) : (s.setReg a w).crm = s.crm := (rfl)
@[simp] theorem setReg_sec (a : Nat) (w : Word) : (s.setReg a w).sec = s.sec := (rfl)
@[simp] theorem setReg_rgl (a : Nat) (w : Word) : (s.setReg a w).rgl = s.rgl := (rfl)
@[simp] theorem setReg_que (a : Nat) (w : Word) : (s.setReg a w).que = s.que := (rfl)
@[simp] theorem setReg_tbl (a : Nat) (w : Word) : (s.setReg a w).tbl = s.tbl := (rfl)
@[simp] theorem setReg_cnt (a : Nat) (w : Word) : (s.setReg a w).cnt = s.cnt := (rfl)
@[simp] theorem setReg_pair (a : Nat) (w : Word) : (s.setReg a w).pair = s.pair := (rfl)
@[simp] theorem setReg_links (a : Nat) (w : Word) : (s.setReg a w).links = s.links := (rfl)
@[simp] theorem setReg_otp (a : Nat) (w : Word) : (s.setReg a w).otp = s.otp := (rfl)
@[simp] theorem setReg_nvm (a : Nat) (w : Word) : (s.setReg a w).nvm = s.nvm := (rfl)
@[simp] theorem setReg_boot (a : Nat) (w : Word) : (s.setReg a w).boot = s.boot := (rfl)
@[simp] theorem setReg_thm (a : Nat) (w : Word) : (s.setReg a w).thm = s.thm := (rfl)
@[simp] theorem setReg_pwr (a : Nat) (w : Word) : (s.setReg a w).pwr = s.pwr := (rfl)
@[simp] theorem setReg_cal (a : Nat) (w : Word) : (s.setReg a w).cal = s.cal := (rfl)
@[simp] theorem setReg_bst (a : Nat) (w : Word) : (s.setReg a w).bst = s.bst := (rfl)
@[simp] theorem setReg_draws (a : Nat) (w : Word) : (s.setReg a w).draws = s.draws := (rfl)
@[simp] theorem setReg_obs (a : Nat) (w : Word) : (s.setReg a w).obs = s.obs := (rfl)
@[simp] theorem setReg_cyc (a : Nat) (w : Word) : (s.setReg a w).cyc = s.cyc := (rfl)
@[simp] theorem setReg_pending (a : Nat) (w : Word) : (s.setReg a w).pending = s.pending := (rfl)

/-! A field written. -/

@[simp] theorem wr_part (f : Fld) (v : Nat) : (s.wr f v).part = s.part := (rfl)
@[simp] theorem wr_pins (f : Fld) (v : Nat) : (s.wr f v).pins = s.pins := (rfl)
@[simp] theorem wr_clk (f : Fld) (v : Nat) : (s.wr f v).clk = s.clk := (rfl)
@[simp] theorem wr_seq (f : Fld) (v : Nat) : (s.wr f v).seq = s.seq := (rfl)
@[simp] theorem wr_flt (f : Fld) (v : Nat) : (s.wr f v).flt = s.flt := (rfl)
@[simp] theorem wr_req (f : Fld) (v : Nat) : (s.wr f v).req = s.req := (rfl)
@[simp] theorem wr_fabric (f : Fld) (v : Nat) : (s.wr f v).fabric = s.fabric := (rfl)
@[simp] theorem wr_nextSeq (f : Fld) (v : Nat) : (s.wr f v).nextSeq = s.nextSeq := (rfl)
@[simp] theorem wr_grant (f : Fld) (v : Nat) : (s.wr f v).grant = s.grant := (rfl)
@[simp] theorem wr_pcs (f : Fld) (v : Nat) : (s.wr f v).pcs = s.pcs := (rfl)
@[simp] theorem wr_cgs (f : Fld) (v : Nat) : (s.wr f v).cgs = s.cgs := (rfl)
@[simp] theorem wr_ecc (f : Fld) (v : Nat) : (s.wr f v).ecc = s.ecc := (rfl)
@[simp] theorem wr_dram (f : Fld) (v : Nat) : (s.wr f v).dram = s.dram := (rfl)
@[simp] theorem wr_crm (f : Fld) (v : Nat) : (s.wr f v).crm = s.crm := (rfl)
@[simp] theorem wr_sec (f : Fld) (v : Nat) : (s.wr f v).sec = s.sec := (rfl)
@[simp] theorem wr_rgl (f : Fld) (v : Nat) : (s.wr f v).rgl = s.rgl := (rfl)
@[simp] theorem wr_que (f : Fld) (v : Nat) : (s.wr f v).que = s.que := (rfl)
@[simp] theorem wr_tbl (f : Fld) (v : Nat) : (s.wr f v).tbl = s.tbl := (rfl)
@[simp] theorem wr_cnt (f : Fld) (v : Nat) : (s.wr f v).cnt = s.cnt := (rfl)
@[simp] theorem wr_pair (f : Fld) (v : Nat) : (s.wr f v).pair = s.pair := (rfl)
@[simp] theorem wr_links (f : Fld) (v : Nat) : (s.wr f v).links = s.links := (rfl)
@[simp] theorem wr_otp (f : Fld) (v : Nat) : (s.wr f v).otp = s.otp := (rfl)
@[simp] theorem wr_nvm (f : Fld) (v : Nat) : (s.wr f v).nvm = s.nvm := (rfl)
@[simp] theorem wr_boot (f : Fld) (v : Nat) : (s.wr f v).boot = s.boot := (rfl)
@[simp] theorem wr_thm (f : Fld) (v : Nat) : (s.wr f v).thm = s.thm := (rfl)
@[simp] theorem wr_pwr (f : Fld) (v : Nat) : (s.wr f v).pwr = s.pwr := (rfl)
@[simp] theorem wr_cal (f : Fld) (v : Nat) : (s.wr f v).cal = s.cal := (rfl)
@[simp] theorem wr_bst (f : Fld) (v : Nat) : (s.wr f v).bst = s.bst := (rfl)
@[simp] theorem wr_draws (f : Fld) (v : Nat) : (s.wr f v).draws = s.draws := (rfl)
@[simp] theorem wr_obs (f : Fld) (v : Nat) : (s.wr f v).obs = s.obs := (rfl)
@[simp] theorem wr_cyc (f : Fld) (v : Nat) : (s.wr f v).cyc = s.cyc := (rfl)
@[simp] theorem wr_pending (f : Fld) (v : Nat) : (s.wr f v).pending = s.pending := (rfl)

/-! A free value drawn. -/

@[simp] theorem drawn_part  : (s.drawn).part = s.part := (rfl)
@[simp] theorem drawn_pins  : (s.drawn).pins = s.pins := (rfl)
@[simp] theorem drawn_clk  : (s.drawn).clk = s.clk := (rfl)
@[simp] theorem drawn_seq  : (s.drawn).seq = s.seq := (rfl)
@[simp] theorem drawn_flt  : (s.drawn).flt = s.flt := (rfl)
@[simp] theorem drawn_req  : (s.drawn).req = s.req := (rfl)
@[simp] theorem drawn_fabric  : (s.drawn).fabric = s.fabric := (rfl)
@[simp] theorem drawn_nextSeq  : (s.drawn).nextSeq = s.nextSeq := (rfl)
@[simp] theorem drawn_grant  : (s.drawn).grant = s.grant := (rfl)
@[simp] theorem drawn_pcs  : (s.drawn).pcs = s.pcs := (rfl)
@[simp] theorem drawn_cgs  : (s.drawn).cgs = s.cgs := (rfl)
@[simp] theorem drawn_ecc  : (s.drawn).ecc = s.ecc := (rfl)
@[simp] theorem drawn_dram  : (s.drawn).dram = s.dram := (rfl)
@[simp] theorem drawn_crm  : (s.drawn).crm = s.crm := (rfl)
@[simp] theorem drawn_sec  : (s.drawn).sec = s.sec := (rfl)
@[simp] theorem drawn_rgl  : (s.drawn).rgl = s.rgl := (rfl)
@[simp] theorem drawn_que  : (s.drawn).que = s.que := (rfl)
@[simp] theorem drawn_tbl  : (s.drawn).tbl = s.tbl := (rfl)
@[simp] theorem drawn_cnt  : (s.drawn).cnt = s.cnt := (rfl)
@[simp] theorem drawn_pair  : (s.drawn).pair = s.pair := (rfl)
@[simp] theorem drawn_links  : (s.drawn).links = s.links := (rfl)
@[simp] theorem drawn_otp  : (s.drawn).otp = s.otp := (rfl)
@[simp] theorem drawn_nvm  : (s.drawn).nvm = s.nvm := (rfl)
@[simp] theorem drawn_boot  : (s.drawn).boot = s.boot := (rfl)
@[simp] theorem drawn_thm  : (s.drawn).thm = s.thm := (rfl)
@[simp] theorem drawn_pwr  : (s.drawn).pwr = s.pwr := (rfl)
@[simp] theorem drawn_cal  : (s.drawn).cal = s.cal := (rfl)
@[simp] theorem drawn_bst  : (s.drawn).bst = s.bst := (rfl)
@[simp] theorem drawn_obs  : (s.drawn).obs = s.obs := (rfl)
@[simp] theorem drawn_cyc  : (s.drawn).cyc = s.cyc := (rfl)
@[simp] theorem drawn_pending  : (s.drawn).pending = s.pending := (rfl)
@[simp] theorem drawn_regs  : (s.drawn).regs = s.regs := (rfl)

/-! A port's record replaced. -/

@[simp] theorem setLink_part (n : Nat) (l : Link) : (s.setLink n l).part = s.part := (rfl)
@[simp] theorem setLink_pins (n : Nat) (l : Link) : (s.setLink n l).pins = s.pins := (rfl)
@[simp] theorem setLink_clk (n : Nat) (l : Link) : (s.setLink n l).clk = s.clk := (rfl)
@[simp] theorem setLink_seq (n : Nat) (l : Link) : (s.setLink n l).seq = s.seq := (rfl)
@[simp] theorem setLink_flt (n : Nat) (l : Link) : (s.setLink n l).flt = s.flt := (rfl)
@[simp] theorem setLink_req (n : Nat) (l : Link) : (s.setLink n l).req = s.req := (rfl)
@[simp] theorem setLink_fabric (n : Nat) (l : Link) : (s.setLink n l).fabric = s.fabric := (rfl)
@[simp] theorem setLink_nextSeq (n : Nat) (l : Link) : (s.setLink n l).nextSeq = s.nextSeq := (rfl)
@[simp] theorem setLink_grant (n : Nat) (l : Link) : (s.setLink n l).grant = s.grant := (rfl)
@[simp] theorem setLink_pcs (n : Nat) (l : Link) : (s.setLink n l).pcs = s.pcs := (rfl)
@[simp] theorem setLink_cgs (n : Nat) (l : Link) : (s.setLink n l).cgs = s.cgs := (rfl)
@[simp] theorem setLink_ecc (n : Nat) (l : Link) : (s.setLink n l).ecc = s.ecc := (rfl)
@[simp] theorem setLink_dram (n : Nat) (l : Link) : (s.setLink n l).dram = s.dram := (rfl)
@[simp] theorem setLink_crm (n : Nat) (l : Link) : (s.setLink n l).crm = s.crm := (rfl)
@[simp] theorem setLink_sec (n : Nat) (l : Link) : (s.setLink n l).sec = s.sec := (rfl)
@[simp] theorem setLink_rgl (n : Nat) (l : Link) : (s.setLink n l).rgl = s.rgl := (rfl)
@[simp] theorem setLink_que (n : Nat) (l : Link) : (s.setLink n l).que = s.que := (rfl)
@[simp] theorem setLink_tbl (n : Nat) (l : Link) : (s.setLink n l).tbl = s.tbl := (rfl)
@[simp] theorem setLink_cnt (n : Nat) (l : Link) : (s.setLink n l).cnt = s.cnt := (rfl)
@[simp] theorem setLink_pair (n : Nat) (l : Link) : (s.setLink n l).pair = s.pair := (rfl)
@[simp] theorem setLink_otp (n : Nat) (l : Link) : (s.setLink n l).otp = s.otp := (rfl)
@[simp] theorem setLink_nvm (n : Nat) (l : Link) : (s.setLink n l).nvm = s.nvm := (rfl)
@[simp] theorem setLink_boot (n : Nat) (l : Link) : (s.setLink n l).boot = s.boot := (rfl)
@[simp] theorem setLink_thm (n : Nat) (l : Link) : (s.setLink n l).thm = s.thm := (rfl)
@[simp] theorem setLink_pwr (n : Nat) (l : Link) : (s.setLink n l).pwr = s.pwr := (rfl)
@[simp] theorem setLink_cal (n : Nat) (l : Link) : (s.setLink n l).cal = s.cal := (rfl)
@[simp] theorem setLink_bst (n : Nat) (l : Link) : (s.setLink n l).bst = s.bst := (rfl)
@[simp] theorem setLink_draws (n : Nat) (l : Link) : (s.setLink n l).draws = s.draws := (rfl)
@[simp] theorem setLink_obs (n : Nat) (l : Link) : (s.setLink n l).obs = s.obs := (rfl)
@[simp] theorem setLink_cyc (n : Nat) (l : Link) : (s.setLink n l).cyc = s.cyc := (rfl)
@[simp] theorem setLink_pending (n : Nat) (l : Link) : (s.setLink n l).pending = s.pending := (rfl)
@[simp] theorem setLink_regs (n : Nat) (l : Link) : (s.setLink n l).regs = s.regs := (rfl)

/-! What a record replaced reads as. -/

@[simp] theorem drawn_draws : s.drawn.draws = s.draws + 1 := (rfl)

@[simp] theorem link_setLink_same (n : Nat) (l : Link) : (s.setLink n l).link n = l := Tab.get_put_same _ _ _ _

theorem link_setLink_other {n m : Nat} (l : Link) (h : m ≠ n) : (s.setLink n l).link m = s.link m :=
  Tab.get_put_other _ _ _ h

@[simp] theorem rd_setLink (n : Nat) (l : Link) (f : Fld) : (s.setLink n l).rd f = s.rd f := (rfl)

@[simp] theorem on_setLink (n : Nat) (l : Link) (f : Fld) : (s.setLink n l).on f = s.on f := (rfl)

@[simp] theorem rd_drawn (f : Fld) : s.drawn.rd f = s.rd f := (rfl)

@[simp] theorem link_wr (f : Fld) (v n : Nat) : (s.wr f v).link n = s.link n := (rfl)

/-- A part not held in reset takes a command. -/
theorem act_live (t : State) (h : s.inReset = false) : s.act t = .next t := by simp [State.act, h]

/-- A part held in reset takes none (R67). -/
theorem act_reset (t : State) (h : s.inReset = true) : s.act t = .next s := by simp [State.act, h]

end Sys2Proof.Machine
end

