-- ==== Sys2Proof/Laws/Cal.lean ====
section
/-! SUPPORT. What a TSV swap does (R665) and what a monitor's window restart leaves (R663). -/

namespace Sys2Proof.Machine

/-- A swap that finds its spare gone ends with result 4 and CAL_FAIL's event. -/
theorem tsvSwap_taken (s : State) (g : Nat) (c : CalCmd)
    (h : s.tsvFree c.pc (tsvPlace c.lane).1 (c.value % 2) = false) :
    s.tsvSwap g c = ((s.setCal g none 4).raise (104 + g) 9
      (c.pc + c.lane * 128 + (tsvPlace c.lane).1 * 2 ^ 14 + c.value % 2 * 2 ^ 16)).laneAck c.pc c.lane := by
  simp [State.tsvSwap, h]

/-- A data lane's swap to a free spare writes the map, ends with result 1 and records the temperature. -/
theorem tsvSwap_data (s : State) (g : Nat) (c : CalCmd) (hc : c.lane < 40)
    (h : s.tsvFree c.pc (tsvPlace c.lane).1 (c.value % 2) = true) :
    s.tsvSwap g c = ((((s.wr (tsvFld c.pc (tsvPlace c.lane).1 (c.value % 2)) (tsvPlace c.lane).2).setCal g none
      1).calCorrected g).raise (104 + g) 8
      (c.pc + c.lane * 128 + (tsvPlace c.lane).1 * 2 ^ 14 + c.value % 2 * 2 ^ 16)).laneAck c.pc c.lane := by
  simp [State.tsvSwap, h, Nat.not_le.2 hc]

end Sys2Proof.Machine
end

