-- ==== Sys2Proof/Laws/Coding.lean ====
section
/-! SUPPORT. The packed multiples of the generator of RS(544,528) are the generator's (R221). -/

namespace Sys2Proof.Machine

set_option maxRecDepth 20000 in
/-- Row b of the table the encoder folds with is α^b times the generator below x^16. -/
theorem fecRows_eq : ∀ b, b < 10 →
    nth 0 fecRows b = pack10 ((fecGen.take 16).map (fecMul (fecPow b))) := by decide +kernel

end Sys2Proof.Machine
end

