-- ==== Sys2Proof/Laws/Flash.lean ====
section
/-! SUPPORT. What programming the flash leaves to be read (R119, R120). -/

namespace Sys2Proof.Machine

theorem get_fill (f : Nat → Byte) (a : Nat) (t : Tab Byte) (n x : Nat) :
    Tab.get flashByte ((List.range n).foldl (fun (t : Tab Byte) i => Tab.put flashByte t (a + i) (f i)) t) x =
      if a ≤ x ∧ x < a + n then f (x - a) else Tab.get flashByte t x := by
  induction n with
  | zero => rw [if_neg (by omega)]; rfl
  | succ n ih =>
    rw [List.range_succ, List.foldl_append]
    simp only [List.foldl_cons, List.foldl_nil]
    by_cases h : x = a + n
    · subst h; simp
    · rw [Tab.get_put_other _ _ _ h, ih]
      split <;> split <;> first | rfl | omega

/-- A programmed range reads as what was programmed, and every other byte as before. -/
theorem flash_program (s : State) (a : Nat) (bs : List Byte) (x : Nat) :
    (s.program a bs).flash x = if a ≤ x ∧ x < a + bs.length then nth 0 bs (x - a) else s.flash x :=
  get_fill _ a _ _ x

theorem flashBytes_program_same (s : State) (a : Nat) (bs : List Byte) :
    (s.program a bs).flashBytes a bs.length = bs := by
  apply List.ext_getElem
  · simp [State.flashBytes]
  · intro i h1 h2
    simp [State.flashBytes, flash_program, nth, h2]

theorem flashBytes_program_other (s : State) (a b n : Nat) (bs : List Byte) (h : b + n ≤ a ∨ a + bs.length ≤ b) :
    (s.program a bs).flashBytes b n = s.flashBytes b n := by
  simp only [State.flashBytes, List.map_inj_left, List.mem_range, flash_program]
  intro i hi
  rw [if_neg (by omega)]

@[simp] theorem rd_program (s : State) (a : Nat) (bs : List Byte) (f : Fld) : (s.program a bs).rd f = s.rd f := rfl

/-- Programming changes the flash only. -/
theorem program_frame (s : State) (a : Nat) (bs : List Byte) :
    s.program a bs = { s with nvm := { s.nvm with flash := (s.program a bs).nvm.flash } } := rfl

end Sys2Proof.Machine
end

