-- ==== Sys2Proof/Laws/Memory.lean ====
section
/-! SUPPORT. The laws of DRAM: read after write, and every operation on it keeps the canonical form. -/

namespace Sys2Proof.Machine

theorem memByte_setByte_same (s : State) (k : Nat) (b : Byte) : (s.setByte k b).memByte k = b :=
  Tab.get_put_same _ _ _ _

theorem memByte_setByte_other (s : State) {k j : Nat} (b : Byte) (h : j ≠ k) :
    (s.setByte k b).memByte j = s.memByte j := Tab.get_put_other _ _ _ h

/-- Bytes written leave every other key alone. -/
theorem memByte_setBytes_other (bs : List Byte) (s : State) (k : Nat) {j : Nat} (h : j < k ∨ k + bs.length ≤ j) :
    (s.setBytes k bs).memByte j = s.memByte j := by
  induction bs generalizing s k with
  | nil => rfl
  | cons b bs ih =>
    simp only [List.length_cons] at h
    rw [State.setBytes, ih _ _ (by omega), memByte_setByte_other _ _ (by omega)]

theorem memory_wf_setByte {s : State} (h : Memory.wf s.dram = true) (k : Nat) (b : Byte) :
    Memory.wf (s.setByte k b).dram = true := Tab.wf_put _ h _ _

theorem memory_wf_setBytes (bs : List Byte) {s : State} (h : Memory.wf s.dram = true) (k : Nat) :
    Memory.wf (s.setBytes k bs).dram = true := by
  induction bs generalizing s k with
  | nil => exact h
  | cons b bs ih => exact ih (memory_wf_setByte h k b) (k + 1)

/-- Bytes taken out keep the canonical form. -/
theorem memory_wf_filter {m : List Host.Cell} (h : Memory.wf m = true) (p : Host.Cell → Bool) :
    Memory.wf (m.filter p) = true := by
  induction m with
  | nil => rfl
  | cons e t ih =>
    obtain ⟨i, v⟩ := e
    obtain ⟨ha, hn, hw⟩ := (Tab.wf_cons _).1 h
    by_cases hp : p (i, v) = true
    · rw [List.filter_cons_of_pos hp]
      refine (Tab.wf_cons _).2 ⟨?_, hn, ih hw⟩
      simp only [Tab.above, List.all_eq_true] at *
      intro x hx; exact ha x ((List.mem_filter.1 hx).1)
    · rw [List.filter_cons_of_neg hp]; exact ih hw

theorem memory_wf_dropUnkept {s : State} (h : Memory.wf s.dram = true) (c : Nat) :
    Memory.wf (s.dropUnkept c).dram = true := memory_wf_filter h _

theorem memory_wf_reset : Memory.wf State.reset.dram = true := rfl

end Sys2Proof.Machine
end

