-- ==== Sys2Proof/Laws/Raise.lean ====
section
/-! SUPPORT. What counting and raising a message leave alone (R261, R678, R690). -/

namespace Sys2Proof.Machine

variable (s : State)

/-! A count changes registers only. -/

@[simp] theorem count_part (f ovf : Fld) (n : Nat) : (s.count f ovf n).part = s.part := by
  unfold State.count; split <;> rfl
@[simp] theorem count_pins (f ovf : Fld) (n : Nat) : (s.count f ovf n).pins = s.pins := by
  unfold State.count; split <;> rfl
@[simp] theorem count_clk (f ovf : Fld) (n : Nat) : (s.count f ovf n).clk = s.clk := by
  unfold State.count; split <;> rfl
@[simp] theorem count_seq (f ovf : Fld) (n : Nat) : (s.count f ovf n).seq = s.seq := by
  unfold State.count; split <;> rfl
@[simp] theorem count_req (f ovf : Fld) (n : Nat) : (s.count f ovf n).req = s.req := by
  unfold State.count; split <;> rfl
@[simp] theorem count_fabric (f ovf : Fld) (n : Nat) : (s.count f ovf n).fabric = s.fabric := by
  unfold State.count; split <;> rfl
@[simp] theorem count_nextSeq (f ovf : Fld) (n : Nat) : (s.count f ovf n).nextSeq = s.nextSeq := by
  unfold State.count; split <;> rfl
@[simp] theorem count_grant (f ovf : Fld) (n : Nat) : (s.count f ovf n).grant = s.grant := by
  unfold State.count; split <;> rfl
@[simp] theorem count_pcs (f ovf : Fld) (n : Nat) : (s.count f ovf n).pcs = s.pcs := by
  unfold State.count; split <;> rfl
@[simp] theorem count_cgs (f ovf : Fld) (n : Nat) : (s.count f ovf n).cgs = s.cgs := by
  unfold State.count; split <;> rfl
@[simp] theorem count_ecc (f ovf : Fld) (n : Nat) : (s.count f ovf n).ecc = s.ecc := by
  unfold State.count; split <;> rfl
@[simp] theorem count_dram (f ovf : Fld) (n : Nat) : (s.count f ovf n).dram = s.dram := by
  unfold State.count; split <;> rfl
@[simp] theorem count_crm (f ovf : Fld) (n : Nat) : (s.count f ovf n).crm = s.crm := by
  unfold State.count; split <;> rfl
@[simp] theorem count_sec (f ovf : Fld) (n : Nat) : (s.count f ovf n).sec = s.sec := by
  unfold State.count; split <;> rfl
@[simp] theorem count_rgl (f ovf : Fld) (n : Nat) : (s.count f ovf n).rgl = s.rgl := by
  unfold State.count; split <;> rfl
@[simp] theorem count_que (f ovf : Fld) (n : Nat) : (s.count f ovf n).que = s.que := by
  unfold State.count; split <;> rfl
@[simp] theorem count_tbl (f ovf : Fld) (n : Nat) : (s.count f ovf n).tbl = s.tbl := by
  unfold State.count; split <;> rfl
@[simp] theorem count_cnt (f ovf : Fld) (n : Nat) : (s.count f ovf n).cnt = s.cnt := by
  unfold State.count; split <;> rfl
@[simp] theorem count_pair (f ovf : Fld) (n : Nat) : (s.count f ovf n).pair = s.pair := by
  unfold State.count; split <;> rfl
@[simp] theorem count_links (f ovf : Fld) (n : Nat) : (s.count f ovf n).links = s.links := by
  unfold State.count; split <;> rfl
@[simp] theorem count_otp (f ovf : Fld) (n : Nat) : (s.count f ovf n).otp = s.otp := by
  unfold State.count; split <;> rfl
@[simp] theorem count_nvm (f ovf : Fld) (n : Nat) : (s.count f ovf n).nvm = s.nvm := by
  unfold State.count; split <;> rfl
@[simp] theorem count_boot (f ovf : Fld) (n : Nat) : (s.count f ovf n).boot = s.boot := by
  unfold State.count; split <;> rfl
@[simp] theorem count_thm (f ovf : Fld) (n : Nat) : (s.count f ovf n).thm = s.thm := by
  unfold State.count; split <;> rfl
@[simp] theorem count_cal (f ovf : Fld) (n : Nat) : (s.count f ovf n).cal = s.cal := by
  unfold State.count; split <;> rfl
@[simp] theorem count_bst (f ovf : Fld) (n : Nat) : (s.count f ovf n).bst = s.bst := by
  unfold State.count; split <;> rfl
@[simp] theorem count_draws (f ovf : Fld) (n : Nat) : (s.count f ovf n).draws = s.draws := by
  unfold State.count; split <;> rfl
@[simp] theorem count_obs (f ovf : Fld) (n : Nat) : (s.count f ovf n).obs = s.obs := by
  unfold State.count; split <;> rfl
@[simp] theorem count_cyc (f ovf : Fld) (n : Nat) : (s.count f ovf n).cyc = s.cyc := by
  unfold State.count; split <;> rfl
@[simp] theorem count_pending (f ovf : Fld) (n : Nat) : (s.count f ovf n).pending = s.pending := by
  unfold State.count; split <;> rfl
@[simp] theorem count_flt (f ovf : Fld) (n : Nat) : (s.count f ovf n).flt = s.flt := by
  unfold State.count; split <;> rfl
@[simp] theorem count_pwr (f ovf : Fld) (n : Nat) : (s.count f ovf n).pwr = s.pwr := by
  unfold State.count; split <;> rfl

/-- A count leaves every field apart from its own two. -/
theorem rd_count_other {f ovf g : Fld} (n : Nat) (hf : f.ok = true) (ho : ovf.ok = true) (hg : g.lo ≤ g.hi)
    (h1 : f.apart g = true) (h2 : ovf.apart g = true) : (s.count f ovf n).rd g = s.rd g := by
  unfold State.count; split
  · exact rd_wr_other _ _ hf hg h1
  · rw [rd_wr_other _ _ ho hg h2, rd_wr_other _ _ hf hg h1]

/-! A message raised changes the collector's outbox or Samovar's held events, and the count of lost messages. -/

@[simp] theorem raise_part (a k x : Nat) (i : Bool) : (s.raise a k x i).part = s.part := by
  unfold State.raise; dsimp only; split
  · rfl
  · unfold State.post; split <;> simp
@[simp] theorem raise_pins (a k x : Nat) (i : Bool) : (s.raise a k x i).pins = s.pins := by
  unfold State.raise; dsimp only; split
  · rfl
  · unfold State.post; split <;> simp
@[simp] theorem raise_clk (a k x : Nat) (i : Bool) : (s.raise a k x i).clk = s.clk := by
  unfold State.raise; dsimp only; split
  · rfl
  · unfold State.post; split <;> simp
@[simp] theorem raise_seq (a k x : Nat) (i : Bool) : (s.raise a k x i).seq = s.seq := by
  unfold State.raise; dsimp only; split
  · rfl
  · unfold State.post; split <;> simp
@[simp] theorem raise_req (a k x : Nat) (i : Bool) : (s.raise a k x i).req = s.req := by
  unfold State.raise; dsimp only; split
  · rfl
  · unfold State.post; split <;> simp
@[simp] theorem raise_fabric (a k x : Nat) (i : Bool) : (s.raise a k x i).fabric = s.fabric := by
  unfold State.raise; dsimp only; split
  · rfl
  · unfold State.post; split <;> simp
@[simp] theorem raise_nextSeq (a k x : Nat) (i : Bool) : (s.raise a k x i).nextSeq = s.nextSeq := by
  unfold State.raise; dsimp only; split
  · rfl
  · unfold State.post; split <;> simp
@[simp] theorem raise_grant (a k x : Nat) (i : Bool) : (s.raise a k x i).grant = s.grant := by
  unfold State.raise; dsimp only; split
  · rfl
  · unfold State.post; split <;> simp
@[simp] theorem raise_pcs (a k x : Nat) (i : Bool) : (s.raise a k x i).pcs = s.pcs := by
  unfold State.raise; dsimp only; split
  · rfl
  · unfold State.post; split <;> simp
@[simp] theorem raise_cgs (a k x : Nat) (i : Bool) : (s.raise a k x i).cgs = s.cgs := by
  unfold State.raise; dsimp only; split
  · rfl
  · unfold State.post; split <;> simp
@[simp] theorem raise_ecc (a k x : Nat) (i : Bool) : (s.raise a k x i).ecc = s.ecc := by
  unfold State.raise; dsimp only; split
  · rfl
  · unfold State.post; split <;> simp
@[simp] theorem raise_dram (a k x : Nat) (i : Bool) : (s.raise a k x i).dram = s.dram := by
  unfold State.raise; dsimp only; split
  · rfl
  · unfold State.post; split <;> simp
@[simp] theorem raise_crm (a k x : Nat) (i : Bool) : (s.raise a k x i).crm = s.crm := by
  unfold State.raise; dsimp only; split
  · rfl
  · unfold State.post; split <;> simp
@[simp] theorem raise_sec (a k x : Nat) (i : Bool) : (s.raise a k x i).sec = s.sec := by
  unfold State.raise; dsimp only; split
  · rfl
  · unfold State.post; split <;> simp
@[simp] theorem raise_rgl (a k x : Nat) (i : Bool) : (s.raise a k x i).rgl = s.rgl := by
  unfold State.raise; dsimp only; split
  · rfl
  · unfold State.post; split <;> simp
@[simp] theorem raise_que (a k x : Nat) (i : Bool) : (s.raise a k x i).que = s.que := by
  unfold State.raise; dsimp only; split
  · rfl
  · unfold State.post; split <;> simp
@[simp] theorem raise_tbl (a k x : Nat) (i : Bool) : (s.raise a k x i).tbl = s.tbl := by
  unfold State.raise; dsimp only; split
  · rfl
  · unfold State.post; split <;> simp
@[simp] theorem raise_cnt (a k x : Nat) (i : Bool) : (s.raise a k x i).cnt = s.cnt := by
  unfold State.raise; dsimp only; split
  · rfl
  · unfold State.post; split <;> simp
@[simp] theorem raise_pair (a k x : Nat) (i : Bool) : (s.raise a k x i).pair = s.pair := by
  unfold State.raise; dsimp only; split
  · rfl
  · unfold State.post; split <;> simp
@[simp] theorem raise_links (a k x : Nat) (i : Bool) : (s.raise a k x i).links = s.links := by
  unfold State.raise; dsimp only; split
  · rfl
  · unfold State.post; split <;> simp
@[simp] theorem raise_otp (a k x : Nat) (i : Bool) : (s.raise a k x i).otp = s.otp := by
  unfold State.raise; dsimp only; split
  · rfl
  · unfold State.post; split <;> simp
@[simp] theorem raise_nvm (a k x : Nat) (i : Bool) : (s.raise a k x i).nvm = s.nvm := by
  unfold State.raise; dsimp only; split
  · rfl
  · unfold State.post; split <;> simp
@[simp] theorem raise_boot (a k x : Nat) (i : Bool) : (s.raise a k x i).boot = s.boot := by
  unfold State.raise; dsimp only; split
  · rfl
  · unfold State.post; split <;> simp
@[simp] theorem raise_thm (a k x : Nat) (i : Bool) : (s.raise a k x i).thm = s.thm := by
  unfold State.raise; dsimp only; split
  · rfl
  · unfold State.post; split <;> simp
@[simp] theorem raise_cal (a k x : Nat) (i : Bool) : (s.raise a k x i).cal = s.cal := by
  unfold State.raise; dsimp only; split
  · rfl
  · unfold State.post; split <;> simp
@[simp] theorem raise_bst (a k x : Nat) (i : Bool) : (s.raise a k x i).bst = s.bst := by
  unfold State.raise; dsimp only; split
  · rfl
  · unfold State.post; split <;> simp
@[simp] theorem raise_draws (a k x : Nat) (i : Bool) : (s.raise a k x i).draws = s.draws := by
  unfold State.raise; dsimp only; split
  · rfl
  · unfold State.post; split <;> simp
@[simp] theorem raise_obs (a k x : Nat) (i : Bool) : (s.raise a k x i).obs = s.obs := by
  unfold State.raise; dsimp only; split
  · rfl
  · unfold State.post; split <;> simp
@[simp] theorem raise_cyc (a k x : Nat) (i : Bool) : (s.raise a k x i).cyc = s.cyc := by
  unfold State.raise; dsimp only; split
  · rfl
  · unfold State.post; split <;> simp
@[simp] theorem raise_pending (a k x : Nat) (i : Bool) : (s.raise a k x i).pending = s.pending := by
  unfold State.raise; dsimp only; split
  · rfl
  · unfold State.post; split <;> simp

/-- A message raised leaves every register but FLT_CNT. -/
theorem reg_raise (a k x : Nat) (i : Bool) {b : Nat} (hb : b ≠ Ra.FLT_CNT) : (s.raise a k x i).reg b = s.reg b := by
  unfold State.raise; dsimp only; split
  · rfl
  · unfold State.post; split
    · rfl
    · unfold State.count; split
      · exact reg_wr_other _ _ hb
      · rw [reg_wr_other _ _ hb, reg_wr_other _ _ hb]; rfl

theorem rd_raise (a k x : Nat) (i : Bool) {f : Fld} (hb : f.addr ≠ Ra.FLT_CNT) : (s.raise a k x i).rd f = s.rd f := by
  simp only [State.rd, reg_raise s a k x i hb]

end Sys2Proof.Machine
end

