-- ==== Sys2Proof/Laws/Wake.lean ====
section
/-! SUPPORT. What recording a wake does (R641, R645, R648). -/

namespace Sys2Proof.Machine

/-- Writes of other fields leave the device time that later ones write. -/
theorem wr_time_chain (u : State) (f g h k : Fld) (c : Nat) :
    (((u.wr f c).wr g (u.wr f c).clk.time).wr h ((u.wr f c).clk.time / 2 ^ 32)).wr k 1 =
      (((u.wr f c).wr g u.clk.time).wr h (u.clk.time / 2 ^ 32)).wr k 1 := by
  rw [wr_clk]

/-- An event that the latch is not armed for, or whose source is disabled, does nothing. -/
theorem wakeEvent_off (s : State) (c : Nat)
    (h : s.on Fd.PWR_STAT_ARMED = false ∨ bit (s.rd Fd.PWR_WAKE_EN_EN) c = false) : s.wakeEvent c = s := by
  rcases h with h | h <;> simp [State.wakeEvent, h]

/-- An enabled source's event is recorded. -/
theorem wakeEvent_on (s : State) (c : Nat) (h1 : s.on Fd.PWR_STAT_ARMED = true)
    (h2 : bit (s.rd Fd.PWR_WAKE_EN_EN) c = true) : s.wakeEvent c = s.recordWake c := by
  simp [State.wakeEvent, h1, h2]

/-- The first event of a latch writes the whole record. -/
theorem recordWake_first (s : State) (c : Nat) (e : ModeReq) (h1 : s.on Fd.PWR_STAT_LATCHED = false)
    (h2 : s.pwr.entry = some e) :
    s.recordWake c = ((((((((s.setReg Ra.PWR_WAKE_LAST 0).wr Fd.PWR_WAKE_LAST_VALID 1).wr
      Fd.PWR_WAKE_LAST_TGT e.mode).wr Fd.PWR_WAKE_LAST_MASK (2 ^ c)).wr Fd.PWR_WAKE_LAST_FIRST c).wr
      Fd.PWR_WAKE_TIME_LO_TIME s.clk.time).wr Fd.PWR_WAKE_TIME_HI_TIME (s.clk.time / 2 ^ 32)).wr
      Fd.PWR_STAT_LATCHED 1) := by
  unfold State.recordWake
  rw [h1, h2]
  simp

end Sys2Proof.Machine
end

