-- ==== Sys2Proof/WellFormed.lean ====
section
/-! DEFINITION. Well-formed commands: every operand within the width or count that the rules give it. A command that is
not well formed cannot arise on the part; the meanings are total on it all the same. -/

namespace Sys2Proof

/-- Every field of a request head fits its place (R265). -/
def ReqHead.wf (h : ReqHead) : Bool :=
  decide (h.reqId < 4096) && decide (h.tag < 4096) && decide (h.label < 256) && decide (h.addr < 2 ^ 40) &&
    decide (h.lenArg < 65536) && decide (h.flags < 256) && decide (h.spec < 2 ^ 24)

/-- A place in the period of 495 flits, and the one or two codewords of 5,440 bits that hold it (R221, R223). -/
def RxFlit.wf (x : RxFlit) : Bool :=
  decide (x.pos < 495) && x.words.length == (if 1024 * x.pos % 5280 ≤ 4256 then 1 else 2) &&
    x.words.all fun w => decide (w < 2 ^ 5440)

/-- The data slots of a message. -/
def slotsWf (data : List Byte) : Bool := data.length % 16 == 0 && decide (data.length ≤ 1792)

/-- A command's operands are in range. -/
def Instr.wf : Instr → Bool
  | .registerWrite who addr value => decide (who < 17) && decide (addr < 2 ^ 24) && decide (value < 2 ^ 32)
  | .readClear addr => decide (addr < 2 ^ 24)
  | .lockWrite addr => decide (addr < 2 ^ 24)
  | .resetNLow _ => true
  | .resetNRelease _ strap => decide (strap < 4)
  | .pwrOkRise => true
  | .pwrOkFall => true
  | .railWarn rail mv => decide (rail < 7) && decide (mv < 4096)
  | .railFail rail mv => decide (rail < 7) && decide (mv < 4096)
  | .oscStart => true
  | .oscCompareWindow _ _ _ => true
  | .temperatureCorrection => true
  | .rootLock => true
  | .romStart => true
  | .mcSel value => decide (value < 2)
  | .spiSel value => decide (value < 2)
  | .muxRelease _ => true
  | .refclkLoss _ => true
  | .holdoverEnd => true
  | .refclkReturn => true
  | .clkGatePort port _ => decide (port < 13)
  | .clkGateCg cg _ => decide (cg < 32)
  | .quiesceAck unit => decide (unit < 48)
  | .gateRefused unit => decide (unit < 48)
  | .gateOpen cg => decide (cg < 32)
  | .clkTimeLoRead => true
  | .watchdogExpiry => true
  | .mcRestart => true
  | .glbModeReq mode level _ => decide (mode < 16) && decide (level < 4)
  | .modeTransitionStart => true
  | .modeTransitionEnd => true
  | .wckSwitch => true
  | .coreVselWait => true
  | .firmwareVerified _ _ => true
  | .sfdpRead _ => true
  | .slotSelect pair => decide (pair < 2)
  | .imageVerified => true
  | .imageRecordWrite => true
  | .imageRecordMasked => true
  | .imageRecordPoll => true
  | .pollReread => true
  | .pollTimeout => true
  | .sectionCheck => true
  | .calRecordRead => true
  | .repairSwitchIn => true
  | .recordWrite pair cert => decide (pair < 6) && decide (cert.length ≤ 4032)
  | .sectorEraseComplete => true
  | .pageProgramComplete _ _ _ => true
  | .journalHalfMove => true
  | .updBegin src target len => decide (src < 16) && decide (target < 4) && decide (len < 2 ^ 32)
  | .updEraseComplete => true
  | .nvmUpdData src word => decide (src < 16) && decide (word < 2 ^ 32)
  | .updFinish src digest => decide (src < 16) && decide (digest < 2 ^ 256)
  | .updCancel src => decide (src < 16)
  | .nvmUpdCancel => true
  | .fuseProgram word data => decide (word < 512) && decide (data < 2 ^ 64)
  | .otpProg data ecc => decide (data < 2 ^ 64) && decide (ecc < 3)
  | .rereadPass _ => true
  | .scanZeroise => true
  | .jtagInstruction act => decide (act.function < 4)
  | .jtagTrstN => true
  | .setdasa static dynamic => decide (static < 128) && decide (dynamic < 128)
  | .entdaa dynamic => decide (dynamic < 128)
  | .sidebandWrite bytes => decide (bytes.length ≤ 80)
  | .sidebandRead => true
  | .bringup port => decide (port < 13)
  | .laneLock port lane got => decide (port < 13) && decide (lane < 9) && decide (got.raw < 2 ^ got.len)
  | .lockLost port lane => decide (port < 13) && decide (lane < 9)
  | .linkFramesStart start => decide (start.1 < 13) && decide (start.2 < 4096)
  | .bringupLate port => decide (port < 13)
  | .lm0 port phys payload comma group _ => decide (port < 13) && decide (phys < 9) && (payload.all fun h => decide (h < 4)) && decide (comma.1 < 4) && decide (comma.2 < 2 ^ 64) && decide (group.1 < 4) && decide (group.2 < 2 ^ 64)
  | .lm1 port bodies => decide (port < 13) && (bodies.all fun e => decide (e.1 < 9) && decide (e.2 < 2 ^ 64))
  | .lm2 port bodies => decide (port < 13) && (bodies.all fun e => decide (e.1 < 9) && decide (e.2 < 2 ^ 64))
  | .laneFlag port lane tap _ => decide (port < 13) && decide (lane < 9) && decide (tap < 17)
  | .spareReady port rx => decide (port < 13) && (rx.all fun e => decide (e.1 < 9) && decide (e.2.2 < 2 ^ e.2.1))
  | .laneFailed port => decide (port < 13)
  | .laneSwapRx port lane => decide (port < 13) && decide (lane < 9)
  | .laneSwapTx port lane => decide (port < 13) && decide (lane < 9)
  | .swapAnnounce port frame => decide (port < 13) && decide (frame < 65536)
  | .laneSwap port _ => decide (port < 13)
  | .laneTest port _ => decide (port < 13)
  | .prbsInj port lane => decide (port < 13) && decide (lane < 9)
  | .periodicInjection port lane => decide (port < 13) && decide (lane < 9)
  | .flitTransmit port => decide (port < 13)
  | .rekeyKeyReady port => decide (port < 13)
  | .dataFlit port rx => decide (port < 13) && rx.wf
  | .idleFlit port rx => decide (port < 13) && rx.wf
  | .nakFlit port rx => decide (port < 13) && rx.wf
  | .initFlit port rx => decide (port < 13) && rx.wf
  | .holdFlit port rx => decide (port < 13) && rx.wf
  | .tagFlit port rx => decide (port < 13) && rx.wf
  | .nakResend port => decide (port < 13)
  | .replayTimeout port => decide (port < 13)
  | .replayAgeExpiry port => decide (port < 13)
  | .rd64 port head => decide (port < 12) && head.wf
  | .rd128 port head => decide (port < 12) && head.wf
  | .rd256 port head => decide (port < 12) && head.wf
  | .wr64 port head data => decide (port < 12) && head.wf && data.length == 64
  | .wr128 port head data => decide (port < 12) && head.wf && data.length == 128
  | .wr256 port head data => decide (port < 12) && head.wf && data.length == 256
  | .wrp port head data => decide (port < 12) && head.wf && data.length == 80
  | .atomFadd port head data => decide (port < 12) && head.wf && data.length == 16
  | .atomCas port head data => decide (port < 12) && head.wf && data.length == 16
  | .atomSwap port head data => decide (port < 12) && head.wf && data.length == 16
  | .atomMin port head data => decide (port < 12) && head.wf && data.length == 16
  | .atomMax port head data => decide (port < 12) && head.wf && data.length == 16
  | .atomAnd port head data => decide (port < 12) && head.wf && data.length == 16
  | .atomOr port head data => decide (port < 12) && head.wf && data.length == 16
  | .orderedStart _ => true
  | .fenceReq port head => decide (port < 12) && head.wf
  | .fenceComplete _ => true
  | .snapReq port head => decide (port < 12) && head.wf
  | .mgmtRd port head => decide (port < 12) && head.wf
  | .mgmtWr port head data => decide (port < 12) && head.wf && data.length == 16
  | .authReq port head data => decide (port < 12) && head.wf && data.length == 64
  | .authPersistWrite => true
  | .rgnCommit index => decide (index < 64)
  | .commitDrainEnd => true
  | .commitTimeout => true
  | .rgnFenceClear region => decide (region < 64)
  | .readQueueEntry pc ini => decide (pc < 128) && decide (ini < 17)
  | .writeQueueEntry pc ini => decide (pc < 128) && decide (ini < 17)
  | .merge pc ini => decide (pc < 128) && decide (ini < 17)
  | .commandIssue pc _ => decide (pc < 128)
  | .dramReadData pc _ tagErr _ => decide (pc < 128) && decide (tagErr < 4)
  | .writeBurstComplete pc => decide (pc < 128)
  | .pageTimerExpiry pc bank => decide (pc < 128) && decide (bank < 64)
  | .refresh pc bank _ => decide (pc < 128) && decide (bank < 64)
  | .actEpoch pc bank => decide (pc < 128) && decide (bank < 64)
  | .targetedRefresh pc bank => decide (pc < 128) && decide (bank < 64)
  | .selfRefreshEntry pc => decide (pc < 128)
  | .selfRefreshExit pc => decide (pc < 128)
  | .schedMismatch cg _ _ => decide (cg < 32)
  | .caRetry pc bank => decide (pc < 128) && decide (bank < 64)
  | .fenceDrain cg => decide (cg < 32)
  | .cgFenceClear cg => decide (cg < 32)
  | .eccInjGo value => decide (value < 2 ^ 32)
  | .scrubRead pc _ _ => decide (pc < 128)
  | .scrubLate => true
  | .promptScrub cg _ => decide (cg < 32)
  | .pinWindow pc => decide (pc < 128)
  | .repRemapRow entry => decide (entry < 2048)
  | .repRetireSpare entry => decide (entry < 2048)
  | .repReadEntry entry => decide (entry < 2048)
  | .remapRead cg _ => decide (cg < 32)
  | .remapWrite cg => decide (cg < 32)
  | .cremaRead bank ini _ => decide (bank < 256) && decide (ini < 17)
  | .cremaWrite bank ini => decide (bank < 256) && decide (ini < 17)
  | .cremaRmw bank ini _ => decide (bank < 256) && decide (ini < 17)
  | .patrolStep bank _ => decide (bank < 256)
  | .cremaPatrolLate bank => decide (bank < 256)
  | .ceBankWindow bank => decide (bank < 256)
  | .cremaInit => true
  | .crmInjGo value => decide (value < 2 ^ 32)
  | .crmFenceClear bank => decide (bank < 256)
  | .enq port head data => decide (port < 12) && head.wf && slotsWf data
  | .deq port head => decide (port < 12) && head.wf
  | .cellWordRead _ => true
  | .linkRead qid => decide (qid < 65536)
  | .pageFree pool page => decide (pool < 16) && decide (page < 2 ^ 24)
  | .refill pool => decide (pool < 16)
  | .spill pool => decide (pool < 16)
  | .qstat port head => decide (port < 12) && head.wf
  | .qEnable port head => decide (port < 12) && head.wf
  | .qDisable port head => decide (port < 12) && head.wf
  | .qFlush port head => decide (port < 12) && head.wf
  | .qSetLimit port head => decide (port < 12) && head.wf
  | .qSetProt port head => decide (port < 12) && head.wf
  | .queDrainTimeout qid => decide (qid < 65536)
  | .walkRead qid => decide (qid < 65536)
  | .reclaim => true
  | .tblProbe port head data => decide (port < 12) && head.wf && slotsWf data
  | .tblInsert port head data => decide (port < 12) && head.wf && slotsWf data
  | .displacementMove _ => true
  | .tblDelete port head data => decide (port < 12) && head.wf && slotsWf data
  | .lockGrant _ => true
  | .tblLockStall _ => true
  | .tblDefine => true
  | .tblRetire => true
  | .tblMove => true
  | .bucketCopy => true
  | .tableEmptying tid => decide (tid < 64)
  | .cupd port head => decide (port < 12) && head.wf
  | .counterFlush csid index => decide (csid < 64) && decide (index < 2 ^ 29)
  | .cread port head => decide (port < 12) && head.wf
  | .cclr port head => decide (port < 12) && head.wf
  | .crebuild port head => decide (port < 12) && head.wf
  | .rebuildScanEnd => true
  | .checkpointSweep => true
  | .slice => true
  | .windowStart label => decide (label < 256)
  | .shareRelease => true
  | .urgencyRise _ => true
  | .shrinkRecompute => true
  | .labelCommit => true
  | .kldLoad slot => decide (slot < 64)
  | .kldClear slot => decide (slot < 64)
  | .keyLoadDrainEnd => true
  | .keyLoadTimeout => true
  | .mkDecrypt => true
  | .attestationRequest => true
  | .reportFormed => true
  | .tagCacheEviction line err => decide (line < 2 ^ 34) && decide (err < 4)
  | .helloSend => true
  | .helloRecv role mode _ current => decide (role < 4) && decide (mode < 16) && decide (current < 2 ^ 64)
  | .hbSend => true
  | .hbRecv role mode _ current => decide (role < 4) && decide (mode < 16) && decide (current < 2 ^ 64)
  | .hbTimeout => true
  | .answerTimeout => true
  | .leaveRecv mode => decide (mode < 16)
  | .mwrRecv xid line _ _ _ urg label entry data => decide (xid < 65536) && decide (line < 2 ^ 34) && decide (urg < 4) && decide (label < 256) && decide (entry.length = 0 ∨ entry.length = 9) && data.length == 64
  | .mcmtRecv xid status => decide (xid < 65536) && decide (status < 16)
  | .mexecRecv xid op head data => decide (xid < 65536) && decide (op < 256) && head.wf && slotsWf data
  | .mresRecv xid status rflags pmask result data => decide (xid < 65536) && decide (status < 16) && decide (rflags < 256) && decide (pmask < 16) && decide (result < 2 ^ 64) && slotsWf data
  | .cdeltaRecv csid index dp db => decide (csid < 64) && decide (index < 2 ^ 29) && decide (dp < 65536) && decide (db < 2 ^ 32)
  | .csetRecv csid index _ epoch pkts bytes => decide (csid < 64) && decide (index < 2 ^ 29) && decide (epoch < 2 ^ 32) && decide (pkts < 2 ^ 64) && decide (bytes < 2 ^ 64)
  | .cmarkRecv time => decide (time < 2 ^ 64)
  | .qckptRecv qid state pool _ limit cells pkts bytes => decide (qid < 65536) && decide (state < 4) && decide (pool < 16) && decide (limit < 2 ^ 28) && decide (cells < 2 ^ 32) && decide (pkts < 2 ^ 32) && decide (bytes < 2 ^ 64)
  | .roleRecv role _ => decide (role < 4)
  | .rsyncRecv code region => decide (code < 5) && decide (region < 64)
  | .resyncCopyRead => true
  | .roleChange role => decide (role < 4)
  | .roleChangeTimeout => true
  | .pairResync _ => true
  | .sensorSample sensor code => decide (sensor < 128) && decide (code < 4096)
  | .regionVoltageSample region mv => decide (region < 16) && decide (mv < 4096)
  | .spreadClear region => decide (region < 16)
  | .rearm sensor => decide (sensor < 128)
  | .coreDieCompare _ => true
  | .deepTripBSample code => decide (code < 4096)
  | .drainComplete => true
  | .drainTimeout => true
  | .sleepEntry => true
  | .pointOfNoReturn => true
  | .wakePin _ => true
  | .activity _ => true
  | .pwrTimer => true
  | .pwrWakeCmd => true
  | .wakeLatch => true
  | .wakeRestore _ => true
  | .deepWake => true
  | .calSet cg level pc lane value => decide (cg < 32) && decide (level < 4) && decide (pc < 4) && decide (lane < 128) && decide (value < 2 ^ 21)
  | .calSteep cg level pc lane value => decide (cg < 32) && decide (level < 4) && decide (pc < 4) && decide (lane < 128) && decide (value < 2 ^ 21)
  | .calTsvSwap cg level pc lane value => decide (cg < 32) && decide (level < 4) && decide (pc < 4) && decide (lane < 128) && decide (value < 2 ^ 21)
  | .calRead cg level pc lane => decide (cg < 32) && decide (level < 4) && decide (pc < 4) && decide (lane < 128)
  | .steepWindow pc bank _ => decide (pc < 128) && decide (bank < 64)
  | .laneRetrain => true
  | .faultMessage source => decide (source < 256)
  | .eventMessage port => decide (port < 12)
  | .graceExpiry slot => decide (slot < 64)
  | .acknowledge source seq => decide (source < 256) && decide (seq < 2 ^ 32)
  | .testMessage source kind sev addr => decide (source < 256) && decide (kind < 64) && decide (sev < 4) && decide (addr < 2 ^ 40)
  | .fltSbPop => true
  | .selftestComplete _ _ _ _ _ _ => true
  | .rowTest pc bank row alg => decide (pc < 128) && decide (bank < 64) && decide (row < 8192) && decide (alg < 16)
  | .spareTest pc bank spare alg => decide (pc < 128) && decide (bank < 64) && decide (spare < 16) && decide (alg < 16)
  | .cremaBank bank alg => decide (bank < 256) && decide (alg < 16)
  | .fullCg pc alg => decide (pc < 128) && decide (alg < 16)
  | .fullCrema bank alg => decide (bank < 256) && decide (alg < 16)
  | .bistElement _ _ => true
  | .retentionPause _ => true
  | .bistTimeout _ => true
  | .sparePeriod => true
  | .snapPin => true
  | .snapUnlock => true
  | .snapRelease => true
  | .levelSample m => decide (m < 64)
  | .monClr m => decide (m < 64)
  | .obsMonCfgWrite m _ value => decide (m < 64) && decide (value < 2 ^ 32)
  | .calibrationComplete _ => true
  | .sensorConversionTimeout sensor => decide (sensor < 128)
  | .railInRange rail => decide (rail < 7)
  | .driftWindow pc drift => decide (pc < 128) && decide (drift.lane < 66) && drift.seen.all fun e => decide (e.1 < 2) && decide (e.2.1 < 2)
  | .throttleLimitEnd zone => decide (zone < 4)
  | .deficitLimitEnd => true

end Sys2Proof
end

