-- ==== Sys2Proof/Tests/Slice0.lean ====
section
/-! SUPPORT. Tests: ill-formed commands, the decoder, and for every statement with hypotheses a state and operands that
meet them. `witness_<Statement>` holds, clause by clause, the hypotheses of that statement at a small concrete state. -/

namespace Sys2Proof.Tests

open Machine

/-! ### Small states -/

/-- The state after reset in mode `m`. -/
def inMode (m : Nat) : State := State.reset.wr Fd.GLB_MODE_MODE m

/-- SERVICE. -/
def svc : State := inMode mSERVICE

/-- LOCKDOWN by Trip B. -/
def trip : State := (inMode mLOCKDOWN).wr Fd.GLB_MODE_TRIPB 1

/-- Power is off. -/
def unpowered : State := { State.reset with pins := { State.reset.pins with pwrOk := false } }

/-- RESET_N is low. -/
def pinLow : State := { State.reset with pins := { State.reset.pins with resetN := false } }

/-- A state with these outstanding requests. -/
def withTxns (s : State) (l : List Txn) : State := { s with req := { s.req with txns := l } }

/-- A state with another sequencer. -/
def withSeq (s : State) (f : Seq → Seq) : State := { s with seq := f s.seq }

/-- A state with other clock values. -/
def withClk (s : State) (f : Clk → Clk) : State := { s with clk := f s.clk }

/-- A state with another boot. -/
def withBoot (s : State) (f : Boot → Boot) : State := { s with boot := f s.boot }

/-- A state with other flash values. -/
def withNvm (s : State) (f : Nvm → Nvm) : State := { s with nvm := f s.nvm }

/-- A state with other fuse values. -/
def withOtp (s : State) (f : Otp → Otp) : State := { s with otp := f s.otp }

/-- A state with another link of port n. -/
def withLink (s : State) (n : Nat) (f : Link → Link) : State := s.setLink n (f (s.link n))

/-- A state with other regulator values. -/
def withRgl (s : State) (f : Rgl → Rgl) : State := { s with rgl := f s.rgl }

/-- A state with another pseudo-channel 0. -/
def withPc0 (s : State) (f : Pc → Pc) : State := s.setPc 0 (f (s.pc 0))

/-- Bank 0 of pseudo-channel 0 made to hold this. -/
def withBank0 (s : State) (b : Bank) : State := withPc0 s fun p => p.setBank 0 b

/-- A state with other repair records. -/
def withEcc (s : State) (f : Ecc → Ecc) : State := { s with ecc := f s.ecc }

/-- A state with other Crema values. -/
def withCrm (s : State) (f : Crm → Crm) : State := { s with crm := f s.crm }

/-- A state with other queue-engine values. -/
def withQue (s : State) (f : Que → Que) : State := { s with que := f s.que }

/-- A state with other table-engine values. -/
def withTbl (s : State) (f : Tbl → Tbl) : State := { s with tbl := f s.tbl }

/-- A state with other counter-engine values. -/
def withCnt (s : State) (f : Cnt → Cnt) : State := { s with cnt := f s.cnt }

/-- A state with other crypto-unit values. -/
def withSec (s : State) (f : Sec → Sec) : State := { s with sec := f s.sec }

/-- A state with other pair values. -/
def withPair (s : State) (f : Pair → Pair) : State := { s with pair := f s.pair }

/-- A state with other Kettle values. -/
def withThm (s : State) (f : Thm → Thm) : State := { s with thm := f s.thm }

/-- A state with other power values. -/
def withPwr (s : State) (f : Pwr → Pwr) : State := { s with pwr := f s.pwr }

/-- A state with other calibration values. -/
def withCal (s : State) (f : Cal → Cal) : State := { s with cal := f s.cal }

/-- A state with other collector values. -/
def withFlt (s : State) (f : Flt → Flt) : State := { s with flt := f s.flt }

/-- A state with other self-test values. -/
def withBst (s : State) (f : Bst → Bst) : State := { s with bst := f s.bst }

theorem test_reset_live : State.reset.inReset = false := by decide

/-- No row of the opcode table gives bits, so no word spells a command. -/
theorem test_no_word : decodeTableWord 8 0 = none ∧ decodeTableWord 32 0xFFFFFFFF = none := by decide

/-! ### Well-formed commands: each check refuses a term that breaks it alone, at the first value out of range, and takes
the last value in range -/

def hd0 : ReqHead := { reqId := 0, tag := 0, label := 0, addr := 0, lenArg := 0, flags := 0, spec := 0 }

/-- A received flit at the start of a period. -/
def rx0 : RxFlit := { pos := 0, words := [0] }

def zeros (n : Nat) : List Byte := List.replicate n 0

/-- Every term is ill-formed. -/
def allBad (l : List Instr) : Bool := l.all fun i => !i.wf

/-- Every term is well-formed. -/
def allGood (l : List Instr) : Bool := l.all Instr.wf

theorem test_head_wf : hd0.wf = true ∧ ({ hd0 with reqId := 4096 } : ReqHead).wf = false ∧
    ({ hd0 with tag := 4096 } : ReqHead).wf = false ∧ ({ hd0 with label := 256 } : ReqHead).wf = false ∧
    ({ hd0 with addr := 2 ^ 40 } : ReqHead).wf = false ∧ ({ hd0 with lenArg := 65536 } : ReqHead).wf = false ∧
    ({ hd0 with flags := 256 } : ReqHead).wf = false ∧ ({ hd0 with spec := 2 ^ 24 } : ReqHead).wf = false := by decide

set_option exponentiation.threshold 6000 in
set_option maxRecDepth 20000 in
theorem test_flit_wf : rx0.wf = true ∧ ({ rx0 with pos := 495 } : RxFlit).wf = false ∧
    ({ rx0 with words := [] } : RxFlit).wf = false ∧ ({ rx0 with words := [0, 0] } : RxFlit).wf = false ∧
    ({ rx0 with words := [2 ^ 5440] } : RxFlit).wf = false ∧ ({ rx0 with words := [2 ^ 5440 - 1] } : RxFlit).wf = true ∧
    ({ pos := 5, words := [0, 0] } : RxFlit).wf = true ∧ ({ pos := 5, words := [0] } : RxFlit).wf = false ∧
    ({ pos := 494, words := [0] } : RxFlit).wf = true := by decide

set_option maxRecDepth 20000 in
theorem test_ill_formed_1 : allBad [
    .registerWrite 17 0 0, .registerWrite 0 (2 ^ 24) 0, .registerWrite 0 0 (2 ^ 32), .readClear (2 ^ 24),
    .lockWrite (2 ^ 24), .resetNRelease [] 4, .railWarn 7 0, .railWarn 0 4096, .railFail 7 0, .railFail 0 4096,
    .mcSel 2, .spiSel 2, .clkGatePort 13 false, .clkGateCg 32 false, .quiesceAck 48, .gateRefused 48, .gateOpen 32,
    .glbModeReq 16 0 false, .glbModeReq 0 4 false, .slotSelect 2, .recordWrite 6 [], .recordWrite 0 (zeros 4033),
    .updBegin 16 0 0, .updBegin 0 4 0, .updBegin 0 0 (2 ^ 32), .nvmUpdData 16 0, .nvmUpdData 0 (2 ^ 32),
    .updFinish 16 0, .updFinish 0 (2 ^ 256), .updCancel 16, .fuseProgram 512 0, .fuseProgram 0 (2 ^ 64),
    .otpProg (2 ^ 64) 0, .otpProg 0 3, .jtagInstruction { function := 4 }, .setdasa 128 0, .setdasa 0 128, .entdaa 128,
    .sidebandWrite (zeros 81), .bringup 13] = true := by decide

set_option maxRecDepth 20000 in
theorem test_ill_formed_2 : allBad [
    .laneLock 13 0 ⟨0, 0, 0, 0, []⟩, .laneLock 0 9 ⟨0, 0, 0, 0, []⟩, .laneLock 0 0 ⟨8, 3, 0, 0, []⟩, .lockLost 13 0, .lockLost 0 9,
    .linkFramesStart (13, 0), .linkFramesStart (0, 4096), .bringupLate 13,
    .lm0 13 0 [] (0, 0) (0, 0) none, .lm0 0 9 [] (0, 0) (0, 0) none, .lm0 0 0 [4] (0, 0) (0, 0) none,
    .lm0 0 0 [] (4, 0) (0, 0) none, .lm0 0 0 [] (0, 2 ^ 64) (0, 0) none, .lm0 0 0 [] (0, 0) (4, 0) none,
    .lm0 0 0 [] (0, 0) (0, 2 ^ 64) none, .lm1 13 [], .lm1 0 [(9, 0)], .lm1 0 [(0, 2 ^ 64)], .lm2 13 [], .lm2 0 [(9, 0)],
    .lm2 0 [(0, 2 ^ 64)], .laneFlag 13 0 0 false, .laneFlag 0 9 0 false, .laneFlag 0 0 17 false, .spareReady 13 [], .spareReady 0 [(9, 0, 0)], .spareReady 0 [(0, 3, 8)],
    .laneFailed 13, .laneSwapRx 13 0, .laneSwapRx 0 9, .laneSwapTx 13 0, .laneSwapTx 0 9, .swapAnnounce 13 0,
    .swapAnnounce 0 65536, .laneSwap 13 false, .laneTest 13 false, .prbsInj 13 0, .prbsInj 0 9,
    .periodicInjection 13 0, .periodicInjection 0 9, .flitTransmit 13, .rekeyKeyReady 13, .dataFlit 13 rx0,
    .dataFlit 0 { rx0 with words := [] }, .idleFlit 13 rx0, .idleFlit 0 { rx0 with words := [] }, .nakFlit 13 rx0,
    .nakFlit 0 { rx0 with words := [] }, .initFlit 13 rx0, .initFlit 0 { rx0 with words := [] }] = true := by decide

set_option maxRecDepth 20000 in
theorem test_ill_formed_3 : allBad [
    .holdFlit 13 rx0, .holdFlit 0 { rx0 with words := [] }, .tagFlit 13 rx0, .tagFlit 0 { rx0 with words := [] },
    .nakResend 13, .replayTimeout 13, .replayAgeExpiry 13, .rd64 12 hd0, .rd64 0 { hd0 with addr := 2 ^ 40 },
    .rd128 12 hd0, .rd128 0 { hd0 with addr := 2 ^ 40 }, .rd256 12 hd0, .rd256 0 { hd0 with addr := 2 ^ 40 },
    .wr64 12 hd0 (zeros 64), .wr64 0 { hd0 with addr := 2 ^ 40 } (zeros 64), .wr64 0 hd0 (zeros 63),
    .wr128 12 hd0 (zeros 128), .wr128 0 { hd0 with addr := 2 ^ 40 } (zeros 128), .wr128 0 hd0 (zeros 127),
    .wr256 12 hd0 (zeros 256), .wr256 0 { hd0 with addr := 2 ^ 40 } (zeros 256), .wr256 0 hd0 (zeros 255),
    .wrp 12 hd0 (zeros 80), .wrp 0 { hd0 with addr := 2 ^ 40 } (zeros 80), .wrp 0 hd0 (zeros 79),
    .atomFadd 12 hd0 (zeros 16), .atomFadd 0 { hd0 with addr := 2 ^ 40 } (zeros 16), .atomFadd 0 hd0 (zeros 15),
    .atomCas 12 hd0 (zeros 16), .atomCas 0 { hd0 with addr := 2 ^ 40 } (zeros 16), .atomCas 0 hd0 (zeros 15),
    .atomSwap 12 hd0 (zeros 16), .atomSwap 0 { hd0 with addr := 2 ^ 40 } (zeros 16), .atomSwap 0 hd0 (zeros 15),
    .atomMin 12 hd0 (zeros 16), .atomMin 0 { hd0 with addr := 2 ^ 40 } (zeros 16), .atomMin 0 hd0 (zeros 15),
    .atomMax 12 hd0 (zeros 16), .atomMax 0 { hd0 with addr := 2 ^ 40 } (zeros 16), .atomMax 0 hd0 (zeros 15)] = true := by decide

set_option maxRecDepth 20000 in
theorem test_ill_formed_4 : allBad [
    .atomAnd 12 hd0 (zeros 16), .atomAnd 0 { hd0 with addr := 2 ^ 40 } (zeros 16), .atomAnd 0 hd0 (zeros 15),
    .atomOr 12 hd0 (zeros 16), .atomOr 0 { hd0 with addr := 2 ^ 40 } (zeros 16), .atomOr 0 hd0 (zeros 15),
    .fenceReq 12 hd0, .fenceReq 0 { hd0 with addr := 2 ^ 40 }, .snapReq 12 hd0,
    .snapReq 0 { hd0 with addr := 2 ^ 40 }, .mgmtRd 12 hd0, .mgmtRd 0 { hd0 with addr := 2 ^ 40 },
    .mgmtWr 12 hd0 (zeros 16), .mgmtWr 0 { hd0 with addr := 2 ^ 40 } (zeros 16), .mgmtWr 0 hd0 (zeros 15),
    .authReq 12 hd0 (zeros 64), .authReq 0 { hd0 with addr := 2 ^ 40 } (zeros 64), .authReq 0 hd0 (zeros 63),
    .rgnCommit 64, .rgnFenceClear 64, .readQueueEntry 128 0, .readQueueEntry 0 17, .writeQueueEntry 128 0,
    .writeQueueEntry 0 17, .merge 128 0, .merge 0 17, .commandIssue 128 [], .dramReadData 128 [] 0 [],
    .dramReadData 0 [] 4 [], .writeBurstComplete 128, .pageTimerExpiry 128 0, .pageTimerExpiry 0 64,
    .refresh 128 0 false, .refresh 0 64 false, .actEpoch 128 0, .actEpoch 0 64, .targetedRefresh 128 0,
    .targetedRefresh 0 64, .selfRefreshEntry 128, .selfRefreshExit 128] = true := by decide

set_option maxRecDepth 20000 in
theorem test_ill_formed_5 : allBad [
    .schedMismatch 32 false false, .caRetry 128 0, .caRetry 0 64, .fenceDrain 32, .cgFenceClear 32,
    .eccInjGo (2 ^ 32), .scrubRead 128 false [], .promptScrub 32 [], .pinWindow 128, .repRemapRow 2048,
    .repRetireSpare 2048, .repReadEntry 2048, .remapRead 32 [], .remapWrite 32, .cremaRead 256 0 [],
    .cremaRead 0 17 [], .cremaWrite 256 0, .cremaWrite 0 17, .cremaRmw 256 0 [], .cremaRmw 0 17 [],
    .patrolStep 256 [], .cremaPatrolLate 256, .ceBankWindow 256, .crmInjGo (2 ^ 32), .crmFenceClear 256,
    .enq 12 hd0 [], .enq 0 { hd0 with addr := 2 ^ 40 } [], .enq 0 hd0 (zeros 8), .deq 12 hd0,
    .deq 0 { hd0 with addr := 2 ^ 40 }, .linkRead 65536, .pageFree 16 0, .pageFree 0 (2 ^ 24), .refill 16, .spill 16,
    .qstat 12 hd0, .qstat 0 { hd0 with addr := 2 ^ 40 }, .qEnable 12 hd0, .qEnable 0 { hd0 with addr := 2 ^ 40 },
    .qDisable 12 hd0] = true := by decide

set_option maxRecDepth 20000 in
theorem test_ill_formed_6 : allBad [
    .qDisable 0 { hd0 with addr := 2 ^ 40 }, .qFlush 12 hd0, .qFlush 0 { hd0 with addr := 2 ^ 40 }, .qSetLimit 12 hd0,
    .qSetLimit 0 { hd0 with addr := 2 ^ 40 }, .qSetProt 12 hd0, .qSetProt 0 { hd0 with addr := 2 ^ 40 },
    .queDrainTimeout 65536, .walkRead 65536, .tblProbe 12 hd0 [], .tblProbe 0 { hd0 with addr := 2 ^ 40 } [],
    .tblProbe 0 hd0 (zeros 8), .tblInsert 12 hd0 [], .tblInsert 0 { hd0 with addr := 2 ^ 40 } [],
    .tblInsert 0 hd0 (zeros 8), .tblDelete 12 hd0 [], .tblDelete 0 { hd0 with addr := 2 ^ 40 } [],
    .tblDelete 0 hd0 (zeros 8), .tableEmptying 64, .cupd 12 hd0, .cupd 0 { hd0 with addr := 2 ^ 40 },
    .counterFlush 64 0, .counterFlush 0 (2 ^ 29), .cread 12 hd0, .cread 0 { hd0 with addr := 2 ^ 40 }, .cclr 12 hd0,
    .cclr 0 { hd0 with addr := 2 ^ 40 }, .crebuild 12 hd0, .crebuild 0 { hd0 with addr := 2 ^ 40 }, .windowStart 256,
    .kldLoad 64, .kldClear 64, .tagCacheEviction (2 ^ 34) 0, .tagCacheEviction 0 4, .helloRecv 4 0 false 0,
    .helloRecv 0 16 false 0, .helloRecv 0 0 false (2 ^ 64), .hbRecv 4 0 false 0, .hbRecv 0 16 false 0,
    .hbRecv 0 0 false (2 ^ 64)] = true := by decide

set_option maxRecDepth 20000 in
theorem test_ill_formed_7 : allBad [
    .leaveRecv 16, .mwrRecv 65536 0 false false false 0 0 [] (zeros 64),
    .mwrRecv 0 (2 ^ 34) false false false 0 0 [] (zeros 64), .mwrRecv 0 0 false false false 4 0 [] (zeros 64),
    .mwrRecv 0 0 false false false 0 256 [] (zeros 64), .mwrRecv 0 0 false false false 0 0 (zeros 8) (zeros 64),
    .mwrRecv 0 0 false false false 0 0 [] (zeros 63), .mcmtRecv 65536 0, .mcmtRecv 0 16, .mexecRecv 65536 0 hd0 [],
    .mexecRecv 0 256 hd0 [], .mexecRecv 0 0 { hd0 with addr := 2 ^ 40 } [], .mexecRecv 0 0 hd0 (zeros 8),
    .mresRecv 65536 0 0 0 0 [], .mresRecv 0 16 0 0 0 [], .mresRecv 0 0 256 0 0 [], .mresRecv 0 0 0 16 0 [],
    .mresRecv 0 0 0 0 (2 ^ 64) [], .mresRecv 0 0 0 0 0 (zeros 8), .cdeltaRecv 64 0 0 0, .cdeltaRecv 0 (2 ^ 29) 0 0,
    .cdeltaRecv 0 0 65536 0, .cdeltaRecv 0 0 0 (2 ^ 32), .csetRecv 64 0 false 0 0 0, .csetRecv 0 (2 ^ 29) false 0 0 0,
    .csetRecv 0 0 false (2 ^ 32) 0 0, .csetRecv 0 0 false 0 (2 ^ 64) 0, .csetRecv 0 0 false 0 0 (2 ^ 64),
    .cmarkRecv (2 ^ 64), .qckptRecv 65536 0 0 false 0 0 0 0, .qckptRecv 0 4 0 false 0 0 0 0,
    .qckptRecv 0 0 16 false 0 0 0 0, .qckptRecv 0 0 0 false (2 ^ 28) 0 0 0, .qckptRecv 0 0 0 false 0 (2 ^ 32) 0 0,
    .qckptRecv 0 0 0 false 0 0 (2 ^ 32) 0, .qckptRecv 0 0 0 false 0 0 0 (2 ^ 64), .roleRecv 4 false, .rsyncRecv 5 0,
    .rsyncRecv 0 64, .roleChange 4] = true := by decide

set_option maxRecDepth 20000 in
theorem test_ill_formed_8 : allBad [
    .sensorSample 128 0, .sensorSample 0 4096, .regionVoltageSample 16 0, .regionVoltageSample 0 4096,
    .spreadClear 16, .rearm 128, .deepTripBSample 4096, .calSet 32 0 0 0 0, .calSet 0 4 0 0 0, .calSet 0 0 4 0 0,
    .calSet 0 0 0 128 0, .calSet 0 0 0 0 (2 ^ 21), .calSteep 32 0 0 0 0, .calSteep 0 4 0 0 0, .calSteep 0 0 4 0 0,
    .calSteep 0 0 0 128 0, .calSteep 0 0 0 0 (2 ^ 21), .calTsvSwap 32 0 0 0 0, .calTsvSwap 0 4 0 0 0,
    .calTsvSwap 0 0 4 0 0, .calTsvSwap 0 0 0 128 0, .calTsvSwap 0 0 0 0 (2 ^ 21), .calRead 32 0 0 0, .calRead 0 4 0 0,
    .calRead 0 0 4 0, .calRead 0 0 0 128, .steepWindow 128 0 [], .steepWindow 0 64 [], .faultMessage 256,
    .eventMessage 12, .graceExpiry 64, .acknowledge 256 0, .acknowledge 0 (2 ^ 32), .testMessage 256 0 0 0,
    .testMessage 0 64 0 0, .testMessage 0 0 4 0, .testMessage 0 0 0 (2 ^ 40), .rowTest 128 0 0 0, .rowTest 0 64 0 0,
    .rowTest 0 0 8192 0] = true := by decide

set_option maxRecDepth 20000 in
theorem test_ill_formed_9 : allBad [
    .rowTest 0 0 0 16, .spareTest 128 0 0 0, .spareTest 0 64 0 0, .spareTest 0 0 16 0, .spareTest 0 0 0 16,
    .cremaBank 256 0, .cremaBank 0 16, .fullCg 128 0, .fullCg 0 16, .fullCrema 256 0, .fullCrema 0 16,
    .levelSample 64, .monClr 64, .obsMonCfgWrite 64 false 0, .obsMonCfgWrite 0 false (2 ^ 32),
    .sensorConversionTimeout 128, .railInRange 7, .driftWindow 128 ⟨0, []⟩, .driftWindow 0 ⟨66, []⟩, .driftWindow 0 ⟨0, [(2, 0, 0)]⟩,
    .driftWindow 0 ⟨0, [(0, 2, 0)]⟩, .throttleLimitEnd 4] = true := by decide

set_option maxRecDepth 20000 in
theorem test_well_formed_1 : allGood [
    .registerWrite 16 (2 ^ 24 - 1) (2 ^ 32 - 1), .readClear (2 ^ 24 - 1), .lockWrite (2 ^ 24 - 1),
    .resetNRelease [] 3, .railWarn 6 4095, .railFail 6 4095, .mcSel 1, .spiSel 1, .clkGatePort 12 false,
    .clkGateCg 31 false, .quiesceAck 47, .gateRefused 47, .gateOpen 31, .glbModeReq 15 3 false, .slotSelect 1,
    .recordWrite 5 [], .updBegin 15 3 (2 ^ 32 - 1), .nvmUpdData 15 (2 ^ 32 - 1), .updFinish 15 (2 ^ 256 - 1),
    .updCancel 15, .fuseProgram 511 (2 ^ 64 - 1), .otpProg (2 ^ 64 - 1) 2, .jtagInstruction { function := 3 }, .setdasa 127 127,
    .entdaa 127, .sidebandWrite [], .bringup 12, .laneLock 12 8 ⟨7, 3, 0, 0, []⟩, .lockLost 12 8, .linkFramesStart (12, 4095),
    .bringupLate 12, .lm0 12 8 [3] (3, 2 ^ 64 - 1) (3, 2 ^ 64 - 1) none, .lm1 12 [(8, 2 ^ 64 - 1)],
    .lm2 12 [(8, 2 ^ 64 - 1)], .laneFlag 12 8 16 false, .spareReady 12 [(8, 3, 7)],
    .laneFailed 12, .laneSwapRx 12 8, .laneSwapTx 12 8, .swapAnnounce 12 65535] = true := by decide

set_option exponentiation.threshold 6000 in
set_option maxRecDepth 20000 in
theorem test_well_formed_2 : allGood [
    .laneSwap 12 false, .laneTest 12 false, .prbsInj 12 8, .periodicInjection 12 8, .flitTransmit 12,
    .rekeyKeyReady 12, .dataFlit 12 rx0, .idleFlit 12 rx0, .nakFlit 12 rx0, .initFlit 12 rx0, .holdFlit 12 rx0,
    .tagFlit 12 rx0, .nakResend 12, .replayTimeout 12, .replayAgeExpiry 12, .rd64 11 hd0, .rd128 11 hd0,
    .rd256 11 hd0, .wr64 11 hd0 (zeros 64), .wr128 11 hd0 (zeros 128), .wr256 11 hd0 (zeros 256),
    .wrp 11 hd0 (zeros 80), .atomFadd 11 hd0 (zeros 16), .atomCas 11 hd0 (zeros 16), .atomSwap 11 hd0 (zeros 16),
    .atomMin 11 hd0 (zeros 16), .atomMax 11 hd0 (zeros 16), .atomAnd 11 hd0 (zeros 16), .atomOr 11 hd0 (zeros 16),
    .fenceReq 11 hd0, .snapReq 11 hd0, .mgmtRd 11 hd0, .mgmtWr 11 hd0 (zeros 16), .authReq 11 hd0 (zeros 64),
    .rgnCommit 63, .rgnFenceClear 63, .readQueueEntry 127 16, .writeQueueEntry 127 16, .merge 127 16,
    .commandIssue 127 []] = true := by decide

set_option maxRecDepth 20000 in
theorem test_well_formed_3 : allGood [
    .dramReadData 127 [] 3 [], .writeBurstComplete 127, .pageTimerExpiry 127 63, .refresh 127 63 false,
    .actEpoch 127 63, .targetedRefresh 127 63, .selfRefreshEntry 127, .selfRefreshExit 127,
    .schedMismatch 31 false false, .caRetry 127 63, .fenceDrain 31, .cgFenceClear 31, .eccInjGo (2 ^ 32 - 1),
    .scrubRead 127 false [], .promptScrub 31 [], .pinWindow 127, .repRemapRow 2047, .repRetireSpare 2047,
    .repReadEntry 2047, .remapRead 31 [], .remapWrite 31, .cremaRead 255 16 [], .cremaWrite 255 16,
    .cremaRmw 255 16 [], .patrolStep 255 [], .cremaPatrolLate 255, .ceBankWindow 255, .crmInjGo (2 ^ 32 - 1),
    .crmFenceClear 255, .enq 11 hd0 [], .deq 11 hd0, .linkRead 65535, .pageFree 15 (2 ^ 24 - 1), .refill 15,
    .spill 15, .qstat 11 hd0, .qEnable 11 hd0, .qDisable 11 hd0, .qFlush 11 hd0, .qSetLimit 11 hd0] = true := by decide

set_option maxRecDepth 20000 in
theorem test_well_formed_4 : allGood [
    .qSetProt 11 hd0, .queDrainTimeout 65535, .walkRead 65535, .tblProbe 11 hd0 [], .tblInsert 11 hd0 [],
    .tblDelete 11 hd0 [], .tableEmptying 63, .cupd 11 hd0, .counterFlush 63 (2 ^ 29 - 1), .cread 11 hd0, .cclr 11 hd0,
    .crebuild 11 hd0, .windowStart 255, .kldLoad 63, .kldClear 63, .tagCacheEviction (2 ^ 34 - 1) 3,
    .helloRecv 3 15 false (2 ^ 64 - 1), .hbRecv 3 15 false (2 ^ 64 - 1), .leaveRecv 15,
    .mwrRecv 65535 (2 ^ 34 - 1) false false false 3 255 [] (zeros 64), .mcmtRecv 65535 15,
    .mexecRecv 65535 255 hd0 [], .mresRecv 65535 15 255 15 (2 ^ 64 - 1) [],
    .cdeltaRecv 63 (2 ^ 29 - 1) 65535 (2 ^ 32 - 1),
    .csetRecv 63 (2 ^ 29 - 1) false (2 ^ 32 - 1) (2 ^ 64 - 1) (2 ^ 64 - 1), .cmarkRecv (2 ^ 64 - 1),
    .qckptRecv 65535 3 15 false (2 ^ 28 - 1) (2 ^ 32 - 1) (2 ^ 32 - 1) (2 ^ 64 - 1), .roleRecv 3 false,
    .rsyncRecv 4 63, .roleChange 3, .sensorSample 127 4095, .regionVoltageSample 15 4095, .spreadClear 15, .rearm 127,
    .deepTripBSample 4095, .calSet 31 3 3 127 (2 ^ 21 - 1), .calSteep 31 3 3 127 (2 ^ 21 - 1),
    .calTsvSwap 31 3 3 127 (2 ^ 21 - 1), .calRead 31 3 3 127, .steepWindow 127 63 []] = true := by decide

set_option maxRecDepth 20000 in
theorem test_well_formed_5 : allGood [
    .faultMessage 255, .eventMessage 11, .graceExpiry 63, .acknowledge 255 (2 ^ 32 - 1),
    .testMessage 255 63 3 (2 ^ 40 - 1), .rowTest 127 63 8191 15, .spareTest 127 63 15 15, .cremaBank 255 15,
    .fullCg 127 15, .fullCrema 255 15, .levelSample 63, .monClr 63, .obsMonCfgWrite 63 false (2 ^ 32 - 1),
    .sensorConversionTimeout 127, .railInRange 6, .driftWindow 127 ⟨65, [(1, 1, 0)]⟩, .throttleLimitEnd 3] = true := by decide

/-! ### Steps, reset and power -/

/-- A request to outstanding work, running. -/
def txn0 : Txn := { id := 0, port := 0, op := opRD64, head := hd0, payload := [], stage := .running, label := 0 }

theorem leNat_leBytes (n x : Nat) : leNat (leBytes n x) = x % 256 ^ n := by
  induction n generalizing x with
  | zero => simp [leBytes, leNat, Nat.mod_one]
  | succ n ih =>
    simp only [leBytes, leNat, ih, BitVec.toNat_ofNat]
    rw [@Nat.pow_succ 256 n, Nat.mul_comm (256 ^ n) 256, Nat.mod_mul]

theorem leBytes_length (n x : Nat) : (leBytes n x).length = n := by
  induction n generalizing x with
  | zero => rfl
  | succ n ih => simp [leBytes, ih]

/-- The header's first half and the payload of a persist record with counter 7. -/
def recHead : List Byte := leBytes 4 0x544F4C53 ++ leBytes 2 0x105 ++ zeros 10 ++ leBytes 4 128 ++ zeros 12

def recBody : List Byte := leBytes 8 7 ++ zeros 120

/-- Power is off, and slot 8 holds that record but for its digest. -/
def undigested : State := (unpowered.program (slotBase 8) recHead).program (slotBase 8 + 64) recBody

/-- Power is off, and slot 8 holds the record. -/
def persisted : State := undigested.program (slotBase 8 + 0x20) (leBytes 32 (Config.sm3 (recHead ++ recBody)))

theorem persisted_other (b n : Nat) (h : b + n ≤ slotBase 8 + 0x20 ∨ slotBase 8 + 0x20 + 32 ≤ b) :
    persisted.flashBytes b n = undigested.flashBytes b n :=
  flashBytes_program_other _ _ _ _ _ (by rw [leBytes_length]; exact h)

set_option maxRecDepth 20000 in
theorem undigested_bytes : undigested.flashBytes (slotBase 8) 32 = recHead ∧
    undigested.flashBytes (slotBase 8 + 64) 128 = recBody ∧ undigested.headerOk 8 = true ∧
    undigested.slotWord 8 0x10 = 128 ∧ undigested.headerOk 9 = false ∧ undigested.headerOk 11 = false ∧
    undigested.headerOk 12 = false ∧ undigested.stopped 5 = false := by decide

theorem persisted_word (k off : Nat) (h : slotBase k + off + 4 ≤ slotBase 8 + 0x20 ∨ slotBase 8 + 0x20 + 32 ≤ slotBase k + off) :
    persisted.slotWord k off = undigested.slotWord k off := by
  unfold State.slotWord; rw [persisted_other _ _ h]

theorem persisted_payload_winner : persisted.slotPayload 8 = recBody ∧ persisted.winner 4 = some 0 := by
  have hd : persisted.flashBytes (slotBase 8 + 0x20) 32 = leBytes 32 (Config.sm3 (recHead ++ recBody)) := by
    have h := flashBytes_program_same undigested (slotBase 8 + 0x20) (leBytes 32 (Config.sm3 (recHead ++ recBody)))
    rwa [leBytes_length] at h
  have hw (o : Nat) (h : o + 4 ≤ 0x20) := persisted_word 8 o (by omega)
  have hk (k : Nat) (h : slotBase 8 + 0x20 + 32 ≤ slotBase k) : persisted.headerOk k = undigested.headerOk k := by
    unfold State.headerOk
    rw [persisted_word k 0 (by omega), persisted_word k 4 (by omega), persisted_word k 0x10 (by omega)]
  obtain ⟨b1, b2, b3, b4, b5, b6, b7, b8⟩ := undigested_bytes
  have hl : persisted.slotLen 8 = 128 := by
    unfold State.slotLen; rw [hw _ (by decide), b4]; decide
  have hp : persisted.slotPayload 8 = recBody := by
    unfold State.slotPayload; rw [hl, persisted_other _ _ (by decide), b2]
  have e1 : persisted.digestOk 8 = true := by
    unfold State.digestOk
    rw [hd, hp, persisted_other _ _ (by decide), b1, leNat_leBytes]
    exact beq_self_eq_true _
  have e2 : persisted.headerOk 8 = true := by
    unfold State.headerOk at b3 ⊢
    rw [hw 0 (by decide), hw 4 (by decide), hw 0x10 (by decide)]; exact b3
  have e3 : persisted.contentOk 8 = true := by
    have h : slotKind 8 = 5 := rfl
    unfold State.contentOk
    rw [h, hl]
    rfl
  have e4 : persisted.headerOk 9 = false := (hk 9 (by decide)).trans b5
  have e5 : persisted.stopped 5 = false := by
    unfold State.stopped persisted at *
    rw [rd_program]; exact b8
  have e6 : persisted.journal = [] := by
    simp [State.journal, State.jHalf, (hk 11 (by decide)).trans b6, (hk 12 (by decide)).trans b7]
  have h : persisted.winner 4 = some 0 := by
    simp [State.winner, State.slotFault, e1, e2, e3, e4, e5, e6, openBegins]
  exact ⟨hp, h⟩

theorem persisted_payload : persisted.slotPayload (8 + 0) = recBody := persisted_payload_winner.1

theorem persisted_winner : persisted.winner 4 = some 0 := persisted_payload_winner.2

theorem persisted_owed : persisted.nvm.owed.contains 4 = false := by
  unfold persisted
  rw [program_frame]
  decide

theorem persisted_flashP : persisted.flashP = some 7 := by
  simp only [State.flashP, persisted_winner, Option.map_some, persisted_payload]
  decide

/-- The header's first half of a firmware slot with no payload. -/
def fwHead : List Byte := leBytes 4 0x544F4C53 ++ leBytes 2 0x101 ++ zeros 26

/-- Slot 0 holds that slot with its digest. -/
def fwIn (u : State) : State :=
  (u.program (slotBase 0) fwHead).program (slotBase 0 + 0x20) (leBytes 32 (Config.sm3 (fwHead ++ [])))

theorem fwIn_valid (u : State) (h : (u.program (slotBase 0) fwHead).headerOk 0 = true ∧
    (u.program (slotBase 0) fwHead).slotWord 0 0x10 = 0 ∧ (u.program (slotBase 0) fwHead).headerOk 11 = false ∧
    (u.program (slotBase 0) fwHead).headerOk 12 = false ∧ u.stopped 5 = false) : (fwIn u).slotFault 0 = none := by
  obtain ⟨h1, h2, h3, h4, h5⟩ := h
  have hd : (fwIn u).flashBytes (slotBase 0 + 0x20) 32 = leBytes 32 (Config.sm3 (fwHead ++ [])) := by
    have h := flashBytes_program_same (u.program (slotBase 0) fwHead) (slotBase 0 + 0x20)
      (leBytes 32 (Config.sm3 (fwHead ++ [])))
    rwa [leBytes_length] at h
  have ho (b n : Nat) (h : b + n ≤ slotBase 0 + 0x20 ∨ slotBase 0 + 0x20 + 32 ≤ b) :
      (fwIn u).flashBytes b n = (u.program (slotBase 0) fwHead).flashBytes b n :=
    flashBytes_program_other _ _ _ _ _ (by rw [leBytes_length]; exact h)
  have hw (k off : Nat) (h : slotBase k + off + 4 ≤ slotBase 0 + 0x20 ∨ slotBase 0 + 0x20 + 32 ≤ slotBase k + off) :
      (fwIn u).slotWord k off = (u.program (slotBase 0) fwHead).slotWord k off := by
    unfold State.slotWord; rw [ho _ _ h]
  have hk (k : Nat) (h : k = 0 ∨ slotBase 0 + 0x20 + 32 ≤ slotBase k) :
      (fwIn u).headerOk k = (u.program (slotBase 0) fwHead).headerOk k := by
    unfold State.headerOk
    rcases h with rfl | h
    · rw [hw 0 0 (by omega), hw 0 4 (by omega), hw 0 0x10 (by omega)]
    · rw [hw k 0 (by omega), hw k 4 (by omega), hw k 0x10 (by omega)]
  have hp : (fwIn u).slotPayload 0 = [] := by
    simp [State.slotPayload, State.slotLen, hw 0 0x10 (by omega), h2, State.flashBytes]
  have hh : (fwIn u).flashBytes (slotBase 0) 32 = fwHead := by
    rw [ho _ _ (by omega)]
    exact flashBytes_program_same u (slotBase 0) fwHead
  have e1 : (fwIn u).digestOk 0 = true := by
    unfold State.digestOk
    rw [hd, hp, hh, leNat_leBytes]
    exact beq_self_eq_true _
  have e2 : (fwIn u).headerOk 0 = true := (hk 0 (.inl rfl)).trans h1
  have e3 : (fwIn u).contentOk 0 = true := rfl
  have e4 : (fwIn u).journal = [] := by
    simp [State.journal, State.jHalf, (hk 11 (by decide)).trans h3, (hk 12 (by decide)).trans h4]
  simp [State.slotFault, e1, e2, e3, e4, openBegins]

/-- The controller restarts with house firmware in slot 0. -/
def restarting : State := withBoot (withSeq svc fun q => { q with mcRestart := true }) fun b => { b with fwRun := true }

theorem witness_StepRunsFrontCommand : ({ svc with pending := [.oscStart, .romStart] } : State).pending =
    .oscStart :: [.romStart] := by decide

theorem witness_IdleStepCountsDeviceTime :
    (State.reset.pending = [] ∧ State.reset.inReset = false ∧ State.reset.bst.house = [] ∧
      (∀ t ∈ (withTxns State.reset [txn0]).req.txns, isMgmt t.op = true → t.stage ≠ .running) ∧
      State.reset.cyc.srcAgain = false ∧ (State.reset.wr Fd.CLK_STAT_TIME_EST 1).on Fd.CLK_STAT_TIME_EST = true) ∧
    (svc.pending = [] ∧ svc.inReset = false ∧ svc.on Fd.CLK_STAT_TIME_EST = false) ∧
    (let u := { svc.wr Fd.CLK_STAT_TIME_EST 1 with cyc := { svc.cyc with srcAgain := true } };
      u.pending = [] ∧ u.cyc.srcAgain = true ∧ u.on Fd.CLK_STAT_ROOT_READY = false ∧ u.on Fd.CLK_STAT_TIME_EST = true ∧
        (u.wr Fd.CLK_STAT_ROOT_READY 1).on Fd.CLK_STAT_ROOT_READY = true) ∧
    (unpowered.pending = [] ∧ unpowered.inReset = true) :=
  ⟨by decide, by decide, by decide, by decide⟩

theorem witness_HeldInResetNothingActs :
    (pinLow.inReset = true ∧ unpowered.inReset = true) ∧
    (∀ p : Option Nat, Instr.oscStart ≠ .resetNLow p) ∧
    (∀ r k, Instr.oscStart ≠ .resetNRelease r k) ∧
    (Instr.oscStart ≠ .pwrOkRise) ∧
    (Instr.oscStart ≠ .pwrOkFall) :=
  ⟨by decide, fun _ => Instr.noConfusion, fun _ _ => Instr.noConfusion, by decide, by decide⟩

theorem witness_ResetPinCommands :
    (svc.pins.pwrOk = true ∧ svc.tripB = false ∧ ∀ n, some 10000 = some n → 10000 ≤ n) ∧
    (99 < 100) ∧
    (trip.pins.pwrOk = true ∧ trip.tripB = true) ∧
    (unpowered.pins.pwrOk = false ∧ unpowered.flashP = none) ∧
    (persisted.pins.pwrOk = false ∧ persisted.flashP = some 7) ∧
    (pinLow.pins.pwrOk = true ∧ pinLow.tripB = false ∧ pinLow.pins.resetN = false) ∧
    (svc.pins.pwrOk = true ∧ svc.pageNow = none) ∧
    (let u := withNvm svc fun n => { n with wr := some ⟨4, 1, 1, [], [], [(0, [1])], false⟩ };
      u.pins.pwrOk = true ∧ u.pageNow ≠ none) :=
  ⟨⟨by decide, by decide, fun n h => by cases h; decide⟩, by decide, by decide, by decide,
    ⟨rfl, persisted_flashP⟩, by decide, by decide, by decide⟩

theorem witness_RailCommands :
    (svc.inReset = false ∧ svc.railOn 0 = true ∧ svc.railOut 0 841 = true ∧ svc.railOut 0 840 = false) ∧
    (svc.railBad 0 719 = true ∧ svc.railBad 0 720 = false) ∧
    (6 < 7 ∧ ({ svc with pins := { svc.pins with coreVsel := 0 } } : State).pins.coreVsel = 0) ∧
    (let u := { svc with pwr := { svc.pwr with coreRose := some 0 }, clk := { svc.clk with time := 8749 } };
      u.pwr.coreRose = some 0 ∧ 0 ≤ u.clk.time ∧ u.clk.time < 2 ^ 64) ∧
    (2 ≤ 4 ∧ 4 < 5 ∧ ({ svc with pins := { svc.pins with pwrEnCore := false } } : State).pins.pwrEnCore = false) :=
  ⟨by decide, by decide, by decide, by decide, by decide⟩

/-! ### Clock -/

theorem witness_OscillatorWindows :
    ((svc.wr Fd.CLK_SRC_TB_CUR 1).on Fd.CLK_SRC_TB_CUR = true ∧ (svc.wr Fd.CLK_SRC_TB_CUR 0).on Fd.CLK_SRC_TB_CUR = false) ∧
    ((withClk svc fun c => { c with oscRunning := true }).clk.oscRunning = true ∧
      (withClk svc fun c => { c with oscRunning := false }).clk.oscRunning = false) ∧
    ((224 : Int).natAbs ≤ 224 ∧ svc.clk.agreeWin = 0 ∧ 1 ≤ (withClk svc fun c => { c with agreeWin := 1 }).clk.agreeWin) ∧
    ((withClk State.reset fun c => { c with noEdgeWin := 15 }).clk.noEdgeWin = 15 ∧
      State.reset.on Fd.CLK_STAT_OSC_READY = false) ∧
    (224 < (225 : Int).natAbs ∧ (withClk State.reset fun c => { c with outWin := 15 }).clk.outWin = 15 ∧
      State.reset.on Fd.CLK_STAT_ROOT_READY = false) ∧
    (svc.clk.outWin = 0 ∧ (svc.wr Fd.CLK_STAT_ROOT_READY 1).on Fd.CLK_STAT_ROOT_READY = true) ∧
    ((State.reset.judge none).trimRef none none = (State.reset.judge none).rd Fd.CLK_STAT_TRIM_REF ∧
      (State.reset.judge none).trimRef none none = 3) ∧
    (let u := ((withClk svc fun c => { c with agreeWin := 2 }).wr Fd.CLK_STAT_ROOT_READY 1).wr Fd.CLK_STAT_TRIM_REF 0;
      (u.judge (some ((11200 : Nat) - 11200 : Int))).trimRef none none = 0 ∧
      (u.judge (some ((11200 : Nat) - 11200 : Int))).rd Fd.CLK_STAT_TRIM_REF = 0) ∧
    ((State.reset.judge none).trimRef (some 0) none = 1 ∧ (State.reset.judge none).rd Fd.CLK_STAT_TRIM_REF ≠ 1) ∧
    ((svc.wr Fd.CLK_STAT_OSC_READY 1).on Fd.CLK_STAT_OSC_READY = true ∧ (3 : Int) ≤ 3 ∧ (-3 : Int) ≤ -3) ∧
    (State.reset.rd Fd.CLK_STAT_TRIM_REF = 3 ∧ 0 ≤ State.reset.aoTempNow + 40 ∧ State.reset.aoTempNow + 40 ≤ 1200) ∧
    (let u := State.reset.setSns 56 { State.reset.sns 56 with sampled := true, ok := true, pass := some 1161 };
      u.rd Fd.CLK_STAT_TRIM_REF = 3 ∧ 1200 < u.aoTempNow + 40) ∧
    ((svc.wr Fd.CLK_STAT_TRIM_REF 2).rd Fd.CLK_STAT_TRIM_REF ≠ 3) :=
  ⟨by decide, by decide, by decide, by decide, by decide, by decide, by decide, by decide, by decide,
    by decide, by decide, by decide, by decide⟩

theorem witness_ClockSources :
    (let u := State.reset.wr Fd.CLK_STAT_REFCLK_OK 1;
      u.on Fd.CLK_STAT_REFCLK_OK = true ∧ u.coreOff = false ∧
        ((svc.wr Fd.CLK_STAT_REFCLK_OK 1).mode ≠ mBOOT ∨ u.on Fd.CLK_SRC_TB_CUR = false)) ∧
    (let u := (State.reset.wr Fd.CLK_STAT_REFCLK_OK 1).wr Fd.CLK_SRC_TB_CUR 1;
      u.on Fd.CLK_STAT_REFCLK_OK = true ∧ u.coreOff = false ∧ u.on Fd.CLK_SRC_TB_CUR = true ∧ u.mode = mBOOT ∧
        u.on Fd.CLK_STAT_HOLD = false) ∧
    (let u := State.reset.wr Fd.CLK_STAT_ROOT_READY 1;
      (u.wr Fd.CLK_SRC_MC_CUR 1).srcReady 0 = true ∧
        0 ≠ ((u.wr Fd.CLK_SRC_MC_CUR 1).wr Fd.CLK_SRC_MC_SEL 0).rd Fd.CLK_SRC_MC_CUR ∧
        0 = ((u.wr Fd.CLK_SRC_MC_CUR 0).wr Fd.CLK_SRC_MC_SEL 0).rd Fd.CLK_SRC_MC_CUR) ∧
    (State.reset.srcReady 0 = false) ∧
    (let u := (State.reset.wr Fd.CLK_STAT_OSC_READY 1).wr Fd.CLK_SRC_SPI_CUR 0;
      u.srcReady 1 = true ∧ 1 ≠ (u.wr Fd.CLK_SRC_SPI_SEL 1).rd Fd.CLK_SRC_SPI_CUR) ∧
    ((withClk svc fun c => { c with mcSwitch := some 1 }).clk.mcSwitch = some 1) ∧
    ((withClk svc fun c => { c with spiSwitch := some 0 }).clk.spiSwitch = some 0) :=
  ⟨by decide, by decide, by decide, by decide, by decide, by decide, by decide⟩

theorem witness_ReferenceLossAndReturn :
    (let s := svc.wr Fd.CLK_STAT_REFCLK_OK 1;
      let u := (({ s with clk := { s.clk with agreeWin := 0, lossTime := s.clk.time } }.wr
        Fd.CLK_STAT_REFCLK_OK 0).wr Fd.CLK_STAT_ROOT_READY 0).wr Fd.CLK_STAT_HOLD 1;
      s.inReset = false ∧ s.on Fd.CLK_STAT_REFCLK_OK = true ∧ s.on Fd.CLK_STAT_HOLD = false ∧ u.coreOff = false) ∧
    (let s := (inMode mDEEP).wr Fd.CLK_STAT_ROOT_READY 1;
      let u := (({ s with clk := { s.clk with agreeWin := 0, lossTime := s.clk.time } }.wr
        Fd.CLK_STAT_REFCLK_OK 0).wr Fd.CLK_STAT_ROOT_READY 0).wr Fd.CLK_STAT_HOLD 1;
      s.inReset = false ∧ s.on Fd.CLK_STAT_ROOT_READY = true ∧ s.on Fd.CLK_STAT_HOLD = false ∧ u.coreOff = true) ∧
    (let s := svc.wr Fd.CLK_STAT_HOLD 1;
      s.on Fd.CLK_STAT_HOLD = true ∧ s.on Fd.CLK_STAT_ROOT_READY = false) ∧
    (let s := ((svc.wr Fd.CLK_STAT_HOLD 1).wr Fd.CLK_STAT_REFCLK_OK 1).wr Fd.CLK_STAT_ROOT_READY 1;
      s.on Fd.CLK_STAT_HOLD = true ∧ s.on Fd.CLK_STAT_REFCLK_OK = true ∧ s.on Fd.CLK_STAT_ROOT_READY = true ∧
        s.coreOff = false) :=
  ⟨by decide, by decide, by decide, by decide⟩

theorem witness_ClockGates :
    ((svc.wrBit Fd.CLK_GATE_PORT_GATE 12 true).clk.portClosed.contains 12 = false) ∧
    (svc.clk.portClosed.contains 0 = false) ∧
    ((withClk svc fun c => { c with portClosed := [12] }).clk.portClosed.contains 12 = true) ∧
    (svc.clk.cgClosed.contains 31 = false ∧ svc.clk.cgAsk.contains 31 = false ∧
      (withClk svc fun c => { c with cgClosed := [31] }).clk.cgClosed.contains 31 = true) ∧
    (let u := withClk svc fun c => { c with portAsk := [12] };
      u.clk.portAsk.contains 12 = true ∧ u.portQuiet 12 = true) ∧
    (let u := (List.range 4).foldl (fun (u : State) i => u.setPc (124 + i) { u.pc (124 + i) with selfRef := true })
        (withClk svc fun c => { c with cgAsk := [31] });
      u.clk.cgAsk.contains 31 = true ∧ u.cgQuiet 31 = true) ∧
    (let u := { withClk svc fun c => { c with cgClosed := [pcOf 0 / 4] } with
        fabric := [{ seq := 0, txn := 0, ini := 0, kind := .read, line := 0 }] };
      u.clk.cgClosed.contains (pcOf 0 / 4) = true ∧ u.cgFenced (pcOf 0 / 4) = false ∧
        (u.fabric.any fun (a : Acc) => decide (a.line < 2 ^ 33) && pcOf (64 * a.line) / 4 == pcOf 0 / 4) = true) :=
  ⟨by decide, by decide, by decide, by decide, by decide, by decide, by decide⟩

/-! ### Registers and modes -/

theorem witness_RegisterAccessCommands :
    ((regRow Ra.FLT_CTL).isSome = true ∧ fwOnly Ra.FLT_CTL = false ∧ (regRow Ra.FLT_CTL).map (goBit · 0) = some false ∧
      0x60000 ≤ Ra.FLT_CTL ∧ Ra.FLT_CTL < 0x70000 ∧ ∀ e ∈ svc.cyc.writes, e.2.1 ≤ whoFw) ∧
    (governed (Ra.OTP_PROG_CTL % 0x1000000) = true ∧ governed (Ra.GLB_MODE_REQ % 0x1000000) = true) ∧
    (regRow (0xFFFFFC % 0x1000000) = none) ∧
    ((regRow Ra.FLT_CNT).isSome = true ∧ Ra.FLT_CNT ≠ Ra.CLK_TIME_LO ∧ (regRow Ra.CLK_TIME_LO).isSome = true) ∧
    ((lockFld (Ra.PORT_LOCK 11 % 0x1000000)).isSome = true ∧
      (lockFld (Ra.PORT_LOCK 11 % 0x1000000)).map (·.addr) ≠ some (Ra.PORT_LOCK 12)) ∧
    ((lockFld (Ra.PORT_LOCK 12 % 0x1000000)).map (·.addr) = some (Ra.PORT_LOCK 12)) ∧
    (63 < 64 ∧ (regRow (Ra.OBS_MON_BASE 63)).map (goBit · 0) = some false ∧
      (regRow (Ra.OBS_MON_CFG 63)).map (goBit · 0) = some false) :=
  ⟨by decide, by decide, by decide, by decide, by decide, by decide, by decide⟩

theorem witness_FieldTypesOnWrite :
    (¬ (Ra.FLT_SRC 0 ≤ Ra.FLT_CTL ∧ Ra.FLT_CTL ≤ Ra.FLT_SRC 255)) ∧
    (let f : FieldRow := { hi := 31, lo := 31, ty := .w1s };
      f.lo ≤ f.hi ∧ f.ty = .w1s) ∧
    (let f : FieldRow := { hi := 1, lo := 0, ty := .rw, legal := some [(0, 2)] };
      f.legalValue 2 = true ∧ f.legalValue 3 = false ∧ svc.fieldOk Ra.FLT_CTL f 2 0 = true) :=
  ⟨by decide, by decide, by decide⟩

set_option maxRecDepth 20000 in
theorem witness_ModeCommands :
    (let r : ModeReq := { prec := 6, mode := mDEGRADED, level := 3 };
      let u := (svc.wr Fd.GLB_MODE_REQ_LEVEL 3).wr Fd.GLB_MODE_REQ_MODE mDEGRADED;
      u.coreOff = false ∧ u.badReq r = false ∧ u.permitted r = true) ∧
    (let r : ModeReq := { prec := 7, mode := mSTANDBY, level := 3 };
      let u := ((svc.wr Fd.PWR_WAKE_EN_EN 0).wr Fd.GLB_MODE_REQ_LEVEL 3).wr Fd.GLB_MODE_REQ_MODE mSTANDBY;
      u.coreOff = false ∧ u.badReq r = true) ∧
    (let r : ModeReq := { prec := 6, mode := mSELFTEST, level := 0 };
      let u := (svc.wr Fd.GLB_MODE_REQ_LEVEL 0).wr Fd.GLB_MODE_REQ_MODE mSELFTEST;
      mSELFTEST < 12 ∧ u.coreOff = false ∧ u.seqIdle = true ∧ u.permitted r = false) ∧
    (let r : ModeReq := { prec := 3, mode := mHOLD, level := 3 };
      let u := withSeq svc fun q => { q with reqs := [r] };
      u.coreOff = false ∧ u.preemptor = some r ∧ u.on Fd.CLK_STAT_HOLD = false) ∧
    (let r : ModeReq := { prec := 6, mode := mDEGRADED, level := 3 };
      let u := withSeq svc fun q => { q with reqs := [r] };
      u.coreOff = false ∧ u.preemptor = none ∧ u.seqIdle = true ∧ u.mode ≠ mBOOT ∧ u.mode ≠ mDRAIN ∧
        pickReq u.seq.reqs = some r ∧ (u.dropReq r).permitted r = true) ∧
    (let u := { State.reset.wr Fd.CLK_STAT_REFCLK_OK 1 with boot := { State.reset.boot with applied := true } };
      u.coreOff = false ∧ u.preemptor = none ∧ u.seqIdle = true ∧ u.mode = mBOOT ∧ u.boot.applied = true ∧
        u.on Fd.CLK_STAT_REFCLK_OK = true ∧ u.lifecycle ≠ 5) ∧
    (let r : ModeReq := { prec := 1, mode := mLOCKDOWN, level := 3 };
      let u := withSeq (inMode mDEEP) fun q => { q with reqs := [r] };
      u.mode = mDEEP ∧ (u.seq.reqs.find? fun (x : ModeReq) => x.prec == 1) = some r) ∧
    (let t : Trans := { goal := mSELFTEST, req := { prec := 0, mode := mSELFTEST, level := 3 } };
      let u := withSeq State.reset fun q => { q with trans := some t };
      u.seq.trans = some t ∧ t.goal ≠ mRETAIN ∧ t.goal ≠ mRETAINP ∧ t.goal ≠ mDEEP ∧ t.goal ≠ mSTANDBY ∧
        u.on Fd.CLK_STAT_HOLD = false ∧ u.mayEnd t = true ∧ t.req.prec = 0) ∧
    (let t : Trans := { goal := mDRAIN, req := { prec := 7, mode := mSTANDBY, level := 3 } };
      let u := withSeq svc fun q => { q with trans := some t };
      u.seq.trans = some t ∧ u.mayEnd t = true ∧ t.goal ≠ t.req.mode ∧ t.req.prec ≠ 5) ∧
    (let t : Trans := { goal := mLOCKDOWN, req := { prec := 1, mode := mLOCKDOWN, level := 3 } };
      let u := withSeq svc fun q => { q with trans := some t };
      u.seq.trans = some t ∧ u.mayEnd t = true ∧ 1 ≤ t.req.prec ∧ t.req.prec ≤ 4 ∧ t.goal = t.req.mode) ∧
    (let t : Trans := { goal := mDEGRADED, req := { prec := 6, mode := mDEGRADED, level := 3 } };
      let u := (withSeq svc fun q => { q with trans := some t }).wr Fd.GLB_MODE_LEVEL 3;
      u.seq.trans = some t ∧ u.mayEnd t = true ∧ t.req.prec = 6 ∧ t.goal = t.req.mode ∧
        t.req.level = ((u.setTrans none).enterMode t.goal t.req).level) ∧
    (let t : Trans := { goal := mDEGRADED, req := { prec := 7, mode := mDEGRADED, level := 0 } };
      let u := (withSeq svc fun q => { q with trans := some t }).wr Fd.GLB_MODE_LEVEL 3;
      u.mayEnd t = true ∧ t.req.prec = 7 ∧ ((u.setTrans none).enterMode t.goal t.req).serves = true ∧
        t.req.level ≠ ((u.setTrans none).enterMode t.goal t.req).level) ∧
    (let t : Trans := { goal := mSERVICE, req := { prec := 5, mode := mSERVICE, level := 3 } };
      let u := withSeq (inMode mSTANDBY) fun q => { q with trans := some t };
      u.seq.trans = some t ∧ u.mayEnd t = true ∧ t.req.prec = 5 ∧ t.goal = t.req.mode) ∧
    (let l : LvlChange := { target := 2, nextCg := 30, waitV := false, req := { prec := 6, mode := mSERVICE, level := 2 } };
      let u := withSeq svc fun q => { q with lvl := some l };
      u.seq.lvl = some l ∧ l.waitV = false ∧ u.seq.trans = none ∧ u.serves = true ∧ u.on Fd.CLK_STAT_HOLD = false ∧
        l.nextCg < 31 ∧ ({ l with nextCg := 31 } : LvlChange).nextCg = 31) ∧
    ((inMode mCALIBRATE).mode = mCALIBRATE ∧ (inMode mCALIBRATE).on Fd.CLK_STAT_HOLD = false ∧
      (inMode mCALIBRATE).seq.trans = none) :=
  ⟨by decide, by decide, by decide, by decide, by decide, by decide, by decide, by decide, by decide,
    by decide, by decide, by decide, by decide, by decide, by decide⟩

theorem witness_RequestOfHighestPrecedence :
    let a : ModeReq := { prec := 6, mode := mDEGRADED, level := 3 };
    let b : ModeReq := { prec := 3, mode := mHOLD, level := 3 };
    let c : ModeReq := { prec := 3, mode := mHOLD, level := 2 };
    pickReq [a, b, c] = some b ∧ pickReq [] = none := by decide

/-- A record write in progress. -/
def rec0 : RecWrite := { slot := 4, seq := 1, erases := 0, payload := [], sectors := [], pages := [], pre := false }

/-- An update session of 8 bytes on slot 1, ready for data. -/
def sess0 : Session := { src := 0, slot := 1, seq := 1, erases := 0, len := 8, off := 4, buf := [1, 2, 3, 4], sectors := [],
                         begun := true, fin := false, hdr := false }

theorem witness_ControllerRestart :
    (svc.coreOff = false ∧ svc.seq.mcRestart = false ∧ svc.nvm.wr = none ∧
      (svc.req.txns.filter fun (t : Txn) => t.stage == .heldPersist) = []) ∧
    (let u := withNvm svc fun n => { n with wr := some rec0 };
      u.nvm.wr = some rec0 ∧ u.nvm.owed.contains (rec0.slot / 2) = false ∧
        (u.req.txns.filter fun (t : Txn) => t.stage == .heldPersist) = []) ∧
    (let t : Txn := { txn0 with op := opAUTH, stage := .heldPersist };
      let u := withTxns svc [txn0, t];
      u.coreOff = false ∧ u.seq.mcRestart = false ∧ (u.req.txns.filter fun (x : Txn) => x.stage == .heldPersist) = [t]) ∧
    (let u := withSeq svc fun q => { q with mcRestart := true };
      u.seq.mcRestart = true ∧ u.boot.fwRun = false) ∧
    (restarting.seq.mcRestart = true ∧ restarting.boot.fwRun = true ∧ restarting.slotFault 0 = some 1) ∧
    (let u := fwIn restarting;
      u.seq.mcRestart = true ∧ u.boot.fwRun = true ∧ u.rd Fd.NVM_BOOT_STAT_FW_SLOT % 2 = 0 ∧ u.slotFault 0 = none ∧
        u.fwVerdict u.boot.fwSig.1 u.boot.fwSig.2 = .accepted [5]) ∧
    (let u := fwIn (restarting.wr Fd.OTP_LC_SECBOOT 1);
      u.seq.mcRestart = true ∧ u.boot.fwRun = true ∧ u.slotFault 0 = none ∧
        u.fwVerdict u.boot.fwSig.1 u.boot.fwSig.2 = .refused 5 []) ∧
    (persisted.nvm.owed.contains 4 = false ∧ persisted.winner 4 = some 0 ∧ (persisted.slotPayload (8 + 0)).length = 128) :=
  ⟨by decide, by decide, by decide, by decide, by decide,
    ⟨rfl, rfl, by unfold fwIn; rw [rd_program]; decide, fwIn_valid _ (by decide),
      by unfold fwIn; rw [program_frame, program_frame]; decide⟩,
    ⟨rfl, rfl, fwIn_valid _ (by decide), by unfold fwIn; rw [program_frame, program_frame]; decide⟩,
    ⟨persisted_owed, persisted_winner, by rw [persisted_payload]; rfl⟩⟩

/-! ### Boot, flash and fuses -/

/-- A booting part whose image is in force: slot 2 holds one section of type `typ` with one record. -/
def imaged (typ flags addr op val mask : Nat) : State :=
  let le (n v : Nat) : List Byte := leBytes n v;
  let s := (State.reset.program (slotBase 2 + 0x10) (le 4 0x9C)).program (slotBase 2 + 64 + 0x14) (le 2 1);
  let s := s.program (slotBase 2 + 64 + 0x80) (le 1 typ ++ le 3 flags ++ le 4 0x90 ++ le 4 12 ++ le 4 1);
  let s := s.program (slotBase 2 + 64 + 0x90) (le 3 addr ++ le 1 op ++ le 4 val ++ le 4 mask);
  withBoot s fun b => { b with img := some 0, sect := typ, calUsed := true }

set_option maxRecDepth 20000 in
theorem witness_BootSteps :
    (let u := State.reset.wr Fd.CLK_STAT_OSC_READY 1;
      u.mode = mBOOT ∧ u.on Fd.CLK_STAT_OSC_READY = true ∧ u.on Fd.CLK_STAT_HOLD = false) ∧
    (let u := withBoot State.reset fun b => { b with rom := true };
      u.booting = true ∧ u.boot.rom = true ∧ u.boot.sfdp = false) ∧
    (let u := withBoot State.reset fun b => { b with sfdp := true };
      u.booting = true ∧ u.boot.sfdp = true ∧ u.boot.fwRun = false ∧
        (u.wearBoot.pairFaults 0 u.boot.fwBad).1.winner 0 (u.wearBoot.pairFaults 0 u.boot.fwBad).2 = none) ∧
    (let u := withBoot State.reset fun b => { b with fwRun := true };
      u.booting = true ∧ u.boot.fwRun = true ∧ u.boot.img = none ∧
        (u.pairFaults 1 u.boot.imgBad).1.winner 1 (u.pairFaults 1 u.boot.imgBad).2 = none) ∧
    (let u := withBoot (State.reset.wr Fd.OTP_LC_SECBOOT 1) fun b => { b with fwSel := some 1 };
      u.booting = true ∧ u.boot.fwRun = false ∧ u.boot.fwSel = some 1 ∧ u.fwVerdict (false, true) 0 = .refused 5 []) ∧
    (let u := withBoot State.reset fun b => { b with fwSel := some 1 };
      u.booting = true ∧ u.boot.fwSel = some 1 ∧ u.fwVerdict (true, false) 0 = .accepted []) ∧
    (let u := withBoot (State.reset.program (slotBase 2 + 0x10) (zeros 4)) fun b => { b with imgSel := some 0 };
      u.booting = true ∧ u.boot.img = none ∧ u.boot.imgSel = some 0 ∧ u.imgVerdict (u.slotPayload 2) = .refused 6 []) ∧
    (let u := withBoot State.reset fun b => { b with img := some 0 };
      u.booting = true ∧ u.boot.img ≠ none ∧ u.boot.cal = none) ∧
    (let u := withBoot State.reset fun b => { b with cal := some 1 };
      u.booting = true ∧ u.boot.calUsed = false ∧ u.boot.cal = some 1) ∧
    (let u := withBoot State.reset fun b => { b with cal := some 2 };
      u.booting = true ∧ u.boot.calUsed = false ∧ u.boot.cal = some 2) ∧
    (State.reset.revoke0 = false ∧ State.reset.svnMin 24 ≤ 0 ∧
      0 < (withOtp State.reset fun o => { o with latch := [(24, 1)] }).svnMin 24) :=
  ⟨by decide, by decide, by decide, by decide, by decide, by decide, by decide, by decide, by decide,
    by decide, by decide⟩

set_option maxRecDepth 20000 in
theorem witness_ImageApplication :
    ((imaged 1 0 Ra.FLT_CTL 1 5 0).recordOf 1 = some (Ra.FLT_CTL, 5, 0)) ∧
    ((imaged 1 0 Ra.FLT_CTL 2 5 7).recordOf 2 = some (Ra.FLT_CTL, 5, 7)) ∧
    ((State.reset.regWrite whoFw Ra.FLT_CTL 0).2.ignored = false ∧ (regRow Ra.FLT_CTL).isSome = true ∧
      (regRow 0xFFFFFC).isSome = false) ∧
    ((imaged 1 0 Ra.FLT_CNT 3 0 7).recordOf 3 = some (Ra.FLT_CNT, 0, 7) ∧ (regRow Ra.FLT_CNT).isSome = true ∧
      (BitVec.ofNat 32 ((imaged 1 0 Ra.FLT_CNT 3 0 7).readReg Ra.FLT_CNT).2 &&& 7 : Word) = 0) ∧
    ((imaged 1 0 Ra.FLT_CNT 3 1 1).recordOf 3 = some (Ra.FLT_CNT, 1, 1) ∧
      (BitVec.ofNat 32 ((imaged 1 0 Ra.FLT_CNT 3 1 1).readReg Ra.FLT_CNT).2 &&& 1 : Word) ≠ 1) ∧
    (let u := withBoot (imaged 1 0 Ra.FLT_CNT 3 1 1) fun b => { b with poll := true };
      (u.polling.map fun x => (x.2.1.typ, x.2.2)) = some (1, Ra.FLT_CNT, 1, 1)) ∧
    (let u := withBoot (imaged 1 0 Ra.FLT_CTL 1 5 0) fun b => { b with record := 1 };
      (u.section?.map fun x => (x.2.typ, x.2.nrec)) = some (1, 1) ∧ u.boot.poll = false ∧ 1 ≤ u.boot.record ∧
        u.sectCheck 1 = true) ∧
    (let u := withBoot (imaged 6 0 Ra.PAIR_CFG 1 0 0) fun b => { b with record := 1 };
      (u.section?.map fun x => (x.2.typ, x.2.nrec)) = some (6, 1) ∧ u.sectCheck 6 = true) ∧
    (let u := withBoot (imaged 7 0 Ra.REG_CTL 1 0 0) fun b => { b with record := 1 };
      (u.section?.map fun x => (x.2.typ, x.2.nrec)) = some (7, 1) ∧ u.sectCheck 7 = true) ∧
    (let u := withBoot ((imaged 2 0 Ra.CRM_CTL 1 0 0).wr Fd.CRM_PART_CNT_SIZE 385) fun b => { b with record := 1 };
      (u.section?.map fun x => (x.2.typ, x.2.nrec)) = some (2, 1) ∧ u.sectCheck 2 = false) ∧
    (((imaged 2 1 Ra.CRM_CTL 1 0 0).section?.map fun x => bit x.2.flags 0) = some true ∧
      ((imaged 2 0 Ra.CRM_CTL 1 0 0).section?.map fun x => bit x.2.flags 0) = some false) :=
  ⟨by decide, by decide, by decide, by decide, by decide, by decide, by decide, by decide, by decide,
    by decide, by decide⟩

set_option maxRecDepth 20000 in
theorem witness_FlashRecordCommands :
    (let u := withNvm (withBoot svc fun b => { b with fwRun := true }) fun n => { n with owed := [4] };
      u.boot.fwRun = true ∧ u.seq.mcRestart = false ∧ u.coreOff = false ∧ u.tripB = false ∧ u.nvm.wr = none ∧
        u.nvm.upd = none ∧ u.recordDue 4 = true ∧ u.stopped 4 = false ∧ (u.wr Fd.NVM_WEAR_STOP 16).stopped 4 = true) ∧
    (let u := (withBoot svc fun b => { b with fwRun := true }).wr Fd.OTP_LC_STATE 2;
      u.boot.fwRun = true ∧ u.seq.mcRestart = false ∧ u.nvm.wr = none ∧ u.nvm.upd = none ∧ u.lifecycle = 2) ∧
    ((zeros 4032).length ≤ 4032) ∧
    (let u := withNvm svc fun n => { n with wr := some { rec0 with sectors := [0, 4096] } };
      u.nvm.wr = some { rec0 with sectors := 0 :: [4096] }) ∧
    (let u := withNvm svc fun n => { n with wr := some { rec0 with sectors := [0], pre := true } };
      u.nvm.wr = some { rec0 with sectors := 0 :: [], pre := true }) ∧
    (let u := withNvm svc fun n => { n with wr := some { rec0 with pages := [(0, [1]), (256, [2])] } };
      u.nvm.wr = some { rec0 with pages := (0, [1]) :: [(256, [2])] }) ∧
    (let u := withNvm svc fun n => { n with wr := some { rec0 with pages := [(0, [1])] } };
      u.nvm.wr = some { rec0 with pages := (0, [1]) :: [] }) ∧
    (let u := withNvm svc fun n => { n with upd := some sess0 };
      u.nvm.wr = none ∧ u.nvm.upd = some sess0) :=
  ⟨by decide, by decide, by simp [zeros], by decide, by decide, by decide, by decide, by decide⟩

theorem witness_UpdateSession :
    (let u := ((svc.wr Fd.NVM_UPD_LEN_LEN 8).wr Fd.NVM_UPD_CTL_OP 1).wr Fd.NVM_UPD_CTL_TARGET 2;
      u.mode = mSERVICE ∧ u.rd Fd.NVM_UPD_CTL_TARGET = 2 ∧ u.rd Fd.NVM_UPD_LEN_LEN = 8 ∧ svc.nvm.upd = none ∧
        svc.nvm.wr = none ∧ 8 ≤ slotSize (2 * (2 - 1)) - 64 ∧ u.stopped (2 - 1) = false ∧
        (u.wr Fd.NVM_WEAR_STOP 2).stopped (2 - 1) = true) ∧
    (let u := ((svc.wr Fd.NVM_UPD_LEN_LEN 6).wr Fd.NVM_UPD_CTL_OP 1).wr Fd.NVM_UPD_CTL_TARGET 1;
      u.mode = mSERVICE ∧ u.rd Fd.NVM_UPD_CTL_TARGET = 1 ∧ u.rd Fd.NVM_UPD_LEN_LEN = 6 ∧ 6 % 4 ≠ 0) ∧
    (let u := ((inMode mHOLD).wr Fd.NVM_UPD_CTL_OP 1).wr Fd.NVM_UPD_CTL_TARGET 1;
      u.mode ≠ mSERVICE ∧ u.mode ≠ mDEGRADED ∧ u.mode ≠ mBOOT) ∧
    ((withNvm svc fun n => { n with upd := some { sess0 with sectors := [0] } }).nvm.upd =
      some { sess0 with sectors := [0] } ∧ sess0.begun = true) ∧
    (let x := { sess0 with begun := false };
      (withNvm svc fun n => { n with upd := some x }).nvm.upd = some x ∧ x.begun = false ∧ svc.nvm.wr = none) ∧
    (sess0.fin = false ∧ sess0.off + 4 ≤ sess0.len ∧ sess0.begun = true ∧ sess0.sectors = [] ∧ sess0.buf.length + 4 ≤ 4096) ∧
    (let x := { sess0 with off := 8 };
      (withNvm svc fun n => { n with upd := some x }).nvm.upd = some x ∧ x.src = 0 ∧ x.fin = false ∧ x.off = x.len ∧
        x.buf ≠ []) ∧
    (let x := { sess0 with fin := true };
      (withNvm svc fun n => { n with upd := some x }).nvm.upd = some x ∧ x.src = 0 ∧ x.fin = true) ∧
    (sess0.src ≠ 11 ∧ sess0.off ≠ sess0.len) :=
  ⟨by decide, by decide, by decide, by decide, by decide, by decide, by decide, by decide, by decide⟩

theorem witness_FuseCommands :
    (let s := svc.wr Fd.OTP_LC_STATE 1;
      let u := ((s.wr Fd.OTP_PROG_ADDR_WORD 8).wr Fd.OTP_PROG_DLO_DATA 1).wr Fd.OTP_PROG_DHI_DATA (1 / 2 ^ 32);
      let a := u.rd Fd.OTP_PROG_ADDR_WORD;
      let v := u.rd Fd.OTP_PROG_DLO_DATA + u.rd Fd.OTP_PROG_DHI_DATA * 2 ^ 32;
      s.otp.prog = none ∧ u.fuse a = {} ∧ bit (u.rd Fd.OTP_LOCKS_LOCKED) (otpRegion a) = false ∧ u.classOk a = true ∧
        otpClass a ≠ 7 ∧ u.formatOk a v = true ∧ u.fuseConditions = true) ∧
    (let s := svc.setFuse 8 { data := 1 };
      let u := ((s.wr Fd.OTP_PROG_ADDR_WORD 8).wr Fd.OTP_PROG_DLO_DATA 1).wr Fd.OTP_PROG_DHI_DATA (1 / 2 ^ 32);
      s.otp.prog = none ∧ u.fuse (u.rd Fd.OTP_PROG_ADDR_WORD) ≠ {}) ∧
    (let u := withOtp svc fun o => { o with prog := some (5, 2 ^ 64 - 1) };
      u.otp.prog = some (5, 2 ^ 64 - 1) ∧ 4 < 5 ∧ u.otp.rereadRun = false ∧ u.otp.rereadDue = false ∧ u.coreOff = false ∧
        u.otp.prog ≠ none ∧ 2 ^ 64 - 1 < 2 ^ 64) ∧
    (let u := withOtp svc fun o => { o with prog := some (4, 1) };
      u.otp.prog = some (4, 1) ∧ 4 ≤ 4 ∧ 0 ≠ 1) ∧
    ((withOtp svc fun o => { o with rereadRun := true }).otp.rereadRun = true ∧ svc.coreOff = false ∧
      svc.otp.rereadRun = false ∧ svc.otp.prog = none) ∧
    ((withOtp svc fun o => { o with jtag := 3 }).otp.scan = false) ∧
    ((withOtp svc fun o => { o with jtag := 2 }).otp.debug = false) ∧
    (svc.jtagMay 1 = true ∧ svc.jtagMay 3 = false) ∧
    (let u := withOtp (svc.wr Fd.OTP_LC_DEBUG_OK 1) fun o => { o with debug := true };
      u.jtagMay 2 = true ∧ u.otp.debug = true) :=
  ⟨by decide, by decide, by decide, by decide, by decide, by decide, by decide, by decide, by decide⟩

theorem witness_SidebandCommands :
    (0x48 = 0x48 + svc.pins.sbAddr ∧ 0x49 ≠ 0x48 + svc.pins.sbAddr) ∧
    (({ svc with req := { svc.req with sb := .forming } } : State).req.sb ≠ .free) ∧
    ((zeros 15).length < 16 ∧ svc.req.sb = .free ∧ 16 ≤ (zeros 16).length) ∧
    (isMgmt (parseHead (leNat ((zeros 16).take 16))).1 = false) ∧
    (let b : List Byte := leBytes 16 (headWord opMGMT_RD hd0);
      let h := parseHead (leNat (b.take 16));
      svc.req.sb = .free ∧ svc.coreOff = false ∧ isMgmt h.1 = true ∧ b.length = 16 * (1 + reqSlots h.1 h.2)) ∧
    (let r : Resp := { port := whoSb, op := opMGMT_RD, reqId := 0, tag := 0, status := 0 };
      ({ svc with req := { svc.req with sb := (SbSlot.formed r) } } : State).req.sb = .formed r) :=
  ⟨by decide, by decide, by decide, by decide, by decide, by decide⟩

/-! ### Lanes and flits -/

def fl0 : Flit := { ty := 0, seq := 0, ack := 0, crVc := 0, crCnt := 0, codes := List.replicate 7 0,
                    slots := List.replicate 7 0, enc := 0, crc := 0 }

/-- The received bits of a comma at five places of a frame, with zeros between. -/
def rawComma : Nat := (List.range 5).foldl (fun x i => x + (3 + 4 * commaBody) * 2 ^ (66 * 1024 * i)) 0

/-- A flit as its codeword brings it at the start of a period. -/
def rxOf (f : Flit) : RxFlit := { pos := 0, words := [fecEncode (flitBits (flitSeal f))] }

set_option exponentiation.threshold 300000 in
theorem test_hunt : (hunt rawComma (66 * 4097)).isSome = true ∧ hunt 0 (66 * 4097) = none := by decide +kernel

set_option exponentiation.threshold 6000 in
theorem test_rx : rxFlit (rxOf fl0) = flitSeal fl0 ∧ flitGood (flitSeal fl0) = true := by decide +kernel

/-- Port 0's link in a state, its lanes sending link frames. -/
def sends (x : Nat) : State := (svc.setLstate 0 x).wr (Fd.PORT_LANE_STAT_STATE 0) 2

/-- Port 0's link is ACTIVE and hears the other side. -/
def live : State := (svc.setLstate 0 lACTIVE).wr (Fd.PORT_LANE_STAT_UP 0) 1

set_option maxRecDepth 20000 in
theorem witness_LaneBringUpAndMessages :
    (let u := svc.wr (Fd.PORT_LANE_CFG_EN 12) 1;
      12 < 13 ∧ u.laneRuns 12 = true ∧ u.lstate 12 = lOFF) ∧
    ((svc.wr (Fd.PORT_LANE_CFG_EN 0) 0).laneRuns 0 = false) ∧
    (let u := svc.setLstate 12 lTRAIN;
      8 ∈ physOf 12 ∧ u.lstate 12 ≠ lOFF ∧ u.judged 12 8 = true ∧ u.locked 12 8 = false ∧
        (u.setLocked 12 8 true).rxLogical 12 8 = none ∧ ((u.setLocked 12 3 true).rxLogical 12 3).isSome = true ∧ 80 ≤ 80) ∧
    ((hunt rawComma (66 * 4097)).isSome = true ∧ hunt 0 (66 * 4097) = none) ∧
    (let u := (List.range 4).foldl (fun (u : State) p => u.setLocked 12 p true) (svc.setLstate 12 lTRAIN);
      (∀ k, k < lanesOf 12 → u.locked 12 (u.rxPhys 12 k) = true) ∧ u.on (Fd.PORT_LANE_STAT_UP 12) = false ∧
        u.lstate 12 = lTRAIN) ∧
    (let u := svc.setLocked 12 3 true;
      u.locked 12 3 = true ∧ u.judged 12 3 = true ∧ (u.setLocked 12 3 false).rxLogical 12 3 = some 3) ∧
    (let u := svc.setLocked 12 8 true;
      u.locked 12 8 = true ∧ (u.setLocked 12 8 false).rxLogical 12 8 = none) ∧
    (let u := (svc.wr (Fd.PORT_LANE_STAT_UP 0) 1).wr (Fd.PORT_LANE_STAT_STATE 0) 1;
      u.on (Fd.PORT_LANE_STAT_UP 0) = true ∧ u.rd (Fd.PORT_LANE_STAT_STATE 0) = 1) ∧
    (let u := svc.setLstate 0 lTRAIN;
      u.on (Fd.PORT_LANE_STAT_UP 0) = false ∧ u.lstate 0 = lTRAIN) ∧
    (svc.lmPick 0 0 [] = none ∧ svc.lmPick 0 64 [] = none) ∧
    (let u := svc.setLocked 0 0 true;
      u.lmPick 0 0 [(0, lm1Body 7 4095 7 4095)] = some (lm1Body 7 4095 7 4095) ∧
        u.lmPick 0 64 [(0, lm2Body true true 511 511)] = some (lm2Body true true 511 511)) ∧
    (let s := (svc.wr (Fd.PORT_LANE_CFG_TAP_WIN 12) 0).wr (Fd.PORT_LANE_STAT_STATE 12) 2;
      let x := s.laneRx 12 3;
      s.rxLogical 12 3 = some 3 ∧ s.rd (Fd.PORT_LANE_STAT_STATE 12) ≠ 3 ∧
        atEdge 0 { x with ctle := eqCtle (inWindow 0 x.ctleTrn (x.ctleTrn + 0)) } ≠ none) ∧
    ((svc.wr (Fd.PORT_LANE_STAT_STATE 0) 3).rd (Fd.PORT_LANE_STAT_STATE 0) = 3) ∧
    (let u := svc.setLaneRx 0 (svc.sparePhys 0) { svc.laneRx 0 (svc.sparePhys 0) with spareMs := 1000 };
      u.on (Fd.PORT_LANE_STAT_SPARE_READY 0) = false ∧
        bit (u.rd (Fd.PORT_LANE_STAT_FAILED 0)) (u.sparePhys 0) = false ∧ 1000 ≤ (u.laneRx 0 (u.sparePhys 0)).spareMs) ∧
    (let u := svc.setLstate 0 lTRAIN;
      u.lstate 0 ≠ lOFF ∧ u.on (Fd.PORT_LANE_TEST_TEST 0) = false ∧ u.sparePhys 0 ∈ physOf 0 ∧
        u.checked 0 (u.sparePhys 0) 62 0 = some 0 ∧ u.checked 0 (u.sparePhys 0) 61 0 = none) ∧
    (let u := svc.setLocked 0 (svc.sparePhys 0) true;
      let v := u.setLaneRx 0 (u.sparePhys 0) { u.laneRx 0 (u.sparePhys 0) with errs := [0, 0] };
      (v.judgeSpare 0 (some 0)).on (Fd.PORT_LANE_STAT_SPARE_READY 0) = true) ∧
    (svc.locked 0 0 = false) ∧
    (let s := svc.setLocked 0 0 true;
      let f := Fd.PORT_LANE_CNT_CODE_ERR 0;
      let u := (s.wr f (min f.max (s.rd f + codeErrors [] commaGroup (hControl, 0)))).commaAt 0 0 commaGroup;
      s.locked 0 0 = true ∧ u.locked 0 0 = true ∧ (hControl, 0).1 = hControl ∧ (hData, 0).1 ≠ hControl) ∧
    (let r := svc.setLocked 0 0 true;
      let s := r.setLaneRx 0 0 { r.laneRx 0 0 with miss := 1 };
      let f := Fd.PORT_LANE_CNT_CODE_ERR 0;
      s.locked 0 0 = true ∧ ((s.wr f (min f.max (s.rd f + codeErrors [] (hData, 0) (hControl, 0)))).commaAt 0 0 (hData,
        0)).locked 0 0 = false) ∧
    (let s := (svc.setLocked 0 8 true).setLaneRx 0 8 { (svc.setLocked 0 8 true).laneRx 0 8 with codes := [7], stN := 2 };
      let body := lm0Body 7 0 1;
      let u := s.reseed 0 8 (bits body 57 0);
      let x := u.laneRx 0 8;
      let v := u.setLaneRx 0 8 { x with codes := [7], st := 0, stN := 3 };
      bits body 63 60 = 7 ∧ bits body 59 58 = x.st ∧ x.stN + 1 ≠ 2 ∧ x.codes = [7] ∧ 7 < lanesOf 0 ∧
        v.sparePhys 0 = 8 ∧ (v.link 0).farAnn = none ∧ bits (lm0Body 6 0 1) 63 60 = 6) :=
  ⟨by decide, by decide, by decide, test_hunt, by decide, by decide, by decide, by decide, by decide,
    by decide, by decide, by decide, by decide, by decide, by decide, by decide, by decide, by decide,
    by decide, by decide⟩

theorem witness_LaneSwaps :
    (let u := (svc.wr (Fd.PORT_LANE_SWAP_DIR 12) 0).wr (Fd.PORT_LANE_SWAP_LANE 12) (4 % 8);
      (svc.link 12).reqLane = none ∧ lanesOf 12 ≤ 4 % 8 ∧ 3 % 8 < lanesOf 12 ∧ u.spareOk 12 = false ∧
        (u.wr (Fd.PORT_LANE_STAT_SPARE_READY 12) 1).spareOk 12 = true) ∧
    (((withLink svc 12 fun l => { l with reqLane := some 3 }).link 12).reqLane.isSome = true) ∧
    ((svc.link 0).txAnn = none ∧ (svc.link 0).swReq = none ∧ lanesOf 12 ≤ 4 % 8 ∧
      ((withLink svc 0 fun l => { l with swReq := some 3 }).link 0).swReq ≠ none) ∧
    (let u := withLink ((svc.wr (Fd.PORT_LANE_FLAG_FAR_SPARE_READY 0) 1).wr (Fd.PORT_LANE_STAT_STATE 0) 1) 0 fun l =>
        { l with farReq := some 3, swReq := some 1 };
      (u.link 0).txAnn = none ∧ u.on (Fd.PORT_LANE_FLAG_FAR_SPARE_READY 0) = true ∧
        u.rd (Fd.PORT_LANE_STAT_STATE 0) ≠ 0 ∧ (u.link 0).farReq = some 3) ∧
    (svc.on (Fd.PORT_LANE_FLAG_FAR_SPARE_READY 0) = false) ∧
    (let u := withLink svc 0 fun l => { l with txAnn := some (3, 9), farAnn := some (3, 7) };
      (u.link 0).txAnn = some (3, 9) ∧ (u.link 0).farAnn = some (3, 7) ∧ 3 < lanesOf 0) ∧
    (svc.on (Fd.PORT_LANE_TEST_TEST 0) = false ∧ (svc.wr (Fd.PORT_LANE_TEST_TEST 0) 1).on (Fd.PORT_LANE_TEST_TEST 0) = true) ∧
    (let u := (svc.wr (Fd.PORT_LANE_TEST_TEST 0) 1).wr (Fd.PORT_PRBS_CTL_TX_PAT 0 0) 1;
      u.injects 0 0 = true ∧ svc.injects 0 0 = false ∧ u.rd (Fd.PORT_PRBS_CTL_INJ_RATE 0 0) = 0 ∧
        (u.wr (Fd.PORT_PRBS_CTL_INJ_RATE 0 0) 1).rd (Fd.PORT_PRBS_CTL_INJ_RATE 0 0) ≠ 0) ∧
    (let u := svc.wr (Fd.PORT_LANE_STAT_SPARE_READY 12) 1;
      u.on (Fd.PORT_LANE_STAT_SPARE_READY 12) = true ∧
        ∀ m, m < 13 → m ≠ 12 → u.on (Fd.PORT_LANE_STAT_SPARE_READY m) = false) :=
  ⟨by decide, by decide, by decide, by decide, by decide, by decide, by decide, by decide, by decide⟩

theorem witness_FlitTransmission :
    (11 < 12 ∧ svc.lstate 11 = lOFF ∧ svc.pairReturns 12 = svc ∧ svc.rd (Fd.PORT_LANE_STAT_STATE 11) < 2) ∧
    ((sends lSTANDBY).lstate 0 = lSTANDBY ∧ 2 ≤ (sends lSTANDBY).rd (Fd.PORT_LANE_STAT_STATE 0)) ∧
    ((sends lINIT).lstate 0 = lINIT ∧ (sends lINIT).on (Fd.PORT_LANE_STAT_UP 0) = false) ∧
    (let u := (sends lRECOVER).wr (Fd.PORT_LANE_STAT_UP 0) 1;
      u.lstate 0 = lRECOVER ∧ u.on (Fd.PORT_LANE_STAT_UP 0) = true ∧ (u.link 0).seen = false) ∧
    (let u := withLink (sends lACTIVE) 0 fun l => { l with nakDue := true, nak := true };
      u.lstate 0 = lACTIVE ∧ u.encOn 0 = false ∧ (u.link 0).txRun = [] ∧ (u.link 0).nakDue = true ∧
        (u.link 0).nak = true) ∧
    (let u := withLink (sends lACTIVE) 0 fun l => { l with replay := [fl0], resend := some 0 };
      u.lstate 0 = lACTIVE ∧ u.encOn 0 = false ∧ (u.link 0).txRun = [] ∧ (u.link 0).nakDue = false ∧
        (u.link 0).resend = some 0 ∧ ((u.link 0).replay.dropWhile fun (x : Flit) => x.seq != 0) = fl0 :: [] ∧
        (u.link 0).replay = fl0 :: []) ∧
    (let u := sends lACTIVE;
      (u.link 0).nakDue = false ∧ (u.link 0).resend = none ∧ u.canData 0 = true ∧ (u.link 0).txSlots = [] ∧
        u.nextVc 0 = none ∧ (u.link 0).nak = false) ∧
    (let u := withLink (sends lACTIVE) 0 fun l => { l with txSlots := [(0, 0, none, none)] };
      u.canData 0 = true ∧ (State.fill 7 u 0).2 ≠ []) ∧
    (((withLink svc 0 fun l => { l with keyAsked := true }).link 0).keyAsked = true) ∧
    (svc.eventNext 0 = false) :=
  ⟨by decide, by decide, by decide, by decide, by decide, by decide, by decide, by decide, by decide,
    by decide⟩

set_option maxRecDepth 20000 in
theorem witness_FlitReception :
    (svc.hears 0 = false) ∧
    (live.hears 0 = true ∧ live.commaMissing 0 = false ∧
      (live.setLaneRx 0 0 { live.laneRx 0 0 with miss := 1 }).commaMissing 0 = true) ∧
    ((rxFlit rx0).ty = fIDLE ∧ flitCrcOk (rxFlit rx0) = false) ∧
    (rxFlit (rxOf fl0) = flitSeal fl0 ∧ flitGood (flitSeal fl0) = true) ∧
    (flitGood (flitSeal { fl0 with ty := fTAG, seq := 1 }) = true ∧ flitGood (flitSeal { fl0 with ty := fDATA }) = true ∧
      flitCrcOk (flitSeal { fl0 with codes := List.replicate 7 2 }) = true ∧
      flitGood (flitSeal { fl0 with codes := List.replicate 7 2 }) = false) ∧
    (let b := (live.arrive 0 fl0).takeCredit 0 fl0;
      b.lstate 0 = lACTIVE ∧ (b.rd (Fd.PORT_LINK_SEQ_RX_LAST 0) + 1 + (b.link 0).rxRun.length) % 4096 = 0 ∧
        seqDist 0 0 = 0 ∧ (b.takeAck 0 fl0).encOn 0 = false ∧ seqDist 0 2049 = 2047 ∧ 2047 < seqDist 0 2048) ∧
    (let u := (svc.setLstate 0 lINIT).wr (Fd.PORT_LANE_STAT_UP 0) 1;
      let f := { fl0 with ty := fINIT };
      let b := ((u.arrive 0 f).takeCredit 0 f).takeAck 0 f;
      u.hears 0 = true ∧ b.lstate 0 = lINIT ∧ b.initCause 0 f ≠ none ∧ (b.link 0).initFail = false) ∧
    (let u := (svc.setLstate 0 lINIT).wr (Fd.PORT_LANE_STAT_UP 0) 1;
      let f := { fl0 with ty := fINIT, slots := [1 + 2 ^ 8 + 128 * 2 ^ 80 + 8 * 2 ^ 96 + 8 * 2 ^ 112, 0, 0, 0, 0, 0, 0] };
      (((u.arrive 0 f).takeCredit 0 f).takeAck 0 f).initCause 0 f = none) ∧
    ((svc.setLstate 12 lSTANDBY).lstate 12 = lSTANDBY ∧ svc.lstate 12 ≠ lACTIVE ∧ svc.lstate 12 ≠ lHOLD ∧
      svc.lstate 12 ≠ lSTANDBY) :=
  ⟨by decide, by decide, by decide +kernel, test_rx, by decide, by decide, by decide, by decide, by decide⟩


/-! ### Requests -/

/-- A region of one unit at address 0 that admits every requester. -/
def rgn0 : Rgn :=
  { valid := true, win := 0, base := 0, size := 1, kind := kPLAIN, ret := 0, mirror := false, label := 0, page := 0,
    key := 0, q0 := (1, 0, 0), q1 := (0, 0, 0), tsr := 0, tsoff := 0 }

/-- SERVICE with region 0. -/
def svcR : State := svc.putRgn 0 rgn0

/-- Answers of step 6 are compared. -/
def exceptEq : DecidableEq (Except (Nat × Nat) (Option Nat))
  | .ok a, .ok b => if h : a = b then isTrue (h ▸ rfl) else isFalse fun e => h (Except.ok.inj e)
  | .error a, .error b => if h : a = b then isTrue (h ▸ rfl) else isFalse fun e => h (Except.error.inj e)
  | .ok _, .error _ => isFalse nofun
  | .error _, .ok _ => isFalse nofun

set_option maxRecDepth 20000 in
theorem witness_DataRequestAccepted :
    (let u := svc.tookReq 0 11 opFENCE hd0 [] 0;
      let t := svc.asTxn 11 opFENCE hd0 [] 0;
      (Instr.fenceReq 11 hd0).asRequest = some (11, opFENCE, hd0, []) ∧ svc.opens 11 opFENCE hd0 = true ∧
        svc.txn svc.req.nextId = none ∧ u.step6 opFENCE hd0 = .ok none ∧
        u.unheld t = true ∧ u.step7 hd0 none = some 0 ∧ u.step8 opFENCE hd0 [] none = false ∧ (u.passedTxn t 0).charge = 0 ∧
        (u.setTxn (u.passedTxn t 0)).behind (u.passedTxn t 0) = false) ∧
    (let u := svcR.tookReq 0 0 opRD64 hd0 [] 0;
      let t := svcR.asTxn 0 opRD64 hd0 [] 0;
      let p := u.passedTxn t 0;
      let v := (u.setTxn p).passLabel t.id 0 p.charge (u.cardCharge opRD64 hd0 []).2;
      (Instr.rd64 0 hd0).asRequest = some (0, opRD64, hd0, []) ∧ svcR.opens 0 opRD64 hd0 = true ∧
        u.unheld t = true ∧ u.step6 opRD64 hd0 = .ok (some 0) ∧ u.step7 hd0 (some 0) = some 0 ∧
        u.step8 opRD64 hd0 [] (some 0) = false ∧ p.charge ≠ 0 ∧ v.2 = .go ∧ v.1.txn t.id = some p ∧
        v.1.behind p = false) ∧
    (let s := withTxns svcR [{ txn0 with stage := .heldShare }];
      let u := s.tookReq 0 0 opRD64 hd0 [] 0;
      let t := s.asTxn 0 opRD64 hd0 [] 0;
      let p := u.passedTxn t 0;
      let v := (u.setTxn p).passLabel t.id 0 p.charge (u.cardCharge opRD64 hd0 []).2;
      s.opens 0 opRD64 hd0 = true ∧ u.unheld t = true ∧ u.step6 opRD64 hd0 = .ok (some 0) ∧ v.2 = .go ∧
        v.1.txn t.id = some p ∧ v.1.behind p = true) ∧
    (let s := (svcR.wr Fd.REG_CTL_ENFORCE 1).wr (Fd.REG_L_CFG_EN 0) 1;
      let u := s.tookReq 0 0 opRD64 hd0 [] 0;
      let t := s.asTxn 0 opRD64 hd0 [] 0;
      let p := u.passedTxn t 0;
      let v := (u.setTxn p).passLabel t.id 0 p.charge (u.cardCharge opRD64 hd0 []).2;
      s.opens 0 opRD64 hd0 = true ∧ u.unheld t = true ∧ u.step6 opRD64 hd0 = .ok (some 0) ∧
        u.step7 hd0 (some 0) = some 0 ∧ v.2 = .held) ∧
    (let s := withRgl ((svcR.wr Fd.REG_CTL_ENFORCE 1).wr (Fd.REG_L_CFG_EN 0) 1) fun r =>
        { r with shareQ := [(0, List.replicate 2048 (0, 0))] };
      let u := s.tookReq 0 0 opRD64 hd0 [] 0;
      let t := s.asTxn 0 opRD64 hd0 [] 0;
      let p := u.passedTxn t 0;
      let v := (u.setTxn p).passLabel t.id 0 p.charge (u.cardCharge opRD64 hd0 []).2;
      s.opens 0 opRD64 hd0 = true ∧ u.unheld t = true ∧ u.step6 opRD64 hd0 = .ok (some 0) ∧ v.2 = .noRoom) :=
  ⟨by let inst := exceptEq; decide, by let inst := exceptEq; decide, by let inst := exceptEq; decide,
    by let inst := exceptEq; decide, by let inst := exceptEq; decide⟩

set_option maxRecDepth 20000 in
theorem witness_DataRequestRefused :
    (12 ≤ 12 ∧ (inMode mSTANDBY).deaf = true ∧ (withClk svc fun c => { c with portClosed := [0] }).portGated 0 = true) ∧
    (let u := withTxns svc [{ txn0 with stage := .heldRoom }];
      u.deaf = false ∧ u.portGated 0 = false ∧ u.blocked 0 = true) ∧
    (let s := withTxns svc (List.replicate 2048 txn0);
      s.decodes 0 = true ∧ 2048 ≤ (s.freeSlots 0 0 1).outstanding 0) ∧
    (let u := svc.freeSlots 0 0 1;
      svc.decodes 0 = true ∧ u.outstanding 0 < 2048 ∧ malformed opRD64 { hd0 with addr := 32 } = true) ∧
    (let s := inMode mHOLD;
      let u := s.freeSlots 0 0 1;
      s.decodes 0 = true ∧ u.outstanding 0 < 2048 ∧ malformed opRD64 hd0 = false ∧ u.dataMode = some stRETRY) ∧
    (let s := withTxns svcR [{ txn0 with op := opFENCE, stage := .fence, head := { hd0 with lenArg := 3 } }];
      s.opens 11 opRD64 hd0 = true ∧ (s.tookReq 0 11 opRD64 hd0 [] 0).fenced (s.asTxn 11 opRD64 hd0 [] 0) = true) ∧
    (let s := withTxns svcR [txn0];
      let h := { hd0 with flags := 1 };
      let u := s.tookReq 0 0 opRD64 h [] 0;
      let t := s.asTxn 0 opRD64 h [] 0;
      s.opens 0 opRD64 h = true ∧ u.fenced t = false ∧ u.orderWaits t = true) ∧
    (let s := { svcR with req := { svcR.req with commit := some (0, (0, 0, 1), (0, 0, 2), []) } };
      let h := { hd0 with addr := 2 ^ 27 - 64 };
      let u := s.tookReq 0 0 opRD64 h [] 0;
      let t := s.asTxn 0 opRD64 h [] 0;
      s.opens 0 opRD64 h = true ∧ u.fenced t = false ∧ u.orderWaits t = false ∧ u.commitHolds t = true) ∧
    (let r := svc.putRgn 0 { rgn0 with key := 1 };
      let s := { r with sec := { r.sec with load := some (0, 1) } };
      let u := s.tookReq 0 0 opRD64 hd0 [] 0;
      let t := s.asTxn 0 opRD64 hd0 [] 0;
      s.opens 0 opRD64 hd0 = true ∧ u.fenced t = false ∧ u.orderWaits t = false ∧ u.commitHolds t = false ∧
        u.keyHolds t = true) ∧
    (let r := svc.putRgn 0 { rgn0 with mirror := true };
      let s := { r with pair := { r.pair with roleAsk := some 1 } };
      let u := s.tookReq 0 0 opWR64 hd0 (zeros 64) 0;
      let t := s.asTxn 0 opWR64 hd0 (zeros 64) 0;
      s.opens 0 opWR64 hd0 = true ∧ u.fenced t = false ∧ u.orderWaits t = false ∧ u.commitHolds t = false ∧
        u.keyHolds t = false ∧ u.roleHolds t = true) ∧
    (let u := svc.tookReq 0 0 opRD64 hd0 [] 0;
      svc.opens 0 opRD64 hd0 = true ∧ u.unheld (svc.asTxn 0 opRD64 hd0 [] 0) = true ∧
        u.step6 opRD64 hd0 = .error (stREJ_REGION, 0)) ∧
    (let h := { hd0 with label := 254 };
      let u := svcR.tookReq 0 0 opRD64 h [] 0;
      svcR.opens 0 opRD64 h = true ∧ u.unheld (svcR.asTxn 0 opRD64 h [] 0) = true ∧ u.step6 opRD64 h = .ok (some 0) ∧
        u.step7 h (some 0) = none) ∧
    (let s := svcR.wrBit (rgnFenceFld 0) 0 true;
      let u := s.tookReq 0 0 opRD64 hd0 [] 0;
      s.opens 0 opRD64 hd0 = true ∧ u.unheld (s.asTxn 0 opRD64 hd0 [] 0) = true ∧ u.step6 opRD64 hd0 = .ok (some 0) ∧
        u.step7 hd0 (some 0) = some 0 ∧ u.step8 opRD64 hd0 [] (some 0) = true) :=
  ⟨by decide, by decide, by decide, by decide, by decide, by decide, by decide, by decide, by decide, by decide,
    by let inst := exceptEq; decide, by let inst := exceptEq; decide, by let inst := exceptEq; decide⟩

theorem witness_LineAccessesPresented :
    (isLine opRD64 = true ∧ svc.goesAway txn0 = false ∧ (∀ a ∈ lineAccs txn0, svc.bucketOf (64 * a.line) = none) ∧
      lineAccs txn0 ≠ []) ∧
    (let t : Txn := { txn0 with op := opRD256, head := { hd0 with addr := 2 ^ 39 } };
      isLine t.op = true ∧ svc.goesAway t = false ∧ (∀ a ∈ lineAccs t, svc.bucketOf (64 * a.line) = none) ∧
        isRead t.op = true) ∧
    (let t : Txn := { txn0 with op := opWR128, payload := zeros 128 };
      isLine t.op = true ∧ svc.goesAway t = false ∧ (∀ a ∈ lineAccs t, svc.bucketOf (64 * a.line) = none) ∧
        isWrite t.op = true) ∧
    (let t : Txn := { txn0 with op := opATOM, payload := zeros 16 };
      svc.goesAway t = false ∧ ∀ a ∈ lineAccs t, svc.bucketOf (64 * a.line) = none) ∧
    (let t : Txn := { txn0 with op := opWRP, payload := zeros 80 };
      svc.goesAway t = false ∧ (∀ a ∈ lineAccs t, svc.bucketOf (64 * a.line) = none) ∧ bit t.head.spec 0 = false ∧
        leNat (t.payload.take 8) % 2 ^ 64 = 0) :=
  ⟨by decide, by decide, by decide, by decide, by decide⟩

theorem witness_FencesAndOrder :
    (svc.inReset = false ∧ svc.goesAway { txn0 with op := opFENCE } = false) ∧
    (let u := svc.wr Fd.OBS_SNAP_STAT_HELD 1;
      u.goesAway { txn0 with op := opSNAP } = false ∧ u.on Fd.OBS_SNAP_STAT_HELD = true ∧
        svc.on Fd.OBS_SNAP_STAT_HELD = false ∧ svc.obs.freed ≠ svc.clk.time + 1) ∧
    (svc.tooLate = false ∧ svc.waving = false ∧ (svc.wave 0 0).tooLate = false ∧ (svc.wave 0 0).waving = true ∧
      (withClk (svc.wave 0 0) fun c => { c with time := 5 }).snapTime ≠ 5 ∧
      (withClk (svc.wave 0 0) fun c => { c with time := 5 }).tooLate = true) ∧
    (let t : Txn := { txn0 with id := 1, op := opFENCE, stage := .fence };
      let u := withTxns svc [t];
      u.txn 1 = some t ∧ ∀ x ∈ u.req.txns, ¬ (x.id < t.id ∧ fenceCovers t x = true)) ∧
    (let t : Txn := { txn0 with id := 1, op := opFENCE, stage := .fence };
      let u := withTxns svc [txn0, t];
      u.txn 1 = some t ∧ ∃ x ∈ u.req.txns, x.id < t.id ∧ fenceCovers t x = true) ∧
    (let t : Txn := { txn0 with id := 1, stage := .heldOrdered, head := { hd0 with flags := 1 } };
      (withTxns svc [t]).txn 1 = some t ∧ (withTxns svc [t]).orderWaits t = false ∧
        (withTxns svc [txn0, t]).txn 1 = some t ∧ (withTxns svc [txn0, t]).orderWaits t = true) :=
  ⟨by decide, by decide, by decide, by decide, by decide, by decide⟩

/-- A management head of one register. -/
def hdM (a : Nat) : ReqHead := { hd0 with addr := a, lenArg := 1 }

/-- What the MAC of an AUTH with counter c and these wrapped bytes covers. -/
def macText (c : Nat) (w : List Byte) : List Byte := leBytes 16 (headWord opAUTH hd0) ++ (leBytes 8 c ++ zeros 8) ++ w

/-- An AUTH's 64 bytes under the key 0. -/
def authData (c : Nat) (w : List Byte) : List Byte :=
  leBytes 8 c ++ zeros 8 ++ leBytes 16 (Config.hmacSm3 (leBytes 32 0) (macText c w)) ++ w

/-- A wrapped MGMT_WR of OTP_PROG_CTL. -/
def wrap0 : List Byte := leBytes 16 (headWord opMGMT_WR (hdM Ra.OTP_PROG_CTL)) ++ zeros 16

theorem witness_auth_mac (c : Nat) :
    (svc.tookReq 3 11 opAUTH hd0 (authData c wrap0) 254).macOk (svc.asTxn 11 opAUTH hd0 (authData c wrap0) 254) = true := by
  have hk : (svc.tookReq 3 11 opAUTH hd0 (authData c wrap0) 254).authKey = some 0 := by
    have h : svc.authKey = some 0 := by decide
    exact h
  have h1 : ((authData c wrap0).drop 16).take 16 = leBytes 16 (Config.hmacSm3 (leBytes 32 0) (macText c wrap0)) := rfl
  have h2 : leBytes 16 (headWord opAUTH hd0) ++ (authData c wrap0).take 16 ++ ((authData c wrap0).drop 32).take 32 =
    macText c wrap0 := rfl
  unfold State.macOk
  rw [hk]
  simp only [State.asTxn, h1, h2, leNat_leBytes]
  exact beq_self_eq_true _

set_option maxRecDepth 20000 in
theorem witness_ManagementRequests :
    (let d := authData 1 wrap0;
      malformed opAUTH hd0 = false ∧ svc.mgmtMode 11 opAUTH hd0 d = none ∧ (wrapped d).1 = opMGMT_WR ∧
        0 < (wrapped d).2.lenArg % 8 ∧ (wrapped d).2.lenArg % 8 ≤ 4 ∧ (wrapped d).2.addr % 4 = 0 ∧
        svc.sec.last < leNat (d.take 8) ∧ leNat (d.take 8) ≤ svc.sec.last + 2 ^ 32 ∧ leNat (d.take 8) < svc.sec.p + 65536) ∧
    (svc.sec.last < leNat ((authData 65536 wrap0).take 8) ∧
      leNat ((authData 65536 wrap0).take 8) ≤ svc.sec.last + 2 ^ 32 ∧
      svc.sec.p + 65536 ≤ leNat ((authData 65536 wrap0).take 8) ∧ svc.stopped 4 = false) ∧
    (svc.inReset = false ∧ 11 < 12 ∧ svc.deaf = false ∧ svc.portGated 11 = false ∧ svc.txn svc.req.nextId = none ∧
      (∀ x ∈ svc.req.txns, ¬ (isMgmt x.op = true ∧ x.stage = .running)) ∧ svc.outstanding 11 < 2048 ∧
      svc.seq.mcRestart = false) ∧
    (let h := hdM Ra.GLB_ID;
      malformed opMGMT_RD h = false ∧ (svc.tookReq 3 11 opMGMT_RD h [] 254).fenced (svc.asTxn 11 opMGMT_RD h [] 254) = false ∧
        (svc.tookReq 3 11 opMGMT_RD h [] 254).orderWaits (svc.asTxn 11 opMGMT_RD h [] 254) = false ∧
        (mgmtAddrs h).all inBlock = true) ∧
    (malformed opMGMT_RD (hdM 0xFFFFFC) = false ∧ (mgmtAddrs (hdM 0xFFFFFC)).all inBlock = false) ∧
    (malformed opMGMT_WR (hdM Ra.OTP_PROG_CTL) = false ∧ svc.mgmtMode 11 opMGMT_WR (hdM Ra.OTP_PROG_CTL) (zeros 16) = none ∧
      (mgmtAddrs (hdM Ra.OTP_PROG_CTL)).any governed = true) ∧
    (let h := hdM Ra.FLT_CTL;
      let u := svc.tookReq 3 11 opMGMT_WR h (zeros 16) 254;
      malformed opMGMT_WR h = false ∧ u.fenced (svc.asTxn 11 opMGMT_WR h (zeros 16) 254) = false ∧
        u.orderWaits (svc.asTxn 11 opMGMT_WR h (zeros 16) 254) = false ∧ (mgmtAddrs h).any governed = false ∧
        (mgmtAddrs h).all inBlock = true ∧ (u.writeRegs 11 (mgmtAddrs h) (zeros 16)).2.later = false) ∧
    (malformed opAUTH hd0 = false ∧ svc.mgmtMode 11 opAUTH hd0 (zeros 64) = none ∧
      (svc.tookReq 3 11 opAUTH hd0 (zeros 64) 254).fenced (svc.asTxn 11 opAUTH hd0 (zeros 64) 254) = false ∧
      (svc.tookReq 3 11 opAUTH hd0 (zeros 64) 254).orderWaits (svc.asTxn 11 opAUTH hd0 (zeros 64) 254) = false ∧
      svc.authWaiting = [] ∧ (wrapped (zeros 64)).1 ≠ opMGMT_WR) ∧
    (let d := zeros 32 ++ leBytes 16 (headWord opMGMT_WR (hdM Ra.OTP_PROG_CTL)) ++ zeros 16;
      (wrapped d).1 = opMGMT_WR ∧ 0 < (wrapped d).2.lenArg % 8 ∧ (wrapped d).2.lenArg % 8 ≤ 4 ∧
        (wrapped d).2.addr % 4 = 0 ∧ ((svc.wr Fd.OTP_LC_STATE 2).tookReq 3 11 opAUTH hd0 d 254).macOk
          ((svc.wr Fd.OTP_LC_STATE 2).asTxn 11 opAUTH hd0 d 254) = false) ∧
    (let x : Txn := { txn0 with op := opAUTH, stage := .heldPersist, payload := leBytes 8 65536 ++ zeros 56 };
      let u := withNvm (withTxns svc [x]) fun n => { n with stored := some (65536, true) };
      u.authWaiting = [x] ∧ u.nvm.stored = some (65536, true) ∧ authCounter x = 65536) :=
  ⟨by decide, by decide, by decide, by decide, by decide, by decide, by decide, by decide, by decide, by decide⟩

/-! ### Regions, controllers and DRAM -/

/-- A state whose staged entry is `r`. -/
def withStage (s : State) (r : Rgn) : State :=
  let s := ((s.wr Fd.RGN_STG_B_WIN r.win).wr Fd.RGN_STG_B_BASE r.base).wr Fd.RGN_STG_S_SIZE r.size;
  let s := ((s.wr Fd.RGN_STG_A_VALID (b2n r.valid)).wr Fd.RGN_STG_A_KIND r.kind).wr Fd.RGN_STG_A_LABEL r.label;
  (s.wr Fd.RGN_STG_Q0_EN r.q0.1).wr Fd.RGN_STG_A_KEY r.key

/-- A commit of region 0 from one unit to two. -/
def committing (s : State) : State := { s with req := { s.req with commit := some (0, (0, 0, 1), (0, 0, 2), []) } }

set_option maxRecDepth 20000 in
theorem witness_RegionCommits :
    ((svc.wr Fd.RGN_COMMIT_INDEX 63).wr Fd.RGN_STAT_BUSY 1).on Fd.RGN_STAT_BUSY = true ∧
    ((inMode mHOLD).wr Fd.RGN_COMMIT_INDEX 0).on Fd.RGN_STAT_BUSY = false ∧
    (let u := (withStage svc { rgn0 with size := 0 }).wr Fd.RGN_COMMIT_INDEX 63;
      u.mode = mSERVICE ∧ rgnCheck u (fun m => if m = 63 then u.rgnStaged else u.rgn m) 63 = some 4) ∧
    (let u := (withStage svcR { rgn0 with label := 253 }).wr Fd.RGN_COMMIT_INDEX 0;
      rgnCheck u (fun m => if m = 0 then u.rgnStaged else u.rgn m) 0 = none ∧ (u.rgn 0).light u.rgnStaged = true) ∧
    (let v := (withStage svcR { rgn0 with size := 2 }).wr Fd.RGN_COMMIT_INDEX 0;
      let u := { (v.wr (Fd.QUE_POOL_CFG_RGN 1) 0) with que := { v.que with qs := [(1, { state := 1, pool := 1 })] } };
      rgnCheck u (fun m => if m = 0 then u.rgnStaged else u.rgn m) 0 = none ∧ (u.rgn 0).light u.rgnStaged = false ∧
        u.rgnInUse 0 u.rgnStaged = true) ∧
    (let u := (withStage svcR { rgn0 with size := 2 }).wr Fd.RGN_COMMIT_INDEX 0;
      rgnCheck u (fun m => if m = 0 then u.rgnStaged else u.rgn m) 0 = none ∧ (u.rgn 0).light u.rgnStaged = false ∧
        u.rgnInUse 0 u.rgnStaged = false) ∧
    ((committing svc).req.commit = some (0, (0, 0, 1), (0, 0, 2), []) ∧ (committing svc).commitBusy (0, 0, 1) = false ∧
      (withTxns (committing svc) [txn0]).commitBusy (0, 0, 1) = true) ∧
    svc.req.commit = none ∧
    ((svc.wrBit (rgnFenceFld 63) 31 true).rgnFenced 63 = true ∧ svc.rgnFenced 0 = false) :=
  ⟨by decide, by decide, by decide, by decide, by decide, by decide, by decide, by decide, by decide⟩

/-- A line access of pseudo-channel 0 and bank 0. -/
def acc0 : Acc := { seq := 0, txn := 0, ini := 0, kind := .read, line := 0 }

theorem witness_ControllerEntries :
    svc.nextFor 0 0 = none ∧
    (let s := { svc with fabric := [acc0] };
      s.nextFor 0 0 = some acc0 ∧ s.accessOf acc0 = [acc0] ∧ (s.wr (Fd.CG_CTL_FENCE 0) 1).cgFenced (0 / 4) = true ∧ s.cgFenced (0 / 4) = false ∧
        (s.pc 0).rq.length < 64 ∧ (s.pc 0).mb.length < 16) ∧
    (let s := svc.setPc 0 { svc.pc 0 with rq := List.replicate 64 acc0 };
      64 ≤ (s.pc 0).rq.length) ∧
    (let a := { acc0 with kind := .merge };
      { svc with fabric := [a] }.nextFor 0 0 = some a) ∧
    (let a := { acc0 with kind := .write, line := 2 ^ 33 - 1, ini := 16 };
      let s := { svc with fabric := [a] };
      let k := pcOf (64 * (2 ^ 33 - 1));
      s.nextFor k 16 = some a ∧ (s.pc k).locked a.line = false ∧ (s.pc k).wq.length < 64 ∧
        ((s.setPc k { s.pc k with mb := [{ a with kind := .merge }] }).pc k).locked a.line = true) :=
  ⟨by decide, by decide, by decide, by decide, by decide⟩

theorem witness_ControllerCommands :
    ((withPc0 svc fun p => { p with selfRef := true }).pc 0).selfRef = true ∧
    ((svc.pc 127).selfRef = false ∧ svc.cgFenced (127 / 4) = false) ∧
    (let s := withPc0 svc fun p => { p with rq := [acc0] };
      ((s.setPc 0 { s.pc 0 with wmode := s.writeMode 0 }).pc 0).accs.filter
        (fun a => [0].contains a.seq && (s.setPc 0 { s.pc 0 with wmode := s.writeMode 0 }).candidate 0 (s.writeMode 0) a)
          ≠ []) ∧
    (acc0.bank = 0 ∧ acc0.row = 0 ∧ ((svc.pc 0).bank acc0.bank).openRow = none ∧
      (((withBank0 svc { openRow := some 0 }).pc 0).bank acc0.bank).openRow = some acc0.row ∧
      (((withBank0 svc { openRow := some 8191 }).pc 0).bank acc0.bank).openRow = some 8191) ∧
    (let s := withPc0 svc fun p => { p with rq := [acc0], issued := [0] };
      (s.pc 0).issued = 0 :: [] ∧ ((s.pc 0).rq ++ (s.pc 0).mb).find? (fun x => x.seq == 0) = some acc0) ∧
    (let a := { acc0 with kind := .write };
      let s := withPc0 svc fun p => { p with wq := [a], wissued := [0], rq := [{ acc0 with seq := 1 }] };
      (s.pc 0).wissued = 0 :: [] ∧ (s.pc 0).wq.find? (fun x => x.seq == 0) = some a ∧
        ∀ o ∈ (s.pc 0).rq ++ (s.pc 0).mb, ¬ (o.line = a.line ∧ o.seq < a.seq)) ∧
    (let s := (withBank0 svc { openRow := some 0 }).wr (Fd.CG_PAGE_T0 0) 254;
      ((s.pc 0).bank 0).openRow = some 0 ∧ s.pageTimer (nth 0 (rowLines 0 0 0) 0) ≠ 255 ∧
        ∀ a ∈ (s.pc 0).accs, ¬ (a.bank = 0 ∧ a.row = 0)) ∧
    (let s := withPc0 svc fun p => { p with rq := [acc0] };
      0 < s.bankCount ∧ (s.pc 0).selfRef = false ∧ ((s.pc 0).bank 0).debt < 7 ∧ (∃ a ∈ (s.pc 0).accs, a.bank = 0) ∧
        (∀ a ∈ (svc.pc 0).accs, a.bank ≠ 0) ∧ -8 < ((svc.pc 0).bank 0).debt ∧
        7 ≤ ((withBank0 svc { debt := 7 }).pc 0 |>.bank 0).debt) ∧
    ((withBank0 svc { trrDue := [5], trrN := 64 }).pc 0 |>.bank 0).trrDue = 5 :: [] ∧
    ((inMode mHOLD).selfRefDue 0 = true ∧ (withPc0 svc fun p => { p with selfRef := true }).selfRefDue 0 = false) :=
  ⟨by decide, by decide, by decide, by decide, by decide, by decide, by decide, by decide, by decide, by decide⟩

theorem witness_ChannelGroupFaults :
    (svc.wr (Fd.CG_CTL_FENCE 31) 1).cgFenced 31 = true ∧
    (svc.cgFenced 0 = false ∧
      (((svc.cg 0).mism.filter fun t => decide (svc.clk.time < t + 175)) ++ [svc.clk.time]).length < 4 ∧
      svc.on (Fd.CG_STAT_SIMPLEX 0) = false) ∧
    (let s := svc.setCg 0 { svc.cg 0 with mism := [0, 0, 0] };
      4 ≤ (((s.cg 0).mism.filter fun t => decide (s.clk.time < t + 175)) ++ [s.clk.time]).length) ∧
    (let s := (svc.wr (Fd.CG_STAT_SIMPLEX 0) 1).wr (Fd.CG_STAT_COPY 0) 1;
      s.cgFenced 0 = false ∧ s.on (Fd.CG_STAT_SIMPLEX 0) = true ∧ s.on (Fd.CG_STAT_COPY 0) = true) ∧
    (Tab.get (fun _ => 0) (svc.cg 0).caRun (64 * 3 + 63) + 1 ≠ 17 ∧
      Tab.get (fun _ => 0) ((svc.setCg 0 { svc.cg 0 with caRun := [(64 * 3 + 63, 16)] }).cg 0).caRun (64 * 3 + 63) + 1 = 17) ∧
    (let s := (svc.wr (Fd.CG_CTL_FENCE 0) 1).setCg 0 { svc.cg 0 with draining := true };
      s.cgFenced 0 = true ∧ (s.cg 0).draining = true ∧ (svc.cg 0).draining = false) ∧
    (let s := (svc.wr (Fd.CG_CTL_FENCE 0) 1).setCg 0 { svc.cg 0 with caFail := true };
      s.cgFenced 0 = true ∧ (s.cg 0).caFail = true) ∧
    (let s := svc.wr (Fd.CG_CTL_FENCE 0) 1;
      s.cgFenced 0 = true ∧ (s.cg 0).schedFail = false ∧ (s.cg 0).caFail = false) :=
  ⟨by decide, by decide, by decide, by decide, by decide, by decide, by decide, by decide⟩

theorem witness_DramLineStores :
    2 ^ 33 - 1 < 2 ^ 33 ∧ svc.inTransit (2 ^ 33 - 1) = none ∧ svc.on Fd.ECC_INJ_CTL_ARMED = false := by decide

/-! ### Repair, scrub and Crema -/

/-- The entry of a row repair of pseudo-channel 0, bank 0, row 5, spare 15. -/
def ent0 : Nat := 2 ^ 62 + 5 * 2 ^ 35 + 15 * 2 ^ 31

/-- A remap of that row. -/
def remap0 : Remap := { pc := 0, bank := 0, row := 5, spare := 15, lines := none }

/-- Error injection is enabled, with a first pattern. -/
def injOn : State := (svc.wr Fd.ECC_CTL_INJ_EN 1).wr Fd.ECC_INJ_PAT_VALUE_A 1

set_option maxRecDepth 20000 in
theorem witness_InjectionAndScrub :
    (let v := 63 * 2 ^ 21 + 35 * 2 ^ 15 + 1;
      let w := setBits v 31 31 1;
      let u := ((injOn.wr Fd.ECC_INJ_CTL_SRC (bits w 29 27)).wr Fd.ECC_INJ_CTL_POS_A (bits w 20 15)).wr Fd.ECC_INJ_CTL_POS_B
        (bits w 26 21);
      bits w 20 15 ≤ 35 ∧ bits w 26 21 = 63 ∧ bits w 14 0 ≠ 0 ∧ u.on Fd.ECC_CTL_INJ_EN = true ∧
        u.rd Fd.ECC_INJ_PAT_VALUE_A ≠ 0) ∧
    svc.on Fd.ECC_CTL_INJ_EN = false ∧
    ((injOn.wr Fd.CRM_INJ_CTL_SRC 0).wr Fd.CRM_INJ_CTL_FLIP 1).on Fd.ECC_CTL_INJ_EN = true ∧
    (let s := svc.wr Fd.ECC_CTL_SCRUB_EN 1;
      s.on Fd.ECC_CTL_SCRUB_EN = true ∧ s.mode = mSERVICE ∧ 127 ∉ s.ecc.passDone ∧
        (s.skipMoving 127 16).scrubPlace 127 = some (s.pc 127).scrubPos ∧
        (s.skipMoving 127 16).scrubbable 127 (walkLine 127 (s.pc 127).scrubPos) = true ∧ (s.pc 127).owed = 0 ∧
        (s.wr (Fd.CG_CTL_FENCE 31) 1).scrubbable 127 (walkLine 127 (s.pc 127).scrubPos) = false ∧
        ((s.setPc 127 { s.pc 127 with owed := 1 }).pc 127).owed ≠ 0) ∧
    (svc.wr Fd.ECC_CTL_SCRUB_EN 0).on Fd.ECC_CTL_SCRUB_EN = false ∧
    (let s := svc.setCg (pcOf 0 / 4) { svc.cg (pcOf 0 / 4) with prompt := [0, 1] };
      (s.cg (pcOf 0 / 4)).prompt = 0 :: [1] ∧ s.scrubbable (pcOf (64 * 0)) 0 = true) :=
  ⟨by decide, by decide, by decide, by decide, by decide, by decide⟩

set_option maxRecDepth 20000 in
theorem witness_RepairCommands :
    (entryFormat svc.part.lgrp 0 = false ∧ entryFormat svc.part.lgrp ent0 = true ∧ (entryRepair ent0).kind = 1 ∧
      entryRetires ent0 = false ∧ (entryRepair ent0).pc = 0 ∧ (entryRepair ent0).spare = 15) ∧
    ((svc.wr (Fd.CG_CTL_FENCE 0) 1).cgFenced 0 = true ∧ svc.cgFenced 0 = false) ∧
    ((svc.setCg 0 { svc.cg 0 with remap := some remap0 }).cg 0).remap ≠ none ∧
    ((svc.cg 0).remap = none ∧ svc.cgTested 0 = false ∧ 15 < 16 ∧ svc.spareFree 0 0 15 = true) ∧
    (let s := withEcc svc fun e => { e with repairs := [entryRepair ent0] };
      (∃ i, i < 16 ∧ s.spareFree 0 0 i = true) ∧ s.spareFree 0 0 15 = false ∧ (s.spareUser (entryRepair ent0)).isSome = true) ∧
    (let s := withEcc svc fun e => { e with
        retired := (List.range 16).map fun i => { kind := 1, pc := 0, bank := 0, target := 0, spare := i } };
      ∀ i, i < 16 → s.spareFree 0 0 i = false) ∧
    (let e := 2 ^ 62 + 2 ^ 61 + 15 * 2 ^ 31;
      entryFormat svc.part.lgrp e = true ∧ entryRetires e = true ∧ svc.spareUser (entryRepair e) = none) ∧
    (let s := svc.setCg 0 { svc.cg 0 with remap := some remap0 };
      (s.cg 0).remap = some remap0 ∧ remap0.lines = none ∧ s.lends remap0.pc remap0.bank = true) ∧
    (let m := { remap0 with lines := some [] };
      let s := svc.setCg 0 { svc.cg 0 with remap := some m };
      (s.cg 0).remap = some m ∧ m.lines = some [] ∧ s.lends m.pc m.bank = true) ∧
    (svc.cg 31).remap = none :=
  ⟨by decide, by decide, by decide, by decide, by decide, by decide, by decide, by decide, by decide, by decide⟩

/-- A line access of Crema bank 0. -/
def cacc0 : Acc := { seq := 0, txn := 0, ini := 0, kind := .read, line := 2 ^ 33 }

set_option maxRecDepth 20000 in
theorem witness_CremaTransfers :
    (let b := cBank (64 * svc.cLine cacc0);
      let s := { svc with fabric := [cacc0] };
      s.nextCrema b 0 = some cacc0 ∧ b < 256 ∧ s.coreOff = false ∧ s.bankFenced b = false ∧
        (s.wrBit (Fd.CRM_FENCE_FENCE (b / 32)) (b % 32) true).bankFenced b = true) ∧
    (let a := { cacc0 with kind := .write, ini := 16 };
      { svc with fabric := [a] }.nextCrema (cBank (64 * svc.cLine a)) 16 = some a) ∧
    (let m := MergeOp.atom 0 false 0 1 0;
      let a := { cacc0 with kind := .merge, mop := some m };
      let s := { svc with fabric := [a] };
      let r := (s.taken a 32).cRead (64 * s.cLine a) 64 0 [];
      s.nextCrema (cBank (64 * s.cLine a)) 0 = some a ∧ a.mop = some m ∧ r.2.2.any id = false ∧ (m.run r.2.1).2.2 = true ∧
        ((MergeOp.atom 1 false 0 1 5).run r.2.1).2.2 = false) ∧
    (let a := { cacc0 with kind := .merge, mop := some (MergeOp.atom 0 false 0 1 0) };
      let s := withCrm { svc with fabric := [a] } fun c => { c with store := [(64 * svc.cLine a + 63, cPoison)] };
      ((s.taken a 32).cRead (64 * s.cLine a) 64 0 []).2.2.any id = true) ∧
    svc.nextCrema 255 0 = none ∧
    (let s := svc.wr Fd.CRM_CTL_PATROL_EN 1;
      let q := withCrm s fun c => { c with prompt := [0] };
      s.patrols = true ∧ (inMode mHOLD).patrols = false ∧ s.bankFenced 0 = false ∧
        q.crm.prompt.find? (fun x => cBank (64 * x) == 0) = some 0 ∧
        s.crm.prompt.find? (fun x => cBank (64 * x) == 0) = none ∧ (s.patrolPos 0 + 1) % bankLines ≠ 0) ∧
    ((svc.wrBit (Fd.CRM_FENCE_FENCE 7) 31 true).bankFenced 255 = true ∧ svc.crm.fence410.contains 255 = false ∧
      (withCrm svc fun c => { c with fence410 := [0] }).crm.fence410.contains 0 = true) :=
  ⟨by decide, by decide, by decide, by decide, by decide, by decide, by decide⟩

theorem witness_CremaByteCode : (0 < 1 ∧ 12 < 13) ∧ 0xA5 ≤ 0xA5 ∧ 0xA5 < 0xA5 + [(0 : Byte)].length := by decide

/-! ### Queues -/

/-- SERVICE with pool 1 in region 0 and queue 0 holding `r`. -/
def withQ (r : QRec) : State :=
  let s := svc.putRgn 0 { rgn0 with kind := kBUFFER };
  ((s.wr (Fd.QUE_POOL_CFG_VALID 1) 1).wr (Fd.QUE_POOL_CFG_RGN 1) 0).setQ 0 { r with pool := 1 }

/-- The state once the queue's record has decoded. -/
def found (s : State) : State := (s.queueLost 0).1

/-- A queue request of opcode `op`. -/
def qtxn (op len addr spec : Nat) (d : List Byte) : Txn :=
  { txn0 with
    op := op
    payload := d
    head := { hd0 with lenArg := len, addr := addr, spec := spec } }

/-- One cell of 8 bytes with both marks. -/
def cell1 : List Byte := leBytes 8 (8 * 2 ^ 24 + 3 * 2 ^ 32) ++ zeros 248

set_option maxRecDepth 20000 in
theorem witness_QueueRequests :
    ((withQ {}).goesAway (qtxn opENQ 1 0 0 cell1) = false ∧ isQueue opENQ = true) ∧
    (let s := withCrm (withQ {}) fun c => { c with store := [(31, cPoison)] };
      (s.queueLost 0).2 = true) ∧
    (let s := (withQ {}).wrBit (Fd.CRM_FENCE_FENCE (cBank (queueOff 0) / 32)) (cBank (queueOff 0) % 32) true;
      (s.queueLost 0).2 = false ∧ (found s).bankFenced (cBank (queueOff 0)) = true) ∧
    (let s := withQ { state := 1, limit := 1 };
      let u := found s;
      let r := u.q 0;
      let ws := cellWords 1 cell1;
      (s.queueLost 0).2 = false ∧ u.bankFenced (cBank (queueOff 0)) = false ∧ r.state = 1 ∧
        (ws.all fun w => decide (1 ≤ cellLen w) && decide (cellLen w ≤ 248)) = true ∧ (marks r.opn ws).2 = true ∧
        r.cells + 1 ≤ r.limit ∧ r.limit < r.cells + 2 ∧ r.tail % 16 + 1 < 16 ∧
        ∀ i, i < 1 → u.lineFenced (u.cellAddr r.pool (r.tail + i)) = false) ∧
    (let s := (withQ { state := 1, opn := true }).wr Fd.QUE_CTL_MARK_CHK 1;
      let ws := cellWords 1 cell1;
      (found s).on Fd.QUE_CTL_MARK_CHK = true ∧ (marks ((found s).q 0).opn ws).2 = false ∧
        ((cellWords 1 (zeros 256)).all fun w => decide (1 ≤ cellLen w) && decide (cellLen w ≤ 248)) = false) ∧
    (((found (withQ { state := 0 })).q 0).state = 0 ∧ 2 ≤ ((found (withQ { state := 2 })).q 0).state ∧
      ((found (withQ { state := 3 })).q 0).state = 3 ∧ ((found (withQ { state := 1 })).q 0).cells = 0) ∧
    (let s := withQ { state := 2, cells := 2, head := 12, tail := 14 };
      let u := found s;
      let r := u.q 0;
      r.state = 2 ∧ r.cells ≠ 0 ∧ bit (qtxn opDEQ 4 0 0 []).head.spec 16 = false ∧ r.head % 16 + min 4 r.cells < 16 ∧
        r.hlost = false ∧ r.head / 16 = r.tail / 16 ∧
        ∀ i, i < min 4 r.cells → u.lineFenced (u.cellAddr r.pool (r.head + i)) = false) ∧
    (let s := withQ {};
      let u := found s;
      u.canAlloc 1 = true ∧ (u.allocPage 1).2 = some 0 ∧ ((u.wr (Fd.QUE_POOL_CFG_VALID 2) 0).setPool 1
        { bump := u.poolM 1 }).canAlloc 1 = false) ∧
    (let s := withQ { state := 1, cells := 1 };
      ((found s).q 0).cells ≠ 0 ∧ (found s).que.drains.length < 64 ∧ 3 ≤ 3 ∧ 4 ≤ 4 ∧
        bits (qtxn opQCTL 0 0 0x40000 []).head.spec 18 16 = 4) :=
  ⟨by decide, by decide, by decide, by decide, by decide, by decide, by decide, by decide, by decide⟩

/-- A DEQ with these cells still to read. -/
def deq0 (cells : List Nat) : DeqOp :=
  { txn := 0, qid := 0, pool := 1, cells := cells, data := [], pmask := 0, taken := 1, aborted := false }

set_option maxRecDepth 20000 in
set_option exponentiation.threshold 600 in
theorem witness_QueueEngineSteps :
    (let s := withQue (withQ { state := 1 }) fun x => { x with deqs := [deq0 [3], { deq0 [] with txn := 1 }] };
      s.que.deqs.find? (fun x => x.txn == 0) = some (deq0 [3]) ∧
        s.que.deqs.find? (fun x => x.txn == 1) = some { deq0 [] with txn := 1 } ∧ (deq0 []).cells = []) ∧
    (let s := withQ { state := 1, head := 15, tail := 32 };
      let r := s.memRead (s.cellAddr 1 15) 0;
      (s.q 0).state = 1 ∧ (s.q 0).hnext = none ∧ (s.q 0).hlost = false ∧ (s.q 0).head / 16 ≠ (s.q 0).tail / 16 ∧
        r.2.2 = false ∧ bits (leNat (r.2.1.take 8)) 63 48 = 0) ∧
    (let s := withQue svc fun x => { x with freeing := [(1, 0)], deqs := [deq0 [16]] };
      (1, 0) ∈ s.que.freeing ∧ (∀ d ∈ s.que.deqs, d.pool = 1 → ∀ c ∈ d.cells, c / 16 ≠ 0) ∧
        ∃ d ∈ s.que.deqs, d.pool = 1 ∧ ∃ c ∈ d.cells, c / 16 = 1) ∧
    (let s := withQ {};
      1 < 16 ∧ s.on (Fd.QUE_POOL_CFG_VALID 1) = true ∧ (s.pool 1).cache.length < 4096 ∧ (s.pool 1).depth = 0) ∧
    (let s := withQue (withQ { state := 2 }) fun x => { x with drains := [{ qid := 0, code := 1, timedOut := false }] };
      (∃ d ∈ s.que.drains, d.qid = 0 ∧ d.timedOut = false) ∧ (s.q 0).state = 2 ∧
        ∀ d ∈ s.que.drains, d.qid = 65536 + 1 % 65536 → d.timedOut = true) ∧
    (((withQ { state := 3, head := 1, tail := 15 }).q 0).state = 3 ∧
      ((withQ { state := 3, head := 1, tail := 15 }).q 0).head / 16 =
        ((withQ { state := 3, head := 1, tail := 15 }).q 0).tail / 16) ∧
    (let r := (withQ { state := 3, head := 15, tail := 16, hnext := some 1 }).q 0;
      r.head / 16 ≠ r.tail / 16 ∧ r.hlost = false ∧ r.hnext = some 1) ∧
    (svc.on (Fd.QUE_POOL_CFG_VALID (svc.rd Fd.QUE_POOL_CMD_POOL)) = false ∧
      (let s := (withQ { state := 1 }).wr Fd.QUE_POOL_CMD_POOL 1;
        s.on (Fd.QUE_POOL_CFG_VALID (s.rd Fd.QUE_POOL_CMD_POOL)) = true ∧ s.poolBusy 1 = true) ∧
      (withQ { state := 0 }).poolBusy 1 = false) :=
  ⟨by decide, by decide, by decide, by decide, by decide, by decide, by decide, by decide⟩

/-! ### Tables -/

/-- A table of 16 buckets of 64 bytes in region 0 of the Crema window, with keys of 4 bytes and results of 4. -/
def withTable (ready : Nat) : State :=
  let s := svc.putRgn 0 { rgn0 with kind := kTABLE, win := 1 };
  let s := ((s.wr (Fd.TBL_D_CFG_VALID 0) 1).wr (Fd.TBL_D_CFG_RGN 0) 0).wr (Fd.TBL_D_CFG_LOG2NB 0) 4;
  ((s.wr (Fd.TBL_D_CFG_KEYLEN 0) 4).wr (Fd.TBL_D_CFG_RESLEN 0) 4).wr (Fd.TBL_D_STAT_READY 0) ready

/-- The table is ready and the table engine was the last initiator served by the Crema; and a probe of it has been
counted. -/
def tb : State := (withTable 1).carry 14 (2 ^ 33)
def tbC : State := tb.count Fd.TBL_PROBE_CNT_COUNT Fd.TBL_PROBE_CNT_OVF 1

/-- A table request on table 0. -/
def ttxn (op : Nat) : Txn :=
  { txn0 with
    op := op
    payload := zeros 16
    head := { hd0 with lenArg := 4 } }

theorem hash_lt (d : Desc) (k : List Byte) (h : d.nb = 16) : (d.hash k).1 < 16 ∧ (d.hash k).2.1 < 16 := by
  have e : ∀ x, x < 16 → Nat.xor x 1 < 16 := by decide
  have g : ∀ x, x % d.nb < 16 := fun x => by rw [h]; exact Nat.mod_lt _ (by decide)
  refine ⟨g _, ?_⟩
  unfold Desc.hash
  dsimp only
  split
  · exact e _ (g _)
  · exact g _

theorem find_zeros (d : Desc) (key : List Byte) (fp : Nat) : d.find (zeros 64) key fp = none := rfl

theorem cands_empty (s : State) (t : Txn) (hn : (s.desc t.tid).nb = 16)
    (h : ∀ b, b < 16 → s.readBucket t.tid b = (s, zeros 64, false)) :
    (s.cands t).1 = s ∧ (s.cands t).2.w1 = none ∧ (s.cands t).2.w2 = none ∧ (s.cands t).2.p1 = false ∧
      (s.cands t).2.p2 = false ∧ (s.cands t).2.b1 = zeros 64 := by
  obtain ⟨h1, h2⟩ := hash_lt (s.desc t.tid) (t.payload.take (s.desc t.tid).keylen) hn
  simp [State.cands, h _ h1, h _ h2, find_zeros]

set_option maxRecDepth 20000 in
theorem buckets_empty : ∀ b, b < 16 → tb.bucketFenced 0 b = false ∧ tb.readBucket 0 b = (tb, zeros 64, false) ∧
    tbC.readBucket 0 b = (tbC, zeros 64, false) := by decide

theorem freeWay_zeros : freeWay (zeros 64) = some 0 := by decide

set_option maxRecDepth 20000 in
theorem witness_TableRequests :
    (isTable opPROBE = true ∧ svc.goesAway (ttxn opPROBE) = false ∧ (svc.desc 0).valid = false) ∧
    ((withTable 0).desc 0).valid = true ∧ (withTable 0).on (Fd.TBL_D_STAT_READY 0) = false ∧
    (tb.goesAway (ttxn opINSERT) = false ∧ (tb.desc 0).valid = true ∧ tb.on (Fd.TBL_D_STAT_READY 0) = true) ∧
    (let h := (tb.desc 0).hash ((zeros 16).take (tb.desc 0).keylen);
      tb.bucketFenced 0 h.1 = false ∧ tb.bucketFenced 0 h.2.1 = false ∧ tb.tblBehind (ttxn opINSERT) = false ∧
        tb.lockFree (0, h.1) true = true ∧ tb.lockFree (0, h.2.1) true = true) ∧
    (let r := tbC.cands (ttxn opPROBE);
      tb.count Fd.TBL_PROBE_CNT_COUNT Fd.TBL_PROBE_CNT_OVF 1 = tbC ∧ r.2.w1 = none ∧ r.2.w2 = none ∧ r.2.p1 = false ∧
        r.2.p2 = false) ∧
    (let r := tb.cands (ttxn opINSERT);
      r.2.w1 = none ∧ r.2.w2 = none ∧ r.2.p1 = false ∧ r.2.p2 = false ∧ freeWay r.2.b1 = some 0) ∧
    (∀ e ∈ tb.tbl.disp, e.tid ≠ 0) := by
  have hn : (tb.desc 0).nb = 16 := by decide
  have hl := hash_lt (tb.desc 0) ((zeros 16).take (tb.desc 0).keylen) hn
  have c1 := cands_empty tbC (ttxn opPROBE) (by decide) (fun b h => (buckets_empty b h).2.2)
  have c2 := cands_empty tb (ttxn opINSERT) (by decide) (fun b h => (buckets_empty b h).2.1)
  exact ⟨by decide, by decide, by decide, by decide,
    ⟨(buckets_empty _ hl.1).1, (buckets_empty _ hl.2).1, by decide, by decide, by decide⟩,
    ⟨rfl, c1.2.1, c1.2.2.1, c1.2.2.2.1, c1.2.2.2.2.1⟩,
    ⟨c2.2.1, c2.2.2.1, c2.2.2.2.1, c2.2.2.2.2.1, c2.2.2.2.2.2 ▸ freeWay_zeros⟩, by decide⟩

set_option maxRecDepth 20000 in
theorem witness_TableBucketLayout :
    let d : Desc := { tb.desc 0 with bsize := 2 };
    3 < 4 ∧ d.bsize ≤ 2 ∧ (zeros 256).length = d.bytes ∧ 255 < 256 ∧
      d.find (d.setWay (zeros 256) 3 1 255 [1, 2, 3, 4]) [1, 2, 3, 4] 255 = some 3 ∧
      d.find (d.setWay (zeros 256) 3 1 255 [1, 2, 3, 4]) [1, 2, 3, 4] 254 = none := by decide

/-- The table's descriptor staged, with this bucket count. -/
def staged (s : State) (log2nb : Nat) : State :=
  let s := ((s.wr Fd.TBL_STG_CFG_VALID 1).wr Fd.TBL_STG_CFG_RGN 0).wr Fd.TBL_STG_CFG_LOG2NB log2nb;
  (s.wr Fd.TBL_STG_CFG_KEYLEN 4).wr Fd.TBL_STG_CFG_RESLEN 4

set_option maxRecDepth 20000 in
theorem witness_TableCommands :
    (withTbl svc fun x => { x with cmd := some (2, 0, 0, 0, 0) }).tbl.cmd ≠ none ∧
    (svc.tbl.cmd = none ∧ (inMode mHOLD).tblMode = false ∧ svc.tblMode = true) ∧
    ((tb.desc 0).valid = true ∧ (svc.desc 255).valid = false) ∧
    (let s := staged (svc.putRgn 0 { rgn0 with kind := kTABLE }) 4;
      s.descCheck 255 { s.descStaged with valid := true } = none ∧
        (staged s 3).descCheck 0 { (staged s 3).descStaged with valid := true } = some 6) ∧
    (let s := staged tb 4;
      let d := { s.descStaged with valid := true };
      (s.desc 0).valid = true ∧ { d with rgn := (s.desc 0).rgn, off := (s.desc 0).off } = s.desc 0 ∧
        s.descCheck 0 d = none) ∧
    (let s := withTbl tb fun x => { x with cmd := some (3, 0, 15, 0, 16) };
      let r := s.readBucket 0 15;
      s.tbl.cmd = some (3, 0, 15, 0, 16) ∧ s.lockFree (0, 15) true = true ∧ s.bucketFenced 0 15 = false ∧
        (∀ i, i < (s.desc 0).bytes / 64 →
          s.lineFenced ((s.rgn 0).start + 256 * 16 + (s.desc 0).bytes * 15 + 64 * i) = false) ∧
        r.2 = (zeros 64, false) ∧ (s.desc 0).nb ≤ 15 + 1) ∧
    (14 + 1 < (tb.desc 0).nb ∧ 0 ∈ (withTbl tb fun x => { x with emptying := [0] }).tbl.emptying ∧ 0 ∉ tb.tbl.emptying) ∧
    (let x : Disp := { txn := 0, tid := 0, moves := [(0, 0, 1, 0, [])], made := 0, restarted := false };
      let t := { ttxn opINSERT with stage := .running };
      let s := withTbl (withTxns tb [t]) fun b => { b with disp := [x] };
      s.tbl.disp.find? (fun e => e.txn == 0) = some x ∧ s.txn 0 = some t ∧ x.moves = (0, 0, 1, 0, []) :: [] ∧
        s.lockFree (0, 2) true = true) ∧
    (let t := { ttxn opINSERT with stage := .heldLock };
      (withTxns tb [t]).txn 0 = some t ∧ isTable t.op = true ∧ t.stage = .heldLock ∧
        (withTxns tb [txn0]).txn 0 = some txn0 ∧ txn0.stage ≠ .heldLock) ∧
    (let e := (tb.desc 0).entry (zeros 64) 0;
      let t := { ttxn opINSERT with stage := .running };
      let s := withTbl (withTxns tb [t]) fun b => { b with
        disp := [{ txn := 0, tid := 0, moves := [(0, 0, 1, 0, e)], made := 0, restarted := false }] };
      s.lockFree (0, 0) true = true ∧ s.lockFree (0, 1) true = true ∧ s.bucketFenced 0 0 = false ∧
        s.bucketFenced 0 1 = false ∧ (s.readBucket 0 0).2 = (zeros 64, false) ∧
        ((s.readBucket 0 0).1.readBucket 0 1).2 = (zeros 64, false) ∧ (s.desc 0).entry (zeros 64) 0 = e ∧ e ≠ [] ∧
        wayValid (zeros 64) 0 = false) ∧
    (let b := cBank (tb.userOff (tb.bucketAddr 0 1));
      (tb.wrBit (Fd.CRM_FENCE_FENCE (b / 32)) (b % 32) true).bucketFenced 0 1 = true ∧
        (withTbl tb fun x => { x with
          disp := [{ txn := 0, tid := 0, moves := [], made := 0, restarted := false }] }).tbl.disp ≠ []) :=
  ⟨by decide, by decide, by decide, by decide, by decide, by decide, by decide, by decide, by decide, by decide, by decide⟩

/-! ### Counters and the regulator -/

/-- A counter set 0 of 8 counters in region 0, with ancestry in region 1, and one slot where `hot`. -/
def withSet (hot : Nat) : State :=
  let s := svc.putRgn 0 { rgn0 with kind := kCOUNTER };
  let s := s.putRgn 1 { rgn0 with base := 1 };
  let s := ((s.wr (Fd.CNT_S_CFG_VALID 0) 1).wr (Fd.CNT_S_CFG_RGN 0) 0).wr (Fd.CNT_S_CFG_ANC_RGN 0) 1;
  ((s.wr (Fd.CNT_S_NCTR_NCTR 0) 8).wr (Fd.CNT_S_CFG_HOT 0) hot).wr (Fd.CNT_S_CFG_LOG2NSLOT 0) 3

/-- A counter request of counter `i`. -/
def ctxn (op i spec : Nat) : Txn :=
  { txn0 with
    op := op
    head := { hd0 with addr := i, spec := spec } }

/-- Slot 7 of the set holds counter 7 with these deltas. -/
def held (dp db : Nat) : CRun :=
  (⟨withSet 1, none⟩ : CRun).writeSlot 7 0 dp db true

set_option maxRecDepth 20000 in
set_option exponentiation.threshold 600 in
theorem witness_CounterRequests :
    (isCounter opCUPD = true ∧ (withSet 0).goesAway (ctxn opCUPD 8 0) = false ∧ ((withSet 0).cset 0).nctr ≤ 8) ∧
    (7 < ((withSet 0).cset 0).nctr ∧
      ((withSet 0).wr (Fd.CG_CTL_FENCE (pcOf ((withSet 0).recAddr ((withSet 0).cset 0) 7) / 4)) 1).ctrFenced 0 7 = true) ∧
    ((withSet 0).ctrFenced 0 7 = false ∧ bit (ctxn opCUPD 7 0x40).head.spec 6 = true ∧
      bit (ctxn opCREAD 7 0).head.spec 6 = false) ∧
    ((⟨withSet 0, none⟩ : CRun).flushRead 0 7).1.bad = none ∧
    ((withSet 0).cnt.rebuild = none ∧ (withCnt svc fun c => { c with rebuild := some ⟨0, 0, 0⟩ }).cnt.rebuild ≠ none) ∧
    ((withSet 0).cset 0).hot = false ∧
    (let w := held 0x7FFF 0x7FFFFFFE;
      let c := w.s.cset 0;
      let y := w.counted Fd.CNT_UPD_CNT_COUNT Fd.CNT_UPD_CNT_OVF;
      c.hot = true ∧ (y.readSlot (c.slot 7)).2 = .held (c.tag 7) 0x7FFF 0x7FFFFFFE ∧ 0x7FFF + 0 < 0x8000 ∧
        0x7FFFFFFE + 1 < 0x80000000 ∧ 0x8000 ≤ 0x7FFF + 1) ∧
    (let s := withSet 0;
      let v := ((⟨s, none⟩ : CRun).counted Fd.CNT_FLUSH_CNT_COUNT Fd.CNT_FLUSH_CNT_OVF).upd fun s =>
        (s.charge 254 128 false).forwardDelta 0 7 1 1;
      let f := s.wr (Fd.CG_CTL_FENCE (pcOf (s.recAddr (s.cset 0) 7) / 4)) 1;
      v.s.recFenced 0 7 = false ∧ f.recFenced 0 7 = true) :=
  ⟨by decide, by decide, by decide, by decide, by decide, by decide, by decide, by decide⟩

set_option maxRecDepth 20000 in
set_option exponentiation.threshold 600 in
theorem witness_CounterEngineSteps :
    ((withSet 0).inReset = false ∧ ((withSet 0).cset 0).valid = true ∧ (withSet 0).ctrFenced 0 7 = false ∧
      ((withSet 1).wr (Fd.CG_CTL_FENCE (pcOf ((withSet 1).recAddr ((withSet 1).cset 0) 7) / 4)) 1).ctrFenced 0 7 = true) ∧
    (let x := held 1 0;
      (x.s.cset 0).hot = true ∧ 1 ≠ 0 ∧
        (x.readSlot ((x.s.cset 0).slot 7)).2 = .held ((x.s.cset 0).tag 7) 1 0) ∧
    svc.cnt.rebuild = none ∧
    (let r : Rebuild := ⟨0, 0, 7⟩;
      let s := withCnt (withTxns (withSet 0) [ctxn opCREBUILD 7 0]) fun c => { c with rebuild := some r };
      let u := (withCnt s fun c => { c with rebuild := none }).wr Fd.CNT_STAT_REBUILD 0;
      s.cnt.rebuild = some r ∧ s.txn r.txn = some (ctxn opCREBUILD 7 0) ∧ (u.cset 0).nctr = 8 ∧ u.ctrFenced 0 7 = false) ∧
    (svc.on Fd.CNT_STAT_SWEEP = false ∧ (svc.wr Fd.CNT_STAT_SWEEP 1).on Fd.CNT_STAT_SWEEP = true) ∧
    (let s := svc.wr Fd.CNT_STAT_SWEEP 1;
      let v := (s.csets.filter fun n => (s.cset n).ckpt).foldl (fun (s : State) n => s.flushSet n) s;
      (∀ n ∈ s.csets.filter fun n => (s.cset n).ckpt, v.setDirty n = 0) ∧ v.cnt.sweepDue = false) ∧
    (svc.joined = false ∧ (svc.wr Fd.PAIR_STAT_JOINED 1).joined = true) :=
  ⟨by decide, by decide, by decide, by decide, by decide, by decide, by decide⟩

/-- A scan of a set of two counters for the children of the second. -/
def scanned (s : State) : Scan :=
  (List.range 2).foldl (Scan.step 0 1 (s.cset 0)) ⟨{ s := s, bad := none }, ⟨0, 0, false, 0⟩, 0, false, false⟩

set_option maxRecDepth 20000 in
set_option exponentiation.threshold 600 in
theorem witness_rebuild_scan :
    (let z := scanned ((withSet 0).wr (Fd.CNT_S_NCTR_NCTR 0) 2);
      z.psn = false ∧ z.fenced = false ∧ z.kids = 0) ∧
    (let s := (withSet 0).wr (Fd.CNT_S_NCTR_NCTR 0) 2;
      let z := scanned (s.memWrite (s.ancAddr (s.cset 0) 0) 15 (leBytes 4 1 ++ leBytes 8 (2 ^ 64 - 1) ++ zeros 52) false);
      z.psn = false ∧ z.fenced = false ∧ z.kids = 1) := ⟨by decide, by decide⟩

/-- Enforcement is on, and label 5's staged entry has window `win` and guarantee `g`. -/
def lcmd (l win g : Nat) : State :=
  let s := (svc.wr Fd.REG_CTL_ENFORCE 1).wr Fd.REG_LCMD_LABEL l;
  (s.setReg Ra.REG_STG_CFG (BitVec.ofNat 32 (2 ^ 31 + win))).setReg Ra.REG_STG_GUAR (BitVec.ofNat 32 g)

/-- The labels with label 5 as staged. -/
def lcmdLabels (s : State) : List (Bool × Nat × Nat) :=
  setNth s.labels 5 (bit (s.reg Ra.REG_STG_CFG).toNat 31, bits (s.reg Ra.REG_STG_CFG).toNat 7 0,
    bits (s.reg Ra.REG_STG_GUAR).toNat 19 0)

set_option maxRecDepth 20000 in
theorem witness_RegulatorSteps :
    (255 < 256 ∧ svc.windowDue 255 = true ∧ ((inMode mHOLD).labelApply 255).releasing = false ∧ (svc.labelApply 255).releasing = true) ∧
    (let v := withRgl svc fun r => { r with gEff := [(5, 1)] };
      v.lCount 5 < v.gEff 5) ∧
    (svc.rgl.pool ≤ 0 ∧ (inMode mDRAIN).releasing = false) ∧
    (let t := { txn0 with id := 1 };
      let s := withTxns svc [t];
      s.txn 1 = some t ∧ s.urgency t ≤ t.urg ∧
        t.urg < (withClk s fun c => { c with time := 2 ^ 60 }).urgency t) ∧
    ((withRgl svc fun r => { r with defHeld := true }).rgl.defHeld = true ∧ svc.rgl.defHeld = false) ∧
    ((withRgl svc fun r => { r with commit := some (0, 0, 0) }).rgl.commit ≠ none ∧ svc.rgl.commit = none ∧
      svc.on Fd.REG_CTL_ENFORCE = false ∧ (lcmd 254 1 0).rd Fd.REG_LCMD_LABEL = 254) ∧
    (let s := lcmd 5 251 0;
      s.on Fd.REG_CTL_ENFORCE = true ∧ s.rd Fd.REG_LCMD_LABEL = 5 ∧
        250 < bits (s.reg Ra.REG_STG_CFG).toNat 7 0) ∧
    (let s := lcmd 5 250 0;
      bits (s.reg Ra.REG_STG_CFG).toNat 7 0 = 250 ∧
        withinLimit (s.rd Fd.GLB_LEVEL_LIM_LVL_LOW) (gSum (lcmdLabels s)) = true) ∧
    (let s := lcmd 5 1 0xFFFFF;
      withinLimit (s.rd Fd.GLB_LEVEL_LIM_LVL_LOW) (gSum (lcmdLabels s)) = false) ∧
    (svc.on Fd.CLK_STAT_HOLD = false ∧ (svc.wr Fd.CLK_STAT_HOLD 1).on Fd.CLK_STAT_HOLD = true) ∧
    (svc.labelEn 5 = false ∧ (svc.wr (Fd.REG_L_CFG_EN 5) 1).labelEn 5 = true ∧
      Tab.get (fun _ => none) svc.rgl.old 5 = none ∧
      Tab.get (fun _ => none) (withRgl svc fun r => { r with old := [(5, some (1, 2, 3))] }).rgl.old 5 = some (1, 2, 3)) ∧
    (svc.rgl.ran = false ∧ (withRgl svc fun r => { r with ran := true }).rgl.ran = true) :=
  ⟨by decide, by decide, by decide, by decide, by decide, by decide, by decide, by decide, by decide, by decide, by decide, by decide⟩

/-! ### Keys and the pair -/

set_option maxRecDepth 20000 in
theorem witness_KeysAndReports :
    (let u := ((inMode mHOLD).wr Fd.SEC_KLD_CTL_OP 1).wr Fd.SEC_KLD_CTL_SLOT 63;
      63 < 64 ∧ (withSec svc fun k => { k with load := some (0, 1) }).sec.load ≠ none ∧ svc.sec.load = none ∧
        ¬ (u.mode = mBOOT ∨ u.mode = mSERVICE ∨ u.mode = mDEGRADED)) ∧
    (let u := (svc.wr Fd.SEC_KLD_CTL_OP 1).wr Fd.SEC_KLD_CTL_SLOT 63;
      u.mode = mSERVICE ∧ svc.sec.mkey = none ∧ (withSec svc fun k => { k with mkey := some 1 }).sec.mkey ≠ none) ∧
    (let s := withSec (svc.putRgn 0 { rgn0 with key := 1 }) fun k => { k with load := some (0, 2), mkey := some 1 };
      s.sec.load = some (0, 2) ∧ s.kldBusy 0 = false ∧ (withTxns s [txn0]).kldBusy 0 = true ∧ s.sec.mkey = some 1) ∧
    (svc.root = none ∧ (svc.wr Fd.SEC_STAT_IDENT 1).root.isSome = true ∧
      (withSec (svc.wr Fd.SEC_STAT_IDENT 1) fun k => { k with attest := true }).sec.attest = true) ∧
    (let t : TagLine := { data := zeros 64, dirty := true, lost := false };
      let s := withSec svc fun k => { k with tagCache := [(3, some t), (4, some { t with dirty := false }),
        (5, some { t with lost := true })] };
      s.tagLine 3 = some t ∧ s.cgFenced (pcOf (64 * 3) / 4) = false ∧ s.tagLine 4 = some { t with dirty := false } ∧
        s.tagLine 5 = some { t with lost := true }) :=
  ⟨by decide, by decide, by decide, by decide, by decide⟩

theorem witness_PairMessagesRoundTrip :
    (PairMsg.mwr 65535 (2 ^ 34 - 1) true true true 3 255 (zeros 9) (zeros 64)).fits = true ∧
    (PairMsg.mexec 65535 opWR64 { hd0 with addr := 2 ^ 40 - 1, spec := 2 ^ 24 - 1 } (zeros 64)).fits = true ∧
    (PairMsg.mcmt 0 15).fits = true ∧
    (PairMsg.mres 0 { port := 12, op := 255, reqId := 4095, tag := 4095, status := 15, data := zeros 16 }).fits = true ∧
    (PairMsg.cdelta 63 (2 ^ 29 - 1) 65535 (2 ^ 32 - 1)).fits = true ∧
    (PairMsg.cset 63 0 true (2 ^ 32 - 1) (2 ^ 64 - 1) (2 ^ 64 - 1)).fits = true ∧
    (PairMsg.cmark 0).fits = true ∧ (PairMsg.qckpt 65535 3 15 true 0 0 0 0).fits = true ∧
    (PairMsg.hb 2 3 true 1).fits = true ∧ (PairMsg.hello 1 3 false 0).fits = true ∧ (PairMsg.leave 9).fits = true ∧
    (PairMsg.role 1 true).fits = true ∧ (PairMsg.rsync 4 0).fits = true ∧ (PairMsg.rsync 1 63).fits = true ∧
    headFits 255 { hd0 with addr := 2 ^ 40 - 1 } = true := by decide

/-- SERVICE with region 0 mirrored and the pair joined, this part in role `r`. -/
def paired (r : Nat) : State :=
  ((svc.putRgn 0 { rgn0 with mirror := true }).wr Fd.PAIR_STAT_JOINED 1).wr Fd.PAIR_STAT_ROLE r

set_option maxRecDepth 20000 in
set_option exponentiation.threshold 600 in
theorem witness_PairMessagesReceived :
    ((withPair svc fun p => { p with waitW := [PairMsg.cmark 0] }).pair.waitW ≠ [] ∧ svc.pair.waitW = [] ∧
      svc.mwrWaits (2 ^ 34 - 1) = false ∧ svc.rgnOf (64 * (2 ^ 34 - 1)) = none) ∧
    (svcR.rgnOf (64 * 0) = some 0 ∧ (svcR.rgn 0).mirror = false) ∧
    ((paired 1).rgnOf (64 * 0) = some 0 ∧ ((paired 1).rgn 0).mirror = true ∧ (paired 1).mwrFenced 0 (64 * 0) = false ∧
      ((paired 1).wr (Fd.CG_CTL_FENCE (pcOf 0 / 4)) 1).mwrFenced 0 (64 * 0) = true) ∧
    (let s := withPair (paired 1) fun p => { p with pendW := [(7, 0, 0)], pendX := [(9, 0)] };
      let u := withTxns s [{ txn0 with mirrorLeft := 1 }];
      s.rd Fd.PAIR_STAT_ROLE = 1 ∧ (∃ p ∈ s.pair.pendW, p.2.1 = 0) ∧ (∀ p ∈ s.pair.pendW, p.1 ≠ 8) ∧
        u.pair.pendW.find? (fun (e : Nat × Nat × Nat) => e.1 == 7) = some (7, 0, 0) ∧
        u.txn 0 = some { txn0 with mirrorLeft := 1 } ∧ (∀ p ∈ s.pair.pendX, p.1 ≠ 7) ∧
        u.pair.pendX.find? (fun (e : Nat × Nat) => e.1 == 9) = some (9, 0)) ∧
    ((paired 2).rd Fd.PAIR_STAT_ROLE ≠ 1 ∧ ∀ p ∈ (paired 1).pair.pendW, p.2.1 ≠ 0) ∧
    (let s := (withSet 0).wr (Fd.CNT_S_CFG_CKPT 0) 1;
      (withSet 0).ckptSet 0 = false ∧ (s.cset 0).nctr ≤ 8 ∧ s.ckptSet 0 = true ∧ 7 < (s.cset 0).nctr) ∧
    (let s := (svcR.wr Fd.PAIR_CFG_SHADOW_RGN 0).wr Fd.PAIR_CFG_SHADOW_EN 1;
      svc.shadowOk = false ∧ s.shadowOk = true ∧ (s.memRead (s.shadowAddr 65535) 0).2.2 = false) ∧
    (let u := ((paired 1).losePartner 5 3).farState 2 3 false 0;
      u.role = 1 ∧ 2 ≠ u.role ∧ ((svc.losePartner 5 3).farState 1 3 false 0).role = 0) ∧
    ((paired 1).joined = true ∧ (paired 1).pair.roleAsk = none ∧
      (withPair svc fun p => { p with roleAsk := some 1 }).pair.roleAsk = some 1 ∧ svc.pair.roleFar = false) ∧
    (let s := (withSet 0).wr (Fd.CNT_S_CFG_CKPT 0) 1;
      s.ctrFenced 0 7 = false ∧ (s.wr (Fd.CG_CTL_FENCE (pcOf (s.recAddr (s.cset 0) 7) / 4)) 1).ctrFenced 0 7 = true) ∧
    (let s := withPair (paired 2) fun p => { p with resync := some { inRgn := some 0 } };
      (s.mwrWrite 0 false false true 0 255 [] (zeros 64)).pair.resync = some { inRgn := some 0 } ∧
        ((paired 2).mwrWrite 0 false false true 0 255 [] (zeros 64)).pair.resync = none) :=
  ⟨by decide, by decide, by decide, by decide, by decide, by decide, by decide, by decide, by decide, by decide, by decide⟩

set_option maxRecDepth 20000 in
theorem witness_PairOwnSteps :
    (let s := (svc.setLstate 12 lACTIVE).wr Fd.PAIR_STAT_ROLE 2;
      s.pairTalks = true ∧ s.joined = false ∧ s.role ≠ 0 ∧ svc.pairTalks = false) ∧
    (paired 1).joined = true ∧
    ((withPair svc fun p => { p with pendX := [(0, 0)] }).pair.pendX ≠ [] ∧ svc.pair.pendW = [] ∧ svc.pair.pendX = []) ∧
    (2 < 3 ∧ ((withPair svc fun p => { p with roleAsk := some 1 }).wr Fd.PAIR_ROLE_ROLE 2).pair.roleAsk ≠ none ∧
      (svc.wr Fd.PAIR_ROLE_ROLE 2).pair.roleAsk = none ∧ (svc.wr Fd.PAIR_ROLE_ROLE 2).joined = false ∧
      ((paired 1).wr Fd.PAIR_ROLE_ROLE 0).joined = true ∧ ((paired 1).wr Fd.PAIR_ROLE_ROLE 2).pair.roleAsk = none) ∧
    (let u := (paired 1).wr Fd.PAIR_RESYNC_SOURCE_SELF 1;
      u.joined = true ∧ u.pair.resync = none ∧ (withPair u fun p => { p with resync := some {} }).pair.resync ≠ none) ∧
    (let s := withPair (paired 1) fun p => { p with resync := some { outTodo := [0] } };
      s.resync.outRgn = none ∧ s.resync.outTodo = 0 :: []) ∧
    (let s := withPair (paired 1) fun p => { p with resync := some { outRgn := some 0 } };
      s.resync.outRgn = some 0 ∧ (s.rgn 0).kind ≠ kTAGSTORE ∧ 64 * s.resync.outNext < (s.rgn 0).stop ∧
        s.mwrFenced 0 (64 * s.resync.outNext) = false ∧
        (s.wr (Fd.CG_CTL_FENCE (pcOf 0 / 4)) 1).mwrFenced 0 (64 * s.resync.outNext) = true) ∧
    (svc.resync.outRgn = none ∧ svc.resync.outTodo = [] ∧ svc.resync.outCnt = false) ∧
    (let s := withPair (paired 1) fun p => { p with
        resync := some { outRgn := some 0, outTodo := [1], outNext := 2 ^ 34 } };
      s.resync.outRgn = some 0 ∧ s.resync.outTodo = 1 :: [] ∧ (s.rgn 0).stop ≤ 64 * s.resync.outNext) :=
  ⟨by decide, by decide, by decide, by decide, by decide, by decide, by decide, by decide, by decide⟩

/-! ### Kettle -/

/-- A sensor whose latest sample passed at reading `e`. -/
def at' (e : Int) : Sns := { pass := some e, sampled := true, ok := true, fresh := false }

theorem witness_SensorSamples :
    (svc.snsPresent 128 = false ∧ ((svc.setSns 0 { failed := true }).sns 0).failed = true) ∧
    (svc.snsPresent 127 = true ∧ (svc.sns 127).failed = false ∧ svc.coreOff = false ∧
      svc.sampleCheck ((svc.sns 127).code (1200 % 4096)) (signed 12 1200) = 0 ∧
      svc.sampleCheck ((svc.sns 127).code (1201 % 4096)) (signed 12 1201) = 2 ∧ 1200 < signed 12 1201) ∧
    (signed 12 (4096 - 321) < -320 ∧ -320 ≤ signed 12 (4096 - 320) ∧ ({} : Sns).fresh = true ∧ ({} : Sns).run < 4096) ∧
    (({ fails := 1 } : Sns).fails < 2 ∧ 2 ≤ ({ fails := 2 } : Sns).fails) ∧
    (63 < 64 ∧ 63 ≠ 17 ∧ 64 ≤ 64) :=
  ⟨by decide, by decide, by decide, by decide, by decide⟩

/-- The first core-die sensor, and every base-die region, at this reading. -/
def coreAt (s : State) (e : Int) : State := s.setSns 64 (at' e)
def baseAt (s : State) (e : Int) : State := s.setSns 0 (at' e)

set_option maxRecDepth 20000 in
theorem witness_KettleDecisions :
    (let s := svc;
      0 < s.stepC ∧ s.startEff - 1 < s.startEff ∧ s.startEff + s.stepC * (6 : Nat) ≤ s.startEff + s.stepC * 6 ∧
        s.startEff + s.stepC * (0 : Nat) ≤ s.startEff ∧ s.startEff < s.startEff + s.stepC * ((0 : Nat) + 1)) ∧
    (let s := coreAt svc svc.startEff;
      s.maxEff (s.zoneSns 0) = some (64, svc.startEff) ∧ s.rd (Fd.THM_ZONE_LEVEL 0) < s.thrLevel svc.startEff) ∧
    (let z := svc.startEff - 8 * (svc.rd Fd.THM_THR_HYST : Int);
      let s := (coreAt svc z).wr (Fd.THM_ZONE_LEVEL 0) 1;
      s.maxEff (s.zoneSns 0) = some (64, z) ∧ s.thrLevel z ≤ 1 ∧ s.rd (Fd.THM_ZONE_LEVEL 0) = 1 ∧
        s.thrFloor 1 - 8 * (s.rd Fd.THM_THR_HYST : Int) ≤ z) ∧
    (let z := svc.startEff - 8 * (svc.rd Fd.THM_THR_HYST : Int) - 1;
      let s := (coreAt svc z).wr (Fd.THM_ZONE_LEVEL 0) 1;
      s.maxEff (s.zoneSns 0) = some (64, z) ∧ s.thrLevel z < s.rd (Fd.THM_ZONE_LEVEL 0) ∧
        z < s.thrFloor 1 - 8 * (s.rd Fd.THM_THR_HYST : Int) ∧
        rateOk (Tab.get (fun _ => 0) s.thm.zoneTime 0) s.clk.time 1750 = true) ∧
    (let t := svc.tripAt true;
      let s := coreAt svc t;
      s.maxEff (s.snsClass 64) = some (64, t) ∧ s.tripAt true ≤ t ∧ s.thm.tripA = false ∧ s.mode ≠ mSTANDBY ∧
        (withThm s fun h => { h with tripA := true }).thm.tripA = true ∧
        (coreAt svc (t - 1)).maxEff ((coreAt svc (t - 1)).snsClass 64) = some (64, t - 1)) ∧
    (let s := coreAt (inMode mHOLD) (679 + svc.gradeC);
      s.mode = mHOLD ∧ s.thm.exitAsked = false ∧ s.thm.lost = [] ∧
        s.maxEff (s.snsClass 64) = some (64, 679 + svc.gradeC) ∧ 679 + svc.gradeC < 680 + s.gradeC) ∧
    (let t := svc.tripAt false;
      let s := baseAt svc t;
      let u := { s with pins := { s.pins with thermtripLow := true }, thm := { s.thm with tripB := true } };
      s.maxEff (s.snsClass 0) = some (0, t) ∧ s.tripAt false ≤ t ∧ s.thm.tripB = false ∧
        (u.raise 19 1 (0 + wrapInt 12 t * 256)).mode ≠ mLOCKDOWN ∧
        (baseAt svc (t - 1)).maxEff ((baseAt svc (t - 1)).snsClass 0) = some (0, t - 1)) ∧
    (let t := svc.tripAt false;
      let s := baseAt (inMode mLOCKDOWN) t;
      let u := { s with pins := { s.pins with thermtripLow := true }, thm := { s.thm with tripB := true } };
      (u.raise 19 1 (0 + wrapInt 12 t * 256)).mode = mLOCKDOWN ∧ (u.raise 19 1 (0 + wrapInt 12 t * 256)).tripB = false) ∧
    svc.dropped 15 = false ∧
    (let s := coreAt (inMode mSTANDBY) ((inMode mSTANDBY).tripAt true);
      s.maxEff (s.snsClass 64) = some (64, (inMode mSTANDBY).tripAt true) ∧
        s.tripAt true ≤ (inMode mSTANDBY).tripAt true ∧ s.mode = mSTANDBY) :=
  ⟨by decide, by decide, by decide, by decide, by decide, by decide, by decide, by decide, by decide, by decide⟩

set_option maxRecDepth 20000 in
theorem witness_KettleCommands :
    (15 < 16 ∧ svc.coreOff = false ∧ 16 ≤ 16) ∧
    ((svc.wrBit Fd.THM_DROP_DROP 15 true).dropped 15 = true ∧ (svc.wrBit Fd.THM_DROP_DROP 15 true).spreadCalm 15 = true ∧
      svc.dropped 15 = false) ∧
    (127 < 128 ∧ ((svc.wr Fd.THM_REARM_SENSOR 127).sns 127).failed = false ∧
      (((svc.setSns 127 { failed := true }).wr Fd.THM_REARM_SENSOR 127).sns 127).failed = true) ∧
    (Tab.get (fun _ => (0 : Nat)) svc.thm.thrHeld 3 = 0 ∧
      Tab.get (fun _ => (0 : Nat)) (withThm svc fun h => { h with thrHeld := [(3, 1)] }).thm.thrHeld 3 = 0 + 1) ∧
    (svc.mode ≠ mRETAIN ∧ svc.mode ≠ mRETAINP) ∧
    (let s := inMode mRETAINP;
      s.mode = mRETAINP ∧ 64 ≤ 127 ∧ s.snsPresent 127 = true ∧ -320 ≤ signed 12 0 ∧ signed 12 0 ≤ 1200 ∧
        signed 12 0 < s.tripAt true ∧ s.tripAt true ≤ signed 12 1200) ∧
    (let s := inMode mDEEP;
      s.mode = mDEEP ∧ s.thm.tripB = false ∧ s.tripAt false ≤ signed 12 1200 ∧ signed 12 0 < s.tripAt false) :=
  ⟨by decide, by decide, by decide, by decide, by decide, by decide, by decide⟩

/-! ### Sleep, calibration and observation -/

/-- A request for mode `m`, and a transition to it. -/
def reqTo (m : Nat) : ModeReq := { prec := 7, mode := m, level := 3 }
def transTo (m : Nat) : Trans := { goal := m, req := reqTo m }

/-- DRAIN toward `m`. -/
def drainTo (m : Nat) : State := withSeq (inMode mDRAIN) fun q => { q with sleepTarget := some m }

/-- Entry to `m` with its step done. -/
def entering (m stage : Nat) : State :=
  withPwr (withSeq (inMode mDRAIN) fun q => { q with trans := some (transTo m) }) fun p =>
    { p with
      entry := some (reqTo m)
      stage := stage }

set_option maxRecDepth 20000 in
theorem witness_SleepAndWakeCommands :
    svc.draining = none ∧
    ((drainTo mDEEP).draining = some mDEEP ∧ isRetain mDEEP = false ∧ (drainTo mDEEP).inFlight = false ∧
      (withTxns (drainTo mDEEP) [txn0]).inFlight = true) ∧
    (let s := drainTo mRETAINP;
      s.draining = some mRETAINP ∧ isRetain mRETAINP = true ∧ s.cntSavable (s.keptClass mRETAINP) = false ∧
        s.flushAll.inFlight = false ∧ s.flushAll.unflushed = 0) ∧
    (let u := (drainTo mRETAIN).abortData.raise 3 1 0;
      u.cntSavable (u.keptClass mRETAIN) = false ∧
        (let v := (((drainTo mRETAIN).putRgn 0 rgn0).wr Fd.CNT_CTL_SAVE_EN 1).wr Fd.CNT_CTL_SAVE_RGN 0;
          v.cntSavable (v.keptClass mRETAIN) = true)) ∧
    ((entering mRETAIN 1).seq.trans = some (transTo mRETAIN) ∧ (entering mRETAIN 1).pwr.stage = 1 ∧
      svc.seq.trans = none) ∧
    ((entering mDEEP 1).on Fd.PWR_STAT_LATCHED = false ∧ (transTo mDEEP).goal = mDEEP ∧
      (entering mRETAIN 2).pwr.stage = 2 ∧ ((entering mRETAIN 2).wr Fd.PWR_STAT_LATCHED 1).on Fd.PWR_STAT_LATCHED = true) ∧
    (let s := ((entering mRETAIN 2).wr Fd.PWR_STAT_ARMED 1).wr Fd.PWR_WAKE_EN_EN 32;
      s.on Fd.PWR_STAT_ARMED = true ∧ bit (s.rd Fd.PWR_WAKE_EN_EN) 5 = true ∧ bit (s.rd Fd.PWR_WAKE_EN_EN) 4 = false ∧
        s.on Fd.PWR_STAT_LATCHED = false ∧ s.pwr.entry = some (reqTo mRETAIN)) ∧
    (100 ≤ 100 ∧ 20 ≤ 20 ∧ 20 < 21 ∧ 99 < 100) ∧
    ((withPwr svc fun p => { p with timer := some (1, 0) }).pwr.timer ≠ none ∧ svc.pwr.timer = none ∧ svc.pwr.entry = none) ∧
    (let s := (entering mRETAIN 3).wr Fd.PWR_STAT_LATCHED 1;
      s.on Fd.PWR_STAT_LATCHED = true ∧ s.pwr.entry ≠ none ∧ s.pwr.stage = 3 ∧ s.on Fd.PWR_WAKE_LAST_REPLAYED = false ∧
        (s.wr Fd.PWR_WAKE_LAST_REPLAYED 1).on Fd.PWR_WAKE_LAST_REPLAYED = true ∧ (entering mRETAIN 2).pwr.stage ≠ 3) ∧
    (let s := (inMode mDEEP).wr Fd.PWR_STAT_LATCHED 1;
      s.mode = mDEEP ∧ s.coreWakes = true ∧ (inMode mDEEP).coreWakes = false) ∧
    (let s := (inMode mRETAIN).wr Fd.PWR_STAT_LATCHED 1;
      s.mode = mRETAIN ∧ s.coreWakes = true) ∧
    ((inMode mSTANDBY).wr Fd.PWR_STAT_LATCHED 1).on Fd.PWR_STAT_LATCHED = true ∧
    (let s := (inMode mSTANDBY).wr Fd.PWR_STAT_LATCHED 1;
      s.wakeAsked = false ∧ (withSeq s fun q => { q with reqs := [{ reqTo mSERVICE with prec := 5 }] }).wakeAsked = true) ∧
    ((inMode mHOLD).abortsSent = true ∧
      (withLink ((inMode mHOLD).setLstate 0 lACTIVE) 0 fun l => { l with
        aborted := [{ port := 0, op := opRD64, reqId := 0, tag := 0, status := stABORTED }] }).abortsSent = false) :=
  ⟨by decide, by decide, by decide, by decide, by decide, by decide, by decide, by decide, by decide, by decide, by decide, by decide,
    by decide, by decide, by decide⟩

/-- A waiting correction of pseudo-channel 3. -/
def cmd0 : CalCmd := { op := 2, level := 0, pc := 3, lane := 65, value := 0 }

set_option maxRecDepth 20000 in
theorem witness_CalibrationAndObservation :
    (let w := withCal svc fun c => { c with cmd := [(31, some cmd0)] };
      let u := (svc.calArgs 31 3 3 65 (2 ^ 21 - 1)).wr (Fd.CG_CAL_CMD_OP 31) 1;
      31 < 32 ∧ 3 < 4 ∧ 65 < 128 ∧ 2 ^ 21 - 1 < 2 ^ 21 ∧ ((w.calArgs 31 3 3 65 0).calCmd 31).isSome = true ∧
        (u.calCmd 31).isSome = false ∧ 65 < 66 ∧ u.cgFenced 31 = false ∧ 3 = u.rd (Fd.CG_STAT_EFF_LEVEL 31) ∧
        0 ≠ u.rd (Fd.CG_STAT_EFF_LEVEL 31)) ∧
    (let u := (svc.calArgs 31 3 3 63 0).wr (Fd.CG_CAL_CMD_OP 31) 3;
      spareLane 63 = false ∧ 0 % 2 = 0 ∧ u.tsvFree (4 * 31 + 3) (tsvPlace 63).1 0 = true ∧
        (u.wr (tsvFld 127 (tsvPlace 63).1 0) 0).tsvFree (4 * 31 + 3) (tsvPlace 63).1 0 = false) ∧
    (svc.windowOk 127 63 = true ∧ ((svc.setPc 127 { svc.pc 127 with selfRef := true }).windowOk 127 63 = false)) ∧
    (let w := withCal svc fun c => { c with cmd := [(0, some cmd0)] };
      let u := (w.lend 3 0).count (Fd.CG_CAL_STAT_WIN_CNT (3 / 4)) (Fd.CG_CAL_STAT_WIN_OVF (3 / 4)) 1;
      u.calCmd (3 / 4) = some cmd0 ∧ cmd0.pc = 3 ∧ cmd0.pc ≠ 2 ∧
        ((svc.lend 2 0).count (Fd.CG_CAL_STAT_WIN_CNT (2 / 4)) (Fd.CG_CAL_STAT_WIN_OVF (2 / 4)) 1).calCmd (2 / 4) = none) ∧
    (let s := svc.wr Fd.OBS_SNAP_CTL_PIN_EN 1;
      s.on Fd.OBS_SNAP_CTL_PIN_EN = true ∧ s.coreOff = false ∧ s.on Fd.OBS_SNAP_STAT_HELD = false ∧
        (s.wr Fd.OBS_SNAP_STAT_HELD 1).on Fd.OBS_SNAP_STAT_HELD = true ∧
        (svc.wr Fd.OBS_SNAP_CTL_PIN_EN 0).on Fd.OBS_SNAP_CTL_PIN_EN = false) ∧
    (let s := (svc.wr (Fd.OBS_MON_CFG_EN 63) 1).wr (Fd.OBS_MON_CFG_QTY 63) 6;
      63 < 64 ∧ 64 ≤ 64 ∧ s.on (Fd.OBS_MON_CFG_EN 63) = true ∧
        s.levelOf (s.rd (Fd.OBS_MON_CFG_QTY 63)) (s.rd (Fd.OBS_MON_CFG_INDEX 63)) = some 0 ∧ s.levelOf 0 0 = none) ∧
    ((svc.wr (Fd.OBS_MON_CTL_FREEZE 63) 1).on (Fd.OBS_MON_CTL_FREEZE 63) = true ∧
      (svc.wr (Fd.OBS_MON_CTL_SKIPPED 63) 0xFFFE).rd (Fd.OBS_MON_CTL_SKIPPED 63) < 0xFFFF) ∧
    (svc.tooLate = false ∧ svc.waving = false ∧ (svc.wave 1 0).waving = true ∧ (svc.wave 1 0).tooLate = false ∧
      (withClk (svc.wave 1 0) fun c => { c with time := 1 }).tooLate = true) ∧
    (svc.clk.time % 2 ^ svc.rd (Fd.OBS_MON_CFG_SPER 63) = 0 ∧
      (withClk (svc.wr (Fd.OBS_MON_CFG_SPER 63) 4) fun c => { c with time := 8 }).clk.time %
        2 ^ (svc.wr (Fd.OBS_MON_CFG_SPER 63) 4).rd (Fd.OBS_MON_CFG_SPER 63) ≠ 0) :=
  ⟨by decide, by decide, by decide, by decide, by decide, by decide, by decide, by decide, by decide⟩

/-! ### Faults and self-test -/

/-- A message of source `n` and severity `v`. -/
def msg (n v : Nat) : Msg := { source := n, kind := 1, sev := v, addr := 0, time := 0 }

/-- An action entry of source 120. -/
def act0 : Act := { slot := 7, msg := msg 120 2, target := none, lastSeq := 0, expires := 100 }

set_option maxRecDepth 20000 in
theorem witness_CollectorCommands :
    ((inMode mDEEP).coreOff = true ∧ svc.flt.outbox = [] ∧ svc.coreOff = false) ∧
    (let s := withFlt svc fun f => { f with outbox := [msg 255 1, msg 120 2, msg 120 1] };
      s.flt.outbox = [msg 255 1] ++ msg 120 2 :: [msg 120 1] ∧ (msg 120 2).source = 120 ∧
        (∀ x ∈ [msg 255 1], x.source ≠ 120) ∧ ∀ x ∈ s.flt.outbox, x.source ≠ 0) ∧
    ((msg 0 1).sev < 2 ∧ (msg 120 2).test = false ∧ (msg 120 2).sev = 2 ∧ (msg 120 2).source ≠ 19 ∧ 2 < (msg 120 3).sev) ∧
    (let s := withFlt svc fun f => { f with acts := [act0] };
      (∀ a ∈ s.flt.acts, a.slot ≠ 6) ∧ s.flt.acts.find? (fun (a : Act) => a.slot == 7) = some act0 ∧
        s.rd (Fd.FLT_SRC_ESC act0.msg.source) ≠ 3) ∧
    ((svc.wr (Fd.FLT_SRC_ESC 120) 0).rd (Fd.FLT_SRC_ESC 120) = 0 ∧ (svc.wr (Fd.FLT_SRC_ESC 120) 1).rd (Fd.FLT_SRC_ESC 120) = 1 ∧
      (svc.wr (Fd.FLT_SRC_ESC 120) 2).rd (Fd.FLT_SRC_ESC 120) = 2 ∧
      (svc.wr (Fd.FLT_SRC_ESC 120) 3).rd (Fd.FLT_SRC_ESC 120) = 3 ∧ svc.mode ≠ mLOCKDOWN) ∧
    (let s := withFlt svc fun f => { f with acts := [act0] };
      let u := (s.wr Fd.FLT_ACK_SEQ_SEQ 0).wr Fd.FLT_ACK_SOURCE 120;
      let w := (s.wr Fd.FLT_ACK_SEQ_SEQ 0).wr Fd.FLT_ACK_SOURCE 121;
      s.flt.acts.find? (fun (a : Act) => a.covers (u.rd Fd.FLT_ACK_SOURCE) (u.rd Fd.FLT_ACK_SEQ_SEQ) s.clk.time) = some act0 ∧
        s.flt.acts.find? (fun (a : Act) => a.covers (w.rd Fd.FLT_ACK_SOURCE) (w.rd Fd.FLT_ACK_SEQ_SEQ) s.clk.time) = none) ∧
    (64 % 64 = 0 ∧ 0 < 63 ∧ 63 < 64 ∧ 255 < 256 ∧ 3 < 4 ∧ 2 ^ 40 - 1 < 2 ^ 40) ∧
    (svc.lockCaused = false ∧ (svc.wr Fd.OBS_SNAP_CTL_LOCKDOWN_EN 1).on Fd.OBS_SNAP_CTL_LOCKDOWN_EN = true ∧
      (svc.wr Fd.OBS_SNAP_CTL_LOCKDOWN_EN 0).on Fd.OBS_SNAP_CTL_LOCKDOWN_EN = false) ∧
    ((msg 0 1).source ≠ 153 ∧ (inMode mLOCKDOWN).mode = mLOCKDOWN ∧
      (svc.wr (Fd.FLT_SRC_ESC 120) 3).rd (Fd.FLT_SRC_ESC (msg 120 2).source) = 3) :=
  ⟨by decide, by decide, by decide, by decide, by decide, by decide, by decide, by decide, by decide⟩

/-- A test command of operation `op` on the group of pseudo-channel 0, in lifecycle state `lc`. -/
def asked (op lc : Nat) : State := (svc.wr Fd.BST_CTL_OP op).wr Fd.OTP_LC_STATE lc

/-- A test of the same group under way. -/
def test0 : Test := { op := 4, alg := 1 }

set_option maxRecDepth 20000 in
theorem witness_SelfTestCommands :
    (0 < (asked 5 0).testAsked.op ∧ (asked 5 0).testAsked.op < 6 ∧ (asked 3 0).testAsked.op < 4 ∧
      (asked 3 0).lcRuntime = false ∧ (asked 5 2).lcFull = false ∧ (asked 5 4).lcFull = true ∧ (asked 3 4).lcRuntime = true) ∧
    ((asked 4 1).serves = true ∧ ((asked 4 1).wr Fd.GLB_MODE_MODE mHOLD).serves = false ∧
      (asked 4 1).targetOk (asked 4 1).testAsked = false) ∧
    (let s := (asked 4 1).wr (Fd.CG_CTL_FENCE 0) 1;
      s.lcFull = true ∧ s.serves = true ∧ s.targetOk s.testAsked = true ∧ s.testBusy s.testAsked = false ∧
        1 < s.testAsked.op ∧ (withBst s fun b => { b with tests := [test0] }).testBusy s.testAsked = true) ∧
    svc.bst.tests.length ≤ 0 ∧
    (let s := withBst svc fun b => { b with tests := [test0] };
      s.bst.tests[0]? = some test0 ∧ test0.phase = 1 ∧ test0.pause = false ∧ s.bistHeld = false ∧ test0.op ≠ 1 ∧
        test0.op ≠ 2 ∧ (algElems test0.alg)[test0.elem]? = some (0, 0) ∧ (inMode mHOLD).bistHeld = true) ∧
    ((svc.wr Fd.BST_CFG_SPARE_PERIOD 0).rd Fd.BST_CFG_SPARE_PERIOD = 0 ∧
      (svc.wr Fd.BST_CFG_SPARE_PERIOD 1).rd Fd.BST_CFG_SPARE_PERIOD ≠ 0) ∧
    (let s := inMode mSELFTEST;
      svc.mode ≠ mSELFTEST ∧ s.mode = mSELFTEST ∧ s.on Fd.CLK_STAT_HOLD = false ∧
        (s.wr Fd.SEC_STAT_SELFTEST_OK 1).extAsked = false ∧
        ((s.wr Fd.SEC_STAT_SELFTEST_OK 1).bootResult [] []).2 = true) ∧
    (let s := asked 1 4;
      let t := s.testAsked;
      let u := (withBst s fun b => { b with recs := [] }).wr Fd.BST_CTL_RESULT 2;
      let f := withEcc u fun e => { e with
        retired := (List.range 16).map fun i => { kind := 1, pc := t.pc, bank := t.bank, target := 0, spare := i } };
      s.lcRuntime = true ∧ s.serves = true ∧ s.targetOk t = true ∧ s.testBusy t = false ∧ t.op = 1 ∧
        u.spareFree t.pc t.bank 0 = true ∧ ∀ i, i < 16 → f.spareFree t.pc t.bank i = false) ∧
    (let s := withBst svc fun b => { b with tests := [{ test0 with op := 1 }] };
      ((s.pc 0).bank 0).debt ≤ 2 ∧ 2 < ((withBank0 s { debt := 3 }).pc 0 |>.bank 0).debt) ∧
    ((asked 1 4).bistGo.rd Fd.BST_CTL_RESULT ≠ 4 ∧
      (withBst ((asked 4 4).wr (Fd.CG_CTL_FENCE 0) 1) fun b => { b with tests := [test0] }).bistGo.rd Fd.BST_CTL_RESULT = 4) :=
  ⟨by decide, by decide, by decide, by decide, by decide, by decide, by decide, by decide, by decide, by decide⟩

theorem witness_OutboxOfFour :
    let s := withFlt svc fun f => { f with outbox := [msg 7 1, msg 7 1, msg 8 1, msg 7 1] };
    let u := withFlt svc fun f => { f with outbox := msg 7 1 :: s.flt.outbox };
    s.coreOff = false ∧ (s.flt.outbox.filter fun (x : Msg) => x.source == 7).length = 3 ∧
      (u.flt.outbox.filter fun (x : Msg) => x.source == 7).length = 4 ∧ u.rd Fd.FLT_CNT_LOST < 0xFFFF := by decide

/-! ### Full queues -/

set_option maxRecDepth 100000 in
/-- The clause of DataRequestAccepted on a share queue without room. -/
theorem witness_no_share_room :
    let s := withRgl ((svcR.wr Fd.REG_CTL_ENFORCE 1).wr (Fd.REG_L_CFG_EN 0) 1) fun r =>
      { r with shareQ := [(0, List.replicate 2048 (0, 64))] };
    let u := s.tookReq 0 0 opRD64 hd0 [] 0;
    let t := s.asTxn 0 opRD64 hd0 [] 0;
    let p := u.passedTxn t 0;
    ((u.setTxn p).passLabel t.id 0 p.charge (u.cardCharge opRD64 hd0 []).2).2 = .noRoom := by decide

set_option maxRecDepth 100000 in
/-- The clause of DataRequestRefused on 2,048 outstanding requests. -/
theorem witness_outstanding_limit :
    let s := withTxns svc (List.replicate 2048 txn0);
    s.decodes 0 = true ∧ 2048 ≤ (s.freeSlots 0 0 1).outstanding 0 := by decide

set_option maxRecDepth 100000 in
/-- The clause of SelfTestCommands on records beyond 4,096. -/
theorem witness_records_overflow :
    (svc.bootResult (List.replicate 4097 0) []).2 = false := by decide

theorem test_reset_wf : State.reset.wf = true := by decide

end Sys2Proof.Tests
end

/-! ### A field written, by its type (R10, R11) -/

namespace Sys2Proof.Machine

theorem bit_eq_testBit (x i : Nat) : bit x i = x.testBit i := by
  rw [bit, Nat.testBit_eq_decide_div_mod_eq]; rfl

/-- A write of a field leaves the bits outside it. -/
theorem bit_setBits_outside (x v : Nat) {hi lo i : Nat} (h : lo ≤ hi) (hi' : i < lo ∨ hi < i) :
    bit (setBits x hi lo v) i = bit x i := by
  rw [bit_eq_testBit, bit_eq_testBit, testBit_setBits x v h]
  rcases hi' with below | above
  · simp [below]
  · have not_below : ¬ i < lo := by omega
    have not_in : ¬ i ≤ hi := by omega
    simp [not_below, not_in]

theorem bit_setBits_inside (x v : Nat) {hi lo i : Nat} (hlo : lo ≤ i) (hhi : i ≤ hi) :
    bit (setBits x hi lo v) i = v.testBit (i - lo) := by
  have not_below : ¬ i < lo := by omega
  rw [bit_eq_testBit, testBit_setBits x v (by omega)]
  simp [not_below, hhi]

theorem testBit_bits_inside (x : Nat) {hi lo i : Nat} (hlo : lo ≤ i) (hhi : i ≤ hi) :
    (bits x hi lo).testBit (i - lo) = bit x i := by
  have within : i - lo < hi - lo + 1 := by omega
  rw [testBit_bits, bit_eq_testBit, Nat.add_sub_cancel' hlo]
  simp [within]

/-- A field written with one of its own values reads as that value. -/
theorem bits_setBits_bits (x w : Nat) {hi lo : Nat} (h : lo ≤ hi) :
    bits (setBits x hi lo (bits w hi lo)) hi lo = bits w hi lo := by
  rw [bits_setBits_same x _ h, Nat.mod_eq_of_lt (bits_lt w hi lo)]

/-- Half of what is left when bits that stand set are taken away. -/
theorem half_sub_and (a m : Nat) : (a - (a &&& m)) / 2 = a / 2 - (a / 2 &&& m / 2) := by
  have le : a &&& m ≤ a := Nat.and_le_left
  have odd : (a &&& m) % 2 = 1 ↔ a % 2 = 1 ∧ m % 2 = 1 := Nat.and_mod_two_eq_one
  have half : (a &&& m) / 2 = a / 2 &&& m / 2 := Nat.and_div_two
  omega

theorem odd_sub_and (a m : Nat) : (a - (a &&& m)) % 2 = 1 ↔ a % 2 = 1 ∧ ¬ m % 2 = 1 := by
  have le : a &&& m ≤ a := Nat.and_le_left
  have odd : (a &&& m) % 2 = 1 ↔ a % 2 = 1 ∧ m % 2 = 1 := Nat.and_mod_two_eq_one
  omega

/-- Taking away bits that stand set clears exactly those. -/
theorem testBit_sub_and (a m i : Nat) : (a - (a &&& m)).testBit i = (a.testBit i && !m.testBit i) := by
  induction i generalizing a m with
  | zero => simp only [Nat.testBit_zero, odd_sub_and, Bool.decide_and, decide_not]
  | succ i ih => rw [Nat.testBit_succ, Nat.testBit_succ, Nat.testBit_succ, half_sub_and, ih]

variable (s : State) (a w : Nat) (locked : Bool) (x : WordWrite) (f : FieldRow)

/-- A field that software does not store to leaves the word. -/
theorem writeField_unstored (h : f.ty = .ro ∨ f.ty = .rc ∨ f.ty = .wo) : s.writeField a locked w x f = x := by
  rcases h with h | h | h <;> simp [State.writeField, h]

theorem writeField_w1c (h : f.ty = .w1c) :
    (s.writeField a locked w x f).word = setBits x.word f.hi f.lo
      (bits x.word f.hi f.lo - (bits x.word f.hi f.lo &&& (bits w f.hi f.lo &&& bits (s.baseReg a) f.hi f.lo))) := by
  simp [State.writeField, h, Nat.and_assoc]

theorem writeField_w1s (h : f.ty = .w1s) :
    (s.writeField a locked w x f).word =
      setBits x.word f.hi f.lo (bits x.word f.hi f.lo ||| bits w f.hi f.lo) := by
  simp [State.writeField, h]

/-- The field keeps its value whatever is written: an RWL field of a locked block (R11), a source's SEV and ESC while
FIXED (R705). -/
abbrev fieldHeld (a : Nat) (locked : Bool) (x : WordWrite) (f : FieldRow) : Prop :=
  (f.ty = .rwl ∧ locked = true) ∨
    (Ra.FLT_SRC 0 ≤ a ∧ a ≤ Ra.FLT_SRC 255 ∧ (f.lo = 27 ∨ f.lo = 29) ∧ bit x.word 31 = true)

/-- An RW or RWL field that nothing holds takes the value written unless it is a reserved encoding (R10). -/
theorem writeField_rw (h : f.ty = .rw ∨ f.ty = .rwl) :
    (s.writeField a locked w x f).word =
      if fieldHeld a locked x f then x.word
      else if f.legalValue (bits w f.hi f.lo) = true ∧ s.fieldOk a f (bits w f.hi f.lo) x.word = true then
        setBits x.word f.hi f.lo (bits w f.hi f.lo)
      else x.word := by
  rcases h with h | h <;> simp only [State.writeField, fieldHeld, h, apply_ite WordWrite.word]

/-- The lock of the block keeps an RWL field (R11). -/
theorem writeField_locked (h : f.ty = .rwl) (hl : locked = true) : (s.writeField a locked w x f).word = x.word := by
  rw [writeField_rw s a w locked x f (.inr h), if_pos (.inl ⟨h, hl⟩)]

/-- An RW or RWL field keeps its value where the value written is a reserved encoding (R10). -/
theorem writeField_reserved (h : f.ty = .rw ∨ f.ty = .rwl) (hv : f.legalValue (bits w f.hi f.lo) = false) :
    (s.writeField a locked w x f).word = x.word := by
  simp [writeField_rw s a w locked x f h, hv]

/-- A register that is no source's holds only RWL fields of a locked block. -/
theorem not_fieldHeld (hsrc : ¬ (Ra.FLT_SRC 0 ≤ a ∧ a ≤ Ra.FLT_SRC 255))
    (h : f.ty = .rw ∨ (f.ty = .rwl ∧ locked = false)) : ¬ fieldHeld a locked x f := by
  rintro (⟨hty, hl⟩ | ⟨h0, h255, -⟩)
  · rcases h with h | ⟨-, h⟩
    · simp [h] at hty
    · simp [h] at hl
  · exact hsrc ⟨h0, h255⟩

/-- A field that nothing holds takes a value that is no reserved encoding (R10, R11). -/
theorem writeField_stored (h : f.ty = .rw ∨ f.ty = .rwl) (hheld : ¬ fieldHeld a locked x f)
    (hv : f.legalValue (bits w f.hi f.lo) = true) (hok : s.fieldOk a f (bits w f.hi f.lo) x.word = true) :
    (s.writeField a locked w x f).word = setBits x.word f.hi f.lo (bits w f.hi f.lo) := by
  rw [writeField_rw s a w locked x f h, if_neg hheld, if_pos ⟨hv, hok⟩]

/-- What a write of a field does: it keeps the word, or replaces the field's bits. -/
theorem writeField_word_cases :
    (s.writeField a locked w x f).word = x.word ∨
      ∃ v, (s.writeField a locked w x f).word = setBits x.word f.hi f.lo v := by
  cases h : f.ty with
  | ro | rc | wo => exact .inl (by rw [writeField_unstored s a w locked x f (by simp [h])])
  | w1c => exact .inr ⟨_, writeField_w1c s a w locked x f h⟩
  | w1s => exact .inr ⟨_, writeField_w1s s a w locked x f h⟩
  | rw | rwl =>
    rw [writeField_rw s a w locked x f (by simp [h])]
    split
    · exact .inl rfl
    · split
      · exact .inr ⟨_, rfl⟩
      · exact .inl rfl

end Sys2Proof.Machine

section
open Sys2Proof Sys2Proof.Machine

/-- Settles O12, field type by field type. -/
theorem fieldTypesOnWrite : Obligations.FieldTypesOnWrite := by
  intro s a w locked x f hf hsrc
  refine ⟨?outside, ?unstored, ?w1c, ?w1s, ?stored, ?reserved, ?locked⟩
  case outside =>
    intro i hi
    rcases writeField_word_cases s a w locked x f with h | ⟨v, h⟩
    · rw [h]
    · rw [h, bit_setBits_outside _ _ hf hi]
  case unstored => intro h; rw [writeField_unstored s a w locked x f h]
  case w1c =>
    intro h i hlo hhi
    rw [writeField_w1c s a w locked x f h, bit_setBits_inside _ _ hlo hhi, testBit_sub_and, Nat.testBit_and,
      testBit_bits_inside _ hlo hhi, testBit_bits_inside _ hlo hhi, testBit_bits_inside _ hlo hhi]
  case w1s =>
    intro h i hlo hhi
    rw [writeField_w1s s a w locked x f h, bit_setBits_inside _ _ hlo hhi, Nat.testBit_or,
      testBit_bits_inside _ hlo hhi, testBit_bits_inside _ hlo hhi]
  case stored =>
    intro h hv hok
    have notHeld := not_fieldHeld a locked x f hsrc h
    rw [writeField_stored s a w locked x f (h.imp_right And.left) notHeld hv hok, bits_setBits_bits _ _ hf]
  case reserved => intro h hv; rw [writeField_reserved s a w locked x f h hv]
  case locked => intro h hl; exact writeField_locked s a w locked x f h hl

end

/-! ### The register file after reset (R11, R66) -/

namespace Sys2Proof.Machine

/-- After reset three registers hold another word than their reset value. -/
theorem reset_regs : State.reset.regs =
    [(Ra.GLB_ID, Part.id { stepMaj := 1, stepMin := 0, grade := 0, lgrp := 4 }), (Ra.OTP_LC, 0x400),
      (Ra.OTP_TRIPS, 0x695A)] := rfl

theorem reg_reset {a : Nat} (hid : a ≠ Ra.GLB_ID) (hlc : a ≠ Ra.OTP_LC) (htrips : a ≠ Ra.OTP_TRIPS) :
    State.reset.reg a = resetWord a := by
  simp [State.reg, reset_regs, Tab.get, hid.symm, hlc.symm, htrips.symm]

end Sys2Proof.Machine

section
open Sys2Proof Sys2Proof.Machine

/-- Settles O3: the three listed registers apart, each register reads its reset word; the rest is evaluated. -/
theorem resetStateHoldsResetValues : Obligations.ResetStateHoldsResetValues :=
  ⟨by decide, by decide, by decide, by decide, fun _ => reg_reset, by decide, rfl, rfl, rfl, rfl, rfl, by decide,
    Tests.test_reset_wf⟩

end

/-! ### Register accesses (R10–R12, R24, R25, R285) -/

namespace Sys2Proof.Machine

/-- The blocks whose registers no rule of `State.regPut`, `State.bitHook` or `State.dataWord` names: OTP, FLT and OBS,
REG, and QUE to CNT. -/
def ruleFreeBlock (a : Nat) : Prop :=
  (0x40000 ≤ a ∧ a < 0x50000) ∨ (0x60000 ≤ a ∧ a < 0x80000) ∨ (0x90000 ≤ a ∧ a < 0xA0000) ∨
    (0x310000 ≤ a ∧ a < 0x340000)

variable (s : State) {a : Nat}

theorem bitHook_ruleFree (h : ruleFreeBlock a) (old new : Nat) : s.bitHook a old new = none := by
  simp only [ruleFreeBlock] at h
  unfold State.bitHook Ra.CLK_GATE_PORT Ra.CLK_GATE_CG Ra.RGN_FENCE_LO Ra.RGN_FENCE_HI Ra.CRM_FENCE
  dsimp only
  repeat rw [if_neg (by omega)]

theorem dataWord_ruleFree (h : ruleFreeBlock a) (w : Nat) : s.dataWord a w = s := by
  simp only [ruleFreeBlock] at h
  unfold State.dataWord Ra.SEC_KLD_K Ra.SEC_MKW
  rw [if_neg (by omega), if_neg (by omega)]

theorem laneSwapBusy_ruleFree (h : ruleFreeBlock a) (w : Nat) : s.laneSwapBusy a w = false := by
  simp only [ruleFreeBlock] at h
  have notPort : 0x100000 ≤ a → ¬ (a - 0x100000) / 0x1000 < 13 := by omega
  by_cases ha : 0x100000 ≤ a
  · simp [State.laneSwapBusy, notPort ha]
  · simp [State.laneSwapBusy, ha]

theorem regPut_ruleFree (h : ruleFreeBlock a) (who w : Nat) (r : RegRow) :
    s.regPut who a w r = s.writeRow who a w r := by
  have swap := laneSwapBusy_ruleFree s h w
  simp only [ruleFreeBlock] at h
  unfold State.regPut Ra.GLB_MODE_REQ Ra.NVM_UPD_DATA Ra.ECC_INJ_CTL Ra.CRM_INJ_CTL
  rw [if_neg (by omega), if_neg (by omega), if_neg (by omega), if_neg (by omega), swap]
  rfl

/-- A word stored that sets no GO: the register's fields by their types, then what the stored word does. -/
theorem writeRow_ruleFree (h : ruleFreeBlock a) (who : Nat) {w : Nat} {r : RegRow} (hgo : goBit r w = false) :
    (s.writeRow who a w r).1 = (s.setReg a (BitVec.ofNat 32 (s.writeWord a w r).word)).wordHook a (s.reg a).toNat
      (s.writeWord a w r).word := by
  simp only [State.writeRow, bitHook_ruleFree _ h, dataWord_ruleFree _ h, hgo, Bool.false_eq_true, false_and, if_false]

/-- House firmware's write comes last of its cycle (R24), and reaches every register (R390). -/
theorem regWrite_firmware (ha : a < 0x1000000) {v : Nat} {r : RegRow} (hr : regRow a = some r)
    (hlast : ∀ e ∈ s.cyc.writes, e.2.1 ≤ whoFw) :
    (s.regWrite whoFw a v).1 =
      ((s.regPut whoFw a (v % 2 ^ 32) r).1.baseCleared r a (v % 2 ^ 32)).noteWrite whoFw a (s.look a) := by
  have notLate : (s.cyc.writes.any fun (e : Nat × Nat × Nat) => e.1 == a && decide (whoFw < e.2.1)) = false := by
    simp only [List.any_eq_false, Bool.and_eq_true, decide_eq_true_eq, not_and, Nat.not_lt]
    exact fun e he _ => hlast e he
  simp [State.regWrite, Nat.mod_eq_of_lt ha, hr, notLate]

/-- A write by house firmware of a register in a block without rules of its own, setting no GO. -/
theorem regWrite_ruleFree (hb : ruleFreeBlock a) {v : Nat} {r : RegRow} (hr : regRow a = some r)
    (hgo : goBit r (v % 2 ^ 32) = false) (hlast : ∀ e ∈ s.cyc.writes, e.2.1 ≤ whoFw) :
    (s.regWrite whoFw a v).1 =
      ((((s.setReg a (BitVec.ofNat 32 (s.writeWord a (v % 2 ^ 32) r).word)).wordHook a (s.reg a).toNat
        (s.writeWord a (v % 2 ^ 32) r).word).baseCleared r a (v % 2 ^ 32)).noteWrite whoFw a (s.look a)) := by
  have ha : a < 0x1000000 := by simp only [ruleFreeBlock] at hb; omega
  rw [regWrite_firmware s ha hr hlast, regPut_ruleFree s hb, writeRow_ruleFree s hb _ hgo]

/-- Outside the monitors a word stored in such a block does nothing more. -/
theorem wordHook_ruleFree (hb : ruleFreeBlock a) (hobs : ¬ (0x70000 ≤ a ∧ a < 0x80000)) (old new : Nat) :
    s.wordHook a old new = s := by
  simp only [ruleFreeBlock] at hb
  unfold State.wordHook Ra.CLK_SRC Ra.PWR_TIMER Ra.OBS_MON_CFG Ra.OBS_MON_BASE Ra.SEC_LINK Ra.SEC_LSESSP_LO
    Ra.SEC_LSESSP_HI Ra.PAIR_CFG
  repeat rw [if_neg (by omega)]

/-- A monitor's CFG or BASE written clears the monitor (R732). -/
theorem wordHook_monitor {m : Nat} (hm : m < 64) (ha : a = Ra.OBS_MON_CFG m ∨ a = Ra.OBS_MON_BASE m) (old new : Nat) :
    s.wordHook a old new = s.monClear m := by
  simp only [Ra.OBS_MON_CFG, Ra.OBS_MON_BASE] at ha
  have unit : (a - 0x71000) / 0x100 = m := by omega
  unfold State.wordHook Ra.CLK_SRC Ra.PWR_TIMER Ra.OBS_MON_CFG Ra.OBS_MON_BASE
  rw [if_neg (by omega), if_neg (by omega), if_pos (by omega)]
  exact congrArg s.monClear unit

theorem ruleFreeBlock_monitor {m : Nat} (hm : m < 64) (ha : a = Ra.OBS_MON_CFG m ∨ a = Ra.OBS_MON_BASE m) :
    ruleFreeBlock a := by
  simp only [Ra.OBS_MON_CFG, Ra.OBS_MON_BASE] at ha
  simp only [ruleFreeBlock]
  omega

/-- A monitor's CFG or BASE written by house firmware: stored by its fields' types, and the monitor cleared. -/
theorem regWrite_monitor {m v : Nat} {r : RegRow} (hm : m < 64) (ha : a = Ra.OBS_MON_CFG m ∨ a = Ra.OBS_MON_BASE m)
    (hr : regRow a = some r) (hgo : goBit r (v % 2 ^ 32) = false) (hlast : ∀ e ∈ s.cyc.writes, e.2.1 ≤ whoFw) :
    (s.regWrite whoFw a v).1 =
      ((((s.setReg a (BitVec.ofNat 32 (s.writeWord a (v % 2 ^ 32) r).word)).monClear m).baseCleared r a
        (v % 2 ^ 32)).noteWrite whoFw a (s.look a)) := by
  rw [regWrite_ruleFree s (ruleFreeBlock_monitor hm ha) hr hgo hlast, wordHook_monitor _ hm ha]

/-- An address that names no register (R285). -/
theorem regWrite_unnamed (who : Nat) {v : Nat} (h : regRow (a % 0x1000000) = none) : (s.regWrite who a v).1 = s := by
  simp [State.regWrite, h]

/-- A read leaves of the RC fields what the cycle has added (R12); one of CLK_TIME_LO latches device time (R103). -/
theorem readReg_state {r : RegRow} (hr : regRow a = some r) :
    (s.readReg a).1 = (((if a = Ra.CLK_TIME_LO then s.latchTime else s).setReg a
      (BitVec.ofNat 32 (rcLeft (rcMax a) r (s.baseReg a) (s.reg a).toNat))).setBase a (rcCleared r (s.baseReg a))) := by
  simp [State.readReg, hr]

/-- Where the cycle has added nothing a read clears the RC fields. -/
theorem rcLeft_unraised (max : Bool) (r : RegRow) (w : Nat) : rcLeft max r w w = rcCleared r w := by
  simp [rcLeft, rcCleared]

/-! What the commands of register accesses do to a part that is not held in reset. -/

theorem exec_registerWrite (who a v : Nat) (h : s.inReset = false) :
    exec (.registerWrite who a v) s = .next (if (who < 12 ∨ who = whoSb) ∧ governed (a % 0x1000000) then s
      else (s.regWrite (if who < 12 ∨ who = whoSb then who else whoFw) a v).1) := act_live s _ h

theorem exec_readClear (a : Nat) (h : s.inReset = false) : exec (.readClear a) s = .next (s.readReg a).1 :=
  act_live s _ h

theorem exec_lockWrite {f : Fld} (h : s.inReset = false) (hf : lockFld (a % 0x1000000) = some f) :
    exec (.lockWrite a) s = .next (s.setLock f) := (act_live s _ h).trans (by rw [hf])

theorem exec_obsMonCfgWrite {m : Nat} (base : Bool) (v : Nat) (h : s.inReset = false) (hm : m < 64) :
    exec (.obsMonCfgWrite m base v) s =
      .next (s.regWrite whoFw (if base then Ra.OBS_MON_BASE m else Ra.OBS_MON_CFG m) v).1 :=
  (act_live s _ h).trans (by rw [if_pos hm])

end Sys2Proof.Machine

section
open Sys2Proof Sys2Proof.Machine

/-- Settles O11, command by command. -/
theorem registerAccessCommands : Obligations.RegisterAccessCommands := by
  intro s hs
  refine ⟨?stored, ?governed, ?unnamed, ?readClear, ?readTime, rcLeft_unraised, ?lock, ?pairLock, ?monBase, ?monCfg⟩
  case stored =>
    intro who a v r hwho _ hr _ hgo hblock hlast
    have firmware : ¬ (who < 12 ∨ who = whoSb) := by unfold whoSb; omega
    have ruleFree : ruleFreeBlock a := by simp only [ruleFreeBlock]; omega
    rw [exec_registerWrite s who a v hs, if_neg (fun h => firmware h.1), if_neg firmware,
      regWrite_ruleFree s ruleFree hr hgo hlast, wordHook_ruleFree _ ruleFree (by omega)]
  case governed =>
    intro who a v hwho hgov
    rw [exec_registerWrite s who a v hs, if_pos ⟨hwho, hgov⟩]
  case unnamed =>
    intro who a v hr
    rw [exec_registerWrite s who a v hs, regWrite_unnamed s _ hr, ite_self]
  case readClear =>
    intro a r hr htime
    rw [exec_readClear s a hs, readReg_state s hr, if_neg htime]
  case readTime =>
    intro r hr
    rw [exec_readClear s _ hs, readReg_state s hr, if_pos rfl]
  case lock =>
    intro a f hf hpair
    rw [exec_lockWrite s hs hf, State.setLock, if_neg hpair]
  case pairLock =>
    intro a f hf hpair
    rw [exec_lockWrite s hs hf, State.setLock, if_pos hpair]
  case monBase =>
    intro m v r hm hr hgo hlast
    rw [exec_obsMonCfgWrite s true v hs hm]
    exact congrArg _ (regWrite_monitor s hm (.inr rfl) hr hgo hlast)
  case monCfg =>
    intro m v r hm hr hgo hlast
    rw [exec_obsMonCfgWrite s false v hs hm]
    exact congrArg _ (regWrite_monitor s hm (.inl rfl) hr hgo hlast)

end

/-! ### A step of the front command (R23) -/

section
open Sys2Proof Sys2Proof.Machine

/-- Settles O1, by the queue's first case. -/
theorem stepRunsFrontCommand : Obligations.StepRunsFrontCommand := by
  intro c rest s h
  simp only [step, h]

end

/-! ### The choice among pending mode requests (R28) -/

namespace Sys2Proof.Machine

variable {l : List ModeReq} {r x : ModeReq}

/-- `r` stands in the list, no request of it has a lower precedence number, and every one before it a higher. -/
def FirstOfLeast (l : List ModeReq) (r : ModeReq) : Prop :=
  ∃ a b, l = a ++ r :: b ∧ (∀ x ∈ a, r.prec < x.prec) ∧ (∀ x ∈ b, r.prec ≤ x.prec)

theorem FirstOfLeast.le (h : FirstOfLeast l r) (hx : x ∈ l) : r.prec ≤ x.prec := by
  obtain ⟨a, b, rfl, before, after⟩ := h
  rcases List.mem_append.1 hx with hx | hx
  · exact Nat.le_of_lt (before x hx)
  · rcases List.mem_cons.1 hx with rfl | hx
    · exact Nat.le_refl _
    · exact after x hx

/-- A request of a higher or the same number that comes later changes nothing. -/
theorem FirstOfLeast.concat (h : FirstOfLeast l r) (hx : r.prec ≤ x.prec) : FirstOfLeast (l ++ [x]) r := by
  obtain ⟨a, b, rfl, before, after⟩ := h
  refine ⟨a, b ++ [x], by simp, before, fun y hy => ?_⟩
  rcases List.mem_append.1 hy with hy | hy
  · exact after y hy
  · exact List.mem_singleton.1 hy ▸ hx

/-- A later request of a lower number than all before it takes the place. -/
theorem firstOfLeast_last (h : ∀ y ∈ l, x.prec < y.prec) : FirstOfLeast (l ++ [x]) x :=
  ⟨l, [], rfl, h, by simp⟩

theorem pickReq_concat_of_none (x : ModeReq) (h : pickReq l = none) : pickReq (l ++ [x]) = some x := by
  rw [pickReq] at h
  rw [pickReq, List.foldl_append, h]
  rfl

theorem pickReq_concat_of_some (x : ModeReq) (h : pickReq l = some r) :
    pickReq (l ++ [x]) = if x.prec < r.prec then some x else some r := by
  rw [pickReq] at h
  rw [pickReq, List.foldl_append, h]
  rfl

/-- What the choice finds: nothing among no requests, else the first of the lowest number. -/
def PickFinds (l : List ModeReq) : Prop := (l = [] ∧ pickReq l = none) ∨ ∃ r, pickReq l = some r ∧ FirstOfLeast l r

theorem PickFinds.concat (x : ModeReq) (h : PickFinds l) : PickFinds (l ++ [x]) := by
  right
  rcases h with ⟨rfl, none⟩ | ⟨r, found, first⟩
  · exact ⟨x, pickReq_concat_of_none x none, firstOfLeast_last (by simp)⟩
  · rw [pickReq_concat_of_some x found]
    by_cases lower : x.prec < r.prec
    · rw [if_pos lower]
      exact ⟨x, rfl, firstOfLeast_last fun y hy => Nat.lt_of_lt_of_le lower (first.le hy)⟩
    · rw [if_neg lower]
      exact ⟨r, rfl, first.concat (Nat.le_of_not_lt lower)⟩

theorem PickFinds.append {m : List ModeReq} (h : PickFinds l) : PickFinds (l ++ m) := by
  induction m generalizing l with
  | nil => rwa [List.append_nil]
  | cons x m ih =>
    rw [List.append_cons]
    exact ih (h.concat x)

theorem pickFinds (l : List ModeReq) : PickFinds l := PickFinds.append (l := []) (.inl ⟨rfl, rfl⟩)

theorem ne_nil_of_pickReq (h : pickReq l = some r) : l ≠ [] := by
  rintro rfl
  cases h

end Sys2Proof.Machine

section
open Sys2Proof Sys2Proof.Machine

/-- Settles O14, from what the choice finds. -/
theorem requestOfHighestPrecedence : Obligations.RequestOfHighestPrecedence := by
  intro l
  rcases pickFinds l with ⟨rfl, none⟩ | ⟨r, found, first⟩
  · exact ⟨fun r h => (ne_nil_of_pickReq h rfl).elim, fun _ => rfl⟩
  · refine ⟨fun q h => ?_, fun h => ?_⟩
    · rw [found] at h
      exact Option.some.inj h ▸ first
    · rw [found] at h
      cases h

end

/-! ### The line accesses of a request (R277–R280, R318) -/

namespace Sys2Proof.Machine

variable (s : State) (t : Txn)

theorem isRead_of_isWrite {op : Nat} (h : isWrite op = true) : isRead op = false := by
  simp only [isWrite, Bool.or_eq_true, beq_iff_eq] at h
  rcases h with (rfl | rfl) | rfl <;> rfl

/-- A line read asks for its lines in ascending order (R277). -/
theorem lineAccs_read (h : isRead t.op = true) :
    (lineAccs t).map (fun a => (a.kind, a.line)) =
      (List.range (opLines t.op)).map fun i => (AccKind.read, t.head.addr / 64 + i) := by
  rw [lineAccs, if_pos h, List.map_map]
  rfl

/-- A line write carries 64 bytes of its payload to each of its lines (R278). -/
theorem lineAccs_write (h : isWrite t.op = true) :
    (lineAccs t).map (fun a => (a.kind, a.line, a.data)) =
      (List.range (opLines t.op)).map fun i =>
        (AccKind.write, t.head.addr / 64 + i, (t.payload.drop (64 * i)).take 64) := by
  have notRead : ¬ isRead t.op = true := by simp [isRead_of_isWrite h]
  rw [lineAccs, if_neg notRead, if_pos h, List.map_map]
  rfl

/-- ATOM is one merge of its line (R280, R327). -/
theorem lineAccs_atom (h : t.op = opATOM) :
    (lineAccs t).map (fun a => (a.kind, a.line)) = [(AccKind.merge, t.head.addr / 64)] := by
  have notRead : ¬ isRead t.op = true := by rw [h]; decide
  have notWrite : ¬ isWrite t.op = true := by rw [h]; decide
  have notWrp : ¬ t.op = opWRP := by rw [h]; decide
  rw [lineAccs, if_neg notRead, if_neg notWrite, if_neg notWrp]
  rfl

/-- A WRP that selects no byte has no access (R279). -/
theorem lineAccs_wrp_nothing (h : t.op = opWRP) (hpsn : bit t.head.spec 0 = false)
    (hmask : leNat (t.payload.take 8) % 2 ^ 64 = 0) : lineAccs t = [] := by
  have notRead : ¬ isRead t.op = true := by rw [h]; decide
  have notWrite : ¬ isWrite t.op = true := by rw [h]; decide
  rw [lineAccs, if_neg notRead, if_neg notWrite, if_pos h]
  dsimp only
  simp only [hmask, hpsn, if_true, Bool.false_eq_true, if_false, ite_self]

/-! Their way into the fabric (R15, R318). -/

/-- The bucket that a line lies in depends on the registers and the table engine alone. -/
theorem bucketOf_congr {s u : State} (hregs : u.regs = s.regs) (htbl : u.tbl = s.tbl) (a : Nat) :
    u.bucketOf a = s.bucketOf a := by
  have on : ∀ f, u.on f = s.on f := on_of_regs hregs
  have rd : ∀ f, u.rd f = s.rd f := rd_of_regs hregs
  have desc : ∀ n, u.desc n = s.desc n := fun n => by simp only [State.desc, on, rd]
  have rgn : ∀ n, u.rgn n = s.rgn n := fun n => by simp only [State.rgn, on, rd]
  have span : ∀ d, u.tblSpan d = s.tblSpan d := fun d => by simp only [State.tblSpan, State.tblBase, rgn]
  simp only [State.bucketOf, State.tables, hregs, htbl, desc, span, rgn]

/-- An access is numbered and enters the fabric, or waits for its bucket's lock. -/
def State.presentNext (s : State) (a : Acc) : State :=
  { s with nextSeq := s.nextSeq + 1 }.present { a with seq := s.nextSeq, born := s.clk.time }

/-- Accesses enter the fabric one after another. -/
def State.presentAll (s : State) (accs : List Acc) : State := accs.foldl State.presentNext s

/-- An access of no table bucket enters at the fabric's end. -/
theorem presentNext_outside {a : Acc} (h : s.bucketOf (64 * a.line) = none) :
    s.presentNext a = { s with
      nextSeq := s.nextSeq + 1
      fabric := s.fabric ++ [{ a with seq := s.nextSeq, born := s.clk.time }] } := by
  have outside : { s with nextSeq := s.nextSeq + 1 }.bucketOf (64 * a.line) = none :=
    (bucketOf_congr rfl rfl _).trans h
  simp only [State.presentNext, State.present, outside]

/-- Accesses of no table bucket enter in order, numbered in that order. -/
theorem presentAll_outside (accs : List Acc) (h : ∀ a ∈ accs, s.bucketOf (64 * a.line) = none) :
    s.presentAll accs = { s with
      nextSeq := s.nextSeq + accs.length
      fabric := s.fabric ++ accs.mapIdx fun i a => { a with seq := s.nextSeq + i, born := s.clk.time } } := by
  induction accs generalizing s with
  | nil => simp [State.presentAll]
  | cons a accs ih =>
    have rest : ∀ b ∈ accs, (s.presentNext a).bucketOf (64 * b.line) = none := by
      rw [presentNext_outside s (h a List.mem_cons_self)]
      exact fun b hb => (bucketOf_congr rfl rfl _).trans (h b (List.mem_cons_of_mem _ hb))
    rw [State.presentAll, List.foldl_cons]
    refine (ih _ rest).trans ?_
    rw [presentNext_outside s (h a List.mem_cons_self)]
    simp [List.mapIdx_cons, Nat.add_assoc, Nat.add_comm 1]

theorem dispatch_line (hline : isLine t.op = true) (hstay : s.goesAway t = false) :
    s.dispatch t = s.startLine t := by
  rw [State.dispatch, hstay, if_neg Bool.false_ne_true, if_pos hline]

/-- The request waits for the accesses it has presented. -/
theorem startLine_of_accesses (h : lineAccs t ≠ []) :
    s.startLine t = (s.setTxn { t with stage := .running, left := (lineAccs t).length }).presentAll (lineAccs t) := by
  have notEmpty : ¬ (lineAccs t).isEmpty = true := by simpa using h
  rw [State.startLine]
  exact if_neg notEmpty

theorem startLine_of_none (h : lineAccs t = []) :
    s.startLine t = (s.setTxn { t with stage := .running, left := 0 }).settle t.id := by
  rw [State.startLine, h]
  rfl

end Sys2Proof.Machine

section
open Sys2Proof Sys2Proof.Machine

/-- Settles O28: what each opcode's accesses are, and how they enter the fabric. -/
theorem lineAccessesPresented : Obligations.LineAccessesPresented := by
  intro s t hline hstay hout
  refine ⟨?presented, lineAccs_read t, lineAccs_write t, lineAccs_atom t, ?nothing⟩
  case presented =>
    intro hacc
    have outside : ∀ a ∈ lineAccs t,
        (s.setTxn { t with stage := .running, left := (lineAccs t).length }).bucketOf (64 * a.line) = none :=
      fun a ha => (bucketOf_congr rfl rfl _).trans (hout a ha)
    rw [dispatch_line s t hline hstay, startLine_of_accesses s t hacc, presentAll_outside _ _ outside]
    exact ⟨rfl, rfl, rfl, rfl⟩
  case nothing =>
    intro hop hpsn hmask
    have none := lineAccs_wrp_nothing t hop hpsn hmask
    exact ⟨none, by rw [dispatch_line s t hline hstay, startLine_of_none s t none]⟩

end

/-! ### The management controller's restart (R29, R30, R144) -/

namespace Sys2Proof.Machine

variable {s : State}

/-- With the core on and no restart under way the expiry resets the management controller (R29). -/
theorem exec_watchdogExpiry (h : s.inReset = false) (hcore : s.coreOff = false) (hrun : s.seq.mcRestart = false) :
    exec .watchdogExpiry s = .next s.mcReset := by
  have acts : ¬ (s.coreOff = true ∨ s.seq.mcRestart = true) := by simp [hcore, hrun]
  exact (act_live s _ h).trans (by rw [if_neg acts])

theorem exec_watchdogExpiry_suspended (h : s.inReset = false) (hoff : s.coreOff = true ∨ s.seq.mcRestart = true) :
    exec .watchdogExpiry s = .next s := (act_live s _ h).trans (by rw [if_pos hoff])

/-- The controller's reset where no AUTH waits and no record is being written. -/
theorem mcReset_idle (hwait : (s.req.txns.filter fun (t : Txn) => t.stage == .heldPersist) = [])
    (hwr : s.nvm.wr = none) :
    s.mcReset = { s with
      nvm := { s.nvm with upd := none }
      seq := { s.seq with mcRestart := true } } := by
  rw [State.mcReset, hwait]
  simp only [List.foldl_nil, hwr]

/-- The controller's reset drops the record being written, and house firmware owes it again. -/
theorem mcReset_writing {w : RecWrite} (hwait : (s.req.txns.filter fun (t : Txn) => t.stage == .heldPersist) = [])
    (hwr : s.nvm.wr = some w) (howed : s.nvm.owed.contains (w.slot / 2) = false) :
    s.mcReset = { s with
      nvm := { s.nvm with upd := none, wr := none, owed := s.nvm.owed ++ [w.slot / 2] }
      seq := { s.seq with mcRestart := true } } := by
  rw [State.mcReset, hwait]
  simp only [List.foldl_nil, hwr, howed, Bool.false_eq_true, if_false]

/-- The controller's reset answers an AUTH that waits for its persist write (R30). -/
theorem mcReset_req {t : Txn} (hwait : (s.req.txns.filter fun (x : Txn) => x.stage == .heldPersist) = [t]) :
    s.mcReset.req = (s.respond t stRETRY).req := by
  rw [State.mcReset, hwait]
  rfl

/-- The restart ends where house firmware does not run, or its slot is verified again (R144). -/
theorem exec_mcRestart_accepted {l : List Nat} (h : s.inReset = false) (hrun : s.seq.mcRestart = true)
    (hv : (if s.boot.fwRun then s.fwCheck (s.rd Fd.NVM_BOOT_STAT_FW_SLOT % 2) else .accepted []) = .accepted l) :
    exec .mcRestart s = .next ({ s.reload with seq := { s.seq with mcRestart := false } }.raise 39 1 0) := by
  have restarts : ¬ (!s.seq.mcRestart) = true := by simp [hrun]
  refine (act_live s _ h).trans ?_
  rw [if_neg restarts]
  dsimp only
  rw [hv]

/-- Firmware that fails is reported, and the restart goes on. -/
theorem exec_mcRestart_refused {r : Nat} {l : List Nat} (h : s.inReset = false) (hrun : s.seq.mcRestart = true)
    (hfw : s.boot.fwRun = true) (hv : s.fwCheck (s.rd Fd.NVM_BOOT_STAT_FW_SLOT % 2) = .refused r l) :
    exec .mcRestart s = .next (s.slotInvalid (s.rd Fd.NVM_BOOT_STAT_FW_SLOT % 2) r false) := by
  have restarts : ¬ (!s.seq.mcRestart) = true := by simp [hrun]
  refine (act_live s _ h).trans ?_
  rw [if_neg restarts]
  dsimp only
  rw [if_pos hfw, hv]

theorem exec_mcRestart_idle (h : s.inReset = false) (hrun : s.seq.mcRestart = false) :
    exec .mcRestart s = .next s := by
  have idle : (!s.seq.mcRestart) = true := by simp [hrun]
  exact (act_live s _ h).trans (by rw [if_pos idle])

theorem fwCheck_of_fault {k r : Nat} (h : s.slotFault k = some r) : s.fwCheck k = .refused r [] := by
  simp only [State.fwCheck, h]

theorem fwCheck_of_sound {k : Nat} (h : s.slotFault k = none) :
    s.fwCheck k = s.fwVerdict s.boot.fwSig.1 s.boot.fwSig.2 := by
  simp only [State.fwCheck, h]

/-- House firmware's state as the winning persist slot holds it, P from Samovar (R30, R564). -/
theorem reload_of_winner {w : Nat} (howed : s.nvm.owed.contains 4 = false) (hwin : s.winner 4 = some w)
    (hlen : (s.slotPayload (8 + w)).length = 128) :
    s.reload = { s with nvm := { s.nvm with
      persist := leBytes 8 s.sec.p ++ (s.slotPayload (8 + w)).drop 8
      ram := []
      erases := []
      owed := s.nvm.owed.filter (· == 3) } } := by
  have notOwed : ¬ s.nvm.owed.contains 4 = true := howed ▸ Bool.false_ne_true
  rw [State.reload]
  dsimp only
  rw [if_neg notOwed, hwin]
  simp only [hlen, Nat.sub_self, List.replicate_zero, List.append_nil]

end Sys2Proof.Machine

section
open Sys2Proof Sys2Proof.Machine

/-- Settles O15, case by case of the expiry and of the restart. -/
theorem controllerRestart : Obligations.ControllerRestart := by
  intro s hs
  refine ⟨?idle, ?writing, ?waiting, exec_watchdogExpiry_suspended hs, ?restart, exec_mcRestart_idle hs,
    fun w => reload_of_winner⟩
  case idle =>
    intro hcore hrun hwr hwait
    rw [exec_watchdogExpiry hs hcore hrun, mcReset_idle hwait hwr]
  case writing =>
    intro w hcore hrun hwr howed hwait
    rw [exec_watchdogExpiry hs hcore hrun, mcReset_writing hwait hwr howed]
  case waiting =>
    intro t hcore hrun hwait
    refine ⟨s.mcReset, exec_watchdogExpiry hs hcore hrun, rfl, rfl, rfl, ?_, ?_⟩ <;> rw [mcReset_req hwait]
  case restart =>
    intro hrun
    refine ⟨?accepted, ?faulty, ?refused⟩
    case accepted =>
      intro ok
      cases hfw : s.boot.fwRun with
      | false => exact exec_mcRestart_accepted hs hrun (l := []) (by rw [hfw]; rfl)
      | true =>
        obtain ⟨sound, l, verdict⟩ := ok.resolve_left (by simp [hfw])
        exact exec_mcRestart_accepted hs hrun (l := l) (by rw [if_pos hfw, fwCheck_of_sound sound, verdict])
    case faulty => exact fun r hfw fault => exec_mcRestart_refused hs hrun hfw (fwCheck_of_fault fault)
    case refused =>
      exact fun r l hfw sound verdict => exec_mcRestart_refused hs hrun hfw ((fwCheck_of_sound sound).trans verdict)

end

/-! ### A channel group's arbiter (R16) -/

namespace Sys2Proof.Machine

variable (s : State)

theorem mem_turns {j : Nat} (target : Nat) (h : j < 17) : j ∈ s.turns target := by
  simp only [State.turns, List.mem_map, List.mem_range]
  generalize Tab.get (fun _ => 0) s.grant target = last
  exact ⟨(j + 17 - (last + 1) % 17) % 17, Nat.mod_lt _ (by decide), by omega⟩

theorem headFor_mem {ini target : Nat} {a : Acc} (h : s.headFor ini target = some a) : a ∈ s.fabric :=
  List.mem_of_find?_eq_some h

/-- The running maximum of the urgencies is above each of them. -/
theorem urg_le_top (l : List Acc) (m : Nat) :
    m ≤ l.foldl (fun m a => max m a.urg) m ∧ ∀ b ∈ l, b.urg ≤ l.foldl (fun m a => max m a.urg) m := by
  induction l generalizing m with
  | nil => simp
  | cons a l ih =>
    obtain ⟨start, each⟩ := ih (max m a.urg)
    refine ⟨Nat.le_trans (Nat.le_max_left m a.urg) start, fun b hb => ?_⟩
    rcases List.mem_cons.1 hb with rfl | hb
    · exact Nat.le_trans (Nat.le_max_right m b.urg) start
    · exact each b hb

/-- The transfer granted is one presented that the target can accept, and none of these is more urgent. -/
theorem granted_spec {target : Nat} {a : Acc} (h : s.granted target = some a) :
    s.takes a = true ∧ a ∈ s.fabric ∧
      ∀ j b, j < 17 → s.headFor j target = some b → s.takes b = true → b.urg ≤ a.urg := by
  have granted := List.mem_of_find?_eq_some h
  have top := List.find?_some h
  rw [beq_iff_eq] at top
  rw [List.mem_filter, List.mem_filterMap] at granted
  obtain ⟨⟨i, -, head⟩, takes⟩ := granted
  refine ⟨takes, headFor_mem s head, fun j b hj hb htakes => ?_⟩
  rw [top]
  exact (urg_le_top _ 0).2 b (List.mem_filter.2 ⟨List.mem_filterMap.2 ⟨j, mem_turns s target hj, hb⟩, htakes⟩)

theorem nextFor_spec {k ini : Nat} {a : Acc} (h : s.nextFor k ini = some a) :
    a.ini = ini ∧ pcOf (64 * a.line) = k ∧ s.granted (k / 4) = some a := by
  obtain ⟨granted, here⟩ := Option.filter_eq_some_iff.1 h
  rw [Bool.and_eq_true, beq_iff_eq, beq_iff_eq] at here
  exact ⟨here.1, here.2, granted⟩

/-! ### What the entry of an access leaves alone (R325, R327) -/

/-- A count of other registers changes no fence. -/
theorem cgFenced_count {f ovf : Fld} (n g : Nat) (hf : f.ok = true) (ho : ovf.ok = true)
    (h1 : f.addr ≠ Ra.CG_CTL g) (h2 : ovf.addr ≠ Ra.CG_CTL g) : (s.count f ovf n).cgFenced g = s.cgFenced g := by
  have apart : ∀ e : Fld, e.addr ≠ Ra.CG_CTL g → e.apart (Fd.CG_CTL_FENCE g) = true :=
    fun e he => by simp [Fld.apart, Fd.CG_CTL_FENCE, he]
  rw [State.cgFenced, State.on, rd_count_other s n hf ho (Nat.le_refl 1) (apart f h1) (apart ovf h2)]
  rfl

/-- The entry to a bank's queue: in-order mode begins and is counted, or nothing changes. -/
theorem enterBank_cases (k : Nat) (a : Acc) :
    s.enterBank k a = s ∨
      s.enterBank k a = (s.setPc k ((s.pc k).setBank a.bank { (s.pc k).bank a.bank with inOrder := true })).count
        (Fd.CG_CNT_INORDER (k / 4)) (Fd.CG_CNT_INO_OVF (k / 4)) 1 := by
  simp only [State.enterBank]
  split
  · exact .inr rfl
  · exact .inl rfl

@[simp] theorem pc_setPc_same (k : Nat) (p : Pc) : (s.setPc k p).pc k = p := Tab.get_put_same _ _ _ _

@[simp] theorem cgFenced_setPc (k g : Nat) (p : Pc) : (s.setPc k p).cgFenced g = s.cgFenced g := (rfl)

@[simp] theorem pc_count (f ovf : Fld) (n k : Nat) : (s.count f ovf n).pc k = s.pc k := by
  rw [State.pc, count_pcs, State.pc]

@[simp] theorem enterBank_fabric (k : Nat) (a : Acc) : (s.enterBank k a).fabric = s.fabric := by
  rcases enterBank_cases s k a with h | h <;> rw [h]
  rw [count_fabric, State.setPc]

@[simp] theorem enterBank_grant (k : Nat) (a : Acc) : (s.enterBank k a).grant = s.grant := by
  rcases enterBank_cases s k a with h | h <;> rw [h]
  rw [count_grant, State.setPc]

@[simp] theorem enterBank_dram (k : Nat) (a : Acc) : (s.enterBank k a).dram = s.dram := by
  rcases enterBank_cases s k a with h | h <;> rw [h]
  rw [count_dram, State.setPc]

/-- The controller's queues are as they were before the bank's. -/
theorem enterBank_queues (k : Nat) (a : Acc) :
    ((s.enterBank k a).pc k).rq = (s.pc k).rq ∧ ((s.enterBank k a).pc k).mb = (s.pc k).mb := by
  rcases enterBank_cases s k a with h | h <;> rw [h]
  · exact ⟨rfl, rfl⟩
  · rw [pc_count, pc_setPc_same]
    exact ⟨rfl, rfl⟩

theorem cgFenced_enterBank (k g : Nat) (a : Acc) : (s.enterBank k a).cgFenced g = s.cgFenced g := by
  have apart : Ra.CG_CNT (k / 4) ≠ Ra.CG_CTL g := by simp only [Ra.CG_CNT, Ra.CG_CTL]; omega
  rcases enterBank_cases s k a with h | h <;> rw [h]
  rw [cgFenced_count _ _ _ rfl rfl apart apart, cgFenced_setPc]

/-! ### Entries of a pseudo-channel controller (R323, R327) -/

/-- The access as the controller numbers it. -/
def State.entry (s : State) (a : Acc) : Acc := { a with seq := s.nextSeq, born := s.clk.time }

/-- The state in which an access has left the fabric and entered its bank's queue. -/
def State.admitted (s : State) (k : Nat) (a : Acc) : State :=
  ((s.taken a (k / 4)).numbered a).1.enterBank k (s.entry a)

theorem admitted_frame (k : Nat) (a : Acc) :
    (s.admitted k a).fabric = s.fabric.filter (fun x => x.seq != a.seq) ∧
      (s.admitted k a).grant = Tab.put (fun _ => 0) s.grant (k / 4) a.ini ∧ (s.admitted k a).dram = s.dram := by
  rw [State.admitted, enterBank_fabric, enterBank_grant, enterBank_dram]
  exact ⟨rfl, rfl, rfl⟩

theorem admitted_queues (k : Nat) (a : Acc) :
    ((s.admitted k a).pc k).rq = (s.pc k).rq ∧ ((s.admitted k a).pc k).mb = (s.pc k).mb :=
  enterBank_queues _ k _

theorem cgFenced_admitted (k g : Nat) (a : Acc) : (s.admitted k a).cgFenced g = s.cgFenced g :=
  cgFenced_enterBank _ k g _

/-- The controller's queues become `p`, and an access that waits for an older one counts in PCn_RAW (R323). -/
def State.enqueued (s : State) (k : Nat) (p : Pc) (waits : Bool) : State :=
  if waits then (s.setPc k p).count (Fd.PC_RAW_COUNT k) (Fd.PC_RAW_OVF k) 1 else s.setPc k p

theorem enqueued_pc (k : Nat) (p : Pc) (waits : Bool) : (s.enqueued k p waits).pc k = p := by
  rw [State.enqueued, apply_ite (fun u : State => u.pc k), pc_count, pc_setPc_same, ite_self]

theorem enqueued_waiting (k : Nat) (p : Pc) :
    s.enqueued k p true = (s.setPc k p).count (Fd.PC_RAW_COUNT k) (Fd.PC_RAW_OVF k) 1 := if_pos rfl

theorem enqueued_at_once (k : Nat) (p : Pc) : s.enqueued k p false = s.setPc k p := if_neg Bool.false_ne_true

theorem enqueued_frame (k : Nat) (p : Pc) (waits : Bool) :
    (s.enqueued k p waits).fabric = s.fabric ∧ (s.enqueued k p waits).grant = s.grant ∧
      (s.enqueued k p waits).dram = s.dram := by
  cases waits with
  | false =>
    rw [enqueued_at_once]
    exact ⟨rfl, rfl, rfl⟩
  | true =>
    rw [enqueued_waiting, count_fabric, count_grant, count_dram]
    exact ⟨rfl, rfl, rfl⟩

theorem cgFenced_enqueued (k g : Nat) (p : Pc) (waits : Bool) : (s.enqueued k p waits).cgFenced g = s.cgFenced g := by
  have apart : Ra.PC_RAW k ≠ Ra.CG_CTL g := by simp only [Ra.PC_RAW, Ra.CG_CTL]; omega
  cases waits with
  | false => rw [enqueued_at_once, cgFenced_setPc]
  | true => rw [enqueued_waiting, cgFenced_count _ _ _ rfl rfl apart apart, cgFenced_setPc]

/-- A read admitted joins the read queue's end. -/
theorem enterRead_enqueued (k : Nat) (a : Acc) :
    ∃ p waits, s.enterRead k a = (s.admitted k a).enqueued k p waits ∧ p.rq = (s.pc k).rq ++ [s.entry a] :=
  ⟨_, _, rfl, congrArg (· ++ [s.entry a]) (admitted_queues s k a).1⟩

/-- A merge admitted joins the merge buffer's end. -/
theorem enterMerge_enqueued (k : Nat) (a : Acc) :
    ∃ p waits, s.enterMerge k a = (s.admitted k a).enqueued k p waits ∧ p.mb = (s.pc k).mb ++ [s.entry a] :=
  ⟨_, _, rfl, congrArg (· ++ [s.entry a]) (admitted_queues s k a).2⟩

/-- What an entry does besides queueing: the access leaves the fabric, and the group notes whose it granted. -/
theorem enqueued_admitted_frame (k : Nat) (a : Acc) (p : Pc) (waits : Bool) :
    ((s.admitted k a).enqueued k p waits).fabric = s.fabric.filter (fun x => x.seq != a.seq) ∧
      ((s.admitted k a).enqueued k p waits).grant = Tab.put (fun _ => 0) s.grant (k / 4) a.ini ∧
      ((s.admitted k a).enqueued k p waits).dram = s.dram := by
  obtain ⟨fabric, grant, dram⟩ := enqueued_frame (s.admitted k a) k p waits
  rw [fabric, grant, dram]
  exact admitted_frame s k a

theorem enterRead_spec (k : Nat) (a : Acc) : ((s.enterRead k a).pc k).rq = (s.pc k).rq ++ [s.entry a] ∧
    (s.enterRead k a).fabric = s.fabric.filter (fun x => x.seq != a.seq) ∧
    (s.enterRead k a).grant = Tab.put (fun _ => 0) s.grant (k / 4) a.ini ∧ (s.enterRead k a).dram = s.dram := by
  obtain ⟨p, waits, eq, rq⟩ := enterRead_enqueued s k a
  rw [eq, enqueued_pc]
  exact ⟨rq, enqueued_admitted_frame s k a p waits⟩

theorem enterMerge_spec (k : Nat) (a : Acc) : ((s.enterMerge k a).pc k).mb = (s.pc k).mb ++ [s.entry a] ∧
    (s.enterMerge k a).fabric = s.fabric.filter (fun x => x.seq != a.seq) ∧
    (s.enterMerge k a).grant = Tab.put (fun _ => 0) s.grant (k / 4) a.ini ∧ (s.enterMerge k a).dram = s.dram := by
  obtain ⟨p, waits, eq, mb⟩ := enterMerge_enqueued s k a
  rw [eq, enqueued_pc]
  exact ⟨mb, enqueued_admitted_frame s k a p waits⟩

/-- A read that enters fences no group and clears no fence. -/
theorem cgFenced_enterRead (k g : Nat) (a : Acc) : (s.enterRead k a).cgFenced g = s.cgFenced g := by
  obtain ⟨p, waits, eq, -⟩ := enterRead_enqueued s k a
  rw [eq, cgFenced_enqueued, cgFenced_admitted]

/-! What the commands of queue entry do to a part that is not held in reset. -/

variable {s} {k ini : Nat} {a : Acc}

/-- A read of a request's line, or its answer where the group is fenced (R351). -/
def State.readIn (k : Nat) (s : State) (x : Acc) : State :=
  if s.cgFenced (k / 4) then (s.taken x (k / 4)).aborted x.txn else s.enterRead k x

theorem readIn_fenced (x : Acc) (h : s.cgFenced (k / 4) = true) :
    State.readIn k s x = (s.taken x (k / 4)).aborted x.txn := if_pos h

/-- Outside a fence every read of the request enters. -/
theorem foldl_readIn_unfenced (l : List Acc) (h : s.cgFenced (k / 4) = false) :
    l.foldl (State.readIn k) s = l.foldl (fun s x => s.enterRead k x) s := by
  induction l generalizing s with
  | nil => rfl
  | cons x l ih =>
    have enters : State.readIn k s x = s.enterRead k x := if_neg (h ▸ Bool.false_ne_true)
    rw [List.foldl_cons, List.foldl_cons, enters, ih ((cgFenced_enterRead s k _ x).trans h)]

theorem exec_readQueueEntry (hs : s.inReset = false) (h : s.nextFor k ini = some a) (hk : a.kind = .read) :
    exec (.readQueueEntry k ini) s = .next ((s.accessOf a).foldl (State.readIn k) s) := by
  refine (act_live s _ hs).trans ?_
  rw [h]
  exact congrArg _ (if_neg (not_not_intro hk))

theorem exec_writeQueueEntry (hs : s.inReset = false) (h : s.nextFor k ini = some a) (hk : a.kind = .write) :
    exec (.writeQueueEntry k ini) s = .next ((s.accessOf a).foldl (fun s x => s.enterWrite k x) s) := by
  refine (act_live s _ hs).trans ?_
  rw [h]
  exact congrArg _ (if_neg (not_not_intro hk))

theorem exec_merge (hs : s.inReset = false) (h : s.nextFor k ini = some a) (hk : a.kind = .merge) :
    exec (.merge k ini) s =
      .next (if s.cgFenced (k / 4) then (s.taken a (k / 4)).aborted a.txn else s.enterMerge k a) := by
  refine (act_live s _ hs).trans ?_
  rw [h]
  exact congrArg _ (if_neg (not_not_intro hk))

/-- Without a transfer granted no command of queue entry does anything. -/
theorem exec_entry_none (hs : s.inReset = false) (h : s.nextFor k ini = none) :
    exec (.readQueueEntry k ini) s = .next s ∧ exec (.writeQueueEntry k ini) s = .next s ∧
      exec (.merge k ini) s = .next s :=
  ⟨(act_live s _ hs).trans (by rw [h]), (act_live s _ hs).trans (by rw [h]), (act_live s _ hs).trans (by rw [h])⟩

end Sys2Proof.Machine

section
open Sys2Proof Sys2Proof.Machine

/-- Settles O32: which transfer the group grants, and its entry by kind. -/
theorem controllerEntries : Obligations.ControllerEntries := by
  intro s k ini hs
  refine ⟨exec_entry_none hs, fun a h => ⟨?granted, ?readOneFenced, ?readOne, ?read, ?mergeFenced, ?merge,
    exec_writeQueueEntry hs h⟩, fun a => ?entered⟩
  case granted =>
    obtain ⟨hini, hpc, granted⟩ := nextFor_spec s h
    exact ⟨hini, hpc, granted_spec s granted⟩
  case readOneFenced =>
    intro hk one fenced
    rw [exec_readQueueEntry hs h hk, one, List.foldl_cons, List.foldl_nil, readIn_fenced a fenced]
  case readOne =>
    intro hk one unfenced
    rw [exec_readQueueEntry hs h hk, one, foldl_readIn_unfenced _ unfenced]
    rfl
  case read =>
    intro hk unfenced
    rw [exec_readQueueEntry hs h hk, foldl_readIn_unfenced _ unfenced]
  case mergeFenced =>
    intro hk fenced
    rw [exec_merge hs h hk, if_pos fenced]
  case merge =>
    intro hk unfenced
    rw [exec_merge hs h hk, if_neg (unfenced ▸ Bool.false_ne_true)]
  case entered =>
    obtain ⟨rq, fabric, grant, dram⟩ := enterRead_spec s k a
    obtain ⟨mb, mergeFabric, -, mergeDram⟩ := enterMerge_spec s k a
    exact ⟨rq, fabric, grant, dram, mb, mergeFabric, mergeDram⟩

end

/-! ### The commands of the mode sequencer (R27, R28, R38, R40–R52, R63) -/

namespace Sys2Proof.Machine

variable {s : State}

/-! Requests (R45, R51). -/

/-- A request of a defined mode and level, with the core on: its fields are stored and it is submitted. -/
theorem exec_glbModeReq {mode level : Nat} (auth : Bool) (hs : s.inReset = false) (hmode : mode < 12)
    (hlevel : level < 4)
    (hcore : ((s.wr Fd.GLB_MODE_REQ_LEVEL level).wr Fd.GLB_MODE_REQ_MODE mode).coreOff = false) :
    exec (.glbModeReq mode level auth) s =
      .next (((s.wr Fd.GLB_MODE_REQ_LEVEL level).wr Fd.GLB_MODE_REQ_MODE mode).modeGo
        { prec := if auth then 7 else 6, mode, level }) := by
  have mode16 : mode % 16 = mode := Nat.mod_eq_of_lt (by omega)
  refine (act_live s _ hs).trans ?_
  rw [State.modeReq, mode16, if_pos hmode, hcore, if_neg Bool.false_ne_true, Nat.mod_eq_of_lt hlevel]

theorem modeGo_accepted {r : ModeReq} (hgood : s.badReq r = false) (h : s.seqIdle = false ∨ s.permitted r = true) :
    s.modeGo r = (s.askMode r).armEntry r := by
  refine if_neg ?_
  rintro (bad | ⟨idle, refused⟩)
  · exact Bool.false_ne_true (hgood.symm.trans bad)
  · rcases h with busy | may
    · exact Bool.false_ne_true (busy.symm.trans idle)
    · simp [may] at refused

theorem modeGo_refused {r : ModeReq} (h : s.badReq r = true ∨ (s.seqIdle = true ∧ s.permitted r = false)) :
    s.modeGo r = s.refuseMode r 3 :=
  if_pos (h.imp_right fun ⟨idle, refused⟩ => ⟨idle, by rw [refused]; rfl⟩)

/-! The start of a transition (R28, R44). -/

theorem exec_modeTransitionStart (hs : s.inReset = false) (hmode : s.mode ≠ mDEEP) :
    exec .modeTransitionStart s = .next (s.transStart.runReady) := by
  refine (act_live s _ hs).trans ?_
  rw [State.transBegin, if_neg hmode]

/-- In DEEP a request of Trip B brings LOCKDOWN (R40, R77). -/
theorem exec_modeTransitionStart_deep {r : ModeReq} (hs : s.inReset = false) (hmode : s.mode = mDEEP)
    (h : (s.seq.reqs.find? fun (x : ModeReq) => x.prec == 1) = some r) :
    exec .modeTransitionStart s = .next ((s.deepLock r).runReady) := by
  refine (act_live s _ hs).trans ?_
  rw [State.transBegin, if_pos hmode, h]

theorem mode_ne_deep_of_core (h : s.coreOff = false) : s.mode ≠ mDEEP := by
  intro deep
  rw [State.coreOff, deep] at h
  cases h

/-- A preempting request starts at once; in a REFCLK hold only Trip B's (R44, R97). -/
theorem transStart_preempted {r : ModeReq} (hcore : s.coreOff = false) (h : s.preemptor = some r)
    (hhold : s.on Fd.CLK_STAT_HOLD = false ∨ r.prec = 1) :
    s.transStart = ((s.interrupt).dropReq r).beginReq r := by
  have starts : ¬ (s.on Fd.CLK_STAT_HOLD = true ∧ r.prec ≠ 1) := by
    rintro ⟨hold, other⟩
    rcases hhold with h | h
    · exact Bool.false_ne_true (h.symm.trans hold)
    · exact other h
  rw [State.transStart, hcore, if_neg Bool.false_ne_true, h]
  exact if_neg starts

/-- A part whose image is applied leaves BOOT once its clock is there (R67, R155). -/
theorem transStart_boot (hcore : s.coreOff = false) (h : s.preemptor = none) (hidle : s.seqIdle = true)
    (hboot : s.mode = mBOOT ∧ s.boot.applied = true ∧ s.on Fd.CLK_STAT_REFCLK_OK = true ∧ s.lifecycle ≠ 5) :
    s.transStart = s.setTrans (some
      { goal := mSELFTEST, req := { prec := 0, mode := mSELFTEST, level := s.level } }) := by
  rw [State.transStart, hcore, if_neg Bool.false_ne_true, h]
  dsimp only
  rw [if_pos hidle, if_pos hboot]

/-- Outside BOOT and DRAIN an idle sequencer judges the pending requests (R28). -/
theorem transStart_next (hcore : s.coreOff = false) (h : s.preemptor = none) (hidle : s.seqIdle = true)
    (hboot : s.mode ≠ mBOOT) (hdrain : s.mode ≠ mDRAIN) : s.transStart = s.startNext s.seq.reqs.length := by
  rw [State.transStart, hcore, if_neg Bool.false_ne_true, h]
  dsimp only
  rw [if_pos hidle, if_neg (fun b => hboot b.1), if_neg (fun d => hdrain d.1)]

/-- The request that is served first starts where it is permitted. -/
theorem startNext_permitted {r : ModeReq} (h : pickReq s.seq.reqs = some r)
    (hp : (s.dropReq r).permitted r = true) : s.startNext s.seq.reqs.length = (s.dropReq r).beginReq r := by
  obtain ⟨n, hn⟩ := Nat.exists_eq_succ_of_ne_zero (mt List.length_eq_zero_iff.1 (ne_nil_of_pickReq h))
  rw [hn, State.startNext, h]
  exact if_pos hp

/-! The end of a transition (R40, R51, R52, R648). -/

variable {t : Trans}

/-- What holds a transition's end back: an entry before its point of no return, a latched wake, a REFCLK hold. -/
theorem mayEnd_of_free (hret : t.goal ≠ mRETAIN) (hretp : t.goal ≠ mRETAINP) (hdeep : t.goal ≠ mDEEP)
    (hwake : t.goal ≠ mSTANDBY ∨ s.on Fd.PWR_STAT_LATCHED = false) (hhold : s.on Fd.CLK_STAT_HOLD = false) :
    s.mayEnd t = true := by
  have latch : ¬ (t.goal = mSTANDBY ∧ t.req.prec ≠ 3 ∧ s.on Fd.PWR_STAT_LATCHED = true) := by
    rintro ⟨standby, -, latched⟩
    rcases hwake with h | h
    · exact h standby
    · exact Bool.false_ne_true (h.symm.trans latched)
  simp only [State.mayEnd, hret, hretp, hdeep, latch, hhold, or_self, false_and, Bool.false_eq_true, decide_false,
    Bool.not_false, Bool.and_self]

theorem exec_modeTransitionEnd (hs : s.inReset = false) : exec .modeTransitionEnd s = .next (s.transEnd.runReady) :=
  act_live s _ hs

/-- The state as the transition's goal is entered. -/
def State.entered (s : State) (t : Trans) : State := (s.setTrans none).enterMode t.goal t.req

/-- The request names another level beside the mode that it has reached (R51). -/
def State.levelLeft (u : State) (t : Trans) : Bool :=
  t.goal == t.req.mode && (t.req.prec == 6 || t.req.prec == 7) && u.serves && t.req.level != u.level

/-- GLB_MODE_STAT shows the request done where nothing is left of it (R52). -/
def State.reported (u : State) (t : Trans) : State :=
  if t.goal ≠ t.req.mode ∨ u.levelLeft t = true ∨ t.req.prec = 0 then u else u.modeStat t.req.prec 1

theorem transEnd_of_other (ht : s.seq.trans = some t) (hend : s.mayEnd t = true) (hprec : t.req.prec ≠ 5) :
    s.transEnd =
      if (s.entered t).levelLeft t then ((((s.entered t).reported t).dropTarget).discard).beginLevel t.req
      else (((s.entered t).reported t).dropTarget).discard := by
  rw [State.transEnd, ht]
  dsimp only
  rw [hend, if_neg (by decide), if_neg hprec, if_neg hprec]
  rfl

/-- A level is left only of software's request for a mode. -/
theorem levelLeft_eq_false {u : State} (h : t.goal ≠ t.req.mode ∨ (t.req.prec ≠ 6 ∧ t.req.prec ≠ 7) ∨
    u.serves = false ∨ t.req.level = u.level) : u.levelLeft t = false := by
  rcases h with h | ⟨h6, h7⟩ | h | h
  · simp [State.levelLeft, h]
  · simp [State.levelLeft, h6, h7]
  · simp [State.levelLeft, h]
  · simp [State.levelLeft, h]

theorem levelLeft_eq_true {u : State} (hgoal : t.goal = t.req.mode) (hprec : t.req.prec = 6 ∨ t.req.prec = 7)
    (hserves : u.serves = true) (hlevel : t.req.level ≠ u.level) : u.levelLeft t = true := by
  simp [State.levelLeft, hgoal, hprec, hserves, hlevel]

theorem reported_done {u : State} (hgoal : t.goal = t.req.mode) (hprec : t.req.prec ≠ 0)
    (hleft : u.levelLeft t = false) : u.reported t = u.modeStat t.req.prec 1 :=
  if_neg (by simp [hgoal, hprec, hleft])

/-- No request of the sequencer's own, and none on its way to its mode, is shown done. -/
theorem transEnd_silent (ht : s.seq.trans = some t) (hend : s.mayEnd t = true)
    (h : t.req.prec = 0 ∨ (t.goal ≠ t.req.mode ∧ t.req.prec ≠ 5)) :
    s.transEnd = ((s.entered t).dropTarget).discard := by
  have notWake : t.req.prec ≠ 5 := by omega
  have silent : (s.entered t).reported t = s.entered t :=
    if_pos (h.elim (fun own => .inr (.inr own)) fun onWay => .inl onWay.1)
  have noneLeft : (s.entered t).levelLeft t = false := by
    rcases h with own | ⟨onWay, -⟩
    · exact levelLeft_eq_false (.inr (.inl (by omega)))
    · exact levelLeft_eq_false (.inl onWay)
  rw [transEnd_of_other ht hend notWake, noneLeft, if_neg Bool.false_ne_true, silent]

/-- A request whose mode is reached is shown done (R52). -/
theorem transEnd_done (ht : s.seq.trans = some t) (hend : s.mayEnd t = true) (hgoal : t.goal = t.req.mode)
    (h0 : t.req.prec ≠ 0) (h5 : t.req.prec ≠ 5) (hleft : (s.entered t).levelLeft t = false) :
    s.transEnd = (((s.entered t).modeStat t.req.prec 1).dropTarget).discard := by
  rw [transEnd_of_other ht hend h5, hleft, if_neg Bool.false_ne_true, reported_done hgoal h0 hleft]

/-- The level left of a request is begun (R51). -/
theorem transEnd_level (ht : s.seq.trans = some t) (hend : s.mayEnd t = true) (h5 : t.req.prec ≠ 5)
    (hleft : (s.entered t).levelLeft t = true) :
    s.transEnd = (((s.entered t).dropTarget).discard).beginLevel t.req := by
  have silent : (s.entered t).reported t = s.entered t := if_pos (.inr (.inl hleft))
  rw [transEnd_of_other ht hend h5, if_pos hleft, silent]

/-- The wake logic's transition spends its latch, and PWR_WAKE is raised (R648, R649). -/
theorem transEnd_wake (ht : s.seq.trans = some t) (hend : s.mayEnd t = true) (h5 : t.req.prec = 5)
    (hgoal : t.goal = t.req.mode) :
    s.transEnd = ((((s.wakeBegins.entered t).modeStat 5 1).dropTarget).discard).raiseWake := by
  have noneLeft : (s.wakeBegins.entered t).levelLeft t = false := levelLeft_eq_false (.inr (.inl (by omega)))
  have done := reported_done hgoal (by omega) noneLeft
  have notLeft : ¬ (s.wakeBegins.entered t).levelLeft t = true := noneLeft ▸ Bool.false_ne_true
  rw [h5] at done
  rw [← done, State.transEnd, ht]
  dsimp only
  rw [hend, if_neg (by decide), if_pos h5, if_pos h5]
  exact if_neg notLeft

/-! Level changes (R38, R63). -/

/-- A level change that nothing holds up: the next group switches, and the last one ends it. -/
theorem wckSwitch_runs {l : LvlChange} (hl : s.seq.lvl = some l) (hwait : l.waitV = false)
    (htrans : s.seq.trans = none) (hserves : s.serves = true) (hhold : s.on Fd.CLK_STAT_HOLD = false) :
    s.wckSwitch =
      (let m := { l with nextCg := l.nextCg + 1 }
       let u := (((s.wckStop l.nextCg).setLvl (some m)).groupFollow l.nextCg).calSettle l.nextCg
       if l.nextCg < 31 then u else u.endLevel m) := by
  have runs : ¬ (l.waitV = true ∨ s.seq.trans.isSome = true ∨ (!s.serves) = true ∨
      s.on Fd.CLK_STAT_HOLD = true) := by
    simp [hwait, htrans, hserves, hhold]
  rw [State.wckSwitch, hl]
  dsimp only
  rw [if_neg runs]
  exact ite_congr (propext Nat.add_lt_add_iff_right) (fun _ => rfl) fun _ => rfl

end Sys2Proof.Machine

section
open Sys2Proof Sys2Proof.Machine

/-- Settles O13, command by command. -/
theorem modeCommands : Obligations.ModeCommands := by
  intro s hs
  refine ⟨?request, ?preempts, ?starts, ?leavesBoot, fun r => exec_modeTransitionStart_deep hs, ?ends, ?switch,
    ?settled, ?calibrated⟩
  case request =>
    intro mode level auth hmode hlevel r u hcore
    have submitted := exec_glbModeReq auth hs hmode hlevel hcore
    refine ⟨fun good may => ?_, fun bad => ?_, fun idle refused => ?_⟩
    · rw [submitted, modeGo_accepted good may]
    · rw [submitted, modeGo_refused (.inl bad)]
    · rw [submitted, modeGo_refused (.inr ⟨idle, refused⟩)]
  case preempts =>
    intro r hcore hpre hhold
    rw [exec_modeTransitionStart hs (mode_ne_deep_of_core hcore), transStart_preempted hcore hpre hhold]
  case starts =>
    intro r hcore hpre hidle hboot hdrain hpick hpermit
    rw [exec_modeTransitionStart hs (mode_ne_deep_of_core hcore), transStart_next hcore hpre hidle hboot hdrain,
      startNext_permitted hpick hpermit]
  case leavesBoot =>
    intro hcore hpre hidle hboot happlied hclock hlife
    rw [exec_modeTransitionStart hs (mode_ne_deep_of_core hcore),
      transStart_boot hcore hpre hidle ⟨hboot, happlied, hclock, hlife⟩]
  case ends =>
    intro t ht
    refine ⟨mayEnd_of_free, fun hend => ?_⟩
    rw [exec_modeTransitionEnd hs]
    refine ⟨?silent, ?hardware, ?software, ?level, ?wake⟩
    case silent =>
      intro h
      rw [transEnd_silent ht hend h]
      rfl
    case hardware =>
      intro h1 h4 hgoal
      have noneLeft : (s.entered t).levelLeft t = false := levelLeft_eq_false (.inr (.inl (by omega)))
      rw [transEnd_done ht hend hgoal (by omega) (by omega) noneLeft]
      rfl
    case software =>
      intro hprec hgoal hleft
      rw [transEnd_done ht hend hgoal (by omega) (by omega) (levelLeft_eq_false (.inr (.inr hleft)))]
      rfl
    case level =>
      intro hprec hgoal hserves hlevel
      rw [transEnd_level ht hend (by omega) (levelLeft_eq_true hgoal hprec hserves hlevel)]
      rfl
    case wake =>
      intro h5 hgoal
      rw [transEnd_wake ht hend h5 hgoal]
      rfl
  case switch =>
    intro l hl hwait htrans hserves hhold u v
    have switched : exec .wckSwitch s = .next s.wckSwitch := act_live s _ hs
    rw [switched, wckSwitch_runs hl hwait htrans hserves hhold]
    refine ⟨fun more => ?_, fun last => ?_⟩
    · exact congrArg _ (if_pos more)
    · rw [← last]
      exact congrArg _ (if_neg (by omega))
  case settled =>
    intro l hl
    refine (act_live s _ hs).trans ?_
    rw [hl]
  case calibrated =>
    intro trained hmode hhold htrans
    have runs : ¬ (s.mode ≠ mCALIBRATE ∨ s.on Fd.CLK_STAT_HOLD = true ∨ s.seq.trans.isSome = true) := by
      simp [hmode, hhold, htrans]
    exact ⟨_, (act_live s _ hs).trans (congrArg _ (if_neg runs))⟩

end

/-! ### A data request at its decoder (R49, R237, R242, R264–R270, R526) -/

namespace Sys2Proof.Machine

variable {s : State} {c : Instr} {port op : Nat} {h : ReqHead} {payload : List Byte} {t : Txn}

/-- A command that spells a data request offers it to its port. -/
theorem exec_of_asRequest (hc : c.asRequest = some (port, op, h, payload)) (hs : s.inReset = false) :
    exec c s = .next (s.request port op h payload) := by
  unfold Instr.asRequest at hc
  split at hc <;> cases hc <;> exact act_live s _ hs

theorem isMgmt_of_asRequest (hc : c.asRequest = some (port, op, h, payload)) : isMgmt op = false := by
  unfold Instr.asRequest at hc
  split at hc <;> cases hc <;> rfl

/-! Whether the port takes the message. -/

theorem request_unheard (hport : 12 ≤ port ∨ s.deaf = true ∨ s.portGated port = true) :
    s.request port op h payload = s := if_pos hport

theorem request_waits (hport : port < 12) (hdeaf : s.deaf = false) (hgate : s.portGated port = false)
    (hblock : s.blocked port = true) :
    s.request port op h payload =
      s.setInbox port (s.inbox port ++ [{ op, head := h, data := payload, early := s.dataMode.isNone }]) := by
  have heard : ¬ (12 ≤ port ∨ s.deaf = true ∨ s.portGated port = true) := by simp [hport, hdeaf, hgate]
  exact (if_neg heard).trans (if_pos hblock)

theorem decodes_iff : s.decodes port = true ↔
    port < 12 ∧ s.deaf = false ∧ s.portGated port = false ∧ s.blocked port = false := by
  simp [State.decodes, and_assoc]

theorem request_decoded (hd : s.decodes port = true) :
    s.request port op h payload =
      (s.freeSlots port 0 (1 + reqSlots op h)).decodeReq port op h payload 0 s.dataMode.isNone := by
  obtain ⟨hport, hdeaf, hgate, hfree⟩ := decodes_iff.1 hd
  have heard : ¬ (12 ≤ port ∨ s.deaf = true ∨ s.portGated port = true) := by simp [hport, hdeaf, hgate]
  exact (if_neg heard).trans (if_neg (hfree ▸ Bool.false_ne_true))

/-! Slots freed leave what steps 1 to 3 look at. -/

@[simp] theorem dataMode_freeSlots (n vc k : Nat) (early : Bool) :
    (s.freeSlots n vc k).dataMode early = s.dataMode early := (rfl)

theorem unaccepted_freeSlots (n vc k : Nat) : (s.freeSlots n vc k).unaccepted n = s.unaccepted n := by
  simp only [State.unaccepted, State.freeSlots, link_setLink_same, setLink_req]

theorem outstanding_freeSlots (n vc k : Nat) : (s.freeSlots n vc k).outstanding n = s.outstanding n := by
  rw [State.outstanding, unaccepted_freeSlots]
  rfl

/-- A mode that admits a request when it comes admits it at its decoder (R49). -/
theorem dataMode_early (hm : s.dataMode = none) : s.dataMode true = none := by
  simp only [State.dataMode] at hm ⊢
  split at hm
  · next serves => exact if_pos (serves.imp_right (Or.imp_right fun drain => ⟨drain.1, trivial⟩))
  · split at hm <;> cases hm

/-! Steps 1 to 3. -/

theorem decodeReq_full {early : Bool} (hport : port < 12) (hfull : 2048 ≤ s.outstanding port) :
    s.decodeReq port op h payload 0 early = s.refuse port op h stRETRY 0 0 .limit := if_pos ⟨hport, hfull⟩

theorem decodeReq_malformed {early : Bool} (hroom : s.outstanding port < 2048) (hbad : malformed op h = true) :
    s.decodeReq port op h payload 0 early = s.refuse port op h stABORTED 4 0 :=
  (if_neg fun full => by omega).trans (if_pos (.inl hbad))

/-- A sound request meets the mode next. -/
theorem decodeReq_refused {early : Bool} {st : Nat} (hroom : s.outstanding port < 2048)
    (hsound : malformed op h = false) (hop : isMgmt op = false) (hmode : s.dataMode early = some st) :
    s.decodeReq port op h payload 0 early = s.refuse port op h st 0 0 := by
  rw [State.decodeReq, if_neg (by omega), if_neg (by simp [hsound, hop]), hmode]

theorem decodeReq_taken {early : Bool} (hroom : s.outstanding port < 2048) (hsound : malformed op h = false)
    (hop : isMgmt op = false) (hmode : s.dataMode early = none) :
    s.decodeReq port op h payload 0 early =
      ({ s with req := { s.req with
        txns := s.req.txns ++ [s.asTxn port op h payload 0], nextId := s.req.nextId + 1 } }).checkReq s.req.nextId := by
  rw [State.decodeReq, if_neg (by omega), if_neg (by simp [hsound, hop]), hmode]
  rfl

/-- Steps 1 to 3 passed: the request is outstanding, and its holds and checks follow. -/
theorem request_opened (ho : s.opens port op h = true) :
    s.request port op h payload = (s.tookReq 0 port op h payload 0).checkReq s.req.nextId := by
  simp only [State.opens, Bool.and_eq_true, Bool.not_eq_true', decide_eq_true_eq, Option.isNone_iff_eq_none] at ho
  obtain ⟨⟨⟨⟨hd, hroom⟩, hsound⟩, hop⟩, hmode⟩ := ho
  rw [request_decoded hd, hmode]
  exact decodeReq_taken (by rwa [outstanding_freeSlots]) hsound hop (dataMode_early hmode)

theorem txn_tookReq (hnew : s.txn s.req.nextId = none) :
    (s.tookReq 0 port op h payload 0).txn s.req.nextId = some (s.asTxn port op h payload 0) := by
  have old : (s.req.txns.find? fun x => x.id == s.req.nextId) = none := hnew
  have last : (s.asTxn port op h payload 0).id = s.req.nextId := rfl
  simp [State.tookReq, State.freeSlots, State.txn, old, last]

/-! The holds before step 6 (R266, R283, R306, R544, R594). -/

/-- The hold that a data request meets first. -/
def State.firstHold (s : State) (t : Txn) : Option Stage :=
  if s.fenced t then some .heldFence
  else if s.orderWaits t then some .heldOrdered
  else if s.commitHolds t then some .heldRegion
  else if s.keyHolds t then some .heldKey
  else if s.roleHolds t then some .heldRole
  else none

theorem firstHold_none_iff : s.firstHold t = none ↔ s.unheld t = true := by
  simp only [State.firstHold, State.unheld]
  cases s.fenced t <;> cases s.orderWaits t <;> cases s.commitHolds t <;> cases s.keyHolds t <;>
    cases s.roleHolds t <;> decide

theorem ne_auth_of_isMgmt (hop : isMgmt op = false) : op ≠ opAUTH := by
  rintro rfl
  cases hop

theorem checkReq_held {st : Stage} (ht : s.txn t.id = some t) (hop : isMgmt t.op = false)
    (hheld : s.firstHold t = some st) : s.checkReq t.id = s.setTxn { t with stage := st } := by
  simp only [State.firstHold] at hheld
  rw [State.checkReq, ht]
  repeat' split at hheld
  all_goals cases hheld
  all_goals simp only [ne_auth_of_isMgmt hop, ne_eq, not_false_eq_true, true_and, Bool.false_eq_true, if_true,
    if_false, *]

/-! Steps 6 to 8, and the charge (R267, R514, R523–R526). -/

/-- What the regulator's answer does to a charged request. -/
def afterGate (p : Txn) : State × Gate → State
  | (s, .go) => s.letGo p.id
  | (s, .held) => s.setTxn { p with stage := .heldShare }
  | (s, .noRoom) => (s.setTxn { p with stage := .heldRoom }).shareFull p.label p.port

/-- A request that has passed step 8 is charged; an uncharged one is let go at once. -/
def State.charged (s : State) (p : Txn) : State :=
  if p.charge = 0 then (s.setTxn p).letGo p.id
  else afterGate p ((s.setTxn p).passLabel p.id p.label p.charge (s.cardCharge p.op p.head p.payload).2)

/-- What a request that nothing holds comes to at steps 6 to 8. -/
def State.pastHolds (s : State) (t : Txn) : State :=
  match s.step6 t.op t.head with
  | .error (st, fl) => s.respond t st 0 [] 0 fl
  | .ok rgn => match s.step7 t.head rgn with
    | none => s.respond t stREJ_LABEL
    | some l => if s.step8 t.op t.head t.payload rgn then s.respond t stFENCED else s.charged (s.passedTxn t l)

theorem checkReq_unheld (ht : s.txn t.id = some t) (hop : isMgmt t.op = false) (hfree : s.unheld t = true) :
    s.checkReq t.id = s.pastHolds t := by
  simp only [State.unheld, Bool.and_eq_true, Bool.not_eq_true'] at hfree
  obtain ⟨⟨⟨⟨hfence, horder⟩, hcommit⟩, hkey⟩, hrole⟩ := hfree
  rw [State.checkReq, ht]
  simp only [hfence, horder, hop, hcommit, hkey, hrole, Bool.false_eq_true, and_false, if_false]
  rfl

theorem pastHolds_unadmitted {st fl : Nat} (h6 : s.step6 t.op t.head = .error (st, fl)) :
    s.pastHolds t = s.respond t st 0 [] 0 fl := by
  rw [State.pastHolds, h6]

theorem pastHolds_unlabelled {rgn : Option Nat} (h6 : s.step6 t.op t.head = .ok rgn)
    (h7 : s.step7 t.head rgn = none) : s.pastHolds t = s.respond t stREJ_LABEL := by
  simp only [State.pastHolds, h6, h7]

theorem pastHolds_labelled {rgn : Option Nat} {l : Nat} (h6 : s.step6 t.op t.head = .ok rgn)
    (h7 : s.step7 t.head rgn = some l) :
    s.pastHolds t = if s.step8 t.op t.head t.payload rgn then s.respond t stFENCED else s.charged (s.passedTxn t l) := by
  simp only [State.pastHolds, h6, h7]

/-- A replaced request is found where one of its number was outstanding. -/
theorem txn_setTxn {p x : Txn} (hx : s.txn p.id = some x) : (s.setTxn p).txn p.id = some p := by
  simp only [State.txn, State.setTxn] at hx ⊢
  generalize s.req.txns = l at hx ⊢
  induction l with
  | nil => cases hx
  | cons y l ih =>
    by_cases hy : y.id = p.id
    · simp [hy]
    · simp only [List.find?_cons, List.map_cons, if_neg hy, beq_eq_false_iff_ne.2 hy] at hx ⊢
      exact ih hx

theorem letGo_free (ht : s.txn t.id = some t) (hfirst : s.behind t = false) : s.letGo t.id = s.dispatch t := by
  rw [State.letGo, ht]
  exact if_neg (hfirst ▸ Bool.false_ne_true)

theorem letGo_behind (ht : s.txn t.id = some t) (hbehind : s.behind t = true) :
    s.letGo t.id = s.setTxn { t with stage := .heldBehind } := by
  rw [State.letGo, ht]
  exact if_pos hbehind

/-! The request as the obligations name it: outstanding under the next number. -/

/-- A decoded request that nothing holds goes through steps 6 to 8. -/
theorem request_pastHolds (ho : s.opens port op h = true) (hop : isMgmt op = false) (hnew : s.txn s.req.nextId = none)
    (hfree : (s.tookReq 0 port op h payload 0).unheld (s.asTxn port op h payload 0) = true) :
    s.request port op h payload = (s.tookReq 0 port op h payload 0).pastHolds (s.asTxn port op h payload 0) :=
  (request_opened ho).trans (checkReq_unheld (txn_tookReq hnew) hop hfree)

theorem request_held {st : Stage} (ho : s.opens port op h = true) (hop : isMgmt op = false)
    (hnew : s.txn s.req.nextId = none)
    (hheld : (s.tookReq 0 port op h payload 0).firstHold (s.asTxn port op h payload 0) = some st) :
    s.request port op h payload =
      (s.tookReq 0 port op h payload 0).setTxn { s.asTxn port op h payload 0 with stage := st } :=
  (request_opened ho).trans (checkReq_held (txn_tookReq hnew) hop hheld)

end Sys2Proof.Machine

section
open Sys2Proof Sys2Proof.Machine

/-- Settles O27, in the order of the checks. -/
theorem dataRequestRefused : Obligations.DataRequestRefused := by
  intro s c port op h payload hc hs
  have offered := exec_of_asRequest hc hs
  have hop := isMgmt_of_asRequest hc
  refine ⟨?unheard, ?waits, ?steps1to3, ?holdsAndSteps6to8⟩
  case unheard =>
    intro hport
    rw [offered, request_unheard hport]
  case waits =>
    intro hport hdeaf hgate hblock
    rw [offered, request_waits hport hdeaf hgate hblock]
  case steps1to3 =>
    intro hd u
    rw [offered, request_decoded hd]
    refine ⟨fun full => ?_, fun room bad => ?_, fun st room sound refused => ?_⟩
    · rw [decodeReq_full (decodes_iff.1 hd).1 full]
    · rw [decodeReq_malformed room bad]
    · have late : s.dataMode.isNone = false := congrArg Option.isNone refused
      rw [decodeReq_refused room sound hop (late ▸ refused)]
  case holdsAndSteps6to8 =>
    intro ho hnew u t held
    have heldAt (st : Stage) (hfirst : u.firstHold t = some st) : held st :=
      offered.trans (congrArg _ (request_held ho hop hnew hfirst))
    refine ⟨fun h1 => heldAt _ ?_, fun h1 h2 => heldAt _ ?_, fun h1 h2 h3 => heldAt _ ?_,
      fun h1 h2 h3 h4 => heldAt _ ?_, fun h1 h2 h3 h4 h5 => heldAt _ ?_, fun free => ?checks⟩
    case checks =>
      rw [offered, request_pastHolds ho hop hnew free]
      refine ⟨fun st fl h6 => ?_, fun rgn h6 h7 => ?_, fun rgn l h6 h7 h8 => ?_⟩
      · exact congrArg _ (pastHolds_unadmitted h6)
      · exact congrArg _ (pastHolds_unlabelled h6 h7)
      · exact congrArg _ ((pastHolds_labelled h6 h7).trans (if_pos h8))
    all_goals simp [State.firstHold, *]

/-- Settles O26, by what the regulator answers. -/
theorem dataRequestAccepted : Obligations.DataRequestAccepted := by
  intro s c port op h payload rgn l hc hs ho hnew u t free h6 h7 h8 p v
  have hop := isMgmt_of_asRequest hc
  have passed : exec c s = .next (u.charged p) := by
    rw [exec_of_asRequest hc hs, request_pastHolds ho hop hnew free]
    exact congrArg _ ((pastHolds_labelled h6 h7).trans (if_neg (h8 ▸ Bool.false_ne_true)))
  have outstanding : (u.setTxn p).txn p.id = some p := txn_setTxn (txn_tookReq hnew)
  have charged (hcharge : p.charge ≠ 0) : exec c s = .next (afterGate p v) :=
    passed.trans (congrArg _ (if_neg hcharge))
  have gated {g : Gate} (hcharge : p.charge ≠ 0) (hg : v.2 = g) : exec c s = .next (afterGate p (v.1, g)) :=
    hg ▸ charged hcharge
  refine ⟨fun hcharge hfirst => ?free, fun hcharge hg ht hfirst => ?go, fun hcharge hg ht hbehind => ?behind,
    fun hcharge hg => gated hcharge hg, fun hcharge hg => gated hcharge hg⟩
  case free => exact passed.trans (congrArg _ ((if_pos hcharge).trans (letGo_free outstanding hfirst)))
  case go => exact (gated hcharge hg).trans (congrArg _ (letGo_free ht hfirst))
  case behind => exact (gated hcharge hg).trans (congrArg _ (letGo_behind ht hbehind))

end

/-! ### RESET_N and PWR_OK (R43, R66–R69, R76, R77, R563, R725) -/

namespace Sys2Proof.Machine

variable {s t : State}

/-- A part held in reset takes no command but those of its reset and power pins. -/
theorem exec_inReset (c : Instr) (hs : s.inReset = true) (hlow : ∀ p, c ≠ .resetNLow p)
    (hrel : ∀ r k, c ≠ .resetNRelease r k) (hrise : c ≠ .pwrOkRise) (hfall : c ≠ .pwrOkFall) :
    exec c s = .next s := by
  cases c with
  | resetNLow p => exact absurd rfl (hlow p)
  | resetNRelease r k => exact absurd rfl (hrel r k)
  | pwrOkRise => exact absurd rfl hrise
  | pwrOkFall => exact absurd rfl hfall
  | _ => exact act_reset s _ hs

/-! What is finished or dropped before a reset changes flash, fuses and the count of free values only. -/

/-- The two states agree on what a full reset takes over beside flash and fuses. -/
structure SameCarried (s t : State) : Prop where
  regs : t.regs = s.regs
  part : t.part = s.part
  pins : t.pins = s.pins
  sec : t.sec = s.sec
  obs : t.obs = s.obs
  pending : t.pending = s.pending

theorem SameCarried.refl (s : State) : SameCarried s s := ⟨rfl, rfl, rfl, rfl, rfl, rfl⟩

theorem SameCarried.trans {t u : State} (h : SameCarried s t) (k : SameCarried t u) : SameCarried s u :=
  ⟨k.regs.trans h.regs, k.part.trans h.part, k.pins.trans h.pins, k.sec.trans h.sec, k.obs.trans h.obs,
    k.pending.trans h.pending⟩

theorem drawn_carried : SameCarried s s.drawn := ⟨rfl, rfl, rfl, rfl, rfl, rfl⟩

theorem program_carried (a : Nat) (bs : List Byte) : SameCarried s (s.program a bs) := ⟨rfl, rfl, rfl, rfl, rfl, rfl⟩

theorem setFuse_carried (w : Nat) (x : OtpWord) : SameCarried s (s.setFuse w x) := ⟨rfl, rfl, rfl, rfl, rfl, rfl⟩

theorem finishPage_carried (early : Bool) : SameCarried s (s.finishPage early) := by
  unfold State.finishPage
  split
  · exact .refl s
  · split
    · exact drawn_carried.trans (program_carried _ _)
    · exact program_carried _ _

/-- A fuse that was being programmed keeps a partial word (R67). -/
theorem otpAbandon_cases : s.otpAbandon = s ∨
    ∃ otp w x, s.otpAbandon = (({ s with otp } : State).setFuse w x).drawn.drawn := by
  unfold State.otpAbandon
  split
  · exact .inl rfl
  · exact .inr ⟨_, _, _, rfl⟩

theorem otpAbandon_carried : SameCarried s s.otpAbandon := by
  obtain h | ⟨otp, w, x, h⟩ := otpAbandon_cases (s := s)
  · rw [h]
    exact .refl s
  · have gone : SameCarried s ({ s with otp } : State) := ⟨rfl, rfl, rfl, rfl, rfl, rfl⟩
    rw [h]
    exact ((gone.trans (setFuse_carried w x)).trans drawn_carried).trans drawn_carried

theorem otpAbandon_nvm : s.otpAbandon.nvm = s.nvm := by
  obtain h | ⟨otp, w, x, h⟩ := otpAbandon_cases (s := s) <;> rw [h]
  rfl

/-- Keeping a snapshot changes registers and the snapshot only. -/
theorem keepSnap_beside (old : State) : (s.keepSnap old).part = s.part ∧ (s.keepSnap old).pins = s.pins ∧
    (s.keepSnap old).dram = s.dram ∧ (s.keepSnap old).req = s.req ∧ (s.keepSnap old).sec = s.sec ∧
    (s.keepSnap old).nvm = s.nvm ∧ (s.keepSnap old).pending = s.pending := by
  unfold State.keepSnap
  split
  · simp
  · simp

/-- The registers of a held snapshot keep what they show (R722). -/
theorem reg_keepSnap_other (old : State) {a : Nat}
    (ha : a ∉ [Ra.OBS_SNAP_STAT, Ra.OBS_SNAP_TIME_LO, Ra.OBS_SNAP_TIME_HI]) : (s.keepSnap old).reg a = s.reg a := by
  simp only [List.mem_cons, List.not_mem_nil, or_false, not_or] at ha
  obtain ⟨stat, lo, hi⟩ := ha
  unfold State.keepSnap
  split
  · simp only [List.foldl_cons, List.foldl_nil]
    rw [reg_wr_other _ _ stat, reg_wr_other _ _ stat, reg_setReg_other _ _ hi, reg_setReg_other _ _ lo,
      reg_setReg_other _ _ stat]
    rfl
  · rfl

/-! A full reset (R67, R563). -/

/-- A part as its blocks stand at reset, with what is taken over from `u`. -/
structure IsFresh (u new : State) : Prop where
  part : new.part = u.part
  pins : new.pins = { Pins.reset with
    pwrOk := u.pins.pwrOk, resetN := u.pins.resetN, sbAddr := u.pins.sbAddr, lanesIdle := true }
  regs : new.regs = [(Ra.GLB_ID, u.part.id)]
  dram : new.dram = []
  req : new.req = Req.reset
  last : new.sec.last = u.sec.last
  p : new.sec.p = u.sec.p
  flash : new.nvm.flash = u.nvm.flash
  obs : new.obs = Obs.reset
  pending : new.pending = u.pending

theorem fullReset_eq (s : State) (early : Bool) : ∃ new, IsFresh (s.finishPage early).otpAbandon new ∧
    s.fullReset early = ((new.keepSnap (s.finishPage early).otpAbandon).wr Fd.SEC_AUTH_STAT_RESTORED
      ((s.finishPage early).otpAbandon.rd Fd.SEC_AUTH_STAT_RESTORED)).newCycle := by
  refine ⟨_, ?_, rfl⟩
  exact ⟨rfl, rfl, rfl, rfl, rfl, rfl, rfl, rfl, rfl, rfl⟩

/-- A full reset from `s` leaves `t`, with the flash as a page in progress leaves it. -/
structure IsReset (early : Bool) (s t : State) : Prop where
  part : t.part = s.part
  pins : t.pins = { Pins.reset with
    pwrOk := s.pins.pwrOk, resetN := s.pins.resetN, sbAddr := s.pins.sbAddr, lanesIdle := true }
  reg : ∀ a, a ∉ [Ra.GLB_ID, Ra.SEC_AUTH_STAT, Ra.OBS_SNAP_STAT, Ra.OBS_SNAP_TIME_LO, Ra.OBS_SNAP_TIME_HI] →
    t.reg a = resetWord a
  dram : t.dram = []
  req : t.req = Req.reset
  last : t.sec.last = s.sec.last
  p : t.sec.p = s.sec.p
  flash : t.nvm.flash = (s.finishPage early).nvm.flash
  pending : t.pending = s.pending
  snap : s.on Fd.OBS_SNAP_STAT_HELD = false → t.obs.snap = none

theorem fullReset_isReset (s : State) (early : Bool) : IsReset early s (s.fullReset early) := by
  have carried : SameCarried s (s.finishPage early).otpAbandon := (finishPage_carried early).trans otpAbandon_carried
  obtain ⟨new, fresh, eq⟩ := fullReset_eq s early
  have nvm := otpAbandon_nvm (s := s.finishPage early)
  generalize (s.finishPage early).otpAbandon = u at carried fresh eq nvm
  obtain ⟨part, pins, dram, req, sec, flash, pending⟩ := keepSnap_beside (s := new) u
  rw [eq]
  refine ⟨?part, ?pins, ?reg, dram.trans fresh.dram, req.trans fresh.req, ?last, ?p, ?flash, ?pending, ?snap⟩
  case part => exact part.trans (fresh.part.trans carried.part)
  case pins => rw [← carried.pins]; exact pins.trans fresh.pins
  case last => exact (congrArg Sec.last sec).trans (fresh.last.trans (congrArg Sec.last carried.sec))
  case p => exact (congrArg Sec.p sec).trans (fresh.p.trans (congrArg Sec.p carried.sec))
  case flash => rw [← nvm, ← fresh.flash, ← flash]; rfl
  case pending => exact pending.trans (fresh.pending.trans carried.pending)
  case reg =>
    intro a ha
    simp only [List.mem_cons, not_or] at ha
    obtain ⟨id, auth, snap⟩ := ha
    have kept : (new.keepSnap u).reg a = new.reg a := reg_keepSnap_other u (by simpa using snap)
    have word : new.reg a = resetWord a := by simp [State.reg, fresh.regs, Tab.get, Ne.symm id]
    exact (reg_wr_other _ _ auth).trans (kept.trans word)
  case snap =>
    intro released
    have none : new.keepSnap u = new := if_neg (by rw [on_of_regs carried.regs, released]; exact Bool.false_ne_true)
    rw [none]
    exact congrArg Obs.snap fresh.obs

/-- A part whose GLB_MODE reads its reset value is in BOOT and not in LOCKDOWN by Trip B. -/
theorem boot_of_reg (h : t.reg Ra.GLB_MODE = resetWord Ra.GLB_MODE) : t.mode = mBOOT ∧ t.tripB = false := by
  simp only [State.mode, State.tripB, State.on, State.rd, Fd.GLB_MODE_MODE, Fd.GLB_MODE_TRIPB, h]
  decide

/-- The pin low: a release that waits is gone with it. -/
def State.pinLow (s : State) : State := { s with pins := { s.pins with resetN := false, relPending := false } }

/-- A pulse of 10 µs, or the pin held low, resets the part in full (R67). -/
theorem exec_resetNLow_full {p : Option Nat} (hpwr : s.pins.pwrOk = true) (htrip : s.tripB = false)
    (hp : ∀ n, p = some n → 10000 ≤ n) : exec (.resetNLow p) s = .next s.fullReset.pinLow := by
  cases p with
  | none => exact congrArg _ (if_pos ⟨hpwr, by rw [htrip]; rfl⟩)
  | some n =>
    have long : 10000 ≤ n := hp n rfl
    have acts : ¬ ((!s.pins.pwrOk) = true ∨ s.tripB = true ∨ n < 100) := by
      simp [hpwr, htrip]; omega
    exact congrArg _ ((if_neg acts).trans (if_pos long))

theorem inReset_of_low (hlow : s.pins.resetN = false) (htrip : s.tripB = false) : s.inReset = true := by
  simp [State.inReset, hlow, htrip]

theorem inReset_of_unpowered (hpwr : s.pins.pwrOk = false) : s.inReset = true := by
  simp [State.inReset, hpwr]

/-! PWR_OK falls (R69, R725): the latched snapshot goes, then everything is reset. -/

theorem dropSnap_released (s : State) : s.dropSnap.on Fd.OBS_SNAP_STAT_HELD = false := by
  unfold State.dropSnap
  rw [on_wr_other _ _ (by decide) (by decide) (by decide), on_wr_other _ _ (by decide) (by decide) (by decide)]
  simp only [State.on, State.rd, Fd.OBS_SNAP_STAT_HELD, reg_setReg_same]
  rfl

theorem dropSnap_part (s : State) : s.dropSnap.part = s.part := by
  unfold State.dropSnap
  simp

theorem dropSnap_nvm (s : State) : s.dropSnap.nvm = s.nvm := by
  unfold State.dropSnap
  simp

theorem pageNow_congr (hnvm : t.nvm = s.nvm) : t.pageNow = s.pageNow := by
  simp only [State.pageNow, State.flashBytes, State.flash, hnvm]

theorem finishPage_idle {early : Bool} (h : s.pageNow = none) : s.finishPage early = s := by
  rw [State.finishPage, h]

/-- PWR_OK falls on a part reset in full (R69). -/
def State.pwrLow (t : State) (resetN : Bool) : State :=
  { t.wr Fd.SEC_AUTH_STAT_RESTORED 0 with
    sec := Sec.reset
    pins := { t.pins with pwrOk := false, resetN := resetN, relPending := resetN } }

theorem exec_pwrOkFall_idle (hpwr : s.pins.pwrOk = true) (hpage : s.pageNow = none) :
    exec .pwrOkFall s = .next ((s.dropSnap.fullReset).pwrLow s.pins.resetN) := by
  refine congrArg _ ((if_neg (by simp [hpwr])).trans ?_)
  rw [hpage]
  rfl

/-- A page in progress may be cut short: a free value. -/
theorem exec_pwrOkFall_page (hpwr : s.pins.pwrOk = true) (hpage : s.pageNow ≠ none) :
    exec .pwrOkFall s = .next ((s.drawn.dropSnap.fullReset (s.free % 2 == 1)).pwrLow s.pins.resetN) := by
  obtain ⟨p, hp⟩ := Option.ne_none_iff_exists'.1 hpage
  refine congrArg _ ((if_neg (by simp [hpwr])).trans ?_)
  rw [hp]
  rfl

theorem pwrLow_fullReset (s : State) (early resetN : Bool) :
    let t := (s.dropSnap.fullReset early).pwrLow resetN
    t.inReset = true ∧ t.pins.pwrOk = false ∧ t.pins.resetN = resetN ∧ t.mode = mBOOT ∧ t.tripB = false ∧
      t.pins.thermtripLow = false ∧ t.dram = [] ∧ t.req.txns = [] ∧ t.obs.snap = none ∧ t.sec = Sec.reset ∧
      t.nvm.flash = (s.dropSnap.finishPage early).nvm.flash ∧ t.part = s.part := by
  have reset := fullReset_isReset s.dropSnap early
  generalize s.dropSnap.fullReset early = u at reset
  intro t
  have glbMode : t.reg Ra.GLB_MODE = resetWord Ra.GLB_MODE :=
    (reg_wr_other u 0 (by decide)).trans (reset.reg Ra.GLB_MODE (by decide))
  obtain ⟨boot, noTrip⟩ := boot_of_reg glbMode
  have thermtrip : u.pins.thermtripLow = false := by rw [reset.pins]; rfl
  exact ⟨inReset_of_unpowered rfl, rfl, rfl, boot, noTrip, thermtrip, reset.dram, congrArg Req.txns reset.req,
    reset.snap (dropSnap_released s), rfl, reset.flash, reset.part.trans (dropSnap_part s)⟩

/-! What the slots in flash show depends on flash and registers only. -/

section
variable {u : State} (hflash : u.nvm.flash = s.nvm.flash)
include hflash

theorem flashBytes_congr (a n : Nat) : u.flashBytes a n = s.flashBytes a n := by
  simp only [State.flashBytes, State.flash, hflash]

theorem slotWord_congr (k off : Nat) : u.slotWord k off = s.slotWord k off := by
  simp only [State.slotWord, flashBytes_congr hflash]

theorem slotLen_congr (k : Nat) : u.slotLen k = s.slotLen k := by
  simp only [State.slotLen, slotWord_congr hflash]

theorem slotPayload_congr (k : Nat) : u.slotPayload k = s.slotPayload k := by
  simp only [State.slotPayload, flashBytes_congr hflash, slotLen_congr hflash]

theorem headerOk_congr (k : Nat) : u.headerOk k = s.headerOk k := by
  simp only [State.headerOk, slotWord_congr hflash]

theorem digestOk_congr (k : Nat) : u.digestOk k = s.digestOk k := by
  simp only [State.digestOk, flashBytes_congr hflash, slotPayload_congr hflash]

theorem jRead_congr (half n i : Nat) : u.jRead half n i = s.jRead half n i := by
  induction n generalizing i with
  | zero => rfl
  | succ n ih => simp only [State.jRead, flashBytes_congr hflash, ih]

theorem journal_congr : u.journal = s.journal := by
  simp only [State.journal, State.jHalf, headerOk_congr hflash, digestOk_congr hflash, slotWord_congr hflash,
    jRead_congr hflash]

variable (hregs : u.regs = s.regs)
include hregs

theorem contentOk_congr (k : Nat) : u.contentOk k = s.contentOk k := by
  simp only [State.contentOk, slotLen_congr hflash, slotWord_congr hflash, reg_of_regs hregs]

theorem slotFault_congr (k : Nat) : u.slotFault k = s.slotFault k := by
  simp only [State.slotFault, State.stopped, headerOk_congr hflash, contentOk_congr hflash hregs,
    digestOk_congr hflash, slotWord_congr hflash, journal_congr hflash, rd_of_regs hregs]
  congr

theorem flashP_congr : u.flashP = s.flashP := by
  simp only [State.flashP, State.winner, slotFault_congr hflash hregs, slotWord_congr hflash, slotPayload_congr hflash]

end

/-! The restore from flash (R563). -/

theorem restoreAuth_none (h : s.flashP = none) : s.restoreAuth =
    ({ s with sec := { s.sec with p := 0, last := 0 } } : State).wr Fd.SEC_AUTH_STAT_RESTORED 1 := by
  unfold State.restoreAuth
  rw [h]

theorem restoreAuth_some {p : Nat} (h : s.flashP = some p) : s.restoreAuth =
    ({ s with
      sec := { s.sec with p := p, last := p + 65536 }
      nvm := { s.nvm with persist := leBytes 8 (p + 65536) ++ List.replicate 120 0, owed := [4] } } : State).wr
        Fd.SEC_AUTH_STAT_RESTORED 1 := by
  unfold State.restoreAuth
  rw [h]

/-- The part with PWR_OK high. -/
def State.powered (s : State) : State := { s with pins := { s.pins with pwrOk := true } }

theorem exec_pwrOkRise (hpwr : s.pins.pwrOk = false) : exec .pwrOkRise s = .next s.powered.restoreAuth :=
  congrArg _ (if_neg (by simp [hpwr]))

theorem flashP_powered (s : State) : s.powered.flashP = s.flashP := flashP_congr rfl rfl

end Sys2Proof.Machine

section
open Sys2Proof Sys2Proof.Machine

/-- Settles O4, constructor by constructor. -/
theorem heldInResetNothingActs : Obligations.HeldInResetNothingActs := fun c _ => exec_inReset c

/-- Settles O5, pin by pin. -/
theorem resetPinCommands : Obligations.ResetPinCommands := by
  refine ⟨?low, ?filtered, ?lowInTripB, ?releaseWaits, ?releaseInTripB, ?release, ?riseBlank, ?riseRestores, ?fall⟩
  case low =>
    intro s p hpwr htrip hp
    have reset := fullReset_isReset s false
    obtain ⟨boot, noTrip⟩ := boot_of_reg (reset.reg Ra.GLB_MODE (by decide))
    exact ⟨_, exec_resetNLow_full hpwr htrip hp, inReset_of_low rfl noTrip, rfl, boot, reset.reg, reset.dram,
      congrArg Req.txns reset.req, reset.last, reset.p, reset.flash, reset.part, reset.pending⟩
  case filtered =>
    intro s n short
    exact congrArg _ (if_pos (.inr (.inr short)))
  case lowInTripB =>
    intro s hpwr htrip
    exact congrArg _ (if_neg (by simp [htrip]))
  case releaseWaits =>
    intro s reads k hpwr
    exact congrArg _ (if_pos (by rw [hpwr]; rfl))
  case releaseInTripB =>
    intro s reads k hpwr htrip
    exact congrArg _ ((if_neg (by simp [hpwr])).trans (if_pos htrip))
  case release =>
    intro s reads k hpwr htrip hlow
    exact congrArg _ ((if_neg (by simp [hpwr])).trans ((if_neg (by simp [htrip])).trans (if_neg (by simp [hlow]))))
  case riseBlank =>
    intro s hpwr hflash
    rw [exec_pwrOkRise hpwr, restoreAuth_none ((flashP_powered s).trans hflash)]
    rfl
  case riseRestores =>
    intro s p hpwr hflash
    rw [exec_pwrOkRise hpwr, restoreAuth_some ((flashP_powered s).trans hflash)]
    rfl
  case fall =>
    intro s hpwr
    by_cases hpage : s.pageNow = none
    · obtain ⟨held, unpowered, resetN, boot, noTrip, thermtrip, dram, txns, snap, sec, flash, part⟩ :=
        pwrLow_fullReset s false s.pins.resetN
      have idle : s.dropSnap.pageNow = none := (pageNow_congr (dropSnap_nvm s)).trans hpage
      rw [finishPage_idle idle, dropSnap_nvm] at flash
      exact ⟨_, exec_pwrOkFall_idle hpwr hpage, held, unpowered, resetN, boot, noTrip, thermtrip, dram, txns, snap, sec,
        fun _ => flash, fun busy => absurd hpage busy, part⟩
    · obtain ⟨held, unpowered, resetN, boot, noTrip, thermtrip, dram, txns, snap, sec, flash, part⟩ :=
        pwrLow_fullReset s.drawn (s.free % 2 == 1) s.pins.resetN
      exact ⟨_, exec_pwrOkFall_page hpwr hpage, held, unpowered, resetN, boot, noTrip, thermtrip, dram, txns, snap, sec,
        fun idle => absurd idle hpage, fun _ => ⟨_, flash⟩, part⟩

end

/-! ### Sleep entries and wakes (R40, R48, R507, R635–R651) -/

namespace Sys2Proof.Machine

variable {s : State} {m : Nat} {t : Trans}

/-! What the commands do to a part that is not held in reset. -/

section
variable (hs : s.inReset = false)
include hs

theorem exec_drainComplete : exec .drainComplete s = .next s.drainComplete := act_live s _ hs

theorem exec_drainTimeout : exec .drainTimeout s = .next (s.drainTimeout).runReady := act_live s _ hs

theorem exec_sleepEntry : exec .sleepEntry s = .next s.sleepEntry := act_live s _ hs

theorem exec_pointOfNoReturn : exec .pointOfNoReturn s = .next s.noReturn := act_live s _ hs

theorem exec_wakeLatch : exec .wakeLatch s = .next s.wakeLatch := act_live s _ hs

end

/-! The end of DRAIN (R40, R48, R507). -/

theorem drainComplete_idle (h : s.draining = none) : s.drainComplete = s := by
  rw [State.drainComplete, h]

theorem drainTimeout_idle (h : s.draining = none) : s.drainTimeout = s := by
  rw [State.drainTimeout, h]

/-- Every counter slot is flushed before the entry: a retain mode without a counter save (R507). -/
def State.mustFlush (s : State) (m : Nat) : Bool := isRetain m && !s.cntSavable (s.keptClass m)

theorem mustFlush_eq_true (hret : isRetain m = true) (hsave : s.cntSavable (s.keptClass m) = false) :
    s.mustFlush m = true := by
  simp [State.mustFlush, hret, hsave]

theorem mustFlush_eq_false (h : isRetain m = false ∨ s.cntSavable (s.keptClass m) = true) : s.mustFlush m = false := by
  rcases h with h | h <;> simp [State.mustFlush, h]

theorem drainComplete_draining (h : s.draining = some m) :
    s.drainComplete =
      let u := if s.mustFlush m then s.flushAll else s
      if u.inFlight = true ∨ (s.mustFlush m = true ∧ u.unflushed ≠ 0) then u else u.drainEnd m := by
  rw [State.drainComplete, h]
  rfl

/-- Without a flush DRAIN ends once nothing is in flight. -/
theorem drainComplete_unflushed (h : s.draining = some m) (hflush : s.mustFlush m = false) :
    s.drainComplete = if s.inFlight = true then s else s.drainEnd m := by
  rw [drainComplete_draining h, hflush]
  simp

/-- With one it ends once nothing is left unflushed, too. -/
theorem drainComplete_flushed (h : s.draining = some m) (hflush : s.mustFlush m = true) :
    s.drainComplete =
      if s.flushAll.inFlight = true ∨ s.flushAll.unflushed ≠ 0 then s.flushAll else s.flushAll.drainEnd m := by
  rw [drainComplete_draining h, hflush]
  simp

theorem drainTimeout_draining (h : s.draining = some m) :
    s.drainTimeout =
      let u := s.abortData.raise 3 1 0
      (if u.mustFlush m then u.loseDeltas else u).drainEnd m := by
  rw [State.drainTimeout, h]
  rfl

theorem drainTimeout_unflushed (h : s.draining = some m) (hflush : (s.abortData.raise 3 1 0).mustFlush m = false) :
    s.drainTimeout = (s.abortData.raise 3 1 0).drainEnd m := by
  simp only [drainTimeout_draining h, hflush, Bool.false_eq_true, if_false]

theorem drainTimeout_flushed (h : s.draining = some m) (hflush : (s.abortData.raise 3 1 0).mustFlush m = true) :
    s.drainTimeout = (s.abortData.raise 3 1 0).loseDeltas.drainEnd m := by
  simp only [drainTimeout_draining h, hflush, if_true]

/-! The save (R638). -/

/-- A table filled up to `n` holds the values it was filled with. -/
theorem get_foldl_put {α : Type} [DecidableEq α] (d f : Nat → α) {n k : Nat} (h : k < n) :
    Tab.get d ((List.range n).foldl (fun (t : Tab α) i => Tab.put d t i (f i)) []) k = f k := by
  induction n with
  | zero => omega
  | succ n ih =>
    rw [List.range_succ, List.foldl_append, List.foldl_cons, List.foldl_nil]
    by_cases hk : k = n
    · rw [hk, Tab.get_put_same]
    · rw [Tab.get_put_other _ _ _ hk, ih (by omega)]

/-- The self-refresh rate that a layer group enters a retain mode with: High where its band in force is Quadruple, else
Double (R345). -/
def State.sleepRate (s : State) (lg : Nat) : Nat := if s.band lg = 2 then 2 else 1

/-- The save of a retain entry: registers, self-refresh rates and the entry's stage. -/
def State.saved (s : State) : State :=
  { s with pwr := { s.pwr with
    stage := 2
    save := some s.regs
    srRate := (List.range 4).foldl (fun (m : Tab Nat) lg => Tab.put (fun _ => 0) m lg (s.sleepRate lg)) [] } }

theorem saved_frame (s : State) : s.saved =
    { s with pwr := { s.pwr with stage := 2, save := some s.regs, srRate := s.saved.pwr.srRate } } := (rfl)

theorem srRate_saved {lg : Nat} (h : lg < 4) :
    Tab.get (fun _ => (0 : Nat)) s.saved.pwr.srRate lg = if s.band lg = 2 then 2 else 1 :=
  get_foldl_put _ s.sleepRate h

theorem sleepEntry_saves (ht : s.seq.trans = some t) (hret : isRetain t.goal = true) (hstage : s.pwr.stage = 1) :
    s.sleepEntry =
      let v := ((((s.queSave (s.keptClass t.goal)).cntSave (s.keptClass t.goal)).cleanTags).allSelfRef).saved
      v.drawn.wr Fd.PWR_STAT_SAVE_BYTES (v.free % 15361) := by
  rw [State.sleepEntry, ht]
  exact if_neg (by simp [hret, hstage])

theorem sleepEntry_none (ht : s.seq.trans = none) : s.sleepEntry = s := by
  rw [State.sleepEntry, ht]

theorem sleepEntry_early (ht : s.seq.trans = some t) (h : isRetain t.goal = false ∨ s.pwr.stage ≠ 1) :
    s.sleepEntry = s := by
  rw [State.sleepEntry, ht]
  exact if_pos (h.imp_left fun other => by rw [other]; rfl)

/-! The point of no return (R635–R637). -/

/-- The entry has come as far as its target asks before the point of no return. -/
def State.entryReady (s : State) (t : Trans) : Bool :=
  (isRetain t.goal && s.pwr.stage == 2) || (t.goal == mDEEP && (s.pwr.stage == 1 || s.pwr.stage == 2))

theorem noReturn_none (ht : s.seq.trans = none) : s.noReturn = s := by
  rw [State.noReturn, ht]

theorem noReturn_unready (ht : s.seq.trans = some t) (h : s.entryReady t = false) : s.noReturn = s := by
  rw [State.noReturn, ht]
  exact if_pos (.inl (by rw [← State.entryReady, h]; rfl))

theorem entryReady_eq_false (h : (isRetain t.goal = true ∧ s.pwr.stage ≠ 2) ∨
    (t.goal = mDEEP ∧ s.pwr.stage ≠ 1 ∧ s.pwr.stage ≠ 2) ∨ (isRetain t.goal = false ∧ t.goal ≠ mDEEP)) :
    s.entryReady t = false := by
  rcases h with ⟨hret, hstage⟩ | ⟨hdeep, h1, h2⟩ | ⟨hret, hdeep⟩
  · have notDeep : t.goal ≠ mDEEP := by
      rintro deep
      rw [deep] at hret
      cases hret
    simp [State.entryReady, hstage, notDeep]
  · have notRetain : isRetain t.goal = false := by rw [hdeep]; rfl
    simp [State.entryReady, h1, h2, notRetain]
  · simp [State.entryReady, hret, hdeep]

/-- A latched wake, or in THERMAL-HOLD an ABORTED response not yet sent, keeps the part before it. -/
theorem noReturn_waits (h : s.on Fd.PWR_STAT_LATCHED = true ∨ (s.mode = mHOLD ∧ s.abortsSent = false)) :
    s.noReturn = s := by
  unfold State.noReturn
  split
  · rfl
  · exact if_pos (.inr (h.imp_right fun hold => ⟨hold.1, by rw [hold.2]; rfl⟩))

/-- The ports are off and the core's supply is cut, the DRAM's with it or not. -/
def State.cutOff (s : State) (dram : Bool) : State :=
  let u := (s.wr Fd.PWR_STAT_PNR 1).portsOff
  { u with pwr := { u.pwr with stage := 3 }, pins := { u.pins with pwrEnCore := false, pwrEnDram := dram } }

theorem noReturn_passes (ht : s.seq.trans = some t) (hready : s.entryReady t = true)
    (hlatch : s.on Fd.PWR_STAT_LATCHED = false) (hsent : s.mode ≠ mHOLD ∨ s.abortsSent = true) :
    s.noReturn =
      let w := s.cutOff (t.goal != mDEEP)
      let x := (if t.goal = mRETAINP then w.dropUnkept (w.keptClass mRETAINP) else w).coreLost
      if t.goal = mDEEP then { x with dram := [], que := Que.reset, cnt := Cnt.reset, pwr := { x.pwr with save := none } }
      else x := by
  have passes : ¬ ((!s.entryReady t) = true ∨ s.on Fd.PWR_STAT_LATCHED = true ∨
      (s.mode = mHOLD ∧ (!s.abortsSent) = true)) := by
    rcases hsent with h | h <;> simp [hready, hlatch, h]
  rw [State.noReturn, ht]
  exact if_neg passes

section
variable (ht : s.seq.trans = some t) (hlatch : s.on Fd.PWR_STAT_LATCHED = false)
  (hsent : s.mode ≠ mHOLD ∨ s.abortsSent = true)
include ht hlatch hsent

theorem noReturn_retain (hgoal : t.goal = mRETAIN) (hstage : s.pwr.stage = 2) :
    s.noReturn = (s.cutOff true).coreLost := by
  have ready : s.entryReady t = true := by simp [State.entryReady, hgoal, hstage, isRetain]
  rw [noReturn_passes ht ready hlatch hsent, hgoal]
  rfl

theorem noReturn_retainp (hgoal : t.goal = mRETAINP) (hstage : s.pwr.stage = 2) :
    s.noReturn = ((s.cutOff true).dropUnkept ((s.cutOff true).keptClass mRETAINP)).coreLost := by
  have ready : s.entryReady t = true := by simp [State.entryReady, hgoal, hstage, isRetain]
  rw [noReturn_passes ht ready hlatch hsent, hgoal]
  rfl

theorem noReturn_deep (hgoal : t.goal = mDEEP) (hstage : s.pwr.stage = 1 ∨ s.pwr.stage = 2) :
    s.noReturn = { (s.cutOff false).coreLost with
      dram := []
      que := Que.reset
      cnt := Cnt.reset
      pwr := { (s.cutOff false).coreLost.pwr with save := none } } := by
  have ready : s.entryReady t = true := by simp [State.entryReady, hgoal, hstage]
  rw [noReturn_passes ht ready hlatch hsent, hgoal]
  rfl

end

/-! A latched wake (R646–R648). -/

theorem wakeLatch_idle (h : s.on Fd.PWR_STAT_LATCHED = false ∨ s.pwr.entry = none) : s.wakeLatch = s := by
  refine if_pos (h.imp (fun off => ?_) fun none => ?_)
  · rw [off]; rfl
  · rw [none]; rfl

theorem wakeLatch_latched (hlatch : s.on Fd.PWR_STAT_LATCHED = true) (hentry : s.pwr.entry ≠ none) :
    s.wakeLatch =
      if s.pwr.stage = 3 then
        (if s.on Fd.PWR_WAKE_LAST_REPLAYED then s
         else (s.wr Fd.PWR_WAKE_LAST_REPLAYED 1).count Fd.PWR_CNT_REPLAYS Fd.PWR_CNT_RPL_OVF 1)
      else
        (((s.wr Fd.PWR_WAKE_LAST_ABORTED 1).count Fd.PWR_CNT_ABORTS Fd.PWR_CNT_ABT_OVF 1).undoEntry).raiseWake :=
  if_neg (by simp [hlatch, hentry])

/-! Waking (R649–R651). -/

theorem coreWakes_iff : s.coreWakes = true ↔ (s.coreOff = true ∧ s.on Fd.PWR_STAT_LATCHED = true ∧
    (s.on Fd.CLK_STAT_REFCLK_OK = true ∨ s.on Fd.CLK_STAT_HOLD = false)) := by
  simp [State.coreWakes, and_assoc]

theorem exec_wakeRestore_standby (b : Option Nat) (hs : s.inReset = false) (hmode : s.mode = mSTANDBY)
    (hlatch : s.on Fd.PWR_STAT_LATCHED = true) : exec (.wakeRestore b) s = .next s.standbyWake :=
  (act_live s _ hs).trans (congrArg _ (if_pos ⟨hmode, hlatch⟩))

theorem isRetain_iff : isRetain m = true ↔ m = mRETAIN ∨ m = mRETAINP := by
  simp [isRetain]

theorem exec_wakeRestore_idle (b : Option Nat) (hs : s.inReset = false)
    (hretain : (s.mode ≠ mRETAIN ∧ s.mode ≠ mRETAINP) ∨ s.coreWakes = false)
    (hstandby : s.mode ≠ mSTANDBY ∨ s.on Fd.PWR_STAT_LATCHED = false) : exec (.wakeRestore b) s = .next s := by
  have notStandby : ¬ (s.mode = mSTANDBY ∧ s.on Fd.PWR_STAT_LATCHED = true) := by
    rcases hstandby with h | h <;> simp [h]
  have notRetain : ¬ (isRetain s.mode = true ∧ s.coreWakes = true) := by
    rw [isRetain_iff]
    rcases hretain with ⟨h, hp⟩ | h
    · simp [h, hp]
    · simp [h]
  exact (act_live s _ hs).trans (congrArg _ ((if_neg notStandby).trans (if_neg notRetain)))

theorem ne_standby_of_isRetain (h : isRetain m = true) : m ≠ mSTANDBY := by
  rintro rfl
  cases h

end Sys2Proof.Machine

section
open Sys2Proof Sys2Proof.Machine

/-- Settles O56, command by command. -/
theorem sleepAndWakeCommands : Obligations.SleepAndWakeCommands := by
  intro s hs
  have live (t : State) : s.act t = .next t := act_live s t hs
  refine ⟨?notDraining, ?draining, ?saves, ?noEntry, ?earlySave, ?staysBefore, ?unready, ?passes, wakeEvent_off s,
    ?firstWake, live _, ?wakePulse, fun b => live _, ?timer, ?noTimer, live _, ?noLatch, ?latched, coreWakes_iff,
    ?deepWakes, ?deepStays, ?standby, fun b => exec_wakeRestore_idle b hs, ?retain⟩
  case notDraining =>
    intro h
    rw [exec_drainComplete hs, exec_drainTimeout hs, drainComplete_idle h, drainTimeout_idle h]
    exact ⟨rfl, rfl⟩
  case draining =>
    intro m h
    rw [exec_drainComplete hs, exec_drainTimeout hs]
    refine ⟨fun keeps => ?kept, fun hret hsave => ?flushed, fun keeps => ?timeoutKept, fun hret hsave => ?timeoutLost⟩
    case kept =>
      rw [drainComplete_unflushed h (mustFlush_eq_false keeps)]
      exact ⟨fun busy => by rw [if_pos busy], fun idle => by rw [idle, if_neg Bool.false_ne_true]⟩
    case flushed =>
      rw [drainComplete_flushed h (mustFlush_eq_true hret hsave)]
      refine ⟨fun idle clean => ?_, fun left => by rw [if_pos left]⟩
      rw [if_neg (by simp [idle, clean])]
    case timeoutKept => rw [drainTimeout_unflushed h (mustFlush_eq_false keeps)]
    case timeoutLost => rw [drainTimeout_flushed h (mustFlush_eq_true hret hsave)]
  case saves =>
    intro t ht hret hstage u
    rw [exec_sleepEntry hs, sleepEntry_saves ht hret hstage]
    exact ⟨u.saved, rfl, saved_frame u, fun lg => srRate_saved⟩
  case noEntry =>
    intro ht
    rw [exec_sleepEntry hs, sleepEntry_none ht]
  case earlySave =>
    intro t ht h
    rw [exec_sleepEntry hs, sleepEntry_early ht h]
  case staysBefore =>
    rw [exec_pointOfNoReturn hs]
    rintro (ht | waits)
    · rw [noReturn_none ht]
    · rw [noReturn_waits waits]
  case unready =>
    intro t ht h
    rw [exec_pointOfNoReturn hs, noReturn_unready ht (entryReady_eq_false h)]
  case passes =>
    intro t ht hlatch hsent u w
    rw [exec_pointOfNoReturn hs]
    exact ⟨fun hgoal hstage => congrArg _ (noReturn_retain ht hlatch hsent hgoal hstage),
      fun hgoal hstage => congrArg _ (noReturn_retainp ht hlatch hsent hgoal hstage),
      fun hgoal hstage => congrArg _ (noReturn_deep ht hlatch hsent hgoal hstage)⟩
  case firstWake =>
    intro c e harmed hen hlatch hentry u v
    rw [wakeEvent_on s c harmed hen, recordWake_first s c e hlatch hentry]
  case wakePulse =>
    intro n u
    refine ⟨fun long => (live _).trans (congrArg _ (if_pos long)), fun short => ?_, fun above below => ?_⟩
    · exact (live _).trans (congrArg _ ((if_neg (by omega)).trans (if_pos short)))
    · exact (live _).trans (congrArg _ ((if_neg (by omega)).trans (if_neg (by omega))))
  case timer =>
    intro h
    exact (live _).trans (congrArg _ (if_pos (Option.isSome_iff_ne_none.2 h)))
  case noTimer =>
    intro h
    exact (live _).trans (congrArg _ (if_neg (by simp [h])))
  case noLatch =>
    intro h
    rw [exec_wakeLatch hs, wakeLatch_idle h]
  case latched =>
    intro hlatch hentry
    rw [exec_wakeLatch hs, wakeLatch_latched hlatch hentry]
    refine ⟨fun hstage again => ?_, fun hstage first => ?_, fun hstage => ?_⟩
    · rw [if_pos hstage, if_pos again]
    · rw [if_pos hstage, first, if_neg Bool.false_ne_true]
    · rw [if_neg hstage]
  case deepWakes =>
    intro hmode hwakes
    exact (live _).trans (congrArg _ (if_pos ⟨hmode, hwakes⟩))
  case deepStays =>
    intro h
    refine (live _).trans (congrArg _ (if_neg ?_))
    rcases h with h | h <;> simp [h]
  case standby =>
    intro b hmode hlatch
    have asks := exec_wakeRestore_standby b hs hmode hlatch
    exact ⟨fun first => asks.trans (congrArg _ (if_neg (first ▸ Bool.false_ne_true))),
      fun again => asks.trans (congrArg _ (if_pos again))⟩
  case retain =>
    intro hmode hwakes
    have hret := isRetain_iff.2 hmode
    have notStandby : ¬ (s.mode = mSTANDBY ∧ s.on Fd.PWR_STAT_LATCHED = true) :=
      fun standby => ne_standby_of_isRetain hret standby.1
    exact ⟨(live _).trans (congrArg _ ((if_neg notStandby).trans (if_pos ⟨hret, hwakes⟩))),
      fun b => (live _).trans (congrArg _ ((if_neg notStandby).trans (if_pos ⟨hret, hwakes⟩)))⟩

end

/-! ### Supply rails (R61, R62, R64, R70, R71) -/

namespace Sys2Proof.Machine

variable {s : State} {rail mv : Nat}

/-! What the commands of the rails do to a part that is not held in reset. -/

section
variable (hs : s.inReset = false)
include hs

/-- A warning asks for both a monitored rail and a voltage outside the recommended range. -/
theorem exec_railWarn_quiet (h : ¬ (s.railOn rail = true ∧ s.railOut rail mv = true)) :
    exec (.railWarn rail mv) s = .next s :=
  (act_live s _ hs).trans (congrArg _ (if_neg h))

/-- A failure asks for both a monitored rail and a voltage beyond a fail limit. -/
theorem exec_railFail_quiet (h : ¬ (s.railOn rail = true ∧ s.railBad rail mv = true)) :
    exec (.railFail rail mv) s = .next s :=
  (act_live s _ hs).trans (congrArg _ (if_neg h))

end

/-! Which rails are monitored (R64, R70). -/

theorem railOn_of_ungated (h : rail < 2) : s.railOn rail = true := by simp [State.railOn, h]

/-- VDD_CORE, VDD_SDA and VDD_SDH follow PWR_EN_CORE. -/
theorem railOn_core (h2 : 2 ≤ rail) (h5 : rail < 5) :
    s.railOn rail = (s.pins.pwrEnCore && s.settled s.pwr.coreRose) := by
  simp [State.railOn, h5, Nat.not_lt.2 h2, Nat.not_le.2 h5]

/-- The device time since the enable rose is counted modulo 2^64. -/
theorem settled_some_iff {t : Nat} (ht : t ≤ s.clk.time) (h64 : s.clk.time < 2 ^ 64) :
    s.settled (some t) = true ↔ t + 8750 ≤ s.clk.time := by
  have elapsed : (s.clk.time + 2 ^ 64 - t) % 2 ^ 64 = s.clk.time - t := by omega
  rw [State.settled, elapsed, decide_eq_true_iff]
  omega

/-! Recommended ranges and fail limits (R61), which the model keeps in units of 10 µV. -/

section
variable {low high failLow failHigh : Nat} (h : s.railLimits rail = (low, high, failLow, failHigh))
include h

theorem railOut_iff_of_limits : s.railOut rail mv = true ↔ 100 * mv < low ∨ high < 100 * mv := by
  simp [State.railOut, h]

theorem railBad_iff_of_limits : s.railBad rail mv = true ↔ 100 * mv < failLow ∨ failHigh < 100 * mv := by
  simp [State.railBad, h]

end

theorem railLimits_aon : s.railLimits 0 = (76000, 84000, 72000, 88000) := rfl

/-- The limits of VDD_CORE at 0.80 V. -/
theorem railLimits_core (h : s.pins.coreVsel = 0) : s.railLimits 2 = (77600, 82400, 75200, 84800) := by
  simp [State.railLimits, coreNominal, nth, h]

end Sys2Proof.Machine

section
open Sys2Proof Sys2Proof.Machine

/-- Settles O6, clause by clause. -/
theorem railCommands : Obligations.RailCommands := by
  intro s rail mv hs
  have live (t : State) : s.act t = .next t := act_live s t hs
  refine ⟨?warns, ?fails, ?noWarn, ?noFail, ?inRange, ?aonOut, ?aonBad, ?core, railOn_of_ungated (by decide), ?gated,
    ?off⟩
  case warns => exact fun hon hout => (live _).trans (congrArg _ (if_pos ⟨hon, hout⟩))
  case fails => exact fun hon hbad => (live _).trans (congrArg _ (if_pos ⟨hon, hbad⟩))
  case noWarn => exact fun inside => exec_railWarn_quiet hs (by simp [inside])
  case noFail => exact fun inside => exec_railFail_quiet hs (by simp [inside])
  case inRange => exact fun hrail => (live _).trans (congrArg _ (if_pos hrail))
  case aonOut =>
    rw [railOut_iff_of_limits railLimits_aon]
    omega
  case aonBad =>
    rw [railBad_iff_of_limits railLimits_aon]
    omega
  case core =>
    intro hvsel
    rw [railOut_iff_of_limits (railLimits_core hvsel), railBad_iff_of_limits (railLimits_core hvsel)]
    omega
  case gated =>
    intro t hrose ht h64 h2 h5
    rw [railOn_core h2 h5, hrose, Bool.and_eq_true, settled_some_iff ht h64]
  case off =>
    intro h2 h5 hlow
    have unmonitored : s.railOn rail = false := by rw [railOn_core h2 h5, hlow, Bool.false_and]
    exact ⟨exec_railWarn_quiet hs (by simp [unmonitored]), exec_railFail_quiet hs (by simp [unmonitored])⟩

end

/-! ### The sideband (R76, R270, R292) -/

namespace Sys2Proof.Machine

variable {s : State} {bytes : List Byte}

/-! What the commands of the sideband do to a part that is not held in reset. -/

section
variable (hs : s.inReset = false)
include hs

/-- A write is NACKed while a request is in hand, and discarded when it stops within the head. -/
theorem exec_sidebandWrite_ignored (h : s.req.sb ≠ .free ∨ bytes.length < 16) :
    exec (.sidebandWrite bytes) s = .next s :=
  (act_live s _ hs).trans (congrArg _ (if_neg fun ⟨hfree, whole⟩ => h.elim (· hfree) (Nat.not_lt.2 whole)))

theorem exec_sidebandWrite_taken (hfree : s.req.sb = .free) (hlen : 16 ≤ bytes.length) :
    exec (.sidebandWrite bytes) s = .next (s.sideband bytes) :=
  (act_live s _ hs).trans (congrArg _ (if_pos ⟨hfree, hlen⟩))

theorem exec_sidebandRead_formed {r : Resp} (h : s.req.sb = .formed r) :
    exec .sidebandRead s = .next (s.setSb .free) :=
  (act_live s _ hs).trans (by rw [h])

end

/-! A request message (R263, R270, R292). -/

/-- The length that the head asks for is that of the head slot and the data slots. -/
theorem payload_length_iff (hlen : 16 ≤ bytes.length) (n : Nat) :
    (bytes.drop 16).length = 16 * n ↔ bytes.length = 16 * (1 + n) := by
  rw [List.length_drop]
  omega

/-- An answer ABORTED to the sideband stands formed in its slot. -/
theorem refuse_sideband_aborted (op : Nat) (h : ReqHead) (rflags xid : Nat) :
    s.refuse whoSb op h stABORTED rflags xid =
      s.setSb (.formed { port := whoSb, op, reqId := h.reqId, tag := h.tag, status := stABORTED, rflags }) := rfl

theorem sideband_malformed {op : Nat} {h : ReqHead} (hhead : parseHead (leNat (bytes.take 16)) = (op, h))
    (bad : isMgmt op = false ∨ (bytes.drop 16).length ≠ 16 * reqSlots op h) :
    s.sideband bytes = s.setSb
      (.formed { port := whoSb, op, reqId := h.reqId, tag := h.tag, status := stABORTED, rflags := 4 }) := by
  rw [State.sideband, hhead]
  exact (if_pos (by simpa using bad)).trans (refuse_sideband_aborted op h 4 0)

/-- With the core on a well-formed request goes where those of the ports go. -/
theorem sideband_request {op : Nat} {h : ReqHead} (hhead : parseHead (leNat (bytes.take 16)) = (op, h))
    (hop : isMgmt op = true) (hlen : (bytes.drop 16).length = 16 * reqSlots op h) (hcore : s.coreOff = false) :
    s.sideband bytes = (s.setSb .forming).mgmtRequest whoSb op h (bytes.drop 16) := by
  have coreOn : ¬ (s.setSb .forming).coreOff = true := ne_true_of_eq_false hcore
  rw [State.sideband, hhead]
  exact (if_neg (by simp [hop, hlen])).trans (if_neg coreOn)

end Sys2Proof.Machine

section
open Sys2Proof Sys2Proof.Machine

/-- Settles O21, command by command. -/
theorem sidebandCommands : Obligations.SidebandCommands := by
  intro s hs
  have live (t : State) : s.act t = .next t := act_live s t hs
  refine ⟨?assigned, ?otherAddress, fun _ => live _, ?inHand, ?short, ?malformed, ?request, ?read⟩
  case assigned => exact fun a d ha => (live _).trans (congrArg _ (if_pos ha))
  case otherAddress => exact fun a d ha => (live _).trans (congrArg _ (if_neg ha))
  case inHand => exact fun bytes busy => exec_sidebandWrite_ignored hs (.inl busy)
  case short => exact fun bytes hlen => exec_sidebandWrite_ignored hs (.inr hlen)
  case malformed =>
    intro bytes hfree hlen h bad
    rw [exec_sidebandWrite_taken hs hfree hlen,
      sideband_malformed rfl (bad.imp_right (mt (payload_length_iff hlen _).1))]
    rfl
  case request =>
    intro bytes hfree hlen hcore h hop hslots
    rw [exec_sidebandWrite_taken hs hfree hlen,
      sideband_request rfl hop ((payload_length_iff hlen _).2 hslots) hcore]
    rfl
  case read => exact fun r hformed => exec_sidebandRead_formed hs hformed

end

/-! ### The idle step (R24, R96, R102, R104) -/

namespace Sys2Proof.Machine

variable {s : State}

theorem step_idle (h : s.pending = []) : step s = .next s.tick := by rw [step, h]

theorem tick_inReset (h : s.inReset = true) : s.tick = s := if_pos h

/-! Device time and the uncertainty bound. -/

theorem timeTick_exact (h : s.on Fd.CLK_STAT_TIME_EST = false) :
    s.timeTick = { s with clk := { s.clk with time := (s.clk.time + 1) % 2 ^ 64 } } := by
  rw [State.timeTick, h]
  rfl

theorem timeTick_estimated (h : s.on Fd.CLK_STAT_TIME_EST = true) : s.timeTick =
    { s with clk := { s.clk with time := (s.clk.time + 1) % 2 ^ 64, estTicks := s.clk.estTicks + 1 } } := by
  rw [State.timeTick, h]
  rfl

@[simp] theorem timeTick_cyc : s.timeTick.cyc = s.cyc := (rfl)
@[simp] theorem timeTick_req : s.timeTick.req = s.req := (rfl)
@[simp] theorem timeTick_bst : s.timeTick.bst = s.bst := (rfl)
@[simp] theorem on_timeTick (f : Fld) : s.timeTick.on f = s.on f := (rfl)

/-! A SEL that is to be asserted again. -/

theorem srcAssert_due (again : s.cyc.srcAgain = true) (hroot : s.on Fd.CLK_STAT_ROOT_READY = false) :
    s.srcAssert = (s.wr Fd.CLK_SRC_MC_SEL 1).wr Fd.CLK_SRC_SPI_SEL 1 :=
  if_pos ⟨again, by rw [hroot]; rfl⟩

theorem srcAssert_not_due (h : s.cyc.srcAgain = false ∨ s.on Fd.CLK_STAT_ROOT_READY = true) : s.srcAssert = s :=
  if_neg fun ⟨again, hroot⟩ => by rcases h with h | h <;> simp [h] at again hroot

@[simp] theorem srcAssert_req : s.srcAssert.req = s.req := by unfold State.srcAssert; split <;> rfl
@[simp] theorem srcAssert_bst : s.srcAssert.bst = s.bst := by unfold State.srcAssert; split <;> rfl

/-! What else an idle step runs. -/

/-- Without a management request released by a hold none runs. -/
theorem runReady_idle (h : ∀ t ∈ s.req.txns, isMgmt t.op = true → t.stage ≠ .running) : s.runReady = s := by
  have none_ready : (s.req.txns.filter fun (t : Txn) => isMgmt t.op && t.stage == .running) = [] := by
    simpa using h
  rw [State.runReady, none_ready]
  exact congrArg (List.foldl _ s) (List.flatMap_eq_nil_iff.2 fun _ _ => rfl)

theorem houseAll_idle (h : s.bst.house = []) : s.houseAll = s := by rw [State.houseAll, h]; rfl

/-- With nothing left to run a tick counts time, asserts a SEL that is due and begins a cycle. -/
theorem step_ticks (hp : s.pending = []) (hs : s.inReset = false) (hhouse : s.bst.house = [])
    (hready : ∀ t ∈ s.req.txns, isMgmt t.op = true → t.stage ≠ .running) :
    step s = .next s.timeTick.srcAssert.newCycle := by
  have idle : s.timeTick.srcAssert.newCycle.runReady = s.timeTick.srcAssert.newCycle :=
    runReady_idle (by simpa [State.newCycle] using hready)
  have untested : s.timeTick.srcAssert.newCycle.bst.house = [] := by simpa [State.newCycle] using hhouse
  rw [step_idle hp, State.tick, hs, if_neg Bool.false_ne_true, idle, houseAll_idle untested]

end Sys2Proof.Machine

section
open Sys2Proof Sys2Proof.Machine

/-- Settles O2, by whether a SEL is due and whether device time is an estimate. -/
theorem idleStepCountsDeviceTime : Obligations.IdleStepCountsDeviceTime := by
  refine fun s hp => ⟨fun hs hhouse hready => ⟨?exact, ?estimated, ?due⟩, ?held⟩
  case exact =>
    intro notDue hest
    rw [step_ticks hp hs hhouse hready, srcAssert_not_due (by simpa using notDue), timeTick_exact hest]
    rfl
  case estimated =>
    intro notDue hest
    rw [step_ticks hp hs hhouse hready, srcAssert_not_due (by simpa using notDue), timeTick_estimated hest]
    rfl
  case due =>
    intro again hroot hest
    rw [step_ticks hp hs hhouse hready, srcAssert_due (by simpa using again) (by simpa using hroot),
      timeTick_estimated hest]
    rfl
  case held => exact fun h => by rw [step_idle hp, tick_inReset h]

end

/-! ### The oscillator's windows, trim and correction (R87, R88, R90, R91, R93) -/

namespace Sys2Proof.Machine

variable {s : State} {e : Int} {p0 pair : Option Nat}

/-! How a window judges. -/

/-- The first window that agrees. -/
theorem judge_agrees_first (he : e.natAbs ≤ 224) (h : s.clk.agreeWin = 0) : s.judge (some e) =
    { s with clk := { s.clk with agreeWin := 1, outWin := 0, noEdgeWin := 0 } }.wr Fd.CLK_STAT_OSC_UNJUDGED 0 := by
  have one : min 2 (0 + 1) ≠ 2 := by decide
  rw [State.judge, if_pos he, h]
  exact if_neg one

/-- Each later window in a row that agrees. -/
theorem judge_agrees_again (he : e.natAbs ≤ 224) (h : 1 ≤ s.clk.agreeWin) : s.judge (some e) =
    (({ s with clk := { s.clk with agreeWin := 2, outWin := 0, noEdgeWin := 0 } }.wr Fd.CLK_STAT_OSC_UNJUDGED 0).wr
      Fd.CLK_STAT_REFCLK_OK 1).wr Fd.CLK_STAT_OSC_READY 1 := by
  have two : min 2 (s.clk.agreeWin + 1) = 2 := by omega
  simp only [State.judge, if_pos he, two, if_true]

/-- The 16th window without an edge before OSC_READY. -/
theorem judge_unjudged (h : s.clk.noEdgeWin = 15) (hready : s.on Fd.CLK_STAT_OSC_READY = false) : s.judge none =
    ({ s with clk := { s.clk with agreeWin := 0, outWin := 0, noEdgeWin := 16 } }.wr Fd.CLK_STAT_OSC_READY 1).wr
      Fd.CLK_STAT_OSC_UNJUDGED 1 := by
  have unready : (!s.on Fd.CLK_STAT_OSC_READY) = true := by rw [hready]; rfl
  rw [State.judge, h]
  exact if_pos ⟨rfl, unready⟩

/-- The 16th window in a row outside before OSC_READY, without the root. -/
theorem judge_fails_unready (he : 224 < e.natAbs) (h : s.clk.outWin = 15) (hready : s.on Fd.CLK_STAT_OSC_READY = false)
    (hroot : s.on Fd.CLK_STAT_ROOT_READY = false) : s.judge (some e) =
      { s with clk := { s.clk with agreeWin := 0, outWin := 16, noEdgeWin := 0 } }.raise 7 1 0 := by
  have unready : (!s.on Fd.CLK_STAT_OSC_READY) = true := by rw [hready]; rfl
  rw [State.judge, if_neg (Nat.not_le.2 he), h]
  exact (if_neg (ne_true_of_eq_false hroot)).trans (if_pos ⟨rfl, unready⟩)

/-- The first window outside with the root there. -/
theorem judge_fails_rooted (he : 224 < e.natAbs) (h : s.clk.outWin = 0) (hroot : s.on Fd.CLK_STAT_ROOT_READY = true) :
    s.judge (some e) = ({ s with clk := { s.clk with agreeWin := 0, outWin := 1, noEdgeWin := 0 } }.wr
      Fd.CLK_STAT_OSC_READY 0).raise 7 1 0 := by
  rw [State.judge, if_neg (Nat.not_le.2 he), h]
  exact if_pos hroot

/-! Which reference the trim follows (R90). -/

theorem trimRef_rooted (h : s.on Fd.CLK_STAT_ROOT_READY = true) : s.trimRef p0 pair = 0 := if_pos h

/-- Without the root the ports come after each other. -/
theorem trimRef_unrooted (h : s.on Fd.CLK_STAT_ROOT_READY = false) : s.trimRef p0 pair =
    if p0.isSome ∧ !s.on (Fd.PORT_LANE_CFG_RATE 0) then 1
    else if pair.isSome ∧ !s.on (Fd.PORT_LANE_CFG_RATE 12) then 2 else 3 :=
  if_neg (ne_true_of_eq_false h)

theorem trimRef_eq_root_iff : s.trimRef p0 pair = 0 ↔ s.on Fd.CLK_STAT_ROOT_READY = true := by
  cases hroot : s.on Fd.CLK_STAT_ROOT_READY with
  | true => simp [trimRef_rooted hroot]
  | false =>
    rw [trimRef_unrooted hroot]
    split
    · simp
    · split <;> simp

theorem trimRef_eq_port0_iff : s.trimRef p0 pair = 1 ↔
    s.on Fd.CLK_STAT_ROOT_READY = false ∧ p0.isSome = true ∧ s.on (Fd.PORT_LANE_CFG_RATE 0) = false := by
  cases hroot : s.on Fd.CLK_STAT_ROOT_READY with
  | true => simp [trimRef_rooted hroot]
  | false =>
    rw [trimRef_unrooted hroot]
    split
    case isTrue present => simpa using present
    case isFalse absent =>
      have later : (if pair.isSome ∧ !s.on (Fd.PORT_LANE_CFG_RATE 12) then 2 else 3) ≠ 1 := by split <;> decide
      exact ⟨fun h => (later h).elim, fun ⟨_, commas, rate⟩ => (absent ⟨commas, by rw [rate]; rfl⟩).elim⟩

/-- The trim's reference shown, a change of it raised. -/
def State.refShown (s : State) (r : Nat) : State :=
  if r = s.rd Fd.CLK_STAT_TRIM_REF then s else (s.wr Fd.CLK_STAT_TRIM_REF r).raise 6 1 r

theorem refShown_same {r : Nat} (h : s.rd Fd.CLK_STAT_TRIM_REF = r) : s.refShown r = s := if_pos h.symm

theorem refShown_changed {r : Nat} (h : s.rd Fd.CLK_STAT_TRIM_REF ≠ r) :
    s.refShown r = (s.wr Fd.CLK_STAT_TRIM_REF r).raise 6 1 r := if_neg (Ne.symm h)

/-- A window of the trim's reference: the correction ends, the error is shown and the trim follows it. -/
def State.trimAgainst (s : State) (e : Int) : State :=
  ({ s with clk := { s.clk with tempCorr := 0 } }.wr Fd.CLK_OSC_ERR (wrapInt 16 e)).trimStep e

/-- Without an edge and without a reference a window is judged only. -/
theorem oscWindow_none {u : State} (hu : s.judge none = u) (h3 : u.trimRef p0 pair = 3)
    (hshown : u.rd Fd.CLK_STAT_TRIM_REF = 3) : s.oscWindow none p0 pair = u := by
  simp [State.oscWindow, hu, h3, hshown]

theorem oscWindow_root {u : State} {n : Nat} (hu : s.judge (some ((n : Int) - 11200)) = u)
    (h : u.trimRef p0 pair = 0) : s.oscWindow (some n) p0 pair = (u.refShown 0).trimAgainst ((n : Int) - 11200) := by
  simp [State.oscWindow, hu, h, State.refShown, State.trimAgainst]

theorem oscWindow_port0 {u : State} {n : Nat} (hu : s.judge none = u) (h : u.trimRef (some n) pair = 1) :
    s.oscWindow none (some n) pair = (u.refShown 1).trimAgainst ((n : Int) - 11088) := by
  simp [State.oscWindow, hu, h, State.refShown, State.trimAgainst]

/-! One step of the trim. -/

theorem trimStep_lowers (hready : s.on Fd.CLK_STAT_OSC_READY = true) (he : 3 ≤ e) : s.trimStep e =
    s.wr Fd.CLK_OSC_TRIM (wrapInt 9 (max (-256) (signed 9 (s.rd Fd.CLK_OSC_TRIM) - 1))) := by
  simp only [State.trimStep, if_pos he, if_pos hready]

theorem trimStep_raises (hready : s.on Fd.CLK_STAT_OSC_READY = true) (he : e ≤ -3) : s.trimStep e =
    s.wr Fd.CLK_OSC_TRIM (wrapInt 9 (min 255 (signed 9 (s.rd Fd.CLK_OSC_TRIM) + 1))) := by
  have low : ¬ 3 ≤ e := by omega
  simp only [State.trimStep, if_neg low, if_pos he, if_pos hready]

/-! What the oscillator's commands do to a part that is not held in reset. -/

section
variable (hs : s.inReset = false)
include hs

theorem exec_oscStart_estimated (h : s.on Fd.CLK_SRC_TB_CUR = true) : exec .oscStart s =
    .next ({ s with clk := { s.clk with oscRunning := true } }.wr Fd.CLK_STAT_TIME_EST 1) :=
  (act_live s _ hs).trans (congrArg _ (if_pos h))

theorem exec_oscStart_exact (h : s.on Fd.CLK_SRC_TB_CUR = false) : exec .oscStart s =
    .next { s with clk := { s.clk with oscRunning := true } } :=
  (act_live s _ hs).trans (congrArg _ (if_neg (ne_true_of_eq_false h)))

theorem exec_temperatureCorrection_inside (hnone : s.rd Fd.CLK_STAT_TRIM_REF = 3) (hlow : 0 ≤ s.aoTempNow + 40)
    (hhigh : s.aoTempNow + 40 ≤ 1200) : exec .temperatureCorrection s = .next { s with clk := { s.clk with
      tempCorr := s.tcEntry ((s.aoTempNow + 40) / 80).toNat * 80 +
        (s.tcEntry (min 15 (((s.aoTempNow + 40) / 80).toNat + 1)) - s.tcEntry ((s.aoTempNow + 40) / 80).toNat) *
          ((s.aoTempNow + 40) % 80) } } :=
  (act_live s _ hs).trans (congrArg _ ((if_neg (not_not_intro hnone)).trans (if_neg (by omega))))

/-- Outside the table's span the correction is a free value. -/
theorem exec_temperatureCorrection_outside (hnone : s.rd Fd.CLK_STAT_TRIM_REF = 3)
    (h : s.aoTempNow + 40 < 0 ∨ 1200 < s.aoTempNow + 40) : exec .temperatureCorrection s =
      .next { s.drawn with clk := { s.clk with tempCorr := (s.free % 2 ^ 21 : Nat) - 2 ^ 20 } } :=
  (act_live s _ hs).trans (congrArg _ ((if_neg (not_not_intro hnone)).trans (if_pos h)))

theorem exec_temperatureCorrection_referenced (h : s.rd Fd.CLK_STAT_TRIM_REF ≠ 3) :
    exec .temperatureCorrection s = .next s :=
  (act_live s _ hs).trans (congrArg _ (if_pos h))

end

end Sys2Proof.Machine

section
open Sys2Proof Sys2Proof.Machine

/-- Settles O7: the commands, the judging, the references and the trim. -/
theorem oscillatorWindows : Obligations.OscillatorWindows := by
  intro s hs
  have live (t : State) : s.act t = .next t := act_live s t hs
  refine ⟨exec_oscStart_estimated hs, exec_oscStart_exact hs, ?runs, ?stopped, fun e => judge_agrees_first,
    fun e => judge_agrees_again, judge_unjudged, fun e => judge_fails_unready, fun e => judge_fails_rooted,
    fun p0 pair => ⟨trimRef_eq_root_iff, trimRef_eq_port0_iff⟩, ?noReference, ?root, ?port0,
    fun e hready => ⟨trimStep_lowers hready, trimStep_raises hready⟩, exec_temperatureCorrection_inside hs,
    fun hnone h => ⟨_, exec_temperatureCorrection_outside hs hnone h⟩, exec_temperatureCorrection_referenced hs⟩
  case runs => exact fun ref p0 pair hrun => (live _).trans (congrArg _ (if_pos hrun))
  case stopped => exact fun ref p0 pair hrun => (live _).trans (congrArg _ (if_neg (ne_true_of_eq_false hrun)))
  case noReference => exact fun p0 pair hshown h3 => oscWindow_none rfl h3 (hshown ▸ h3)
  case root =>
    intro ref p0 pair u h hshown
    rw [oscWindow_root rfl h, refShown_same hshown]
    rfl
  case port0 =>
    intro n pair u h hchanged v
    rw [oscWindow_port0 rfl h, refShown_changed hchanged]
    rfl

end

/-! ### Clock sources (R84, R94, R95, R104) -/

namespace Sys2Proof.Machine

variable {s : State} {v : Nat}

/-- The root runs and is ready (R84). -/
def State.rooted (s : State) : State := { s with clk := { s.clk with rootRunning := true } }.wr Fd.CLK_STAT_ROOT_READY 1

theorem mode_rooted : s.rooted.mode = s.mode :=
  rd_wr_other { s with clk := { s.clk with rootRunning := true } } 1 (by decide) (by decide) (by decide)

theorem on_rooted {f : Fld} (hf : f.lo ≤ f.hi) (h : Fd.CLK_STAT_ROOT_READY.apart f = true) : s.rooted.on f = s.on f :=
  on_wr_other { s with clk := { s.clk with rootRunning := true } } 1 (by decide) hf h

/-- A boot outside a hold whose time base is on the oscillator (R104, R114). -/
def State.resyncs (s : State) : Prop :=
  s.mode = mBOOT ∧ s.on Fd.CLK_SRC_TB_CUR = true ∧ (!s.on Fd.CLK_STAT_HOLD) = true

theorem resyncs_rooted : s.rooted.resyncs ↔ s.resyncs := by
  rw [State.resyncs, mode_rooted, on_rooted (by decide) (by decide), on_rooted (by decide) (by decide)]
  rfl

/-! A switch (R94). -/

theorem mcSel_switches (hready : s.srcReady v = true) (h : v ≠ (s.wr Fd.CLK_SRC_MC_SEL v).rd Fd.CLK_SRC_MC_CUR) :
    s.mcSel v = { s.wr Fd.CLK_SRC_MC_SEL v with clk := { s.clk with mcSwitch := some v } } := by
  simp only [State.mcSel, if_pos hready, if_neg h, wr_clk]

theorem mcSel_current (hready : s.srcReady v = true) (h : v = (s.wr Fd.CLK_SRC_MC_SEL v).rd Fd.CLK_SRC_MC_CUR) :
    s.mcSel v = { s.wr Fd.CLK_SRC_MC_SEL v with clk := { s.clk with mcSwitch := none } } := by
  simp only [State.mcSel, if_pos hready, if_pos h, wr_clk]

theorem mcSel_refused (h : s.srcReady v = false) : s.mcSel v = (s.wr Fd.CLK_SRC_MC_REF 1).raise 8 1 0 :=
  if_neg (ne_true_of_eq_false h)

theorem spiSel_switches (hready : s.srcReady v = true) (h : v ≠ (s.wr Fd.CLK_SRC_SPI_SEL v).rd Fd.CLK_SRC_SPI_CUR) :
    s.spiSel v = { s.wr Fd.CLK_SRC_SPI_SEL v with clk := { s.clk with spiSwitch := some v } } := by
  simp only [State.spiSel, if_pos hready, if_neg h, wr_clk]

theorem spiSel_refused (h : s.srcReady v = false) : s.spiSel v = (s.wr Fd.CLK_SRC_SPI_REF 1).raise 8 1 1 :=
  if_neg (ne_true_of_eq_false h)

/-! What the commands of the sources do to a part that is not held in reset. -/

section
variable (hs : s.inReset = false)
include hs

/-- The root locks; device time moves to it where the part resyncs. -/
theorem exec_rootLock_moves (hok : s.on Fd.CLK_STAT_REFCLK_OK = true) (hcore : s.coreOff = false) (h : s.resyncs) :
    exec .rootLock s = .next s.rooted.resyncTime := by
  have locks : s.on Fd.CLK_STAT_REFCLK_OK = true ∧ (!s.coreOff) = true := ⟨hok, by rw [hcore]; rfl⟩
  exact (act_live s _ hs).trans (congrArg _ ((if_pos locks).trans (if_pos (resyncs_rooted.2 h))))

theorem exec_rootLock_stays (hok : s.on Fd.CLK_STAT_REFCLK_OK = true) (hcore : s.coreOff = false) (h : ¬ s.resyncs) :
    exec .rootLock s = .next s.rooted := by
  have locks : s.on Fd.CLK_STAT_REFCLK_OK = true ∧ (!s.coreOff) = true := ⟨hok, by rw [hcore]; rfl⟩
  exact (act_live s _ hs).trans (congrArg _ ((if_pos locks).trans (if_neg (mt resyncs_rooted.1 h))))

theorem exec_mcSel : exec (.mcSel v) s = .next (s.mcSel (v % 2)) := act_live s _ hs

theorem exec_spiSel : exec (.spiSel v) s = .next (s.spiSel (v % 2)) := act_live s _ hs

theorem exec_muxRelease_mc (h : s.clk.mcSwitch = some v) : exec (.muxRelease false) s =
    .next ({ s with clk := { s.clk with mcSwitch := none } }.wr Fd.CLK_SRC_MC_CUR v) :=
  (act_live s _ hs).trans (by rw [if_neg Bool.false_ne_true, h])

theorem exec_muxRelease_spi (h : s.clk.spiSwitch = some v) : exec (.muxRelease true) s =
    .next ({ s with clk := { s.clk with spiSwitch := none } }.wr Fd.CLK_SRC_SPI_CUR v) :=
  (act_live s _ hs).trans (by rw [if_pos rfl, h])

end

end Sys2Proof.Machine

section
open Sys2Proof Sys2Proof.Machine

/-- Settles O8, command by command. -/
theorem clockSources : Obligations.ClockSources := by
  intro s hs
  refine ⟨?stays, ?moves, ?mcSwitch, ?mcCurrent, ?mcRefused, ?spiSwitch, ?spiRefused, ?mcRelease, ?spiRelease⟩
  case stays =>
    intro hok hcore hstay
    refine exec_rootLock_stays hs hok hcore fun ⟨hboot, htb, hhold⟩ => ?_
    rcases hstay with h | h | h
    · exact h hboot
    · exact Bool.false_ne_true (h.symm.trans htb)
    · rw [h] at hhold
      exact Bool.false_ne_true hhold
  case moves =>
    exact fun hok hcore htb hboot hhold => exec_rootLock_moves hs hok hcore ⟨hboot, htb, by rw [hhold]; rfl⟩
  case mcSwitch => exact fun v hready h => by rw [exec_mcSel hs, mcSel_switches hready h]
  case mcCurrent => exact fun v hready h => by rw [exec_mcSel hs, mcSel_current hready h]
  case mcRefused => exact fun v h => by rw [exec_mcSel hs, mcSel_refused h]
  case spiSwitch => exact fun v hready h => by rw [exec_spiSel hs, spiSel_switches hready h]
  case spiRefused => exact fun v h => by rw [exec_spiSel hs, spiSel_refused h]
  case mcRelease => exact fun v => exec_muxRelease_mc hs
  case spiRelease => exact fun v => exec_muxRelease_spi hs

end

/-! ### The loss and return of REFCLK (R96, R98, R99, R103, R105) -/

namespace Sys2Proof.Machine

variable {s : State} {unlock : Bool}

/-- The loss as CLK_STAT shows it, its time recorded (R96, R105). -/
def State.lossShown (s : State) : State :=
  (({ s with clk := { s.clk with agreeWin := 0, lossTime := s.clk.time } }.wr Fd.CLK_STAT_REFCLK_OK 0).wr
    Fd.CLK_STAT_ROOT_READY 0).wr Fd.CLK_STAT_HOLD 1

/-- The loss is counted, the lane transmitters are idle and every outstanding request is caught by it (R96, R97). -/
def State.lossCatches (s : State) : State :=
  let u := s.count Fd.CLK_STAT_LOSS_CNT Fd.CLK_STAT_LOSS_OVF 1
  { u with
    pins := { u.pins with lanesIdle := true }
    req := { u.req with txns := u.req.txns.map fun (t : Txn) => { t with lost := true } } }

/-- Every port leaves its link (R96). -/
def State.portsLost (s : State) : State :=
  (List.range 13).foldl (fun (s : State) n => (s.enterRecover n 5 true).portOff n) s

/-- A clock that was there can be lost. -/
theorem lossNew_of_present (h : (if unlock then s.on Fd.CLK_STAT_ROOT_READY else s.on Fd.CLK_STAT_REFCLK_OK) = true) :
    s.lossNew unlock = true := by
  cases unlock with
  | true => exact h
  | false =>
    have there : s.on Fd.CLK_STAT_REFCLK_OK = true := h
    simp [State.lossNew, there]

theorem refclkLoss_coreOff (hnew : s.lossNew unlock = true) (hhold : s.on Fd.CLK_STAT_HOLD = false)
    (hcore : s.lossShown.coreOff = true) : s.refclkLoss unlock = s.lossShown.wr Fd.CLK_STAT_TIME_EST 1 := by
  rw [State.lossShown] at hcore
  simp only [State.refclkLoss, State.lossShown, hnew, hhold, hcore, Bool.not_true, Bool.false_eq_true, if_true,
    if_false]

theorem refclkLoss_coreOn (hnew : s.lossNew unlock = true) (hhold : s.on Fd.CLK_STAT_HOLD = false)
    (hcore : s.lossShown.coreOff = false) : s.refclkLoss unlock =
      s.lossShown.lossCatches.portsLost.lossAborts.allSelfRef.toOscillator.raise 4 1 (b2n unlock) := by
  rw [State.lossShown] at hcore
  simp only [State.refclkLoss, State.lossShown, State.lossCatches, State.portsLost, hnew, hhold, hcore,
    Bool.not_true, Bool.false_eq_true, if_false]

end Sys2Proof.Machine

section
open Sys2Proof Sys2Proof.Machine

/-- Settles O9, command by command. -/
theorem referenceLossAndReturn : Obligations.ReferenceLossAndReturn := by
  intro s hs
  have live (t : State) : s.act t = .next t := act_live s t hs
  refine ⟨?loss, ?holdover, ?returns, rfl, live _⟩
  case loss =>
    intro unlock hpresent hhold
    have hnew := lossNew_of_present hpresent
    exact ⟨fun hcore => (live _).trans (congrArg _ (refclkLoss_coreOff hnew hhold hcore)),
      fun hcore => (live _).trans (congrArg _ (refclkLoss_coreOn hnew hhold hcore))⟩
  case holdover => exact fun hhold hroot => (live _).trans (congrArg _ (if_pos ⟨hhold, by rw [hroot]; rfl⟩))
  case returns =>
    exact fun hhold hok hroot hcore =>
      (live _).trans (congrArg _ (if_pos ⟨hhold, hok, hroot, by rw [hcore]; rfl⟩))

end

/-! ### Clock gates (R100, R101) -/

namespace Sys2Proof.Machine

variable {s : State} {n g : Nat}

@[simp] theorem wrBit_clk (s : State) (f : Fld) (i : Nat) (b : Bool) : (s.wrBit f i b).clk = s.clk := (rfl)

/-! A GATE bit of a port. -/

theorem gatePort_asks (h : s.clk.portClosed.contains n = false) : s.gatePort n true =
    { s.wrBit Fd.CLK_GATE_PORT_GATE n true with clk := { s.clk with portAsk := addTo s.clk.portAsk n } } := by
  rw [← wrBit_clk s Fd.CLK_GATE_PORT_GATE n true] at h ⊢
  rw [State.gatePort]
  exact if_neg (ne_true_of_eq_false h)

theorem gatePort_withdraws (h : s.clk.portClosed.contains n = false) : s.gatePort n false =
    { s.wrBit Fd.CLK_GATE_PORT_GATE n false with clk := { s.clk with portAsk := s.clk.portAsk.filter (· != n) } } := by
  rw [← wrBit_clk s Fd.CLK_GATE_PORT_GATE n false] at h ⊢
  rw [State.gatePort]
  exact if_neg (ne_true_of_eq_false h)

theorem gatePort_opens (h : s.clk.portClosed.contains n = true) : s.gatePort n false =
    { s.wrBit Fd.CLK_GATE_PORT_GATE n false with
      clk := { s.clk with portAsk := s.clk.portAsk.filter (· != n) } }.openPort n := by
  rw [← wrBit_clk s Fd.CLK_GATE_PORT_GATE n false] at h ⊢
  rw [State.gatePort]
  exact if_pos h

/-! A GATE bit of a channel group. -/

theorem gateCg_asks (h : s.clk.cgClosed.contains g = false) : s.gateCg g true =
    { s.wrBit Fd.CLK_GATE_CG_GATE g true with clk := { s.clk with cgAsk := addTo s.clk.cgAsk g } } := by
  rw [← wrBit_clk s Fd.CLK_GATE_CG_GATE g true] at h ⊢
  rw [State.gateCg]
  exact if_neg (ne_true_of_eq_false h)

/-- The group's request withdrawn. -/
def State.cgWithdrawn (s : State) (g : Nat) : State :=
  { s with clk := { s.clk with cgAsk := s.clk.cgAsk.filter (· != g) } }

theorem cgClosed_cgWithdrawn (s : State) (g : Nat) : (s.cgWithdrawn g).clk.cgClosed = s.clk.cgClosed := (rfl)

theorem gateCg_off : s.gateCg g false =
    if s.clk.cgClosed.contains g ∨ s.clk.cgAsk.contains g then
      ((s.wrBit Fd.CLK_GATE_CG_GATE g false).cgWithdrawn g).openCg g
    else (s.wrBit Fd.CLK_GATE_CG_GATE g false).cgWithdrawn g := by
  rw [← wrBit_clk s Fd.CLK_GATE_CG_GATE g false, ← cgClosed_cgWithdrawn (s.wrBit Fd.CLK_GATE_CG_GATE g false) g,
    State.gateCg]
  exact if_neg Bool.false_ne_true

theorem cgWithdrawn_wrBit (on : Bool) : (s.wrBit Fd.CLK_GATE_CG_GATE g on).cgWithdrawn g =
    { s.wrBit Fd.CLK_GATE_CG_GATE g on with clk := { s.clk with cgAsk := s.clk.cgAsk.filter (· != g) } } := by
  rw [State.cgWithdrawn, wrBit_clk]

theorem gateCg_clears (hclosed : s.clk.cgClosed.contains g = false) (hask : s.clk.cgAsk.contains g = false) :
    s.gateCg g false =
      { s.wrBit Fd.CLK_GATE_CG_GATE g false with clk := { s.clk with cgAsk := s.clk.cgAsk.filter (· != g) } } := by
  rw [gateCg_off, ← cgWithdrawn_wrBit]
  exact if_neg (not_or.2 ⟨ne_true_of_eq_false hclosed, ne_true_of_eq_false hask⟩)

theorem gateCg_opens (h : s.clk.cgClosed.contains g = true ∨ s.clk.cgAsk.contains g = true) : s.gateCg g false =
    { s.wrBit Fd.CLK_GATE_CG_GATE g false with
      clk := { s.clk with cgAsk := s.clk.cgAsk.filter (· != g) } }.openCg g := by
  rw [gateCg_off, ← cgWithdrawn_wrBit]
  exact if_pos h

/-! What the commands of the gates do to a part that is not held in reset. -/

section
variable (hs : s.inReset = false)
include hs

theorem exec_clkGatePort (on : Bool) (hn : n < 13) : exec (.clkGatePort n on) s = .next (s.gatePort n on) :=
  (act_live s _ hs).trans (congrArg _ (if_pos hn))

theorem exec_clkGateCg (on : Bool) (hg : g < 32) : exec (.clkGateCg g on) s = .next (s.gateCg g on) :=
  (act_live s _ hs).trans (congrArg _ (if_pos hg))

theorem exec_quiesceAck_port (hn : n < 13) (hask : s.clk.portAsk.contains n = true) (hquiet : s.portQuiet n = true) :
    exec (.quiesceAck n) s = .next (({ s with clk := { s.clk with
      portAsk := s.clk.portAsk.filter (· != n)
      portClosed := addTo s.clk.portClosed n } }.enterRecover n 5 true).portOff n) :=
  (act_live s _ hs).trans (congrArg _ ((if_pos hn).trans (if_pos ⟨hask, hquiet⟩)))

theorem exec_gateRefused_port (hn : n < 13) (hask : s.clk.portAsk.contains n = true) :
    exec (.gateRefused n) s =
      .next (((s.gatePort n false).wrBit Fd.CLK_GATE_PORT_REF n true).raise 9 1 n) :=
  (act_live s _ hs).trans (congrArg _ ((if_pos hn).trans (if_pos hask)))

/-- Units 16 to 47 are the channel groups. -/
theorem exec_quiesceAck_cg (hask : s.clk.cgAsk.contains g = true) (hquiet : s.cgQuiet g = true) :
    exec (.quiesceAck (g + 16)) s = .next { s with clk := { s.clk with
      cgAsk := s.clk.cgAsk.filter (· != g)
      cgClosed := addTo s.clk.cgClosed g } } := by
  have notPort : ¬ g + 16 < 13 := by omega
  have asked : 16 ≤ g + 16 ∧ s.clk.cgAsk.contains g = true ∧ s.cgQuiet g = true := ⟨by omega, hask, hquiet⟩
  refine (act_live s _ hs).trans (congrArg _ ((if_neg notPort).trans ?_))
  rw [Nat.add_sub_cancel]
  exact if_pos asked

theorem exec_gateRefused_cg (hask : s.clk.cgAsk.contains g = true) : exec (.gateRefused (g + 16)) s =
    .next (((s.gateCg g false).wrBit Fd.CLK_GATE_CG_REF_REF g true).raise 9 1 (g + 16)) := by
  have notPort : ¬ g + 16 < 13 := by omega
  have asked : 16 ≤ g + 16 ∧ s.clk.cgAsk.contains g = true := ⟨by omega, hask⟩
  refine (act_live s _ hs).trans (congrArg _ ((if_neg notPort).trans ?_))
  rw [Nat.add_sub_cancel]
  exact if_pos asked

end

end Sys2Proof.Machine

section
open Sys2Proof Sys2Proof.Machine

/-- Settles O10, command by command. -/
theorem clockGates : Obligations.ClockGates := by
  intro s hs
  refine ⟨?portAsk, ?portWithdraw, ?portOpen, ?cgAsk, ?cgClear, ?cgOpen, ?portAck, ?cgAck, ?portRefused, ?cgRefused,
    ?reached⟩
  case portAsk => exact fun n hn h => by rw [exec_clkGatePort hs true hn, gatePort_asks (by simpa using h)]
  case portWithdraw => exact fun n hn h => by rw [exec_clkGatePort hs false hn, gatePort_withdraws h]
  case portOpen => exact fun n hn h => by rw [exec_clkGatePort hs false hn, gatePort_opens h]
  case cgAsk => exact fun g hg h => by rw [exec_clkGateCg hs true hg, gateCg_asks h]
  case cgClear => exact fun g hg hclosed hask => by rw [exec_clkGateCg hs false hg, gateCg_clears hclosed hask]
  case cgOpen => exact fun g hg h => by rw [exec_clkGateCg hs false hg, gateCg_opens h]
  case portAck => exact fun n hn => exec_quiesceAck_port hs hn
  case cgAck => exact fun g => exec_quiesceAck_cg hs
  case portRefused => exact fun n hn => exec_gateRefused_port hs hn
  case cgRefused => exact fun g => exec_gateRefused_cg hs
  case reached =>
    exact fun g hclosed hfence hwaits =>
      (act_live s _ hs).trans (congrArg _ (if_pos ⟨hclosed, by rw [hfence]; rfl, hwaits⟩))

end

/-! ### The boot's steps (R113, R116, R121, R125, R131–R133, R145, R378) -/

namespace Sys2Proof.Machine

variable {s : State} {k r svn : Nat} {keys : Bool × Bool} {l : List Nat}

/-! What verification finds of a firmware slot (R131–R133). -/

section
variable {key0 key1 : Bool}

theorem fwVerdict_old (h : svn < s.svnMin 24) : s.fwVerdict keys svn = .refused 4 [] := if_pos h

/-- A signature under the vendor key in use. -/
theorem fwVerdict_signed (hsvn : s.svnMin 24 ≤ svn) (h : (if s.revoke0 then key1 else key0) = true) :
    s.fwVerdict (key0, key1) svn = .accepted [] := by
  simp [State.fwVerdict, Nat.not_lt.2 hsvn, h]

/-- Without one only an open part runs the firmware, and reports that it does. -/
theorem fwVerdict_unsigned (hsvn : s.svnMin 24 ≤ svn) (h : (if s.revoke0 then key1 else key0) = false) :
    s.fwVerdict (key0, key1) svn = if s.on Fd.OTP_LC_SECBOOT then .refused 5 [] else .accepted [5] := by
  simp [State.fwVerdict, Nat.not_lt.2 hsvn, h]

end

/-! The state that a slot's choice or verification leaves. -/

/-- The faulty firmware slots reported and shut out, and the winner of the others chosen (R125, R145). -/
def State.fwChosen (s : State) : State :=
  let x := s.wearBoot.pairFaults 0 s.boot.fwBad
  { x.1 with boot := { x.1.boot with fwBad := x.2, fwSel := x.1.winner 0 x.2 } }

/-- The same of the image slots. -/
def State.imgChosen (s : State) : State :=
  let x := s.pairFaults 1 s.boot.imgBad
  { x.1 with boot := { x.1.boot with imgBad := x.2, imgSel := x.1.winner 1 x.2 } }

theorem fwSel_fwChosen : s.fwChosen.boot.fwSel =
    (s.wearBoot.pairFaults 0 s.boot.fwBad).1.winner 0 (s.wearBoot.pairFaults 0 s.boot.fwBad).2 := by
  rw [State.fwChosen]

theorem imgSel_imgChosen : s.imgChosen.boot.imgSel =
    (s.pairFaults 1 s.boot.imgBad).1.winner 1 (s.pairFaults 1 s.boot.imgBad).2 := by
  rw [State.imgChosen]

/-- A slot refused for `r`, the checks `l` passed over before, is reported and shut out (R133, R145). -/
def State.slotRefused (s : State) (k r : Nat) (l : List Nat) : State :=
  ((s.bypassed k l).slotInvalid k r false).shutOut k true

/-- House firmware is about to run from slot `k`. -/
def State.fwShown (s : State) (k : Nat) (keys : Bool × Bool) (svn : Nat) (l : List Nat) : State :=
  let u := s.bypassed k l
  let v := { u with boot := { u.boot with fwBypass := !l.isEmpty, fwSig := (keys, svn) } }.showBypass
  (v.wr Fd.NVM_BOOT_STAT_FW_SLOT k).wr Fd.NVM_FW_SVN_ALL svn

/-- Image slot `k` is accepted. -/
def State.imgShown (s : State) (k : Nat) (l : List Nat) : State :=
  let u := s.bypassed (2 + k) l
  { u with boot := { u.boot with imgBypass := !l.isEmpty } }.showBypass

/-- The calibration slot `w` is chosen and the soft-repair list read (R116, R379). -/
def State.recordsRead (s : State) (w : Nat) : State :=
  { s with
    boot := { s.boot with cal := some w }
    ecc := { s.ecc with soft := s.softList } }.wr Fd.NVM_BOOT_STAT_CAL_SLOT w

/-- The slots from 4 to 12 that are not valid are reported (R145). -/
def State.recordsReported (s : State) : State :=
  [4, 5, 6, 7, 8, 9, 10, 11, 12].foldl (fun (v : State) k => if v.slotGood k then v else v.raise 34 1 k) s

theorem recordsReported_eq : s.recordsReported =
    (List.range 9).foldl (fun (s : State) i => if s.slotGood (4 + i) then s else s.raise 34 1 (4 + i)) s := by
  have slots : [4, 5, 6, 7, 8, 9, 10, 11, 12] = (List.range 9).map (4 + ·) := by decide
  rw [State.recordsReported, slots, List.foldl_map]

/-! What the boot's commands do to a part that is not held in reset. -/

section
variable (hs : s.inReset = false)
include hs

theorem exec_romStart (hmode : s.mode = mBOOT) (hready : s.on Fd.CLK_STAT_OSC_READY = true)
    (hhold : s.on Fd.CLK_STAT_HOLD = false) :
    exec .romStart s = .next { s with boot := { s.boot with rom := true } } :=
  (act_live s _ hs).trans (congrArg _ (if_pos ⟨hmode, hready, by rw [hhold]; rfl⟩))

variable (hboot : s.booting = true)
include hboot

/-- The ROM judges the flash device once. -/
theorem exec_sfdpRead (ok : Bool) (hrom : s.boot.rom = true) (hsfdp : s.boot.sfdp = false) : exec (.sfdpRead ok) s =
    .next (if ok then { s with boot := { s.boot with sfdp := true } } else s.bootHalt 3) := by
  have reads : ¬ ((!s.booting) = true ∨ (!s.boot.rom) = true ∨ s.boot.sfdp = true) := by simp [hboot, hrom, hsfdp]
  exact (act_live s _ hs).trans (congrArg _ (if_neg reads))

theorem exec_slotSelect_fw (hsfdp : s.boot.sfdp = true) (hrun : s.boot.fwRun = false) : exec (.slotSelect 0) s =
    .next (if s.fwChosen.boot.fwSel.isNone then s.fwChosen.bootHalt 1 else s.fwChosen) := by
  have boots : ¬ (!s.booting) = true := by simp [hboot]
  have selects : 0 = 0 ∧ s.boot.sfdp = true ∧ (!s.boot.fwRun) = true := ⟨rfl, hsfdp, by rw [hrun]; rfl⟩
  exact (act_live s _ hs).trans (congrArg _ ((if_neg boots).trans (if_pos selects)))

theorem exec_slotSelect_img (hrun : s.boot.fwRun = true) (himg : s.boot.img = none) : exec (.slotSelect 1) s =
    .next (if s.imgChosen.boot.imgSel.isNone then s.imgChosen.bootHalt 2 else s.imgChosen) := by
  have boots : ¬ (!s.booting) = true := by simp [hboot]
  have notFw : ¬ (1 = 0 ∧ s.boot.sfdp = true ∧ (!s.boot.fwRun) = true) := by simp
  have selects : 1 = 1 ∧ s.boot.fwRun = true ∧ s.boot.img.isNone = true := ⟨rfl, hrun, by rw [himg]; rfl⟩
  exact (act_live s _ hs).trans (congrArg _ ((if_neg boots).trans ((if_neg notFw).trans (if_pos selects))))

theorem exec_firmwareVerified_refused (hrun : s.boot.fwRun = false) (hsel : s.boot.fwSel = some k)
    (hv : s.fwVerdict keys svn = .refused r l) : exec (.firmwareVerified keys svn) s =
      .next { s.slotRefused k r l with boot := { (s.slotRefused k r l).boot with fwSel := none } } := by
  have verifies : ¬ ((!s.booting) = true ∨ s.boot.fwRun = true) := by simp [hboot, hrun]
  refine (act_live s _ hs).trans ?_
  rw [if_neg verifies, hsel, hv]
  rfl

theorem exec_firmwareVerified_accepted (hrun : s.boot.fwRun = false) (hsel : s.boot.fwSel = some k)
    (hv : s.fwVerdict keys svn = .accepted l) : exec (.firmwareVerified keys svn) s =
      .next (State.loadPersist { s.fwShown k keys svn l with
        boot := { (s.fwShown k keys svn l).boot with fwRun := true } }) := by
  have verifies : ¬ ((!s.booting) = true ∨ s.boot.fwRun = true) := by simp [hboot, hrun]
  refine (act_live s _ hs).trans ?_
  rw [if_neg verifies, hsel, hv]
  rfl

theorem exec_imageVerified_refused (himg : s.boot.img = none) (hsel : s.boot.imgSel = some k)
    (hv : s.imgVerdict (s.slotPayload (2 + k)) = .refused r l) : exec .imageVerified s =
      .next { s.slotRefused (2 + k) r l with boot := { (s.slotRefused (2 + k) r l).boot with imgSel := none } } := by
  have verifies : ¬ ((!s.booting) = true ∨ s.boot.img.isSome = true) := by simp [hboot, himg]
  refine (act_live s _ hs).trans ?_
  rw [if_neg verifies, hsel]
  simp only [hv]
  rfl

theorem exec_imageVerified_accepted {x : Sect} (himg : s.boot.img = none) (hsel : s.boot.imgSel = some k)
    (hv : s.imgVerdict (s.slotPayload (2 + k)) = .accepted l)
    (hx : nextSect (imgSects (s.slotPayload (2 + k))) 1 = some x) : exec .imageVerified s =
      .next { s.imgShown k l with
        boot := { (s.imgShown k l).boot with img := some k, sect := x.typ, record := 0, poll := false } } := by
  have verifies : ¬ ((!s.booting) = true ∨ s.boot.img.isSome = true) := by simp [hboot, himg]
  refine (act_live s _ hs).trans ?_
  rw [if_neg verifies, hsel]
  simp only [hv, hx]
  rfl

theorem exec_calRecordRead (himg : s.boot.img ≠ none) (hcal : s.boot.cal = none) : exec .calRecordRead s =
    .next (s.recordsRead ((s.winner 2).getD 2)).recordsReported := by
  have reads : ¬ ((!s.booting) = true ∨ s.boot.img.isNone = true ∨ s.boot.cal.isSome = true) := by
    simp [hboot, himg, hcal]
  rw [recordsReported_eq]
  exact (act_live s _ hs).trans (congrArg _ (if_neg reads))

theorem exec_repairSwitchIn (hused : s.boot.calUsed = false) (hcal : s.boot.cal = some k) :
    let u := if k < 2 then s.applyRepairs.applyCal k else s.applyRepairs
    exec .repairSwitchIn s = .next { u with boot := { u.boot with calUsed := true } } := by
  have switches : ¬ ((!s.booting) = true ∨ s.boot.calUsed = true) := by simp [hboot, hused]
  refine (act_live s _ hs).trans ?_
  rw [if_neg switches, hcal]

end

end Sys2Proof.Machine

section
open Sys2Proof Sys2Proof.Machine

/-- Settles O16, in the order of the boot. -/
theorem bootSteps : Obligations.BootSteps := by
  refine fun s hs => ⟨exec_romStart hs, fun hboot => ⟨?sfdp, ?fwSelect, ?imgSelect, ?fwRefused, ?fwAccepted,
    ?imgRefused, ?imgAccepted, ?records, ?calibrated, ?uncalibrated⟩, ?verdicts⟩
  case sfdp =>
    exact fun hrom hsfdp => ⟨exec_sfdpRead hs hboot true hrom hsfdp, exec_sfdpRead hs hboot false hrom hsfdp⟩
  case fwSelect =>
    intro hsfdp hrun x u
    have selects := exec_slotSelect_fw hs hboot hsfdp hrun
    rw [fwSel_fwChosen] at selects
    refine ⟨fun hwin => ?_, fun hnone => ?_⟩
    · rw [selects, if_neg (mt Option.isNone_iff_eq_none.1 hwin)]
      rfl
    · rw [selects, if_pos (Option.isNone_iff_eq_none.2 hnone)]
      rfl
  case imgSelect =>
    intro hrun himg x u
    have selects := exec_slotSelect_img hs hboot hrun himg
    rw [imgSel_imgChosen] at selects
    refine ⟨fun hwin => ?_, fun hnone => ?_⟩
    · rw [selects, if_neg (mt Option.isNone_iff_eq_none.1 hwin)]
      rfl
    · rw [selects, if_pos (Option.isNone_iff_eq_none.2 hnone)]
      rfl
  case fwRefused => exact fun k keys svn r l => exec_firmwareVerified_refused hs hboot
  case fwAccepted => exact fun k keys svn l => exec_firmwareVerified_accepted hs hboot
  case imgRefused => exact fun k r l => exec_imageVerified_refused hs hboot
  case imgAccepted => exact fun k l x => exec_imageVerified_accepted hs hboot
  case records => exact exec_calRecordRead hs hboot
  case calibrated =>
    intro k hused hcal hk
    have switches := exec_repairSwitchIn hs hboot hused hcal
    rwa [if_pos hk] at switches
  case uncalibrated =>
    intro hused hcal
    have switches := exec_repairSwitchIn hs hboot hused hcal
    rwa [if_neg (by decide)] at switches
  case verdicts =>
    exact fun key0 key1 svn => ⟨fwVerdict_old, fwVerdict_signed, fwVerdict_unsigned⟩

end

/-! ### The application of an image (R136–R139, R148, R596) -/

namespace Sys2Proof.Machine

variable {s : State} {img : List Byte} {x : Sect} {a v w m i : Nat}

/-! A record's write. -/

theorem recordPut_taken (htaken : (s.regWrite whoFw a w).2.ignored = false) (hreg : (regRow a).isSome = true) :
    s.recordPut a w = (s.regWrite whoFw a w).1.recordPassed := by
  have taken : ¬ ((s.regWrite whoFw a w).2.ignored = true ∨ (regRow a).isNone = true) := by
    simp [htaken, ← Option.isSome_iff_ne_none, hreg]
  exact congrArg State.recordPassed (if_neg taken)

theorem recordPut_refused (h : (s.regWrite whoFw a w).2.ignored = true ∨ (regRow a).isSome = false) :
    s.recordPut a w = ((s.regWrite whoFw a w).1.raise 37 1 a).recordPassed := by
  rw [Option.isSome_eq_false_iff] at h
  exact congrArg State.recordPassed (if_pos h)

/-! A POLL record's read. -/

section
variable (hreg : (regRow a).isSome = true)
include hreg

theorem pollRead_named : s.pollRead a v m =
    if BitVec.ofNat 32 (s.readReg a).2 &&& BitVec.ofNat 32 m = BitVec.ofNat 32 v then (s.readReg a).1.recordPassed
    else { (s.readReg a).1 with boot := { (s.readReg a).1.boot with poll := true } } :=
  if_neg (by simp [← Option.isSome_iff_ne_none, hreg])

theorem pollRead_matches (h : BitVec.ofNat 32 (s.readReg a).2 &&& BitVec.ofNat 32 m = BitVec.ofNat 32 v) :
    s.pollRead a v m = (s.readReg a).1.recordPassed := (pollRead_named hreg).trans (if_pos h)

theorem pollRead_waits (h : BitVec.ofNat 32 (s.readReg a).2 &&& BitVec.ofNat 32 m ≠ BitVec.ofNat 32 v) :
    s.pollRead a v m = { (s.readReg a).1 with boot := { (s.readReg a).1.boot with poll := true } } :=
  (pollRead_named hreg).trans (if_neg h)

end

theorem pollRead_unnamed (h : (regRow a).isSome = false) : s.pollRead a v m = (s.raise 37 1 a).recordPassed :=
  if_pos (Option.isSome_eq_false_iff.1 h)

/-! The end of a section. -/

/-- What a section that passes its check leads to: the persisted role after PORTS, enforcement after REGULATION. -/
def State.sectPassed (s : State) (img : List Byte) (typ : Nat) : State :=
  let u := if typ = 6 then s.persistedRole img else s
  if typ = 7 then (u.wr Fd.REG_CTL_ENFORCE 1).showG else u

theorem sectPassed_ports : s.sectPassed img 6 = s.persistedRole img := (rfl)

theorem sectPassed_regulation : s.sectPassed img 7 = (s.wr Fd.REG_CTL_ENFORCE 1).showG := (rfl)

theorem sectPassed_other {typ : Nat} (h6 : typ ≠ 6) (h7 : typ ≠ 7) : s.sectPassed img typ = s := by
  rw [State.sectPassed, if_neg h6, if_neg h7]

/-- The section's blocks are reset, its SECT_FAIL bit is set and source 36 raised (R138). -/
def State.sectFailed (s : State) (x : Sect) (i : Nat) : State :=
  ((s.resetSect x.typ).wrBit Fd.NVM_BOOT_STAT_SECT_FAIL (x.typ - 1) true).raise 36 1 (x.typ + i % 2 ^ 24 * 256)

/-- Every section's blocks return to their reset values (R138). -/
def State.sectsReset (s : State) : State :=
  [1, 2, 3, 4, 5, 6, 7, 8].foldl (fun (v : State) k => v.resetSect k) s

theorem sectsReset_eq : s.sectsReset = (List.range 8).foldl (fun (s : State) i => s.resetSect (i + 1)) s := by
  have sects : [1, 2, 3, 4, 5, 6, 7, 8] = (List.range 8).map (· + 1) := by decide
  rw [State.sectsReset, sects, List.foldl_map]

/-- The image is dropped and its slot shut out (R138). -/
def State.imageDropped (s : State) : State :=
  { s with boot := { s.boot with
    imgBad := s.boot.imgBad ++ s.boot.img.toList
    img := none
    imgSel := none
    imgBypass := false
    sect := 0
    record := 0
    poll := false } }.showBypass

theorem sectFail_optional (h : bit x.flags 0 = true ∨ x.typ = 7) :
    s.sectFail img x i = (s.sectFailed x i).sectNext img x := if_pos h

theorem sectFail_required (hflag : bit x.flags 0 = false) (htyp : x.typ ≠ 7) :
    s.sectFail img x i = (s.sectFailed x i).sectsReset.imageDropped := by
  rw [sectsReset_eq]
  exact if_neg (not_or.2 ⟨ne_true_of_eq_false hflag, htyp⟩)

/-! What the commands of the application do to a part that is not held in reset. -/

section
variable (hs : s.inReset = false)
include hs

theorem exec_imageRecordWrite (h : s.recordOf 1 = some (a, v, m)) :
    exec .imageRecordWrite s = .next (s.recordPut a v) :=
  (act_live s _ hs).trans (by rw [h])

theorem exec_imageRecordMasked (h : s.recordOf 2 = some (a, v, m)) :
    exec .imageRecordMasked s = .next (s.recordPut a (maskedWord (s.look a) v m)) :=
  (act_live s _ hs).trans (by rw [h])

theorem exec_imageRecordPoll (h : s.recordOf 3 = some (a, v, m)) :
    exec .imageRecordPoll s = .next (s.pollRead a v m) :=
  (act_live s _ hs).trans (by rw [h])

section
variable (hpoll : s.polling = some (img, x, a, v, m))
include hpoll

theorem exec_pollReread : exec .pollReread s = .next (s.pollRead a v m) :=
  (act_live s _ hs).trans (by rw [hpoll])

theorem exec_pollTimeout : exec .pollTimeout s = .next (s.sectFail img x s.boot.record) :=
  (act_live s _ hs).trans (by rw [hpoll])

end

variable (hx : s.section? = some (img, x)) (hpoll : s.boot.poll = false) (hdone : x.nrec ≤ s.boot.record)
include hx hpoll hdone

/-- After its last record a section is checked (R138). -/
theorem exec_sectionCheck : exec .sectionCheck s =
    .next (if s.sectCheck x.typ then (s.sectPassed img x.typ).sectNext img x
      else (if x.typ = 7 then s.admitFail else s).sectFail img x 0xFFFFFF) := by
  have applied : ¬ (s.boot.poll = true ∨ s.boot.record < x.nrec) := by simp [hpoll, hdone]
  refine (act_live s _ hs).trans ?_
  rw [hx]
  exact congrArg _ (if_neg applied)

theorem exec_sectionCheck_passes (h : s.sectCheck x.typ = true) :
    exec .sectionCheck s = .next ((s.sectPassed img x.typ).sectNext img x) :=
  (exec_sectionCheck hs hx hpoll hdone).trans (congrArg _ (if_pos h))

theorem exec_sectionCheck_fails (h : s.sectCheck x.typ = false) :
    exec .sectionCheck s = .next ((if x.typ = 7 then s.admitFail else s).sectFail img x 0xFFFFFF) :=
  (exec_sectionCheck hs hx hpoll hdone).trans (congrArg _ (if_neg (ne_true_of_eq_false h)))

end

end Sys2Proof.Machine

section
open Sys2Proof Sys2Proof.Machine

/-- Settles O17: the records, the POLL, the checks at a section's end and its failure. -/
theorem imageApplication : Obligations.ImageApplication := by
  refine fun s hs => ⟨fun a v m => exec_imageRecordWrite hs, fun a v m => exec_imageRecordMasked hs,
    fun a w => ⟨recordPut_taken, recordPut_refused⟩,
    fun a v m => ⟨pollRead_matches, pollRead_waits, pollRead_unnamed⟩, fun a v m => exec_imageRecordPoll hs,
    fun img x a v m h => ⟨exec_pollReread hs h, exec_pollTimeout hs h⟩,
    fun img x hx hpoll hdone => ⟨?passes, ?ports, ?regulation, ?fails, ?unadmitted⟩,
    fun img x i => ⟨sectFail_optional, sectFail_required⟩⟩
  case passes =>
    intro hok h6 h7
    rw [exec_sectionCheck_passes hs hx hpoll hdone hok, sectPassed_other h6 h7]
  case ports =>
    intro hok h6
    rw [exec_sectionCheck_passes hs hx hpoll hdone hok, h6, sectPassed_ports]
  case regulation =>
    intro hok h7
    rw [exec_sectionCheck_passes hs hx hpoll hdone hok, h7, sectPassed_regulation]
  case fails =>
    intro hbad h7
    rw [exec_sectionCheck_fails hs hx hpoll hdone hbad, if_neg h7]
  case unadmitted =>
    intro hbad h7
    rw [exec_sectionCheck_fails hs hx hpoll hdone hbad, if_pos h7]

end

/-! ### Record writes to flash (R126, R128–R130, R562) -/

namespace Sys2Proof.Machine

variable {s : State} {w : RecWrite} {cert : List Byte} {pair a : Nat}

/-! A sector's erase. -/

/-- Entries dropped by key read as the default, and every other as before. -/
theorem get_filter_key {α : Type} (d : Nat → α) (p : Nat → Bool) (t : Tab α) (k : Nat) :
    Tab.get d (t.filter fun e => p e.1) k = if p k then Tab.get d t k else d k := by
  induction t with
  | nil => exact (ite_self _).symm
  | cons e t ih =>
    obtain ⟨j, v⟩ := e
    by_cases hj : j = k
    · subst hj
      cases hp : p j <;> simp [hp, Tab.get, ih]
    · cases hp : p j <;> simp [hp, Tab.get, ih, hj]

theorem flash_eraseSector (s : State) (a i : Nat) :
    (s.eraseSector a).flash i = if a ≤ i ∧ i < a + 4096 then 0xFF else s.flash i := by
  have outside : (!(decide (a ≤ i) && decide (i < a + 4096))) = true ↔ ¬ (a ≤ i ∧ i < a + 4096) := by
    rw [Bool.not_eq_true', ← Bool.decide_and, decide_eq_false_iff_not]
  refine (get_filter_key flashByte (fun j => !(decide (a ≤ j) && decide (j < a + 4096))) s.nvm.flash i).trans ?_
  simp only [outside, ite_not]
  rfl

/-- The sector at `a` of the record write `w` is erased, and `rest` remain. -/
def State.sectorErased (s : State) (w : RecWrite) (a : Nat) (rest : List Nat) : State :=
  { s.eraseSector a with nvm := { (s.eraseSector a).nvm with
    wr := if rest.isEmpty && w.pre then none else some { w with sectors := rest } } }

theorem flash_sectorErased (rest : List Nat) (i : Nat) :
    (s.sectorErased w a rest).flash i = if a ≤ i ∧ i < a + 4096 then 0xFF else s.flash i := flash_eraseSector s a i

/-! What the commands of record writes do to a part that is not held in reset. -/

section
variable (hs : s.inReset = false)
include hs

section
variable (hrun : s.boot.fwRun = true) (hmc : s.seq.mcRestart = false) (hcore : s.coreOff = false)
  (htrip : s.tripB = false) (hwr : s.nvm.wr = none) (hupd : s.nvm.upd = none)
include hrun hmc hcore htrip hwr hupd

/-- House firmware that runs with nothing being written writes a record that is due. -/
theorem exec_recordWrite (hdue : s.recordDue pair = true) : exec (.recordWrite pair cert) s = .next (
    if pair = 5 then
      (if slotSize 10 - 64 < cert.length then s
      else s.recordStart 10 (if (s.slotFault 10).isNone then (s.slotWord 10 8 + 1) % 2 ^ 32 else 1)
        (s.payloadOf pair cert))
    else if s.stopped pair then
      { s.paid pair with nvm := { (s.paid pair).nvm with
        ram := Tab.put (fun _ => []) s.nvm.ram pair (s.payloadOf pair cert)
        stored := if pair = 4 then some (persistP (s.payloadOf pair cert), false) else s.nvm.stored } }
    else (s.paid pair).recordStart (s.loser pair).1 (s.loser pair).2 (s.payloadOf pair cert)) := by
  have writes : ¬ ((!s.boot.fwRun) = true ∨ s.seq.mcRestart = true ∨ s.coreOff = true ∨ s.tripB = true ∨
      s.nvm.wr.isSome = true ∨ s.nvm.upd.isSome = true ∨ (!s.recordDue pair) = true) := by
    simp [hrun, hmc, hcore, htrip, hwr, hupd, hdue]
  exact (act_live s _ hs).trans (congrArg _ (if_neg writes))

theorem exec_recordWrite_flash (hdue : s.recordDue pair = true) (hpair : pair ≠ 5) (hgoes : s.stopped pair = false) :
    exec (.recordWrite pair cert) s =
      .next ((s.paid pair).recordStart (s.loser pair).1 (s.loser pair).2 (s.payloadOf pair cert)) := by
  rw [exec_recordWrite hs hrun hmc hcore htrip hwr hupd hdue, if_neg hpair, if_neg (ne_true_of_eq_false hgoes)]

/-- A stopped pair's record stays in RAM (R130). -/
theorem exec_recordWrite_ram (hdue : s.recordDue pair = true) (hpair : pair ≠ 5) (hstop : s.stopped pair = true) :
    exec (.recordWrite pair cert) s = .next { s.paid pair with nvm := { (s.paid pair).nvm with
      ram := Tab.put (fun _ => []) s.nvm.ram pair (s.payloadOf pair cert)
      stored := if pair = 4 then some (persistP (s.payloadOf pair cert), false) else s.nvm.stored } } := by
  rw [exec_recordWrite hs hrun hmc hcore htrip hwr hupd hdue, if_neg hpair, if_pos hstop]

/-- In lifecycle state 2 the certificate slot takes a payload that fits it (R130). -/
theorem exec_recordWrite_certificate (hlife : s.lifecycle = 2) (hfits : cert.length ≤ 4032) :
    exec (.recordWrite 5 cert) s = .next
      (s.recordStart 10 (if (s.slotFault 10).isNone then (s.slotWord 10 8 + 1) % 2 ^ 32 else 1) cert) := by
  have due : s.recordDue 5 = true := beq_iff_eq.2 hlife
  have fits : ¬ slotSize 10 - 64 < cert.length := by
    have size : slotSize 10 = 0x10000 := rfl
    omega
  rw [exec_recordWrite hs hrun hmc hcore htrip hwr hupd due, if_pos rfl, if_neg fits]
  rfl

end

theorem exec_sectorEraseComplete {rest : List Nat} (hwr : s.nvm.wr = some w) (hsec : w.sectors = a :: rest) :
    exec .sectorEraseComplete s = .next (s.sectorErased w a rest) := by
  refine (act_live s _ hs).trans ?_
  rw [hwr]
  dsimp only
  rw [hsec]
  rfl

section
variable {bs : List Byte} {rest : List (Nat × List Byte)} {flips : List (Nat × Nat)} {keys : Bool × Bool} {svn : Nat}

theorem exec_pageProgramComplete_record (hwr : s.nvm.wr = some w) (hsec : w.sectors = [])
    (hpages : w.pages = (a, bs) :: rest) : exec (.pageProgramComplete flips keys svn) s = .next (
      let u := s.program a (flipped flips bs)
      if rest.isEmpty then u.recordEnd w
      else { u with nvm := { u.nvm with wr := some { w with pages := rest } } }) := by
  refine (act_live s _ hs).trans ?_
  rw [hwr]
  dsimp only
  rw [hsec, hpages]

theorem exec_pageProgramComplete_update {u : Session} (hwr : s.nvm.wr = none) (hupd : s.nvm.upd = some u) :
    exec (.pageProgramComplete flips keys svn) s = .next (s.updPage u flips keys svn) := by
  refine (act_live s _ hs).trans ?_
  rw [hwr]
  dsimp only
  rw [hupd]

end

theorem exec_journalHalfMove {h : Nat} (hhalf : s.jHalf = some h) (hfull : 2046 ≤ s.journal.length)
    (hgoes : s.stopped 5 = false) (hrun : s.boot.fwRun = true) : exec .journalHalfMove s = .next (s.halfMove h) := by
  refine (act_live s _ hs).trans ?_
  rw [hhalf]
  exact congrArg _ (if_pos ⟨hfull, by rw [hgoes]; rfl, hrun⟩)

end

end Sys2Proof.Machine

section
open Sys2Proof Sys2Proof.Machine

/-- Settles O18, command by command. -/
theorem flashRecordCommands : Obligations.FlashRecordCommands := by
  refine fun s hs => ⟨?owed, fun cert => exec_recordWrite_certificate hs, ?erase, ?page,
    fun u flips keys svn => exec_pageProgramComplete_update hs, fun bs a i => flash_program s a bs i,
    fun h => exec_journalHalfMove hs⟩
  case owed =>
    exact fun pair cert hrun hmc hcore htrip hwr hupd hdue hpair =>
      ⟨exec_recordWrite_flash hs hrun hmc hcore htrip hwr hupd hdue hpair,
        exec_recordWrite_ram hs hrun hmc hcore htrip hwr hupd hdue hpair⟩
  case erase =>
    intro w a rest hwr hsec
    refine ⟨_, exec_sectorEraseComplete hs hwr hsec, ?inside, ?outside, ?record, ?ahead, rfl, rfl, rfl, rfl⟩
    case inside => exact fun i hlo hhi => (flash_sectorErased rest i).trans (if_pos ⟨hlo, hhi⟩)
    case outside => exact fun i hout => (flash_sectorErased rest i).trans (if_neg (by omega))
    case record => exact fun hpre => by simp [State.sectorErased, hpre]
    case ahead => exact fun hpre hlast => by simp [State.sectorErased, hpre, hlast]
  case page =>
    intro w a bs rest flips keys svn hwr hsec hpages
    rw [exec_pageProgramComplete_record hs hwr hsec hpages]
    exact ⟨fun hmore => congrArg _ (if_neg (mt List.isEmpty_iff.1 hmore)),
      fun hlast => congrArg _ (if_pos (List.isEmpty_iff.2 hlast))⟩

end

/-! ### Update sessions (R141, R142, R145) -/

namespace Sys2Proof.Machine

variable {s : State} {u : Session} {src target len d w : Nat}

theorem upd_wr {f : Fld} {v : Nat} {x : Option Session} (h : s.nvm.upd = x) : (s.wr f v).nvm.upd = x := by rwa [wr_nvm]

theorem setUpd_wr (f : Fld) (v : Nat) (x : Option Session) :
    (s.wr f v).setUpd x = { s.wr f v with nvm := { s.nvm with upd := x } } := by rw [State.setUpd, wr_nvm]

/-! BEGIN from an interface. -/

theorem rd_updResult (r : Nat) : (s.updResult r).rd Fd.NVM_UPD_CTL_RESULT = r % 16 := rd_wr_same s r (by decide)

/-- The session that a BEGIN opens: on the losing slot of its pair, with the next SEQ. -/
def State.sessionFor (s : State) (src pair len : Nat) : Session :=
  let ks := s.loser pair (if pair = 0 then s.boot.fwBad else s.boot.imgBad)
  { src, slot := ks.1, seq := ks.2, erases := 0, len, off := 0, buf := [], sectors := [], begun := false, fin := false,
    hdr := false }

theorem updBeginGo_forbidden (hserv : s.mode ≠ mSERVICE) (hdeg : s.mode ≠ mDEGRADED) (hboot : s.mode ≠ mBOOT) :
    s.updBeginGo src = s.updResult 7 :=
  if_pos (by simp [hserv, hdeg, hboot])

section
variable (hmode : s.mode = mSERVICE ∨ s.mode = mDEGRADED)
include hmode

/-- SERVICE and DEGRADED take a BEGIN of any interface. -/
theorem updBegin_permitted : ¬ (!decide (s.mode = mSERVICE ∨ s.mode = mDEGRADED ∨
    s.mode = mBOOT ∧ s.boot.halt = true ∧ src = 15)) = true := by
  rcases hmode with h | h <;> simp [h]

theorem updBeginGo_busy (hupd : s.nvm.upd ≠ none) : s.updBeginGo src = s.updResult 3 :=
  (if_neg (updBegin_permitted hmode)).trans (if_pos (by simp [Option.isSome_iff_ne_none.2 hupd]))

variable (hupd : s.nvm.upd = none) (hwr : s.nvm.wr = none) (htgt : s.rd Fd.NVM_UPD_CTL_TARGET = target)
  (hlen : s.rd Fd.NVM_UPD_LEN_LEN = len)
include hupd hwr htgt hlen

/-- With no session and no record write the length decides, then whether the pair is stopped. -/
theorem updBeginGo_idle : s.updBeginGo src =
    if len = 0 ∨ len % 4 ≠ 0 ∨ slotSize (2 * (target - 1)) - 64 < len then s.updResult 5
    else if s.stopped (target - 1) then s.updResult 8 else s.updOpen (s.sessionFor src (target - 1) len) := by
  subst htgt hlen
  refine (if_neg (updBegin_permitted hmode)).trans ((if_neg (by simp [hupd, hwr])).trans ?_)
  rw [hwr]
  rfl

theorem updBeginGo_unaligned (h : len % 4 ≠ 0) : s.updBeginGo src = s.updResult 5 :=
  (updBeginGo_idle hmode hupd hwr htgt hlen).trans (if_pos (.inr (.inl h)))

variable (hpos : len ≠ 0) (haligned : len % 4 = 0) (hfits : len ≤ slotSize (2 * (target - 1)) - 64)
include hpos haligned hfits

theorem updBeginGo_fits : s.updBeginGo src =
    if s.stopped (target - 1) then s.updResult 8 else s.updOpen (s.sessionFor src (target - 1) len) :=
  (updBeginGo_idle hmode hupd hwr htgt hlen).trans (if_neg (by omega))

theorem updBeginGo_stopped (h : s.stopped (target - 1) = true) : s.updBeginGo src = s.updResult 8 :=
  (updBeginGo_fits hmode hupd hwr htgt hlen hpos haligned hfits).trans (if_pos h)

theorem updBeginGo_opens (h : s.stopped (target - 1) = false) :
    s.updBeginGo src = s.updOpen (s.sessionFor src (target - 1) len) :=
  (updBeginGo_fits hmode hupd hwr htgt hlen hpos haligned hfits).trans (if_neg (ne_true_of_eq_false h))

end

/-- LEN, OP and TARGET of a BEGIN are written. -/
def State.updAsked (s : State) (target len : Nat) : State :=
  ((s.wr Fd.NVM_UPD_LEN_LEN len).wr Fd.NVM_UPD_CTL_OP 1).wr Fd.NVM_UPD_CTL_TARGET target

@[simp] theorem nvm_updAsked : (s.updAsked target len).nvm = s.nvm := by
  rw [State.updAsked, wr_nvm, wr_nvm, wr_nvm]

theorem updAsked_noSession (h : s.nvm.upd = none) : (s.updAsked target len).nvm.upd = none := by rwa [nvm_updAsked]

theorem updAsked_noRecord (h : s.nvm.wr = none) : (s.updAsked target len).nvm.wr = none := by rwa [nvm_updAsked]

theorem updBegin_idle (hupd : s.nvm.upd = none) : s.updBegin src target len = (s.updAsked target len).updBeginGo src :=
  if_neg (by simp [hupd])

/-- A BEGIN while a session is open leaves OP and TARGET as they were (R740). -/
theorem updBegin_busy (hmode : (s.updAsked target len).mode = mSERVICE ∨ (s.updAsked target len).mode = mDEGRADED)
    (hupd : s.nvm.upd ≠ none) : s.updBegin src target len = (s.wr Fd.NVM_UPD_LEN_LEN len).updResult 3 := by
  have busy : (s.updAsked target len).updBeginGo src = (s.updAsked target len).updResult 3 :=
    updBeginGo_busy hmode (by simpa using hupd)
  have shown : ((s.updAsked target len).updBeginGo src).rd Fd.NVM_UPD_CTL_RESULT = 3 := by rw [busy, rd_updResult]
  exact if_pos ⟨Option.isSome_iff_ne_none.2 hupd, shown⟩

/-! FINISH and CANCEL from an interface. -/

section
variable (hupd : s.nvm.upd = some u)
include hupd

theorem updFinishGo_other (h : u.src ≠ src) : s.updFinishGo src = s.updResult 4 := by
  rw [State.updFinishGo, hupd]
  exact if_pos h

theorem updFinishGo_running (hsrc : u.src = src) (hfin : u.fin = true) : s.updFinishGo src = s := by
  rw [State.updFinishGo, hupd]
  exact (if_neg (not_not_intro hsrc)).trans (if_pos hfin)

theorem updFinishGo_early (hsrc : u.src = src) (hfin : u.fin = false) (hoff : u.off ≠ u.len) :
    s.updFinishGo src = s.updResult 5 := by
  rw [State.updFinishGo, hupd]
  exact (if_neg (not_not_intro hsrc)).trans ((if_neg (ne_true_of_eq_false hfin)).trans (if_pos hoff))

/-- With every byte received the last page goes to flash. -/
theorem updFinishGo_runs (hsrc : u.src = src) (hfin : u.fin = false) (hoff : u.off = u.len) (hbuf : u.buf ≠ []) :
    s.updFinishGo src = { s.updResult 2 with nvm := { s.nvm with upd := some { u with fin := true } } } := by
  refine Eq.trans ?_ (setUpd_wr _ _ _)
  rw [State.updFinishGo, hupd]
  exact (if_neg (not_not_intro hsrc)).trans ((if_neg (ne_true_of_eq_false hfin)).trans
    ((if_neg (not_not_intro hoff)).trans (if_neg (mt List.isEmpty_iff.1 hbuf))))

theorem updCancelGo_own : s.updCancelGo u.src = (s.setUpd none).updResult 1 := by
  rw [State.updCancelGo, hupd]
  exact if_neg (not_not_intro rfl)

theorem updCancelGo_other (h : u.src ≠ src) : s.updCancelGo src = s.updResult 4 := by
  rw [State.updCancelGo, hupd]
  exact if_pos h

end

theorem updCancelGo_none (h : s.nvm.upd = none) : s.updCancelGo src = s.updResult 4 := by rw [State.updCancelGo, h]

/-- A FINISH's digest and OP are written. -/
def State.digestGiven (s : State) (d : Nat) : State :=
  ((List.range 8).foldl (fun (s : State) k => s.wr (Fd.NVM_UPD_DIG_DIG k) (d / 2 ^ (32 * k))) s).wr Fd.NVM_UPD_CTL_OP 2

/-- Fields written one after the other leave the flash and its session alone. -/
theorem nvm_foldl_wr (f : Nat → Fld) (v : Nat → Nat) (l : List Nat) (s : State) :
    (l.foldl (fun (s : State) k => s.wr (f k) (v k)) s).nvm = s.nvm := by
  induction l generalizing s with
  | nil => rfl
  | cons k l ih => exact (ih _).trans (wr_nvm s _ _)

@[simp] theorem nvm_digestGiven : (s.digestGiven d).nvm = s.nvm := (wr_nvm _ _ _).trans (nvm_foldl_wr _ _ _ s)

/-! Data. -/

/-- A word of the session's own interface that fits is buffered, low byte first. -/
theorem updData_taken (hupd : s.nvm.upd = some u) (hfin : u.fin = false) (hoff : u.off + 4 ≤ u.len)
    (hbegun : u.begun = true) (hsec : u.sectors = []) (hbuf : u.buf.length + 4 ≤ 4096) :
    s.updData u.src w = (s.setUpd (some { u with off := u.off + 4, buf := u.buf ++ leBytes 4 w }), .done) := by
  have mine : ¬ (u.src ≠ u.src ∨ u.fin = true ∨ u.len < u.off + 4) := by simp [hfin, hoff]
  have ready : ¬ ((!u.begun) = true ∨ (!u.sectors.isEmpty) = true ∨ 4096 < u.buf.length + 4) := by
    simp [hbegun, hsec]
    omega
  rw [State.updData, hupd]
  exact (if_neg mine).trans (if_neg ready)

/-! What the commands of update sessions do to a part that is not held in reset. -/

section
variable (hs : s.inReset = false)
include hs

theorem exec_updBegin (htgt : target = 1 ∨ target = 2) :
    exec (.updBegin src target len) s = .next (s.updBegin src target len) :=
  (act_live s _ hs).trans (congrArg _ (if_pos htgt))

theorem exec_updBegin_idle (htgt : target = 1 ∨ target = 2) (hupd : s.nvm.upd = none) :
    exec (.updBegin src target len) s = .next ((s.updAsked target len).updBeginGo src) :=
  (exec_updBegin hs htgt).trans (congrArg _ (updBegin_idle hupd))

theorem exec_updEraseComplete_begins (hupd : s.nvm.upd = some u) (hbegun : u.begun = false) (hwr : s.nvm.wr = none) :
    exec .updEraseComplete s = .next (s.updOpen u) := by
  refine (act_live s _ hs).trans ?_
  rw [hupd]
  exact congrArg _ ((if_pos (by rw [hbegun]; rfl)).trans (if_neg (by rw [hwr]; exact Bool.false_ne_true)))

theorem exec_updEraseComplete_erased (hupd : s.nvm.upd = some u) (hbegun : u.begun = true) (hsec : u.sectors ≠ []) :
    exec .updEraseComplete s = .next (((u.sectors.foldl (fun (s : State) a => s.eraseSector a) s).setUpd
      (some { u with sectors := [] })).updResult 1) := by
  have begun : ¬ (!u.begun) = true := by simp [hbegun]
  refine (act_live s _ hs).trans ?_
  rw [hupd]
  exact congrArg _ ((if_neg begun).trans (if_neg (mt List.isEmpty_iff.1 hsec)))

theorem exec_nvmUpdData : exec (.nvmUpdData src w) s = .next (s.updData src w).1 := act_live s _ hs

theorem exec_updFinish : exec (.updFinish src d) s = .next ((s.digestGiven d).updFinishGo src) := act_live s _ hs

theorem exec_updCancel : exec (.updCancel src) s = .next ((s.wr Fd.NVM_UPD_CTL_OP 3).updCancelGo src) := act_live s _ hs

theorem exec_nvmUpdCancel (hupd : s.nvm.upd = some u) :
    exec .nvmUpdCancel s = .next ((s.setUpd none).raise 38 1 (u.slot + 32)) :=
  (act_live s _ hs).trans (by rw [hupd])

end

end Sys2Proof.Machine

section
open Sys2Proof Sys2Proof.Machine

/-- Settles O19, command by command. -/
theorem updateSession : Obligations.UpdateSession := by
  refine fun s hs => ⟨?begins, ?forbidden, fun u => exec_updEraseComplete_begins hs,
    fun u => exec_updEraseComplete_erased hs, ?data, ?finish, ?cancel, ?cancelOther, ?cancelNone,
    fun u => exec_nvmUpdCancel hs⟩
  case begins =>
    intro src target len htgt u hmode hrdTgt hrdLen
    refine ⟨?busy, ?unaligned, ?stopped, ?opens⟩
    case busy => exact fun hupd => (exec_updBegin hs htgt).trans (congrArg _ (updBegin_busy hmode hupd))
    case unaligned =>
      exact fun hupd hwr h => (exec_updBegin_idle hs htgt hupd).trans
        (congrArg _ (updBeginGo_unaligned hmode (updAsked_noSession hupd) (updAsked_noRecord hwr) hrdTgt hrdLen h))
    case stopped =>
      exact fun hupd hwr hpos haligned hfits h => (exec_updBegin_idle hs htgt hupd).trans
        (congrArg _ (updBeginGo_stopped hmode (updAsked_noSession hupd) (updAsked_noRecord hwr) hrdTgt hrdLen
          hpos haligned hfits h))
    case opens =>
      exact fun hupd hwr hpos haligned hfits h => (exec_updBegin_idle hs htgt hupd).trans
        (congrArg _ (updBeginGo_opens hmode (updAsked_noSession hupd) (updAsked_noRecord hwr) hrdTgt hrdLen
          hpos haligned hfits h))
  case forbidden =>
    intro src target len htgt hupd u hserv hdeg hboot
    exact (exec_updBegin_idle hs htgt hupd).trans (congrArg _ (updBeginGo_forbidden hserv hdeg hboot))
  case data =>
    intro u w hupd hfin hoff hbegun hsec hbuf
    rw [exec_nvmUpdData hs, updData_taken hupd hfin hoff hbegun hsec hbuf]
    rfl
  case finish =>
    intro src d v
    have held {u : Session} (hupd : s.nvm.upd = some u) : (s.digestGiven d).nvm.upd = some u := by
      rw [nvm_digestGiven, hupd]
    have runs : exec (.updFinish src d) s = .next ((s.digestGiven d).updFinishGo src) := exec_updFinish hs
    refine ⟨?complete, ?running, ?early, ?other⟩
    case complete =>
      exact fun u hupd hsrc hfin hoff hbuf =>
        runs.trans (congrArg _ (updFinishGo_runs (held hupd) hsrc hfin hoff hbuf))
    case running =>
      exact fun u hupd hsrc hfin => runs.trans (congrArg _ (updFinishGo_running (held hupd) hsrc hfin))
    case early =>
      exact fun u hupd hsrc hfin hoff => runs.trans (congrArg _ (updFinishGo_early (held hupd) hsrc hfin hoff))
    case other => exact fun u hupd hsrc => runs.trans (congrArg _ (updFinishGo_other (held hupd) hsrc))
  case cancel =>
    intro u hupd
    rw [exec_updCancel hs, updCancelGo_own (upd_wr hupd), setUpd_wr, State.updResult]
  case cancelOther =>
    exact fun u src hupd h => (exec_updCancel hs).trans (congrArg _ (updCancelGo_other (upd_wr hupd) h))
  case cancelNone => exact fun src hupd => (exec_updCancel hs).trans (congrArg _ (updCancelGo_none (upd_wr hupd)))

end

/-! ### The fuses' commands and JTAG's (R155, R162–R170, R547) -/

namespace Sys2Proof.Machine

variable {s : State} {w d x f : Nat}

/-! A GO of the programming register (R167). -/

theorem otpGo_busy (hprog : s.otp.prog ≠ none) : s.otpGo = s.fuseResult (s.rd Fd.OTP_PROG_ADDR_WORD) 2 :=
  if_pos (Option.isSome_iff_ne_none.2 hprog)

section
variable (hprog : s.otp.prog = none)
include hprog

theorem otpGo_notBlank (hword : s.fuse (s.rd Fd.OTP_PROG_ADDR_WORD) ≠ {}) :
    s.otpGo = s.fuseResult (s.rd Fd.OTP_PROG_ADDR_WORD) 3 := by
  have idle : ¬ s.otp.prog.isSome = true := by simp [hprog]
  exact (if_neg idle).trans (if_pos hword)

/-- A word that passes every check and is no secret takes the value asked for. -/
theorem otpGo_starts (hw : s.rd Fd.OTP_PROG_ADDR_WORD = w)
    (hd : s.rd Fd.OTP_PROG_DLO_DATA + s.rd Fd.OTP_PROG_DHI_DATA * 2 ^ 32 = d) (hblank : s.fuse w = {})
    (hlock : bit (s.rd Fd.OTP_LOCKS_LOCKED) (otpRegion w) = false) (hclass : s.classOk w = true)
    (hsecret : otpClass w ≠ 7) (hformat : s.formatOk w d = true) (hcond : s.fuseConditions = true) :
    s.otpGo = ({ s with otp := { s.otp with prog := some (w, d) } }.wr Fd.OTP_PROG_CTL_RESULT 9).wr
      Fd.OTP_STAT_BUSY 1 := by
  simp [-Nat.reducePow, State.otpGo, hprog, hw, hd, hblank, hlock, hclass, hsecret, hformat, hcond]

end

/-! The end of a program (R163, R166, R167). -/

/-- The program of word `w` has ended, and the word reads as `x`. -/
def State.programmed (s : State) (w x : Nat) : State :=
  ({ s with otp := { s.otp with prog := none, done := s.otp.done ++ [w] } }.setFuse w { data := x }).wr Fd.OTP_STAT_BUSY 0

/-- What the verify read `x` of word `w` leads to where `d` was asked for. -/
def State.progOutcome (s : State) (w d x : Nat) : State :=
  if x ≠ d then s.fuseResult w 8
  else if w ≤ 4 then (s.fuseResult w 1).raise 45 1 (w + 1)
  else (s.fuseResult w 1).hardRepair w d

theorem progOutcome_differs (h : x ≠ d) : s.progOutcome w d x = s.fuseResult w 8 := if_pos h

theorem progOutcome_marker (hw : w ≤ 4) : s.progOutcome w d d = (s.fuseResult w 1).raise 45 1 (w + 1) :=
  (if_neg (not_not_intro rfl)).trans (if_pos hw)

theorem progOutcome_entry (hw : 4 < w) : s.progOutcome w d d = (s.fuseResult w 1).hardRepair w d :=
  (if_neg (not_not_intro rfl)).trans (if_neg (Nat.not_le.2 hw))

@[simp] theorem fuseResult_otp (s : State) (w r : Nat) : (s.fuseResult w r).otp = s.otp := by
  rw [State.fuseResult, raise_otp, wr_otp]

@[simp] theorem repairMap_otp (s : State) (index : Nat) (soft : Bool) (reason : Nat) :
    (s.repairMap index soft reason).otp = s.otp := raise_otp _ _ _ _ _

/-- A repair entry changes the repair map's state and its registers, and never the array. -/
@[simp] theorem applyRepair_otp (s : State) (index : Nat) (soft : Bool) (e : Nat) :
    (s.applyRepair index soft e).otp = s.otp := by
  have freed (l : List Repair) (s : State) :
      (l.foldl (fun (s : State) (u : Repair) => s.wr (tsvFld u.pc u.bank u.spare) 0x1F) s).otp = s.otp := by
    induction l generalizing s with
    | nil => rfl
    | cons u l ih => exact ih _
  unfold State.applyRepair
  dsimp only
  split
  · exact repairMap_otp ..
  split
  · exact repairMap_otp ..
  split
  · split
    · rfl
    · exact repairMap_otp ..
  · split
    · rw [wr_otp]; exact freed _ _
    · exact freed _ _

@[simp] theorem hardRepair_otp (s : State) (w d : Nat) : (s.hardRepair w d).otp = s.otp := by
  unfold State.hardRepair
  split
  · exact applyRepair_otp ..
  · rfl

@[simp] theorem progOutcome_otp (s : State) (w d x : Nat) : (s.progOutcome w d x).otp = s.otp := by
  unfold State.progOutcome
  split
  · simp
  · split <;> simp

/-- A verify read without an error, and no re-read pass that waits. -/
theorem progEnd_clean (hdue : s.otp.rereadDue = false) :
    s.progEnd w d { data := x } = (s.programmed w x).progOutcome w d x := by
  have waits : ((s.programmed w x).progOutcome w d x).otp.rereadDue = false := by
    rw [progOutcome_otp]
    exact hdue
  have outcome : s.progEnd w d { data := x } =
      let u := (s.programmed w x).progOutcome w d x
      if u.otp.rereadDue then u.rereadStart else u := by
    simp [State.progEnd, State.programmed, State.progOutcome, OtpWord.bad]
  rw [outcome]
  exact if_neg (ne_true_of_eq_false waits)

/-! A re-read pass that is due (R163). -/

theorem rereadStart_idle (hcore : s.coreOff = false) (hrun : s.otp.rereadRun = false) :
    s.rereadStart = if s.otp.prog.isSome then { s with otp := { s.otp with rereadDue := true } }
      else { s with otp := { s.otp with rereadDue := false, rereadRun := true } }.wr Fd.OTP_STAT_BUSY 1 :=
  if_neg (by simp [hcore, hrun])

/-! What a re-read pass leaves alone (R162, R163). -/

/-- The program in progress, DRAM and flash stand as they stood. -/
structure BesideReads (s t : State) : Prop where
  prog : t.otp.prog = s.otp.prog
  dram : t.dram = s.dram
  nvm : t.nvm = s.nvm

theorem BesideReads.refl (s : State) : BesideReads s s := ⟨rfl, rfl, rfl⟩

theorem BesideReads.trans {t u : State} (h : BesideReads s t) (k : BesideReads t u) : BesideReads s u :=
  ⟨k.prog.trans h.prog, k.dram.trans h.dram, k.nvm.trans h.nvm⟩

theorem BesideReads.foldl {α : Type} {f : State → α → State} (h : ∀ s a, BesideReads s (f s a)) (l : List α) (s : State) :
    BesideReads s (l.foldl f s) := by
  induction l generalizing s with
  | nil => exact .refl s
  | cons a l ih => exact (h s a).trans (ih _)

theorem otpReads_beside (s : State) (reads : List OtpRead) : BesideReads s (s.otpReads reads) :=
  .foldl (f := fun (s : State) (r : OtpRead) => s.setFuse (r.1 % 512) _) (fun _ _ => ⟨rfl, rfl, rfl⟩) _ _

theorem wrBit_beside (s : State) (f : Fld) (i : Nat) (b : Bool) : BesideReads s (s.wrBit f i b) := ⟨rfl, rfl, rfl⟩

theorem wr_beside (s : State) (f : Fld) (v : Nat) : BesideReads s (s.wr f v) := ⟨rfl, rfl, rfl⟩

theorem count_beside (s : State) (f ovf : Fld) (n : Nat) : BesideReads s (s.count f ovf n) :=
  ⟨congrArg Otp.prog (count_otp s f ovf n), count_dram s f ovf n, count_nvm s f ovf n⟩

theorem raise_beside (s : State) (a k y : Nat) : BesideReads s (s.raise a k y) :=
  ⟨congrArg Otp.prog (raise_otp s a k y false), raise_dram s a k y false, raise_nvm s a k y false⟩

theorem otpCorrected_beside (s : State) (w : Nat) : BesideReads s (s.otpCorrected w) :=
  (count_beside _ _ _ _).trans (raise_beside _ _ _ _)

theorem otpMarginal_beside (s : State) (w : Nat) : BesideReads s (s.otpMarginal w) := by
  unfold State.otpMarginal
  split
  · exact .refl s
  · exact ((wrBit_beside _ _ _ _).trans (wr_beside _ _ _)).trans (raise_beside _ _ _ _)

theorem reread_beside (s : State) (reads : List OtpRead) : BesideReads s (s.reread reads) := by
  have corrected (s : State) (e : Nat × OtpWord) : BesideReads s (if e.2.ecc = 1 then s.otpCorrected e.1 else s) := by
    split
    · exact otpCorrected_beside _ _
    · exact .refl _
  exact ((otpReads_beside _ _).trans (.foldl corrected _ _)).trans (.foldl otpMarginal_beside _ _)

/-! The words found marginal (R162). -/

/-- The word's MARG bit is set. -/
def State.marked (s : State) (w : Nat) : Bool := bit (s.rd (Fd.OTP_MARG_MARG (w / 32))) (w % 32)

theorem marked_congr {t : State} (h : t.reg (Ra.OTP_MARG (w / 32)) = s.reg (Ra.OTP_MARG (w / 32))) :
    t.marked w = s.marked w := by
  simp only [State.marked, State.rd, Fd.OTP_MARG_MARG, h]

/-- The status register's fields are apart from the MARG bits. -/
theorem marked_wr (s : State) {f : Fld} (v w : Nat) (hf : f.addr = Ra.OTP_STAT) : (s.wr f v).marked w = s.marked w :=
  marked_congr (reg_wr_other s v (by rw [hf]; unfold Ra.OTP_MARG Ra.OTP_STAT; omega))

theorem marked_raise (s : State) (a k y : Nat) (hw : w < 512) : (s.raise a k y).marked w = s.marked w :=
  marked_congr (reg_raise s a k y false (by unfold Ra.OTP_MARG Ra.FLT_CNT; omega))

/-- A word's MARG bit set marks that word and keeps every other mark. -/
theorem marked_wrBit (s : State) (w v : Nat) :
    (s.wrBit (Fd.OTP_MARG_MARG (w / 32)) (w % 32) true).marked v = (decide (v = w) || s.marked v) := by
  by_cases hreg : v / 32 = w / 32
  · have small : setBits (s.rd (Fd.OTP_MARG_MARG (w / 32))) (w % 32) (w % 32) 1 < 2 ^ 32 :=
      setBits_lt (Nat.le_refl _) (by omega) (rd_lt s (Fd.OTP_MARG_MARG (w / 32)))
    have reads : (s.wrBit (Fd.OTP_MARG_MARG (w / 32)) (w % 32) true).rd (Fd.OTP_MARG_MARG (w / 32)) =
        setBits (s.rd (Fd.OTP_MARG_MARG (w / 32))) (w % 32) (w % 32) 1 :=
      (rd_wr_same s _ rfl).trans (Nat.mod_eq_of_lt small)
    simp only [State.marked, hreg, reads]
    by_cases hv : v = w
    · subst hv
      rw [bit_setBits_inside _ _ (Nat.le_refl _) (Nat.le_refl _)]
      simp
    · rw [bit_setBits_outside _ _ (Nat.le_refl _) (by omega)]
      simp [hv]
  · have other : v ≠ w := fun h => hreg (by rw [h])
    have kept : (s.wrBit (Fd.OTP_MARG_MARG (w / 32)) (w % 32) true).marked v = s.marked v :=
      marked_congr (reg_wr_other s _ (by simp only [Fd.OTP_MARG_MARG, Ra.OTP_MARG]; omega))
    simp [kept, other]

/-- A word found marginal is marked, and every mark stays. -/
theorem marked_otpMarginal (s : State) (w : Nat) {v : Nat} (hv : v < 512) :
    (s.otpMarginal w).marked v = (decide (v = w) || s.marked v) := by
  unfold State.otpMarginal
  split
  next h =>
    by_cases hvw : v = w
    · subst hvw
      simpa [State.marked] using h
    · simp [hvw]
  next => rw [marked_raise _ _ _ _ hv, marked_wr _ _ _ rfl, marked_wrBit]

theorem marked_foldl_otpMarginal (l : List Nat) (s : State) {v : Nat} (hv : v < 512) :
    (l.foldl (fun (s : State) (w : Nat) => s.otpMarginal w) s).marked v = (decide (v ∈ l) || s.marked v) := by
  induction l generalizing s with
  | nil => simp
  | cons w l ih => rw [List.foldl_cons, ih, marked_otpMarginal _ _ hv]; simp [Bool.or_left_comm, Bool.or_assoc]

/-- A critical word on which the tightened reference disagrees is marked when a pass ends. -/
theorem marked_reread (s : State) {reads : List OtpRead} {r : OtpRead} (hr : r ∈ reads)
    (hcrit : otpCritical (r.1 % 512) = true) (hoff : r.2.2.2 = true) : (s.reread reads).marked (r.1 % 512) = true := by
  refine (marked_foldl_otpMarginal _ _ (Nat.mod_lt _ (by decide))).trans ?_
  rw [Bool.or_eq_true, decide_eq_true_eq]
  have read : r ∈ reads.filter fun (r : OtpRead) => otpCritical (r.1 % 512) := List.mem_filter.2 ⟨hr, hcrit⟩
  exact .inl (List.mem_map_of_mem (List.mem_filter.2 ⟨read, by rw [hoff, Bool.true_or]⟩))

/-- The pass that runs has ended with these reads. -/
def State.rereadEnd (s : State) (reads : List OtpRead) : State :=
  { s.reread reads with otp := { (s.reread reads).otp with rereadRun := false } }.wr Fd.OTP_STAT_BUSY
    (b2n s.otp.prog.isSome)

theorem rereadEnd_run (s : State) (reads : List OtpRead) : (s.rereadEnd reads).otp.rereadRun = false := (rfl)

theorem rereadEnd_beside (s : State) (reads : List OtpRead) : BesideReads s (s.rereadEnd reads) :=
  (reread_beside s reads).trans ⟨rfl, rfl, rfl⟩

theorem marked_rereadEnd (s : State) {reads : List OtpRead} {r : OtpRead} (hr : r ∈ reads)
    (hcrit : otpCritical (r.1 % 512) = true) (hoff : r.2.2.2 = true) :
    (s.rereadEnd reads).marked (r.1 % 512) = true :=
  (marked_wr _ _ _ rfl).trans (marked_reread s hr hcrit hoff)

/-! What the commands do to a part that is not held in reset. -/

section
variable (hs : s.inReset = false)
include hs

/-- The word and the value asked for are written, then GO. -/
theorem exec_fuseProgram : exec (.fuseProgram w d) s = .next
    (((s.wr Fd.OTP_PROG_ADDR_WORD w).wr Fd.OTP_PROG_DLO_DATA d).wr Fd.OTP_PROG_DHI_DATA (d / 2 ^ 32)).otpGo :=
  act_live s _ hs

theorem exec_otpProg (hprog : s.otp.prog = some (w, d)) (hrun : s.otp.rereadRun = false)
    (hdue : s.otp.rereadDue = false) (hx : x < 2 ^ 64) :
    exec (.otpProg x 0) s = .next ((s.programmed w x).progOutcome w d x) := by
  refine (act_live s _ hs).trans (congrArg _ ?_)
  rw [hprog, ← progEnd_clean hdue, Nat.mod_eq_of_lt hx]
  exact if_neg (ne_true_of_eq_false hrun)

theorem exec_otpProg_rereading (ecc : Nat) (hrun : s.otp.rereadRun = true) : exec (.otpProg d ecc) s = .next s := by
  refine (act_live s _ hs).trans (congrArg _ ?_)
  split
  · rfl
  · exact if_pos hrun

section
variable (hcore : s.coreOff = false) (hrun : s.otp.rereadRun = false)
include hcore hrun

theorem exec_rereadPass_putOff (hprog : s.otp.prog ≠ none) : exec (.rereadPass none) s =
    .next { s with otp := { s.otp with rereadDue := true } } :=
  (act_live s _ hs).trans (congrArg _
    ((rereadStart_idle hcore hrun).trans (if_pos (Option.isSome_iff_ne_none.2 hprog))))

theorem exec_rereadPass_begins (hprog : s.otp.prog = none) : exec (.rereadPass none) s =
    .next ({ s with otp := { s.otp with rereadDue := false, rereadRun := true } }.wr Fd.OTP_STAT_BUSY 1) :=
  (act_live s _ hs).trans (congrArg _ ((rereadStart_idle hcore hrun).trans (if_neg (by simp [hprog]))))

end

theorem exec_rereadPass_ends (reads : List OtpRead) (hcore : s.coreOff = false) (hrun : s.otp.rereadRun = true) :
    exec (.rereadPass (some reads)) s = .next (s.rereadEnd reads) :=
  (act_live s _ hs).trans (congrArg _ (if_pos ⟨hrun, by rw [hcore]; rfl⟩))

theorem exec_scanZeroise_scan (hjtag : s.otp.jtag = 3) (hscan : s.otp.scan = false) : exec .scanZeroise s =
    .next { (s.zeroise.raise 46 1 0).abortTests with
      otp := { (s.zeroise.raise 46 1 0).abortTests.otp with scan := true } } :=
  (act_live s _ hs).trans (congrArg _ (if_pos ⟨hjtag, by rw [hscan]; rfl⟩))

theorem exec_scanZeroise_debug (hjtag : s.otp.jtag = 2) (hdebug : s.otp.debug = false) : exec .scanZeroise s =
    .next { s.zeroise.raise 46 1 1 with otp := { (s.zeroise.raise 46 1 1).otp with debug := true } } := by
  have notScan : ¬ (s.otp.jtag = 3 ∧ (!s.otp.scan) = true) := by simp [hjtag]
  exact (act_live s _ hs).trans (congrArg _ ((if_neg notScan).trans (if_pos ⟨hjtag, by rw [hdebug]; rfl⟩)))

theorem exec_jtagInstruction_selects (h : s.jtagMay f = true) : exec (.jtagInstruction { function := f }) s =
    .next { s with otp := { s.otp with jtag := f } } := by
  refine (act_live s _ hs).trans (congrArg _ ?_)
  simp only [h, if_true]

/-- In debug a register access goes with the instruction (R155). -/
theorem exec_jtagInstruction_accesses (a : Nat) (v : Option Nat) (h : s.jtagMay 2 = true) (hdebug : s.otp.debug = true) :
    exec (.jtagInstruction { function := 2, access := some (a, v) }) s =
      .next ({ s with otp := { s.otp with jtag := 2 } }.jtagAccess a v) := by
  refine (act_live s _ hs).trans (congrArg _ ?_)
  simp only [h, if_true, hdebug, and_self]

theorem exec_jtagInstruction_bypass (access : Option (Nat × Option Nat)) (h : s.jtagMay f = false) :
    exec (.jtagInstruction { function := f, access := access }) s =
      .next { s with otp := { s.otp with jtag := 0 } } := by
  refine (act_live s _ hs).trans (congrArg _ ?_)
  simp only [h, Bool.false_eq_true, if_false]
  cases access <;> rfl

theorem exec_jtagTrstN : exec .jtagTrstN s =
    .next { s with otp := { s.otp with debug := false, jtag := if s.otp.scan then s.otp.jtag else 0 } } :=
  act_live s _ hs

end

end Sys2Proof.Machine

section
open Sys2Proof Sys2Proof.Machine

/-- Settles O20, command by command. -/
theorem fuseCommands : Obligations.FuseCommands := by
  refine fun s hs => ⟨?go, ?ends, fun d ecc => exec_otpProg_rereading hs ecc, exec_rereadPass_putOff hs,
    exec_rereadPass_begins hs, ?passEnds, exec_scanZeroise_scan hs, exec_scanZeroise_debug hs,
    fun f => exec_jtagInstruction_selects hs, fun f access => exec_jtagInstruction_bypass hs access,
    exec_jtagInstruction_accesses hs, exec_jtagTrstN hs⟩
  case go =>
    intro w d u a v
    have runs : exec (.fuseProgram w d) s = .next u.otpGo := exec_fuseProgram hs
    have otp : u.otp = s.otp := by rw [wr_otp, wr_otp, wr_otp]
    rw [← otp]
    refine ⟨?busy, ?notBlank, ?starts⟩
    case busy => exact fun hprog => runs.trans (congrArg _ (otpGo_busy hprog))
    case notBlank => exact fun hprog hword => runs.trans (congrArg _ (otpGo_notBlank hprog hword))
    case starts =>
      exact fun hprog hblank hlock hclass hsecret hformat hcond =>
        runs.trans (congrArg _ (otpGo_starts hprog rfl rfl hblank hlock hclass hsecret hformat hcond))
  case ends =>
    intro w d hprog hrun hdue hd u
    have runs {x : Nat} : x < 2 ^ 64 → exec (.otpProg x 0) s = .next ((u x).progOutcome w d x) :=
      exec_otpProg hs hprog hrun hdue
    exact ⟨fun hw => (runs hd).trans (congrArg _ (progOutcome_marker hw)),
      fun hw => (runs hd).trans (congrArg _ (progOutcome_entry hw)),
      fun x hx hne => (runs hx).trans (congrArg _ (progOutcome_differs hne))⟩
  case passEnds =>
    intro reads hcore hrun
    obtain ⟨hprog, hdram, hnvm⟩ := rereadEnd_beside s reads
    exact ⟨_, exec_rereadPass_ends hs reads hcore hrun, rereadEnd_run s reads, hprog, hdram, hnvm,
      fun r => marked_rereadEnd s⟩

end

/-! ### What counting, raising and asking for a swap leave of a port (R199, R214) -/

namespace Sys2Proof.Machine

variable {n : Nat}

theorem reg_count_other (s : State) {f ovf : Fld} {a : Nat} (m : Nat) (h1 : a ≠ f.addr) (h2 : a ≠ ovf.addr) :
    (s.count f ovf m).reg a = s.reg a := by
  unfold State.count
  split
  · exact reg_wr_other s _ h1
  · rw [reg_wr_other _ _ h2, reg_wr_other _ _ h1]

theorem rd_of_reg {s t : State} {f : Fld} (h : t.reg f.addr = s.reg f.addr) : t.rd f = s.rd f := by
  simp only [State.rd, h]

theorem on_of_reg {s t : State} {f : Fld} (h : t.reg f.addr = s.reg f.addr) : t.on f = s.on f := by
  simp only [State.on, rd_of_reg h]

@[simp] theorem reg_setLink (s : State) (n : Nat) (l : Link) (a : Nat) : (s.setLink n l).reg a = s.reg a := (rfl)

@[simp] theorem link_count (s : State) (f ovf : Fld) (m n : Nat) : (s.count f ovf m).link n = s.link n := by
  simp only [State.link, count_links]

@[simp] theorem link_raise (s : State) (a c x n : Nat) : (s.raise a c x).link n = s.link n := by
  simp only [State.link, raise_links]

@[simp] theorem link_swEnds (s : State) (n : Nat) (sw : Bool) (r m : Nat) : (s.swEnds n sw r).link m = s.link m := by
  unfold State.swEnds
  split <;> rfl

/-- A request for a swap, its end and its withdrawal write only the port's LANE_SWAP and the collector's count of lost
messages: register `a` is neither. -/
def swapFrame (n a : Nat) : Prop := a ≠ Ra.PORT_LANE_SWAP n ∧ a ≠ Ra.FLT_CNT

theorem swapFrame_laneStat (n m : Nat) : swapFrame n (Ra.PORT_LANE_STAT m) := by
  simp only [swapFrame, Ra.PORT_LANE_STAT, Ra.PORT_LANE_SWAP, Ra.FLT_CNT]
  omega

theorem swapFrame_laneTxmap (n m : Nat) : swapFrame n (Ra.PORT_LANE_TXMAP m) := by
  simp only [swapFrame, Ra.PORT_LANE_TXMAP, Ra.PORT_LANE_SWAP, Ra.FLT_CNT]
  omega

section
variable {a : Nat} (ha : swapFrame n a)
include ha

theorem reg_swEnds (s : State) (sw : Bool) (r : Nat) : (s.swEnds n sw r).reg a = s.reg a := by
  unfold State.swEnds
  split
  · exact reg_wr_other s _ ha.1
  · rfl

theorem reg_noSpare (s : State) (k : Nat) : (s.noSpare n k).reg a = s.reg a := reg_raise s _ _ _ _ ha.2

theorem reg_withdraw (s : State) : (s.withdraw n).reg a = s.reg a := by
  unfold State.withdraw
  dsimp only
  split
  · rw [reg_swEnds ha, reg_noSpare ha, reg_setLink]
  · rfl

theorem reg_reqSwap (s : State) (k : Nat) (sw : Bool) : (s.reqSwap n k sw).1.reg a = s.reg a := by
  unfold State.reqSwap
  dsimp only
  split
  · exact reg_noSpare ha s k
  · split
    · rfl
    · split
      · rfl
      · split
        · rw [reg_swEnds ha, reg_noSpare ha, reg_setLink]
        · exact reg_noSpare ha s k

end

end Sys2Proof.Machine

/-! ### Bring-up, lane lock and the lane messages (R179–R198, R201, R203) -/

namespace Sys2Proof.Machine

variable {s : State} {n p k : Nat}

/-! Bring-up (R190). -/

@[simp] theorem reg_drawn (s : State) (a : Nat) : s.drawn.reg a = s.reg a := (rfl)

theorem reg_bringup (s : State) (n : Nat) {a : Nat} (hmap : a ≠ Ra.PORT_LANE_MAP n)
    (htxmap : a ≠ Ra.PORT_LANE_TXMAP n) (hstat : a ≠ Ra.PORT_LANE_STAT n) (hlink : a ≠ Ra.PORT_LINK_STAT n)
    (hswap : a ≠ Ra.PORT_LANE_SWAP n) (hflag : a ≠ Ra.PORT_LANE_FLAG n) : (s.bringup n).reg a = s.reg a := by
  simp only [State.bringup, State.setLstate, State.wrBit]
  rw [reg_setLink, reg_wr_other (f := Fd.PORT_LINK_STAT_STATE n) _ _ hlink,
    reg_wr_other (f := Fd.PORT_LANE_STAT_STATE n) _ _ hstat, reg_setReg_other _ _ hstat, reg_setReg_other _ _ htxmap,
    reg_setReg_other _ _ hmap, reg_drawn, reg_wr_other (f := Fd.PORT_LANE_FLAG_FLAG n) _ _ hflag]
  split
  · exact reg_wr_other (f := Fd.PORT_LANE_SWAP_RESULT n) s 3 hswap
  · rfl

theorem bringup_pins (s : State) (n : Nat) : (s.bringup n).pins = s.pins := by
  simp only [State.bringup, State.setLstate, State.wrBit, setLink_pins, wr_pins, setReg_pins, drawn_pins]
  split <;> rfl

theorem bringup_flt (s : State) (n : Nat) : (s.bringup n).flt = s.flt := by
  simp only [State.bringup, State.setLstate, State.wrBit, setLink_flt, wr_flt, setReg_flt, drawn_flt]
  split <;> rfl

/-! Lock (R187, R189, R192, R196). -/

/-- A lane's record as it locks; a logical lane's values become its trained ones. -/
def LaneRx.locks (x : LaneRx) (got : LaneHunt) (logical : Bool) : LaneRx :=
  let y := { x with ctle := eqCtle got.ctle, taps := eqTaps got.taps, clamp := none, miss := 0 }
  if logical then { y with ctleTrn := y.ctle, tapsTrn := y.taps } else y

theorem lanesUp_all (hall : ∀ k, k < lanesOf n → s.locked n (s.rxPhys n k) = true)
    (hup : s.on (Fd.PORT_LANE_STAT_UP n) = false) (hst : s.lstate n = lTRAIN) : s.lanesUp n =
      (let u := ((s.wr (Fd.PORT_LANE_STAT_UP n) 1).wr (Fd.PORT_LANE_STAT_LATE n) 0).raise (linkSrc n 0) 1 0
      if u.lstate n = lTRAIN then (u.setLstate n lINIT).setLink n (u.link n).freshInit else u) := by
  have all : ((List.range (lanesOf n)).all fun k => s.locked n (s.rxPhys n k)) = true :=
    List.all_eq_true.2 fun k hk => hall k (List.mem_range.1 hk)
  exact if_pos ⟨all, by rw [hup]; rfl, by rw [hst]; decide, by rw [hst]; decide⟩

/-! The loss of a lane's lock (R188). -/

/-- The lane hunts again: what it knew of its stream is gone. -/
def State.unlocked (s : State) (n p : Nat) : State :=
  let u := s.setLocked n p false
  u.setLaneRx n p { u.laneRx n p with seed := none, codes := [], stN := 0, miss := 0, errs := [] }

theorem loseLock_logical (h : (s.unlocked n p).rxLogical n p = some k) : s.loseLock n p =
    ((((((s.unlocked n p).setLink n { (s.unlocked n p).link n with heldIn := [] }).count (Fd.PORT_LANE_CNT_LOSSES n)
      (Fd.PORT_LANE_CNT_LOSS_OVF n) 1).raise (linkSrc n 1) 5 (laneAddr p k 0 0 0)).lanesDown n).reqSwap n k
        false).1 := by
  rw [State.unlocked] at h ⊢
  rw [State.loseLock, h]

theorem loseLock_spare (h : (s.unlocked n p).rxLogical n p = none) :
    s.loseLock n p = (s.unlocked n p).spareLost n := by
  rw [State.unlocked] at h ⊢
  rw [State.loseLock, h]

/-! Adaptation (R196, R197). -/

/-- A logical lane's values once its loops have asked for new ones. -/
def LaneRx.adapted (x : LaneRx) (win : Nat) (ctle : Int) (taps : List Int) : LaneRx :=
  let y := { x with
    ctle := eqCtle (inWindow win x.ctleTrn ctle)
    taps := eqTaps ((List.range 16).map fun i => inWindow win (nth 0 x.tapsTrn i) (nth 0 taps i)) }
  { y with clamp := atEdge win y }

/-- Sixteen taps are taken. -/
theorem adapted_congr (x : LaneRx) (win : Nat) (c : Int) {ts us : List Int} (h : ∀ i < 16, nth 0 ts i = nth 0 us i) :
    x.adapted win c ts = x.adapted win c us := by
  have taps : ((List.range 16).map fun i => inWindow win (nth 0 x.tapsTrn i) (nth 0 ts i)) =
      (List.range 16).map fun i => inWindow win (nth 0 x.tapsTrn i) (nth 0 us i) :=
    List.map_congr_left fun i hi => by rw [h i (List.mem_range.1 hi)]
  simp only [LaneRx.adapted, taps]

theorem nth_map_range {m i : Nat} (f : Nat → Int) (h : i < m) : nth 0 ((List.range m).map f) i = f i := by
  simp [nth, List.getD, h]

theorem adapt_frozen (c : Int) (ts : List Int) (h : s.rd (Fd.PORT_LANE_STAT_STATE n) = 3) : s.adapt n p c ts = s :=
  if_pos h

theorem adapt_clamped {c : Int} {ts : List Int} (hst : s.rd (Fd.PORT_LANE_STAT_STATE n) ≠ 3)
    (hk : s.rxLogical n p = some k)
    (hedge : ((s.laneRx n p).adapted (s.rd (Fd.PORT_LANE_CFG_TAP_WIN n)) c ts).clamp ≠ none) :
    s.adapt n p c ts = (s.setLaneRx n p
      ((s.laneRx n p).adapted (s.rd (Fd.PORT_LANE_CFG_TAP_WIN n)) c ts)).flagLane n p k := by
  refine (if_neg hst).trans ?_
  rw [hk]
  exact if_pos (Option.isSome_iff_ne_none.2 hedge)

/-! The spare (R198). -/

/-- The errors of the spare-role lane's last three milliseconds, newest first; none where this one's are unknown. -/
def LaneRx.spareErrs (x : LaneRx) (errs : Option Nat) : List Nat := errs.elim [] fun e => (e :: x.errs).take 3

/-- The spare-role lane is locked and three milliseconds in a row lie within the limit. -/
def State.sparePasses (s : State) (n : Nat) (errs : Option Nat) : Bool :=
  let es := (s.laneRx n (s.sparePhys n)).spareErrs errs
  es.length == 3 && (es.all fun e => decide (e ≤ s.rd (Fd.PORT_LANE_CFG_SPARE_ERR_LIM n))) &&
    s.locked n (s.sparePhys n)

theorem judgeSpare_fails {errs : Option Nat} (h : s.sparePasses n errs = false) : s.judgeSpare n errs =
    (s.setLaneRx n (s.sparePhys n) { s.laneRx n (s.sparePhys n) with
      errs := (s.laneRx n (s.sparePhys n)).spareErrs errs
      spareMs := (s.laneRx n (s.sparePhys n)).spareMs + 1 }).spareLost n := by
  cases errs <;> simp only [State.sparePasses, LaneRx.spareErrs, Option.elim] at h ⊢ <;>
    simp only [State.judgeSpare, h, Bool.false_eq_true, if_false]

/-- A spare lost is not ready. -/
theorem spareReady_spareLost (s : State) (n : Nat) : (s.spareLost n).on (Fd.PORT_LANE_STAT_SPARE_READY n) = false := by
  have kept := reg_withdraw (swapFrame_laneStat n n) (s.wr (Fd.PORT_LANE_STAT_SPARE_READY n) 0)
  have zero : (s.wr (Fd.PORT_LANE_STAT_SPARE_READY n) 0).rd (Fd.PORT_LANE_STAT_SPARE_READY n) = 0 := rd_wr_same s 0 rfl
  rw [State.spareLost, State.on, rd_of_reg (f := Fd.PORT_LANE_STAT_SPARE_READY n) kept, zero]
  rfl

theorem sparePasses_of_ready {errs : Option Nat}
    (h : (s.judgeSpare n errs).on (Fd.PORT_LANE_STAT_SPARE_READY n) = true) : s.sparePasses n errs = true := by
  cases hpass : s.sparePasses n errs with
  | true => rfl
  | false =>
    rw [judgeSpare_fails hpass, spareReady_spareLost] at h
    exact absurd h Bool.false_ne_true

/-- Three milliseconds are known where this one's errors and two before it are. -/
theorem spareErrs_three {x : LaneRx} {errs : Option Nat} (h : (x.spareErrs errs).length = 3) :
    ∃ e e1 e2, errs = some e ∧ x.errs.take 2 = [e1, e2] ∧ x.spareErrs errs = [e, e1, e2] := by
  cases errs with
  | none => simp [LaneRx.spareErrs] at h
  | some e =>
    obtain ⟨e1, e2, rest, hx⟩ : ∃ e1 e2 rest, x.errs = e1 :: e2 :: rest := by
      match hx : x.errs with
      | [] => simp [LaneRx.spareErrs, hx] at h
      | [e1] => simp [LaneRx.spareErrs, hx] at h
      | e1 :: e2 :: rest => exact ⟨e1, e2, rest, rfl⟩
    exact ⟨e, e1, e2, rfl, by rw [hx, List.take_succ_cons, List.take_succ_cons, List.take_zero],
      by rw [LaneRx.spareErrs, hx, Option.elim_some, List.take_succ_cons, List.take_succ_cons, List.take_succ_cons,
        List.take_zero]⟩

theorem within_limit_of_sparePasses {errs : Option Nat} (h : s.sparePasses n errs = true) :
    s.locked n (s.sparePhys n) = true ∧
    ∃ e e1 e2, errs = some e ∧ (s.laneRx n (s.sparePhys n)).errs.take 2 = [e1, e2] ∧
      e ≤ s.rd (Fd.PORT_LANE_CFG_SPARE_ERR_LIM n) ∧ e1 ≤ s.rd (Fd.PORT_LANE_CFG_SPARE_ERR_LIM n) ∧
      e2 ≤ s.rd (Fd.PORT_LANE_CFG_SPARE_ERR_LIM n) := by
  simp only [State.sparePasses, Bool.and_eq_true, beq_iff_eq] at h
  obtain ⟨⟨hlen, hall⟩, hlock⟩ := h
  obtain ⟨e, e1, e2, herrs, htake, hes⟩ := spareErrs_three hlen
  rw [hes] at hall
  exact ⟨hlock, e, e1, e2, herrs, htake, by simpa using hall⟩

theorem countErrs_none {len rx : Nat} (h : s.checked n p len rx = none) : s.countErrs n (p, len, rx) = s := by
  simp only [State.countErrs, h]

theorem countErrs_some {len rx : Nat} (h : s.checked n p len rx = some k) : s.countErrs n (p, len, rx) =
    s.count (Fd.PORT_PRBS_ERR_COUNT n p) (Fd.PORT_PRBS_ERR_OVF n p) k := by
  simp only [State.countErrs, h]

/-- A checker's count does not end lane test. -/
theorem laneTest_countErrs (s : State) (n p len rx : Nat) :
    (s.countErrs n (p, len, rx)).on (Fd.PORT_LANE_TEST_TEST n) = s.on (Fd.PORT_LANE_TEST_TEST n) := by
  cases h : s.checked n p len rx with
  | none => rw [countErrs_none h]
  | some k =>
    have other : Ra.PORT_LANE_TEST n ≠ Ra.PORT_PRBS_ERR n p := by
      simp only [Ra.PORT_LANE_TEST, Ra.PORT_PRBS_ERR]
      omega
    rw [countErrs_some h]
    exact on_of_reg (reg_count_other s k other other)

/-! A frame's control groups (R179, R182, R186, R188, R201). -/

/-- The code errors of a frame are added and its comma is followed. -/
def State.frameBegun (s : State) (n p : Nat) (payload : List Nat) (comma lm0 : Group) : State :=
  (s.wr (Fd.PORT_LANE_CNT_CODE_ERR n) (min (Fd.PORT_LANE_CNT_CODE_ERR n).max
    (s.rd (Fd.PORT_LANE_CNT_CODE_ERR n) + codeErrors payload comma lm0))).commaAt n p comma

section
variable {payload : List Nat} {comma lm0 : Group}

theorem lm0In_lost (h : (s.frameBegun n p payload comma lm0).locked n p = false) :
    s.lm0In n p payload comma lm0 none = s.frameBegun n p payload comma lm0 := by
  rw [State.frameBegun] at h ⊢
  simp [State.lm0In, h]

theorem lm0In_other (h : (s.frameBegun n p payload comma lm0).locked n p = true) (hd : lm0.1 ≠ hControl) :
    s.lm0In n p payload comma lm0 none = s.frameBegun n p payload comma lm0 := by
  rw [State.frameBegun] at h ⊢
  simp [State.lm0In, h, hd]

theorem lm0In_control (h : (s.frameBegun n p payload comma lm0).locked n p = true) (hd : lm0.1 = hControl) :
    s.lm0In n p payload comma lm0 none = (s.frameBegun n p payload comma lm0).lm0Fields n p (lm0.2 % 2 ^ 64) := by
  rw [State.frameBegun] at h ⊢
  simp [State.lm0In, h, hd]

end

/-- What the lane keeps of LM0: its code, and how often its STATE has come in a row. -/
def LaneRx.heard (x : LaneRx) (lane st : Nat) : LaneRx :=
  { x with codes := [lane], st := st, stN := if x.st = st then x.stN + 1 else 1 }

/-- The state once LM0 has reseeded the descrambler and is kept. -/
def State.lm0Kept (s : State) (n p body : Nat) : State :=
  let u := s.reseed n p (bits body 57 0)
  u.setLaneRx n p ((u.laneRx n p).heard (bits body 63 60) (bits body 59 58))

section
variable {body : Nat}
  (hst : (((s.reseed n p (bits body 57 0)).laneRx n p).heard (bits body 63 60) (bits body 59 58)).stN ≠ 2)
include hst

/-- The second frame with the same code, on the spare-role lane with no swap announced, moves the lane (R203). -/
theorem lm0Fields_moves (hcode : ((s.reseed n p (bits body 57 0)).laneRx n p).codes = [bits body 63 60])
    (hlane : bits body 63 60 < lanesOf n) (hspare : (s.lm0Kept n p body).sparePhys n = p)
    (hann : ((s.lm0Kept n p body).link n).farAnn = none) :
    s.lm0Fields n p body = (s.lm0Kept n p body).swapRx n (bits body 63 60) 1 :=
  (if_neg hst).trans (if_pos ⟨by rw [hcode]; exact BEq.rfl, hlane, hspare, Option.isNone_iff_eq_none.2 hann⟩)

theorem lm0Fields_other (hcode : ((s.reseed n p (bits body 57 0)).laneRx n p).codes ≠ [bits body 63 60]) :
    s.lm0Fields n p body = s.lm0Kept n p body :=
  (if_neg hst).trans (if_neg fun ⟨htwo, _⟩ => hcode (eq_of_beq htwo))

end

/-- The lanes that a port has of a word of nine lanes: of the pair link 0 to 3 and 8 (R176). -/
def ownLanes (n v : Nat) : Nat := if n = 12 then v &&& 0x10F else v

/-! What the commands of the lanes do to a part that is not held in reset. -/

section
variable (hs : s.inReset = false)
include hs

theorem exec_bringup_none (h : s.laneRuns n = false) : exec (.bringup n) s = .next s :=
  (act_live s _ hs).trans (congrArg _ (if_neg fun ⟨_, hruns, _⟩ => ne_true_of_eq_false h hruns))

theorem exec_laneLock_none (got : LaneHunt) (h : hunt got.raw got.len = none) : exec (.laneLock n p got) s = .next s :=
  (act_live s _ hs).trans (congrArg _ (if_neg fun ⟨_, _, _, _, _, hfound, _⟩ => by simp [h] at hfound))

theorem exec_lm1_none {bodies : List (Nat × Nat)} (h : s.lmPick n 0 bodies = none) :
    exec (.lm1 n bodies) s = .next s := by
  refine (act_live s _ hs).trans (congrArg _ ?_)
  rw [h]

theorem exec_lm1 {bodies : List (Nat × Nat)} {b : Nat} (h : s.lmPick n 0 bodies = some b) :
    exec (.lm1 n bodies) s = .next (s.setLink n { s.link n with
      farFrame := bits b 11 0
      farReq := if bits b 31 28 < lanesOf n then some (bits b 31 28) else none
      farAnn := if bits b 15 12 = 15 then (s.link n).farAnn else some (bits b 15 12, bits b 27 16) }) := by
  refine (act_live s _ hs).trans (congrArg _ ?_)
  rw [h]

theorem exec_lm2_none {bodies : List (Nat × Nat)} (h : s.lmPick n 64 bodies = none) :
    exec (.lm2 n bodies) s = .next s := by
  refine (act_live s _ hs).trans (congrArg _ ?_)
  rw [h]

theorem exec_lm2 {bodies : List (Nat × Nat)} {b : Nat} (h : s.lmPick n 64 bodies = some b) :
    exec (.lm2 n bodies) s = .next ((((s.setLink n { s.link n with farFlag := ownLanes n (bits b 24 16) }).wr
      (Fd.PORT_LANE_FLAG_FAR_UP n) (bits b 33 33)).wr (Fd.PORT_LANE_FLAG_FAR_SPARE_READY n) (bits b 32 32)).wr
        (Fd.PORT_LANE_FLAG_FAR_LOCK n) (ownLanes n (bits b 8 0))) := by
  refine (act_live s _ hs).trans (congrArg _ ?_)
  rw [h]
  rfl

/-- The CTLE code driven to its upper edge, the taps staying. -/
theorem exec_laneFlag_ctle (hk : s.rxLogical n p = some k) (hst : s.rd (Fd.PORT_LANE_STAT_STATE n) ≠ 3)
    (hedge : ((s.laneRx n p).adapted (s.rd (Fd.PORT_LANE_CFG_TAP_WIN n))
      ((s.laneRx n p).ctleTrn + s.rd (Fd.PORT_LANE_CFG_TAP_WIN n)) (s.laneRx n p).taps).clamp ≠ none) :
    exec (.laneFlag n p 0 true) s = .next ((s.setLaneRx n p ((s.laneRx n p).adapted
      (s.rd (Fd.PORT_LANE_CFG_TAP_WIN n)) ((s.laneRx n p).ctleTrn + s.rd (Fd.PORT_LANE_CFG_TAP_WIN n))
        (s.laneRx n p).taps)).flagLane n p k) := by
  have taps := adapted_congr (s.laneRx n p) (s.rd (Fd.PORT_LANE_CFG_TAP_WIN n))
    ((s.laneRx n p).ctleTrn + s.rd (Fd.PORT_LANE_CFG_TAP_WIN n)) fun i hi =>
      nth_map_range (fun i => nth 0 (s.laneRx n p).taps i) hi
  rw [← taps] at hedge ⊢
  exact (act_live s _ hs).trans (congrArg _ ((if_pos (by rw [hk]; rfl)).trans (adapt_clamped hst hk hedge)))

theorem exec_laneFlag_frozen (tap : Nat) (up : Bool) (h : s.rd (Fd.PORT_LANE_STAT_STATE n) = 3) :
    exec (.laneFlag n p tap up) s = .next s :=
  (act_live s _ hs).trans (congrArg _ (ite_eq_right_iff.2 fun _ => adapt_frozen _ _ h))

theorem exec_lm0_unlocked (payload : List Nat) (comma lm : Group) (loop : Option (Int × List Int))
    (h : s.locked n p = false) : exec (.lm0 n p payload comma lm loop) s = .next s :=
  (act_live s _ hs).trans (congrArg _ (if_neg fun ⟨_, hlock⟩ => ne_true_of_eq_false h hlock))

variable (hn : n < 13)
include hn

theorem exec_bringup (hruns : s.laneRuns n = true) (hst : s.lstate n = lOFF ∨ s.lstate n = lTEST) :
    exec (.bringup n) s = .next (s.bringup n) :=
  (act_live s _ hs).trans (congrArg _ (if_pos ⟨hn, hruns, hst⟩))

theorem exec_lockLost (hlock : s.locked n p = true) (hj : s.judged n p = true) :
    exec (.lockLost n p) s = .next (s.loseLock n p) :=
  (act_live s _ hs).trans (congrArg _ (if_pos ⟨hn, hlock, hj⟩))

theorem exec_linkFramesStart (f : Nat) (hup : s.on (Fd.PORT_LANE_STAT_UP n) = true)
    (hst : s.rd (Fd.PORT_LANE_STAT_STATE n) = 1) :
    exec (.linkFramesStart (n, f)) s = .next ((s.toFrame n f).wr (Fd.PORT_LANE_STAT_STATE n) 2) :=
  (act_live s _ hs).trans (congrArg _ (if_pos ⟨hn, hup, hst⟩))

theorem exec_bringupLate (hup : s.on (Fd.PORT_LANE_STAT_UP n) = false) (hst : s.lstate n = lTRAIN) :
    exec (.bringupLate n) s = .next (if s.on (Fd.PORT_LANE_STAT_LATE n) then s else
      (s.wr (Fd.PORT_LANE_STAT_LATE n) 1).raise (linkSrc n 0) 2 0) := by
  refine (act_live s _ hs).trans (congrArg _ ?_)
  cases h : s.on (Fd.PORT_LANE_STAT_LATE n) <;> simp [hn, hup, hst]

theorem exec_laneFailed (hready : s.on (Fd.PORT_LANE_STAT_SPARE_READY n) = false)
    (hfailed : bit (s.rd (Fd.PORT_LANE_STAT_FAILED n)) (s.sparePhys n) = false)
    (hms : 1000 ≤ (s.laneRx n (s.sparePhys n)).spareMs) :
    exec (.laneFailed n) s = .next (((s.wrBit (Fd.PORT_LANE_STAT_FAILED n) (s.sparePhys n) true).raise (linkSrc n 1) 7
      (laneAddr (s.sparePhys n) 15 0 0 0)).withdraw n) :=
  (act_live s _ hs).trans (congrArg _ (if_pos ⟨hn, hms, by rw [hready]; rfl, by rw [hfailed]; rfl⟩))

/-- Outside lane test the spare-role lane's errors are counted and judged. -/
theorem exec_spareReady (len rx : Nat) (hst : s.lstate n ≠ lOFF) (htest : s.on (Fd.PORT_LANE_TEST_TEST n) = false)
    (hp : s.sparePhys n ∈ physOf n) :
    exec (.spareReady n [(s.sparePhys n, len, rx)]) s = .next
      ((s.countErrs n (s.sparePhys n, len, rx)).judgeSpare n (s.checked n (s.sparePhys n) len rx)) := by
  refine (act_live s _ hs).trans (congrArg _ ((if_pos ⟨hn, hst⟩).trans ?_))
  have still := (laneTest_countErrs s n (s.sparePhys n) len rx).trans htest
  simp [hp, still]

theorem exec_lm0 (payload : List Nat) (comma lm : Group) (h : s.locked n p = true) :
    exec (.lm0 n p payload comma lm none) s = .next ((s.lm0In n p payload comma lm none).releaseIn n) :=
  (act_live s _ hs).trans (congrArg _ (if_pos ⟨hn, h⟩))

/-- A comma found and confirmed within the deskew range: the lane locks with the values its loops have reached. -/
theorem exec_laneLock (got : LaneHunt) (hp : p ∈ physOf n) (hst : s.lstate n ≠ lOFF) (hj : s.judged n p = true)
    (hl : s.locked n p = false) (hfound : (hunt got.raw got.len).isSome = true) (hskew : got.skew ≤ 80) :
    exec (.laneLock n p got) s = .next (((s.setLocked n p true).setLaneRx n p
      (((s.setLocked n p true).laneRx n p).locks got ((s.setLocked n p true).rxLogical n p).isSome)).lanesUp n) :=
  (act_live s _ hs).trans (congrArg _ (if_pos ⟨hn, hp, hst, hj, by rw [hl]; rfl, hfound, hskew⟩))

end

end Sys2Proof.Machine

section
open Sys2Proof Sys2Proof.Machine

/-- Settles O22, command by command. -/
theorem laneBringUpAndMessages : Obligations.LaneBringUpAndMessages := by
  intro s n hs hn
  refine ⟨?bringup, exec_bringup_none hs, ?lock, ?noComma, lanesUp_all,
    fun p => exec_lockLost hs hn, fun p => ⟨fun k => loseLock_logical, loseLock_spare⟩, exec_linkFramesStart hs hn,
    exec_bringupLate hs hn, fun bodies => ⟨exec_lm1_none hs, exec_lm2_none hs⟩, fun bodies b => exec_lm2 hs,
    fun bodies b => exec_lm1 hs, ?clamped, fun p tap up => exec_laneFlag_frozen hs tap up,
    exec_laneFailed hs hn, ?spare, fun errs h => within_limit_of_sparePasses (sparePasses_of_ready h),
    fun p => exec_lm0_unlocked hs, ?controlGroups,
    fun p body hst => ⟨lm0Fields_moves hst, lm0Fields_other hst⟩⟩
  case bringup =>
    exact fun hruns hst =>
      ⟨exec_bringup hs hn hruns hst, bringup_pins s n, bringup_flt s n, fun a => reg_bringup s n⟩
  case noComma => exact fun p raw len skew ctle taps => exec_laneLock_none hs ⟨raw, len, skew, ctle, taps⟩
  case clamped =>
    intro p k hk hst x win y z u hedge
    exact exec_laneFlag_ctle hs hk hst hedge
  case lock =>
    intro p raw len skew ctle taps hp hst hj hl hfound hskew
    rw [exec_laneLock hs hn ⟨raw, len, skew, ctle, taps⟩ hp hst hj hl hfound hskew]
    exact ⟨fun hspare => by rw [hspare]; rfl, fun hlogical => by rw [hlogical]; rfl⟩
  case spare =>
    exact fun len rx hst htest hp =>
      ⟨_, exec_spareReady hs hn len rx hst htest hp, countErrs_none, fun k => countErrs_some⟩
  case controlGroups =>
    intro p pay comma lm hlock f u
    rw [exec_lm0 hs hn pay comma lm hlock]
    exact ⟨fun h => by rw [lm0In_lost h]; rfl, fun h hd => by rw [lm0In_other h hd]; rfl,
      fun h hd => by rw [lm0In_control h hd]; rfl⟩

end

/-! ### Swaps, lane test and injection (R199–R206, R214, R667) -/

namespace Sys2Proof.Machine

variable {s : State} {n k p : Nat}

theorem reg_swapGo {a : Nat} (ha : swapFrame n a) (s : State) (k dir : Nat) : (s.swapGo n k dir).reg a = s.reg a := by
  have swap (t : State) (hi lo v : Nat) : (t.wr ⟨Ra.PORT_LANE_SWAP n, hi, lo⟩ v).reg a = t.reg a :=
    reg_wr_other t v ha.1
  unfold State.swapGo
  dsimp only
  split
  · exact swap ..
  · split
    · exact (swap ..).trans ((swap ..).trans (swap ..))
    · split
      · exact (swap ..).trans ((reg_reqSwap ha ..).trans ((swap ..).trans (swap ..)))
      · exact (swap ..).trans ((reg_setLink ..).trans ((swap ..).trans (swap ..)))

/-! A request with a ready spare, and none standing, stands; without one NO_SPARE is raised (R199). -/

theorem reqSwap_unready (sw : Bool) (h : s.spareOk n = false) : s.reqSwap n k sw = (s.noSpare n k, false) := by
  simp [State.reqSwap, h]

theorem reqSwap_stands (sw : Bool) (h : s.spareOk n = true) (hnone : (s.link n).reqLane = none) :
    s.reqSwap n k sw = (s.setLink n { s.link n with reqLane := some k, reqSw := sw }, true) := by
  simp [State.reqSwap, h, hnone]

/-! LANE_SWAP (R214): `dir` 0 receive, 1 transmit. -/

/-- DIR and LANE as written. -/
def State.swapAsked (s : State) (n k dir : Nat) : State :=
  (s.wr (Fd.PORT_LANE_SWAP_DIR n) dir).wr (Fd.PORT_LANE_SWAP_LANE n) k

@[simp] theorem link_swapAsked (s : State) (n k dir m : Nat) : (s.swapAsked n k dir).link m = s.link m := (rfl)

theorem swapBusy_rx : s.swapBusy n 0 = (s.link n).reqLane.isSome := rfl

theorem swapBusy_tx : s.swapBusy n 1 = true ↔ (s.link n).txAnn ≠ none ∨ (s.link n).swReq ≠ none := by
  simp [State.swapBusy, Option.isSome_iff_ne_none]

theorem swapGo_busy {dir : Nat} (h : s.swapBusy n dir = true) :
    s.swapGo n k dir = s.wr (Fd.PORT_LANE_SWAP_RESULT n) 4 := if_pos h

theorem swapGo_beyond {dir : Nat} (hbusy : s.swapBusy n dir = false) (hk : lanesOf n ≤ k) :
    s.swapGo n k dir = (s.swapAsked n k dir).wr (Fd.PORT_LANE_SWAP_RESULT n) 5 :=
  (if_neg (ne_true_of_eq_false hbusy)).trans (if_pos hk)

/-- A receive swap asks as the receiver does, and RESULT says whether the request stands. -/
theorem swapGo_rx (hbusy : s.swapBusy n 0 = false) (hk : k < lanesOf n) :
    s.swapGo n k 0 = (((s.swapAsked n k 0).reqSwap n k true).1).wr (Fd.PORT_LANE_SWAP_RESULT n)
      (if ((s.swapAsked n k 0).reqSwap n k true).2 then 2 else 3) :=
  (if_neg (ne_true_of_eq_false hbusy)).trans ((if_neg (Nat.not_le.2 hk)).trans (if_pos rfl))

theorem swapGo_rx_unready (hbusy : s.swapBusy n 0 = false) (hk : k < lanesOf n)
    (hspare : (s.swapAsked n k 0).spareOk n = false) :
    s.swapGo n k 0 = ((s.swapAsked n k 0).noSpare n k).wr (Fd.PORT_LANE_SWAP_RESULT n) 3 := by
  rw [swapGo_rx hbusy hk, reqSwap_unready true hspare]
  rfl

theorem swapGo_rx_stands (hbusy : s.swapBusy n 0 = false) (hk : k < lanesOf n)
    (hspare : (s.swapAsked n k 0).spareOk n = true) (hnone : (s.link n).reqLane = none) :
    s.swapGo n k 0 = ((s.swapAsked n k 0).setLink n
      { (s.swapAsked n k 0).link n with reqLane := some k, reqSw := true }).wr (Fd.PORT_LANE_SWAP_RESULT n) 2 := by
  rw [swapGo_rx hbusy hk, reqSwap_stands true hspare hnone]
  rfl

theorem swapGo_tx (hbusy : s.swapBusy n 1 = false) (hk : k < lanesOf n) :
    s.swapGo n k 1 = ((s.swapAsked n k 1).setLink n { (s.swapAsked n k 1).link n with swReq := some k }).wr
      (Fd.PORT_LANE_SWAP_RESULT n) 2 :=
  (if_neg (ne_true_of_eq_false hbusy)).trans ((if_neg (Nat.not_le.2 hk)).trans (if_neg Nat.one_ne_zero))

/-! The swap of a transmit lane (R200). -/

theorem link_swapTx (s : State) (n k : Nat) : (s.swapTx n k).link n = { s.link n with
    txSpare := s.txPhys n k
    txAnn := none
    farReq := none
    swReq := if (s.link n).swReq = some k then none else (s.link n).swReq } := by
  simp only [State.swapTx, link_raise, link_setLink_same]

/-- The lane is sent on the lane that was the spare. -/
theorem txPhys_swapTx (hk : k < 8) : (s.swapTx n k).txPhys n k = (s.link n).txSpare % 16 := by
  let map : Fld := ⟨Ra.PORT_LANE_TXMAP n, 4 * k + 3, 4 * k⟩
  have ok : map.ok = true := by simp [map, Fld.ok]; omega
  have frame := swapFrame_laneTxmap n n
  have cnt : Ra.PORT_LANE_TXMAP n ≠ Ra.PORT_LANE_CNT n := by simp [Ra.PORT_LANE_TXMAP, Ra.PORT_LANE_CNT]
  have width : 2 ^ (4 * k + 3 - 4 * k + 1) = 16 :=
    congrArg (fun i => 2 ^ (i + 1)) (Nat.add_sub_cancel_left (4 * k) 3)
  have left : (s.swapTx n k).reg map.addr = (s.wr map (s.link n).txSpare).reg map.addr := by
    simp only [State.swapTx]
    rw [reg_raise _ _ _ _ _ frame.2, reg_setLink, reg_swEnds frame, reg_count_other _ _ cnt cnt]
    rfl
  calc (s.swapTx n k).txPhys n k = (s.wr map (s.link n).txSpare).rd map := rd_of_reg left
    _ = (s.link n).txSpare % 16 := (rd_wr_same s _ ok).trans (congrArg _ width)

/-! Re-training (R667). -/

/-- A port's turn in a re-training. -/
def State.retrainPort (s : State) (n : Nat) : State :=
  if s.on (Fd.PORT_LANE_STAT_SPARE_READY n) then
    { s with cal := { s.cal with
      turn := Tab.put (fun _ => 0) s.cal.turn n ((Tab.get (fun _ => 0) s.cal.turn n + 1) % lanesOf n) } }.swapGo n
        (Tab.get (fun _ => 0) s.cal.turn n) 0
  else s

theorem on_spareReady_retrainPort (s : State) (n m : Nat) :
    (s.retrainPort n).on (Fd.PORT_LANE_STAT_SPARE_READY m) = s.on (Fd.PORT_LANE_STAT_SPARE_READY m) := by
  refine on_of_reg ?_
  unfold State.retrainPort
  split
  · exact reg_swapGo (swapFrame_laneStat n m) ..
  · rfl

/-- Ports without a ready spare are passed over. -/
theorem retrain_unready (l : List Nat) (h : ∀ m ∈ l, s.on (Fd.PORT_LANE_STAT_SPARE_READY m) = false) :
    l.foldl State.retrainPort s = s := by
  induction l with
  | nil => rfl
  | cons m l ih =>
    have skip : s.retrainPort m = s := if_neg (ne_true_of_eq_false (h m List.mem_cons_self))
    rw [List.foldl_cons, skip]
    exact ih fun x hx => h x (List.mem_cons_of_mem m hx)

/-- Where one port alone has a ready spare only that port re-trains. -/
theorem retrain_single {l : List Nat} (hn : n ∈ l) (hl : l.Nodup)
    (h : ∀ m ∈ l, m ≠ n → s.on (Fd.PORT_LANE_STAT_SPARE_READY m) = false) :
    l.foldl State.retrainPort s = s.retrainPort n := by
  obtain ⟨l₁, l₂, rfl⟩ := List.append_of_mem hn
  have absent : n ∉ l₁ ++ l₂ := (List.nodup_cons.1 (List.perm_middle.nodup_iff.1 hl)).1
  have unready (m : Nat) (hm : m ∈ l₁ ++ l₂) : s.on (Fd.PORT_LANE_STAT_SPARE_READY m) = false := by
    refine h m ?_ fun e => absent (e ▸ hm)
    rcases List.mem_append.1 hm with hm | hm <;> simp [hm]
  rw [List.foldl_append, List.foldl_cons, retrain_unready l₁ fun m hm => unready m (List.mem_append_left _ hm)]
  exact retrain_unready l₂ fun m hm => by
    rw [on_spareReady_retrainPort, unready m (List.mem_append_right _ hm)]

/-! Injection (R206). -/

theorem link_injectBit (s : State) (n p : Nat) : (s.injectBit n p).link n = { s.link n with
    inj := Tab.put (fun _ => 0) (s.link n).inj p ((s.link n).toInvert p + 1) } := link_setLink_same ..

/-! Lane test (R205). -/

theorem laneTest_enters (h : s.on (Fd.PORT_LANE_TEST_TEST n) = false) : s.laneTest n true =
    (((s.wr (Fd.PORT_LANE_TEST_TEST n) 1).wr (Fd.PORT_LANE_STAT_UP n) 0).enterRecover n 1 true).setLstate n lTEST :=
  if_pos ⟨rfl, by rw [h]; rfl⟩

theorem laneTest_leaves (h : s.on (Fd.PORT_LANE_TEST_TEST n) = true) : s.laneTest n false =
    if (s.wr (Fd.PORT_LANE_TEST_TEST n) 0).laneRuns n then (s.wr (Fd.PORT_LANE_TEST_TEST n) 0).bringup n
    else (s.wr (Fd.PORT_LANE_TEST_TEST n) 0).portOff n := by
  simp [State.laneTest, h, b2n]

/-! What the commands of swaps, lane test and injection do to a part that is not held in reset. -/

section
variable (hs : s.inReset = false)
include hs

theorem exec_swapAnnounce (f : Nat) (hnone : (s.link n).txAnn = none)
    (hready : s.on (Fd.PORT_LANE_FLAG_FAR_SPARE_READY n) = true) (hst : s.rd (Fd.PORT_LANE_STAT_STATE n) ≠ 0)
    (hreq : (s.link n).farReq = some k ∨ ((s.link n).farReq = none ∧ (s.link n).swReq = some k)) :
    exec (.swapAnnounce n f) s = .next ((s.toFrame n f).setLink n
      { (s.toFrame n f).link n with txAnn := some (k, (f + 4) % 4096) }) := by
  refine (act_live s _ hs).trans (congrArg _ ?_)
  rcases hreq with hreq | ⟨hfar, hreq⟩
  · simp [hnone, hready, hst, hreq]
  · simp [hnone, hready, hst, hfar, hreq]

theorem exec_swapAnnounce_unready (f : Nat) (h : s.on (Fd.PORT_LANE_FLAG_FAR_SPARE_READY n) = false) :
    exec (.swapAnnounce n f) s = .next s :=
  (act_live s _ hs).trans (congrArg _ (if_pos (.inr (.inl (by rw [h]; rfl)))))

theorem exec_laneSwap_tx {f : Nat} (h : (s.link n).txAnn = some (k, f)) :
    exec (.laneSwap n true) s = .next ((s.toFrame n f).swapTx n k) := by
  refine (act_live s _ hs).trans (congrArg _ ((if_pos rfl).trans ?_))
  rw [h]

theorem exec_laneSwap_rx {f : Nat} (h : (s.link n).farAnn = some (k, f)) (hk : k < lanesOf n) :
    exec (.laneSwap n false) s = .next (s.swapRx n k 0) := by
  refine (act_live s _ hs).trans (congrArg _ ((if_neg Bool.false_ne_true).trans ?_))
  rw [h]
  exact if_pos hk

theorem exec_prbsInj : exec (.prbsInj n p) s = .next (if s.injects n p then s.injectBit n p else s) := act_live s _ hs

theorem exec_periodicInjection (h : s.injects n p = true) (hr : s.rd (Fd.PORT_PRBS_CTL_INJ_RATE n p) ≠ 0) :
    exec (.periodicInjection n p) s =
      .next ((s.sendPattern n p (2 ^ (s.rd (Fd.PORT_PRBS_CTL_INJ_RATE n p) + 9) - 1)).injectBit n p) :=
  (act_live s _ hs).trans (congrArg _ (if_pos ⟨h, hr⟩))

theorem exec_periodicInjection_none (h : s.injects n p = false ∨ s.rd (Fd.PORT_PRBS_CTL_INJ_RATE n p) = 0) :
    exec (.periodicInjection n p) s = .next s := by
  refine (act_live s _ hs).trans (congrArg _ (if_neg fun ⟨hinj, hr⟩ => ?_))
  exact h.elim (fun h => ne_true_of_eq_false h hinj) hr

theorem exec_laneRetrain : exec .laneRetrain s = .next ((List.range 13).foldl State.retrainPort s) := act_live s _ hs

variable (hn : n < 13)
include hn

theorem exec_laneSwapRx : exec (.laneSwapRx n k) s = .next (s.swapGo n (k % 8) 0) :=
  (act_live s _ hs).trans (congrArg _ (if_pos hn))

theorem exec_laneSwapTx : exec (.laneSwapTx n k) s = .next (s.swapGo n (k % 8) 1) :=
  (act_live s _ hs).trans (congrArg _ (if_pos hn))

theorem exec_laneTest (on : Bool) : exec (.laneTest n on) s = .next (s.laneTest n on) :=
  (act_live s _ hs).trans (congrArg _ (if_pos hn))

end

end Sys2Proof.Machine

section
open Sys2Proof Sys2Proof.Machine

/-- Settles O23, command by command. -/
theorem laneSwaps : Obligations.LaneSwaps := by
  intro s n hs hn
  refine ⟨?receive, ?transmit, fun f k => exec_swapAnnounce hs f, exec_swapAnnounce_unready hs, ?swapsTx,
    fun k f => exec_laneSwap_rx hs, fun h => (exec_laneTest hs hn true).trans (congrArg _ (laneTest_enters h)),
    fun h => (exec_laneTest hs hn false).trans (congrArg _ (laneTest_leaves h)), ?injection, ?retraining⟩
  case receive =>
    intro k u
    rw [exec_laneSwapRx hs hn]
    have idle (h : (s.link n).reqLane = none) : s.swapBusy n 0 = false := by rw [swapBusy_rx, h]; rfl
    exact ⟨fun h => congrArg _ (swapGo_busy h), fun h hk => congrArg _ (swapGo_beyond (idle h) hk),
      fun h hk hspare => congrArg _ (swapGo_rx_unready (idle h) hk hspare),
      fun h hk hspare => congrArg _ (swapGo_rx_stands (idle h) hk hspare h)⟩
  case transmit =>
    intro k u
    rw [exec_laneSwapTx hs hn]
    have idle (hann : (s.link n).txAnn = none) (hreq : (s.link n).swReq = none) : s.swapBusy n 1 = false :=
      eq_false_of_ne_true fun h => (swapBusy_tx.1 h).elim (absurd hann) (absurd hreq)
    exact ⟨fun h => congrArg _ (swapGo_busy (swapBusy_tx.2 h)),
      fun hann hreq hk => congrArg _ (swapGo_beyond (idle hann hreq) hk),
      fun hann hreq hk => congrArg _ (swapGo_tx (idle hann hreq) hk)⟩
  case swapsTx =>
    intro k f h u
    exact ⟨exec_laneSwap_tx hs h, by rw [link_swapTx], by rw [link_swapTx], txPhys_swapTx⟩
  case injection =>
    intro p
    refine ⟨fun h => ?_, fun h => ?_, ?periodic, link_injectBit s n p⟩
    · rw [exec_prbsInj hs, if_pos h]
    · rw [exec_prbsInj hs, if_neg (ne_true_of_eq_false h)]
    case periodic =>
      rintro r rfl
      exact ⟨exec_periodicInjection hs, exec_periodicInjection_none hs⟩
  case retraining =>
    intro hready hothers
    rw [exec_laneRetrain hs,
      retrain_single (List.mem_range.2 hn) List.nodup_range fun m hm => hothers m (List.mem_range.1 hm)]
    exact congrArg _ (if_pos hready)

end

/-! ### What a port sends next, and the timers of its transmitter (R191, R231–R235, R245, R254, R685) -/

namespace Sys2Proof.Machine

variable {s : State} {n : Nat}

/-! A flit sent leaves what the INIT exchange has seen. -/

theorem framesGone_seen (l : Link) (n st k : Nat) : (l.framesGone n st k).seen = l.seen := by
  unfold Link.framesGone
  split <;> rfl

theorem place_seen (l : Link) (n st : Nat) (f : Flit) : (l.place n st f).seen = l.seen := by
  unfold Link.place
  dsimp only
  split
  · exact framesGone_seen l n st 1
  · split
    · exact framesGone_seen l n st 1
    · rfl

theorem sendFlit_seen (f : Flit) : ((s.sendFlit n f).link n).seen = (s.link n).seen := by
  rw [State.sendFlit, link_setLink_same]
  exact place_seen ..

/-! A flit in INIT or RECOVER. -/

theorem sendInit_down (h : s.on (Fd.PORT_LANE_STAT_UP n) = false) : s.sendInit n = s.sendFlit n (s.blank n fIDLE) :=
  if_neg (ne_true_of_eq_false h)

/-- Before a good INIT has come the exchange does not end. -/
theorem sendInit_up (h : s.on (Fd.PORT_LANE_STAT_UP n) = true) (hseen : (s.link n).seen = false) :
    s.sendInit n = s.sendFlit n (s.initFlit n) :=
  (if_pos h).trans (if_neg (ne_true_of_eq_false (sendFlit_seen (s.initFlit n) |>.trans hseen)))

/-! A flit in ACTIVE with encryption off and no open run. -/

theorem rekeyStall_plain (h : s.encOn n = false) : s.rekeyStall n = s := by
  simp [State.rekeyStall, State.keyless, h]

theorem runFull_closed {l : Link} (h : l.txRun = []) : l.runFull = false := by simp [Link.runFull, h]

theorem closing_closed (h : (s.link n).txRun = []) (go : State → State) : s.closing n go = go s := by
  simp [State.closing, h]

/-- A flit that neither a NAK nor a replay asks for: DATA where some slot may go, else IDLE (R231). -/
def State.sendFresh (s : State) (n : Nat) : State :=
  if s.canData n = true ∧ (State.fill 7 s n).2 ≠ [] then (State.fill 7 s n).1.sendData n (State.fill 7 s n).2
  else s.sendFlit n (s.blank n fIDLE)

theorem sendActive_plain (hst : s.lstate n = lACTIVE) (henc : s.encOn n = false) (hrun : (s.link n).txRun = []) :
    s.sendActive n = if (s.link n).nakDue then s.sendNak n
      else (s.link n).resend.elim (s.sendFresh n) (s.sendReplay n) := by
  have notHold : s.lstate n ≠ lHOLD := by rw [hst]; decide
  simp only [State.sendActive, rekeyStall_plain henc, runFull_closed hrun, closing_closed hrun, notHold, false_and,
    Bool.false_eq_true, if_false]
  congr 1
  cases (s.link n).resend with
  | some q => rfl
  | none =>
    simp only [Option.elim_none, State.sendFresh, List.isEmpty_iff]
    cases s.canData n with
    | false => simp
    | true => by_cases h : (State.fill 7 s n).2 = [] <;> simp [h]

/-- With no message begun and none that may go there is no slot to send. -/
theorem fill_nothing (k : Nat) (hslots : (s.link n).txSlots = []) (hvc : s.nextVc n = none) :
    State.fill (k + 1) s n = (s, []) := by
  simp [State.fill, State.takeMsg, hslots, hvc]

theorem sendFresh_idle (h : s.canData n = false ∨ (s.link n).txSlots = [] ∧ s.nextVc n = none) :
    s.sendFresh n = s.sendFlit n (s.blank n fIDLE) := by
  refine if_neg fun ⟨hroom, hfill⟩ => ?_
  rcases h with h | ⟨hslots, hvc⟩
  · exact ne_true_of_eq_false h hroom
  · exact hfill (by rw [fill_nothing 6 hslots hvc])

/-! The flit that goes next, by the link's state. -/

section
variable (hp : s.pairReturns n = s)
include hp

theorem transmit_unstarted (h : s.rd (Fd.PORT_LANE_STAT_STATE n) < 2) : s.transmit n = s := by
  simp only [State.transmit, hp, if_pos h]

theorem transmit_silent (h : s.lstate n = lOFF ∨ s.lstate n = lTRAIN ∨ s.lstate n = lTEST) : s.transmit n = s := by
  rcases h with h | h | h <;>
    simp [State.transmit, hp, h, lOFF, lTRAIN, lTEST, lINIT, lRECOVER, lACTIVE, lHOLD, lSTANDBY]

variable (hframes : 2 ≤ s.rd (Fd.PORT_LANE_STAT_STATE n))
include hframes

theorem transmit_init (h : s.lstate n = lINIT ∨ s.lstate n = lRECOVER) : s.transmit n = s.sendInit n := by
  simp only [State.transmit, hp, if_neg (Nat.not_lt.2 hframes), if_pos h]

theorem transmit_active (h : s.lstate n = lACTIVE) : s.transmit n = s.sendActive n := by
  simp [State.transmit, hp, Nat.not_lt.2 hframes, h, lINIT, lRECOVER, lACTIVE]

/-- With no NAK due it is the flit a replay has reached, else a fresh one. -/
theorem transmit_unasked (h : s.lstate n = lACTIVE) (henc : s.encOn n = false) (hrun : (s.link n).txRun = [])
    (hnak : (s.link n).nakDue = false) :
    s.transmit n = (s.link n).resend.elim (s.sendFresh n) (s.sendReplay n) := by
  rw [transmit_active hp hframes h, sendActive_plain h henc hrun, if_neg (ne_true_of_eq_false hnak)]

theorem transmit_standby (h : s.lstate n = lSTANDBY) : s.transmit n = s.sendFlit n (s.blank n fIDLE) := by
  simp [State.transmit, hp, Nat.not_lt.2 hframes, h, lINIT, lRECOVER, lACTIVE, lHOLD, lSTANDBY]

end

theorem pairReturns_port (h : n < 12) : s.pairReturns n = s := if_neg fun ⟨h12, _⟩ => absurd h12 (Nat.ne_of_lt h)

/-! A replay. -/

theorem sendReplay_reached {q : Nat} {f : Flit} {rest : List Flit}
    (h : ((s.link n).replay.dropWhile fun (x : Flit) => x.seq != q) = f :: rest) :
    s.sendReplay n q = (s.setLink n { s.link n with resend := rest.head?.map (·.seq) }).sendFlit n f := by
  simp only [State.sendReplay, h, List.drop_succ_cons, List.drop_zero]

theorem replayFrom_oldest {f : Flit} {rest : List Flit} (h : (s.link n).replay = f :: rest) :
    s.replayFrom n = (s.setLink n { s.link n with resend := some f.seq, rstart := some f.seq }).count
      (Fd.PORT_LINK_CNT_REPLAYS n) (Fd.PORT_LINK_CNT_REPLAY_OVF n) 1 := by
  simp only [State.replayFrom, h]

/-! What the commands of a transmitter do to a part that is not held in reset. -/

section
variable (hs : s.inReset = false)
include hs

theorem exec_eventMessage_none (h : s.eventNext n = false) : exec (.eventMessage n) s = .next s :=
  (act_live s _ hs).trans (congrArg _ (if_neg fun ⟨_, hnext⟩ => ne_true_of_eq_false h hnext))

theorem exec_eventMessage (hn : n < 12) (h : s.eventNext n = true) :
    exec (.eventMessage n) s = .next (s.sendActive n) :=
  (act_live s _ hs).trans (congrArg _ (if_pos ⟨hn, h⟩))

theorem exec_nakResend_none (h : (s.link n).nak = false) : exec (.nakResend n) s = .next s :=
  (act_live s _ hs).trans (congrArg _ (if_neg fun ⟨_, hnak⟩ => ne_true_of_eq_false h hnak))

variable (hn : n < 13)
include hn

theorem exec_flitTransmit : exec (.flitTransmit n) s = .next (s.transmit n) :=
  (act_live s _ hs).trans (congrArg _ (if_pos hn))

theorem exec_nakResend (h : (s.link n).nak = true) :
    exec (.nakResend n) s = .next (s.setLink n { s.link n with nakDue := true }) :=
  (act_live s _ hs).trans (congrArg _ (if_pos ⟨hn, h⟩))

theorem exec_replayTimeout (hst : s.lstate n = lACTIVE ∨ s.lstate n = lHOLD) (h : (s.link n).replay ≠ []) :
    exec (.replayTimeout n) s = .next (s.replayFrom n) :=
  (act_live s _ hs).trans (congrArg _ (if_pos ⟨hn, hst, by simpa using h⟩))

theorem exec_replayAgeExpiry (h : (s.link n).replay ≠ []) :
    exec (.replayAgeExpiry n) s = .next (s.enterRecover n 2 true) :=
  (act_live s _ hs).trans (congrArg _ (if_pos ⟨hn, by simpa using h⟩))

theorem exec_rekeyKeyReady (h : (s.link n).keyAsked = true) :
    exec (.rekeyKeyReady n) s = .next (s.setLink n { s.link n with keyReady := true }) :=
  (act_live s _ hs).trans (congrArg _ (if_pos ⟨hn, h⟩))

end

end Sys2Proof.Machine

section
open Sys2Proof Sys2Proof.Machine

/-- Settles O24, by the state of the link and command by command. -/
theorem flitTransmission : Obligations.FlitTransmission := by
  intro s n hs hn
  refine ⟨pairReturns_port, ?transmits, fun q f rest => sendReplay_reached, exec_nakResend hs hn,
    exec_nakResend_none hs, ?timeout, exec_replayAgeExpiry hs hn, exec_rekeyKeyReady hs hn, exec_eventMessage hs,
    exec_eventMessage_none hs⟩
  case timeout =>
    exact fun f rest hst h =>
      (exec_replayTimeout hs hn hst (by simp [h])).trans (congrArg _ (replayFrom_oldest h))
  case transmits =>
    intro hp
    rw [exec_flitTransmit hs hn]
    refine ⟨fun h => congrArg _ (transmit_silent hp h), fun h => congrArg _ (transmit_unstarted hp h),
      fun hframes => ⟨fun h => congrArg _ (transmit_standby hp hframes h), ?down, ?exchange, ?nak, ?replay, ?data,
        ?idle⟩⟩
    case down => exact fun hst hup => by rw [transmit_init hp hframes hst, sendInit_down hup]
    case exchange => exact fun hst hup hseen => by rw [transmit_init hp hframes hst, sendInit_up hup hseen]
    case nak =>
      exact fun hst henc hrun hnak => by
        rw [transmit_active hp hframes hst, sendActive_plain hst henc hrun, if_pos hnak]
    case replay =>
      exact fun q hst henc hrun hnak hq => by
        rw [transmit_unasked hp hframes hst henc hrun hnak, hq, Option.elim_some]
    case data =>
      exact fun hst henc hrun hnak hq hroom hfill => by
        rw [transmit_unasked hp hframes hst henc hrun hnak, hq, Option.elim_none, State.sendFresh,
          if_pos ⟨hroom, hfill⟩]
    case idle =>
      exact fun hst henc hrun hnak hq h => by
        rw [transmit_unasked hp hframes hst henc hrun hnak, hq, Option.elim_none, sendFresh_idle h]

end

/-! ### What a received flit does, and entry to RECOVER (R226, R232–R234, R243–R249, R253, R262) -/

namespace Sys2Proof.Machine

variable {s : State} {n : Nat} {f : Flit}

/-- The flit has arrived and its credit report is used, as of every flit that passes its CRC (R237). -/
abbrev State.credited (s : State) (n : Nat) (f : Flit) : State := (s.arrive n f).takeCredit n f

/-- Its ACK is used too, as of every flit but a sequenced one that is not accepted (R232, R234). -/
abbrev State.acked (s : State) (n : Nat) (f : Flit) : State := (s.credited n f).takeAck n f

/-- The SEQ the receiver waits for, past the pending run (R232, R253). -/
abbrev State.wantSeq (s : State) (n : Nat) : Nat :=
  (s.rd (Fd.PORT_LINK_SEQ_RX_LAST n) + 1 + (s.link n).rxRun.length) % 4096

/-! Whether a flit is heard, and when (R188, R243). -/

theorem flitIn_unheard (h : s.hears n = false) : s.flitIn n f = s := by simp [State.flitIn, h]

theorem flitIn_held (h : s.hears n = true) (hcomma : s.commaMissing n = true) :
    s.flitIn n f = s.setLink n { s.link n with heldIn := (s.link n).heldIn ++ [f] } := by
  simp [State.flitIn, h, hcomma]

theorem flitIn_heard (h : s.hears n = true) (hcomma : s.commaMissing n = false) : s.flitIn n f = s.recv n f := by
  simp [State.flitIn, h, hcomma]

/-! Good and bad flits (R226, R227, R232). -/

theorem sequenced_of_type (h : f.ty = fDATA ∨ f.ty = fTAG) : flitSequenced f = true := by simpa [flitSequenced] using h

theorem unsequenced_of_type (hdata : f.ty ≠ fDATA) (htag : f.ty ≠ fTAG) : flitSequenced f = false := by
  simp [flitSequenced, hdata, htag]

theorem crcOk_of_good (h : flitGood f = true) : flitCrcOk f = true := by
  simp only [flitGood, Bool.and_eq_true, and_assoc] at h
  exact h.1

theorem bad_of_crcFails (h : flitCrcOk f = false) : flitGood f = false := by simp [flitGood, h]

theorem recv_sequenced (h : f.ty = fDATA ∨ f.ty = fTAG) : s.recv n f = s.recvSeq n f := by
  rw [State.recv, if_pos (sequenced_of_type h)]

/-- Any other flit is received as a plain one, with an effect of its own when it is good. -/
theorem recv_plain (h : flitSequenced f = false) : ∃ go, s.recv n f = s.recvPlain n f go := by
  rw [State.recv, if_neg (ne_true_of_eq_false h)]
  split
  · exact ⟨_, rfl⟩
  · split
    · exact ⟨_, rfl⟩
    · split
      · exact ⟨_, rfl⟩
      · exact ⟨_, rfl⟩

theorem recv_crcFails (h : flitCrcOk f = false) : s.recv n f = (s.arrive n f).badFlit n := by
  have bad := bad_of_crcFails h
  cases hseq : flitSequenced f with
  | true => simp [State.recv, hseq, State.recvSeq, h, bad]
  | false =>
    obtain ⟨go, hgo⟩ := recv_plain (s := s) (n := n) hseq
    simp [hgo, State.recvPlain, h, bad]

theorem recv_bad_sequenced (h : f.ty = fDATA ∨ f.ty = fTAG) (hcrc : flitCrcOk f = true) (hbad : flitGood f = false) :
    s.recv n f = (s.credited n f).badFlit n := by
  simp [recv_sequenced h, State.recvSeq, hcrc, hbad]

theorem recv_bad_plain (hdata : f.ty ≠ fDATA) (htag : f.ty ≠ fTAG) (hcrc : flitCrcOk f = true)
    (hbad : flitGood f = false) : s.recv n f = (s.acked n f).badFlit n := by
  obtain ⟨go, hgo⟩ := recv_plain (s := s) (n := n) (unsequenced_of_type hdata htag)
  simp [hgo, State.recvPlain, hcrc, hbad]

section
variable (hgood : flitGood f = true)
include hgood

theorem recvPlain_good (go : State → State) : s.recvPlain n f go = go (s.acked n f) := by
  simp [State.recvPlain, hgood, crcOk_of_good hgood]

/-! Good flits that are not sequenced, by their type. -/

theorem recv_idle (h : f.ty = fIDLE) : s.recv n f = s.acked n f := by
  simp [State.recv, flitSequenced, h, fIDLE, fDATA, fTAG, fNAK, fINIT, fHOLD, recvPlain_good hgood]

theorem recv_hold (h : f.ty = fHOLD) : s.recv n f =
    (s.acked n f).setLink n { (s.acked n f).link n with holdMode := some (flitByte f 0 0) } := by
  simp [State.recv, flitSequenced, h, fDATA, fTAG, fNAK, fINIT, fHOLD, recvPlain_good hgood]

theorem recv_nak (h : f.ty = fNAK) : s.recv n f = (s.acked n f).takeNak n (s.link n) f := by
  simp [State.recv, flitSequenced, h, fDATA, fTAG, fNAK, recvPlain_good hgood]

theorem recv_init (h : f.ty = fINIT) : s.recv n f = (s.acked n f).takeInit n f := by
  simp [State.recv, flitSequenced, h, fDATA, fTAG, fNAK, fINIT, recvPlain_good hgood]

/-! Good sequenced flits, by the link's state and their SEQ. -/

section
variable (h : f.ty = fDATA ∨ f.ty = fTAG)
include h

theorem recv_standby (hst : (s.credited n f).lstate n = lSTANDBY) : s.recv n f = s.credited n f := by
  simp [recv_sequenced h, State.recvSeq, hgood, crcOk_of_good hgood, hst]

variable (hst : (s.credited n f).lstate n ≠ lSTANDBY)
include hst

theorem recv_expected_outside (hseq : seqDist ((s.credited n f).wantSeq n) f.seq = 0)
    (hout : ¬ ((s.credited n f).lstate n = lACTIVE ∨ (s.credited n f).lstate n = lHOLD)) :
    s.recv n f = s.credited n f := by
  simp [recv_sequenced h, State.recvSeq, hgood, crcOk_of_good hgood, hst, hseq, hout]

theorem recv_expected (hseq : seqDist ((s.credited n f).wantSeq n) f.seq = 0)
    (hin : (s.credited n f).lstate n = lACTIVE ∨ (s.credited n f).lstate n = lHOLD) :
    s.recv n f = (s.credited n f).acceptSeq n f := by
  simp [recv_sequenced h, State.recvSeq, hgood, crcOk_of_good hgood, hst, hseq, hin]

theorem recv_repeated (hpos : 0 < seqDist ((s.credited n f).wantSeq n) f.seq)
    (hold : seqDist ((s.credited n f).wantSeq n) f.seq ≤ 2047) : s.recv n f = s.credited n f := by
  simp [recv_sequenced h, State.recvSeq, hgood, crcOk_of_good hgood, hst, Nat.ne_of_gt hpos, hold]

theorem recv_tooNew (hnew : 2047 < seqDist ((s.credited n f).wantSeq n) f.seq) :
    s.recv n f = (s.credited n f).badFlit n := by
  have notWanted := Nat.ne_of_gt (Nat.zero_lt_of_lt hnew)
  simp [recv_sequenced h, State.recvSeq, hgood, crcOk_of_good hgood, hst, notWanted, Nat.not_le_of_gt hnew]

end
end

/-! What the one expected does when it is accepted (R232, R253). -/

theorem acceptSeq_plain (henc : (s.takeAck n f).encOn n = false) :
    s.acceptSeq n f = ((s.takeAck n f).acceptTo n f.seq).takeSlots n f.codes f.slots := by
  simp [State.acceptSeq, henc]

theorem acceptSeq_data (henc : (s.takeAck n f).encOn n = true) (h : f.ty = fDATA) :
    s.acceptSeq n f = (s.takeAck n f).pendData n f := by
  simp [State.acceptSeq, henc, h, fDATA, fTAG]

theorem acceptSeq_tag (henc : (s.takeAck n f).encOn n = true) (h : f.ty = fTAG) :
    s.acceptSeq n f = (s.takeAck n f).endRun n f := by
  simp [State.acceptSeq, henc, h]

/-! A NAK (R234). -/

theorem takeNak_unknown {l : Link} (hcov : f.ack % 4096 ≠ l.covered) (hreplay : ∀ x ∈ l.replay, x.seq ≠ f.ack % 4096) :
    s.takeNak n l f = s := by
  have unknown : (l.replay.any fun (x : Flit) => x.seq == f.ack % 4096) = false := by simpa using hreplay
  simp [State.takeNak, hcov, unknown]

theorem takeNak_covered {l : Link} (hcov : f.ack % 4096 = l.covered) (hnone : l.resend = none) :
    s.takeNak n l f = s.replayFrom n := by
  simp [State.takeNak, hcov, hnone]

/-! An INIT in INIT (R245). -/

section
variable (hst : s.lstate n = lINIT)
include hst

theorem takeInit_refused {c : Nat} (hc : s.initCause n f = some c) (hfirst : (s.link n).initFail = false) :
    s.takeInit n f = (s.setLink n { s.link n with initFail := true }).raise (linkSrc n 3) 0xD c := by
  simp [State.takeInit, hst, lINIT, lACTIVE, lHOLD, lSTANDBY, hc, hfirst]

theorem takeInit_good (hc : s.initCause n f = none) :
    s.takeInit n f = (s.setLink n { s.link n with seen := true, farInit := some f }).tryExchange n := by
  simp [State.takeInit, hst, lINIT, lACTIVE, lHOLD, lSTANDBY, hc]

end

/-! Entry to RECOVER (R243, R259). -/

theorem enterRecover_other {cause : Nat} {reset : Bool} (hactive : s.lstate n ≠ lACTIVE) (hhold : s.lstate n ≠ lHOLD)
    (hstandby : s.lstate n ≠ lSTANDBY) :
    s.enterRecover n cause reset = if reset then s.wr (Fd.PORT_LINK_STAT_RESET_PEND n) 1 else s := by
  simp [State.enterRecover, hactive, hhold, hstandby]

/-- Fields of one register are apart when their bits are. -/
theorem apart_linkStat {hi lo hi' lo' : Nat} (h : hi' < lo ∨ hi < lo') :
    Fld.apart ⟨Ra.PORT_LINK_STAT n, hi, lo⟩ ⟨Ra.PORT_LINK_STAT n, hi', lo'⟩ = true := by simpa [Fld.apart] using h

/-- A link reset is pending where one is asked for. -/
def State.askReset (s : State) (n : Nat) (reset : Bool) : State :=
  if reset then s.wr (Fd.PORT_LINK_STAT_RESET_PEND n) 1 else s

@[simp] theorem link_askReset (reset : Bool) (m : Nat) : (s.askReset n reset).link m = s.link m := by
  cases reset <;> rfl

theorem on_askReset (reset : Bool) : (s.askReset n reset).on (Fd.PORT_LINK_STAT_RESET_PEND n) =
    (reset || s.on (Fd.PORT_LINK_STAT_RESET_PEND n)) := by
  cases reset with
  | false => rfl
  | true =>
    rw [State.askReset, if_pos rfl, State.on, rd_wr_same s 1 rfl]
    rfl

section
variable {cause : Nat} {reset : Bool} (h : s.lstate n = lACTIVE ∨ s.lstate n = lHOLD ∨ s.lstate n = lSTANDBY)
include h

/-- LINK_STAT takes state and cause; the count and the event lie elsewhere. -/
theorem reg_enterRecover : (s.enterRecover n cause reset).reg (Ra.PORT_LINK_STAT n) =
    (((s.askReset n reset).setLstate n lRECOVER).wr (Fd.PORT_LINK_STAT_CAUSE n) cause).reg (Ra.PORT_LINK_STAT n) := by
  have notCnt : Ra.PORT_LINK_STAT n ≠ Ra.PORT_LINK_CNT n := by simp only [Ra.PORT_LINK_STAT, Ra.PORT_LINK_CNT]; omega
  have notFlt : Ra.PORT_LINK_STAT n ≠ Ra.FLT_CNT := by simp only [Ra.PORT_LINK_STAT, Ra.FLT_CNT]; omega
  rw [State.enterRecover, if_pos h, reg_raise _ _ _ _ _ notFlt, reg_setLink, reg_count_other _ _ notCnt notCnt,
    State.askReset]

theorem link_enterRecover : (s.enterRecover n cause reset).link n = (s.link n).freshInit := by
  have kept : (s.askReset n reset).link n = s.link n := link_askReset reset n
  simp only [State.enterRecover, if_pos h, link_raise, link_setLink_same, link_count, link_wr, State.setLstate]
  exact congrArg Link.freshInit kept

theorem lstate_enterRecover : (s.enterRecover n cause reset).lstate n = lRECOVER := by
  have apart : (Fd.PORT_LINK_STAT_CAUSE n).apart (Fd.PORT_LINK_STAT_STATE n) = true := apart_linkStat (by decide)
  rw [State.lstate, rd_of_reg (reg_enterRecover h), rd_wr_other _ _ rfl (Nat.zero_le 2) apart, State.setLstate,
    rd_wr_same _ _ rfl]
  rfl

theorem cause_enterRecover (hcause : cause < 8) :
    (s.enterRecover n cause reset).rd (Fd.PORT_LINK_STAT_CAUSE n) = cause := by
  rw [rd_of_reg (reg_enterRecover h), rd_wr_same _ _ rfl]
  exact Nat.mod_eq_of_lt hcause

theorem resetPend_enterRecover : (s.enterRecover n cause reset).on (Fd.PORT_LINK_STAT_RESET_PEND n) =
    (reset || s.on (Fd.PORT_LINK_STAT_RESET_PEND n)) := by
  have causeApart : (Fd.PORT_LINK_STAT_CAUSE n).apart (Fd.PORT_LINK_STAT_RESET_PEND n) = true :=
    apart_linkStat (by decide)
  have stateApart : (Fd.PORT_LINK_STAT_STATE n).apart (Fd.PORT_LINK_STAT_RESET_PEND n) = true :=
    apart_linkStat (by decide)
  rw [on_of_reg (reg_enterRecover h), on_wr_other _ _ rfl (Nat.le_refl 12) causeApart, State.setLstate,
    on_wr_other _ _ rfl (Nat.le_refl 12) stateApart, on_askReset]

end

/-! What the commands of a receiver do to a part that is not held in reset. -/

section
variable {rx : RxFlit} (hs : s.inReset = false)
include hs

theorem exec_dataFlit (h : (rxFlit rx).ty = fDATA ∨ 6 ≤ (rxFlit rx).ty) :
    exec (.dataFlit n rx) s = .next (s.flitIn n (rxFlit rx)) := (act_live s _ hs).trans (congrArg _ (if_pos h))

theorem exec_idleFlit (h : (rxFlit rx).ty = fIDLE) : exec (.idleFlit n rx) s = .next (s.flitIn n (rxFlit rx)) :=
  (act_live s _ hs).trans (congrArg _ (if_pos h))

theorem exec_nakFlit (h : (rxFlit rx).ty = fNAK) : exec (.nakFlit n rx) s = .next (s.flitIn n (rxFlit rx)) :=
  (act_live s _ hs).trans (congrArg _ (if_pos h))

theorem exec_initFlit (h : (rxFlit rx).ty = fINIT) : exec (.initFlit n rx) s = .next (s.flitIn n (rxFlit rx)) :=
  (act_live s _ hs).trans (congrArg _ (if_pos h))

theorem exec_holdFlit (h : (rxFlit rx).ty = fHOLD) : exec (.holdFlit n rx) s = .next (s.flitIn n (rxFlit rx)) :=
  (act_live s _ hs).trans (congrArg _ (if_pos h))

theorem exec_tagFlit (h : (rxFlit rx).ty = fTAG) : exec (.tagFlit n rx) s = .next (s.flitIn n (rxFlit rx)) :=
  (act_live s _ hs).trans (congrArg _ (if_pos h))

/-- No flit of any type reaches a port that does not hear flits. -/
theorem exec_flit_unheard (h : s.hears n = false) : exec (.dataFlit n rx) s = .next s ∧
    exec (.idleFlit n rx) s = .next s ∧ exec (.nakFlit n rx) s = .next s ∧ exec (.initFlit n rx) s = .next s ∧
    exec (.holdFlit n rx) s = .next s ∧ exec (.tagFlit n rx) s = .next s := by
  have ignored (p : Prop) [Decidable p] : s.act (if p then s.flitIn n (rxFlit rx) else s) = .next s := by
    rw [flitIn_unheard h, ite_self, act_live s _ hs]
  exact ⟨ignored _, ignored _, ignored _, ignored _, ignored _, ignored _⟩

/-- What a flit does whatever its type, command by command. -/
theorem exec_flit_anyType {t : State} (h : s.flitIn n (rxFlit rx) = t) :
    (((rxFlit rx).ty = fDATA ∨ 6 ≤ (rxFlit rx).ty) → exec (.dataFlit n rx) s = .next t) ∧
    ((rxFlit rx).ty = fIDLE → exec (.idleFlit n rx) s = .next t) ∧
    ((rxFlit rx).ty = fNAK → exec (.nakFlit n rx) s = .next t) ∧
    ((rxFlit rx).ty = fINIT → exec (.initFlit n rx) s = .next t) ∧
    ((rxFlit rx).ty = fHOLD → exec (.holdFlit n rx) s = .next t) ∧
    ((rxFlit rx).ty = fTAG → exec (.tagFlit n rx) s = .next t) :=
  h ▸ ⟨exec_dataFlit hs, exec_idleFlit hs, exec_nakFlit hs, exec_initFlit hs, exec_holdFlit hs, exec_tagFlit hs⟩

/-- What a sequenced flit does, of either type. -/
theorem exec_flit_sequenced {t : State}
    (h : (rxFlit rx).ty = fDATA ∨ (rxFlit rx).ty = fTAG → s.flitIn n (rxFlit rx) = t) :
    ((rxFlit rx).ty = fDATA → exec (.dataFlit n rx) s = .next t) ∧
    ((rxFlit rx).ty = fTAG → exec (.tagFlit n rx) s = .next t) :=
  ⟨fun hty => (exec_dataFlit hs (.inl hty)).trans (congrArg _ (h (.inl hty))),
    fun hty => (exec_tagFlit hs hty).trans (congrArg _ (h (.inr hty)))⟩

end

end Sys2Proof.Machine

section
open Sys2Proof Sys2Proof.Machine

/-- Settles O25, by whether the flit is heard, passes its CRC and is good, then by its type. -/
theorem flitReception : Obligations.FlitReception := by
  intro s n rx hs f a b c
  refine ⟨exec_flit_unheard hs, fun hhear hcomma => exec_flit_anyType hs (flitIn_held hhear hcomma), ?crcFails, ?bad,
    ?good, ?entry, fun cause reset => enterRecover_other⟩
  case crcFails =>
    exact fun hhear hcomma hcrc => exec_flit_anyType hs ((flitIn_heard hhear hcomma).trans (recv_crcFails hcrc))
  case bad =>
    intro hhear hcomma hcrc hbad
    have heard : s.flitIn n f = s.recv n f := flitIn_heard hhear hcomma
    have sequenced (hty : f.ty = fDATA ∨ f.ty = fTAG) : s.flitIn n f = b.badFlit n :=
      heard.trans (recv_bad_sequenced hty hcrc hbad)
    have plain (hty : f.ty ≠ fDATA ∧ f.ty ≠ fTAG) : s.flitIn n f = c.badFlit n :=
      heard.trans (recv_bad_plain hty.1 hty.2 hcrc hbad)
    obtain ⟨hdata, htag⟩ := exec_flit_sequenced hs sequenced
    refine ⟨hdata, ?_, ?_, ?_, ?_, ?_, htag⟩
    · exact fun hty => (exec_dataFlit hs (.inr hty)).trans (congrArg _ (plain (by unfold fDATA fTAG; omega)))
    · exact fun hty => (exec_idleFlit hs hty).trans (congrArg _ (plain (by rw [hty]; decide)))
    · exact fun hty => (exec_nakFlit hs hty).trans (congrArg _ (plain (by rw [hty]; decide)))
    · exact fun hty => (exec_initFlit hs hty).trans (congrArg _ (plain (by rw [hty]; decide)))
    · exact fun hty => (exec_holdFlit hs hty).trans (congrArg _ (plain (by rw [hty]; decide)))
  case entry =>
    exact fun cause reset _ hcause h => ⟨lstate_enterRecover h, cause_enterRecover h hcause, link_enterRecover h,
      resetPend_enterRecover h⟩
  case good =>
    intro hhear hcomma hgood
    have heard : s.flitIn n f = s.recv n f := flitIn_heard hhear hcomma
    have dataIn (hty : f.ty = fDATA) := (exec_dataFlit (n := n) hs (.inl hty)).trans (congrArg _ heard)
    have tagIn (hty : f.ty = fTAG) := (exec_tagFlit (n := n) hs hty).trans (congrArg _ heard)
    have nakIn (hty : f.ty = fNAK) := (exec_nakFlit (n := n) hs hty).trans
      (congrArg _ (heard.trans (recv_nak hgood hty)))
    have initIn (hty : f.ty = fINIT) := (exec_initFlit (n := n) hs hty).trans
      (congrArg _ (heard.trans (recv_init hgood hty)))
    refine ⟨?idle, ?hold, ?nakUnknown, ?nakCovered, ?initRefused, ?initGood, ?standby, ?bySeq⟩
    case idle => exact fun hty => (exec_idleFlit hs hty).trans (congrArg _ (heard.trans (recv_idle hgood hty)))
    case hold => exact fun hty => (exec_holdFlit hs hty).trans (congrArg _ (heard.trans (recv_hold hgood hty)))
    case nakUnknown =>
      exact fun hty hcov hreplay => (nakIn hty).trans (congrArg _ (takeNak_unknown hcov hreplay))
    case nakCovered => exact fun hty hcov hnone => (nakIn hty).trans (congrArg _ (takeNak_covered hcov hnone))
    case initRefused =>
      exact fun x hty hst hcause hfirst => (initIn hty).trans (congrArg _ (takeInit_refused hst hcause hfirst))
    case initGood => exact fun hty hst hcause => (initIn hty).trans (congrArg _ (takeInit_good hst hcause))
    case standby =>
      exact fun hst => exec_flit_sequenced hs fun hty => heard.trans (recv_standby hgood hty hst)
    case bySeq =>
      intro hst want taken
      refine ⟨?outside, ?plain, ?kept, ?tag, ?repeated, ?tooNew⟩
      case outside =>
        exact fun hseq hout => exec_flit_sequenced hs fun hty =>
          heard.trans (recv_expected_outside hgood hty hst hseq hout)
      case plain =>
        exact fun hty hseq hin henc => (dataIn hty).trans
          (congrArg _ ((recv_expected hgood (.inl hty) hst hseq hin).trans (acceptSeq_plain henc)))
      case kept =>
        exact fun hty hseq hin henc => (dataIn hty).trans
          (congrArg _ ((recv_expected hgood (.inl hty) hst hseq hin).trans (acceptSeq_data henc hty)))
      case tag =>
        exact fun hty hseq hin henc => (tagIn hty).trans
          (congrArg _ ((recv_expected hgood (.inr hty) hst hseq hin).trans (acceptSeq_tag henc hty)))
      case repeated =>
        exact fun hpos hold => exec_flit_sequenced hs fun hty =>
          heard.trans (recv_repeated hgood hty hst hpos hold)
      case tooNew =>
        exact fun hnew => exec_flit_sequenced hs fun hty => heard.trans (recv_tooNew hgood hty hst hnew)

end

/-! ### What the pair link carries of a message (R228, R265, R268, R577) -/

namespace Sys2Proof.Machine

/-! Numbers as bytes, and bytes as data slots (R9). -/

theorem leNat_lt (bs : List Byte) : leNat bs < 256 ^ bs.length := by
  induction bs with
  | nil => decide
  | cons b bs ih =>
    have hb := b.isLt
    rw [leNat, List.length_cons, Nat.pow_succ]
    omega

theorem leNat_take_lt (k : Nat) (bs : List Byte) : leNat (bs.take k) < 256 ^ k :=
  Nat.lt_of_lt_of_le (leNat_lt _) (Nat.pow_le_pow_right (by decide) (List.length_take_le k bs))

theorem leBytes_leNat (bs : List Byte) : leBytes bs.length (leNat bs) = bs := by
  induction bs with
  | nil => rfl
  | cons b bs ih =>
    have low : BitVec.ofNat 8 (b.toNat + 256 * leNat bs) = b := by
      apply BitVec.eq_of_toNat_eq
      have hb := b.isLt
      rw [BitVec.toNat_ofNat]
      omega
    have high : (b.toNat + 256 * leNat bs) / 256 = leNat bs := by
      have hb := b.isLt
      omega
    rw [leNat, List.length_cons, leBytes, low, high, ih]

@[simp] theorem length_dataSlots (k : Nat) (bs : List Byte) : (dataSlots k bs).length = k := by
  induction k generalizing bs with
  | zero => rfl
  | succ k ih => simp [dataSlots, ih]

theorem lt_of_mem_dataSlots {k d : Nat} {bs : List Byte} (h : d ∈ dataSlots k bs) : d < 2 ^ 128 := by
  induction k generalizing bs with
  | zero => simp [dataSlots] at h
  | succ k ih =>
    rcases List.mem_cons.1 h with rfl | hrest
    · exact leNat_take_lt 16 bs
    · exact ih hrest

/-- Bytes that fill their data slots are read back from them. -/
theorem flatMap_dataSlots {k : Nat} {bs : List Byte} (h : bs.length = 16 * k) :
    (dataSlots k bs).flatMap (leBytes 16) = bs := by
  induction k generalizing bs with
  | zero => exact (List.eq_nil_of_length_eq_zero h).symm
  | succ k ih =>
    have slot : leBytes 16 (leNat (bs.take 16)) = bs.take 16 := by
      have full : (bs.take 16).length = 16 := by rw [List.length_take]; omega
      simpa only [full] using leBytes_leNat (bs.take 16)
    rw [dataSlots, List.flatMap_cons, slot, ih (by rw [List.length_drop]; omega), List.take_append_drop]

/-! A request head's and a response head's fields (R265, R268). -/

section
variable {op : Nat} {h : ReqHead}

theorem headFits_iff : headFits op h = true ↔ op < 256 ∧ h.reqId < 4096 ∧ h.tag < 4096 ∧ h.label < 256 ∧
    h.addr < 2 ^ 40 ∧ h.lenArg < 65536 ∧ h.flags < 256 ∧ h.spec < 2 ^ 24 := by
  simp only [headFits, Bool.and_eq_true, decide_eq_true_eq, and_assoc]

theorem headWord_lt : headWord op h < 2 ^ 128 := by
  unfold headWord
  omega

theorem parseHead_headWord (hfits : headFits op h = true) : parseHead (headWord op h) = (op, h) := by
  obtain ⟨hop, hid, htag, hlabel, haddr, hlen, hflags, hspec⟩ := headFits_iff.1 hfits
  simp only [parseHead, headWord, bits, Prod.mk.injEq]
  refine ⟨by omega, ?_⟩
  cases h
  rw [ReqHead.mk.injEq]
  dsimp only at *
  omega

end

/-- The fields of a response are read back from its head and its data, but for its kind, which no bit tells. -/
theorem respOf_head {x : Nat} {r : Resp} (hfits : (PairMsg.mres x r).fits = true) :
    respOf r.head r.data = { r with kind := .plain } := by
  simp only [PairMsg.fits, Bool.and_eq_true, decide_eq_true_eq, and_assoc] at hfits
  obtain ⟨-, hport, hop, hid, htag, hstatus, hflags, hmask, hresult, -, -⟩ := hfits
  simp only [respOf, Resp.head, bits, Resp.mk.injEq]
  exact ⟨hport.symm, by omega, by omega, by omega, by omega, by omega, by omega, by omega, trivial, trivial⟩

theorem respHead_lt (r : Resp) : r.head < 2 ^ 128 := by
  unfold Resp.head
  omega

/-! Fields of one bit. -/

theorem b2n_le (b : Bool) : b2n b ≤ 1 := by cases b <;> decide

theorem bit_eq_iff {x i : Nat} {b : Bool} : bit x i = b ↔ x / 2 ^ i % 2 = b2n b := by
  rcases Nat.mod_two_eq_zero_or_one (x / 2 ^ i) with h | h <;> cases b <;> simp [bit, h, b2n]

namespace PairMsg

/-! A message's slots are one head and its data slots (R228, R577). -/

/-- The head slot of a message. -/
def head (m : PairMsg) : Nat := (m.slots.2.headD (0, 0)).2

/-- The data slots after the head. -/
def data (m : PairMsg) : List Nat := (m.slots.2.drop 1).map Prod.snd

/-- The code of a message (R577). -/
def code : PairMsg → Nat
  | .mwr .. => 0x40
  | .mexec .. => 0x41
  | .mcmt .. => 0x42
  | .mres .. => 0x43
  | .cdelta .. => 0x44
  | .cset .. => 0x45
  | .cmark .. => 0x46
  | .qckpt .. => 0x47
  | .hb .. => 0x48
  | .hello .. => 0x49
  | .leave .. => 0x4A
  | .role .. => 0x4B
  | .rsync .. => 0x4C

section
variable (m : PairMsg)

theorem slots_eq : m.slots.2 = slotsOf m.slots.1 m.head m.data := by
  cases m <;> simp [head, data, slots, slotsOf, Function.comp_def]

theorem data_of_slots {m : PairMsg} {vc h : Nat} {ds : List Nat} (hs : m.slots.2 = slotsOf vc h ds) : m.data = ds := by
  simp [data, hs, slotsOf, Function.comp_def]

/-- Every other field of a head lies above its code. -/
theorem head_code : m.head % 256 = m.code := by
  cases m <;> simp only [head, slots, slotsOf, hbHead, List.headD_cons, code] <;> omega

theorem pairVc_code : pairVc m.code = some m.slots.1 := by cases m <;> rfl

theorem head_lt : m.head < 2 ^ 128 := by
  cases m with
  | mwr x line keyed poison copy =>
    have hkeyed := b2n_le keyed
    have hpoison := b2n_le poison
    have hcopy := b2n_le copy
    simp only [head, slots, slotsOf, List.headD_cons]
    omega
  | cset _ _ flag | qckpt _ _ _ flag | hb _ _ flag | hello _ _ flag | role _ flag =>
    have hflag := b2n_le flag
    simp only [head, slots, slotsOf, hbHead, List.headD_cons]
    omega
  | mexec | mcmt | mres | cdelta | cmark | leave | rsync =>
    simp only [head, slots, slotsOf, List.headD_cons]
    omega

end

section
variable (x line urg label op c i epoch pkts bytes q st pool limit cells : Nat) (keyed poison copy flag : Bool)
  (entry bs : List Byte) (h : ReqHead) (r : Resp)

@[simp] theorem data_mwr :
    (mwr x line keyed poison copy urg label entry bs).data = leNat (entry.take 9) :: dataSlots 4 bs := data_of_slots rfl

@[simp] theorem data_mexec : (mexec x op h bs).data = headWord op h :: dataSlots (reqSlots op h) bs := data_of_slots rfl

@[simp] theorem data_mres : (mres x r).data = r.head :: dataSlots (ceilDiv r.data.length 16) r.data := data_of_slots rfl

@[simp] theorem data_cset : (cset c i flag epoch pkts bytes).data = [pkts % 2 ^ 64 + bytes % 2 ^ 64 * 2 ^ 64] := rfl

@[simp] theorem data_qckpt : (qckpt q st pool flag limit cells pkts bytes).data =
    [cells % 2 ^ 32 + pkts % 2 ^ 32 * 2 ^ 32 + bytes % 2 ^ 64 * 2 ^ 64] := rfl

end

theorem lt_of_mem_data {m : PairMsg} : ∀ d ∈ m.data, d < 2 ^ 128 := by
  cases m with
  | mwr _ _ _ _ _ _ _ entry =>
    have hentry := leNat_take_lt 9 entry
    rw [data_mwr, List.forall_mem_cons]
    exact ⟨by omega, fun d => lt_of_mem_dataSlots⟩
  | mexec =>
    rw [data_mexec, List.forall_mem_cons]
    exact ⟨headWord_lt, fun d => lt_of_mem_dataSlots⟩
  | mres _ r =>
    rw [data_mres, List.forall_mem_cons]
    exact ⟨respHead_lt r, fun d => lt_of_mem_dataSlots⟩
  | cset =>
    rw [data_cset, List.forall_mem_singleton]
    omega
  | qckpt =>
    rw [data_qckpt, List.forall_mem_singleton]
    omega
  | mcmt | cdelta | cmark | hb | hello | leave | role | rsync => exact List.forall_mem_nil _

/-- The response's data fill the data slots that its head tells. -/
theorem mres_slots {x : Nat} {r : Resp} (hfits : (mres x r).fits = true) :
    r.data.length = 16 * ceilDiv r.data.length 16 ∧ bits r.head 55 48 = ceilDiv r.data.length 16 := by
  simp only [fits, Bool.and_eq_true, decide_eq_true_eq, and_assoc] at hfits
  obtain ⟨-, -, -, -, -, -, -, -, -, hwhole, hmax⟩ := hfits
  have hcount : ceilDiv r.data.length 16 = r.data.length / 16 := by
    unfold ceilDiv
    omega
  simp only [Resp.head, bits, hcount]
  omega

/-- The entry of a keyed line is read back from its slot; a line without key has none (R577). -/
theorem entry_read {keyed : Bool} {entry : List Byte} (h : entry.length = if keyed then 9 else 0) :
    (if keyed then leBytes 9 (leNat (entry.take 9)) else []) = entry := by
  cases keyed with
  | false => exact (List.eq_nil_of_length_eq_zero h).symm
  | true =>
    rw [if_pos rfl] at h ⊢
    rw [List.take_of_length_le (Nat.le_of_eq h), ← h, leBytes_leNat]

variable {m : PairMsg}

theorem code_read (m : PairMsg) : bits m.head 7 0 = m.code := by
  simpa [bits] using head_code m

/-- The response of an MRES, if the message is one, is of the plain kind. -/
def plain : PairMsg → Bool
  | .mres _ r => r.kind == .plain
  | _ => true

/-- A message that fits is read back from head and data slots, field by field; a response as one of the plain kind. -/
theorem pairOf_slots (hfits : m.fits = true) (hplain : m.plain = true) : pairOf m.head m.data = some m := by
  have hcode := code_read m
  cases m with
  | mwr x line keyed poison copy urg label entry bs =>
    have hkeyed := b2n_le keyed
    have hpoison := b2n_le poison
    have hcopy := b2n_le copy
    simp only [fits, Bool.and_eq_true, decide_eq_true_eq, and_assoc] at hfits
    obtain ⟨hx, hline, hurg, hlabel, hentry, hlen⟩ := hfits
    have flag : bit (mwr x line keyed poison copy urg label entry bs).head 24 = keyed := by
      simp only [head, slots, slotsOf, List.headD_cons, bit_eq_iff]
      omega
    simp only [pairOf, hcode, code, flag, data_mwr, nth, List.getD_cons_zero, entry_read hentry, List.drop_succ_cons,
      List.drop_zero, flatMap_dataSlots (k := 4) hlen, Option.some.injEq, mwr.injEq, true_and, and_true]
    simp only [head, slots, slotsOf, List.headD_cons, bits, bit_eq_iff]
    omega
  | mexec x op h bs =>
    simp only [fits, Bool.and_eq_true, decide_eq_true_eq, and_assoc] at hfits
    obtain ⟨hx, hhead, hlen⟩ := hfits
    simp only [pairOf, hcode, code, data_mexec, nth, List.getD_cons_zero, parseHead_headWord hhead,
      List.drop_succ_cons, List.drop_zero, flatMap_dataSlots hlen, Option.some.injEq, mexec.injEq, and_true]
    simp only [head, slots, slotsOf, List.headD_cons, bits]
    omega
  | mcmt =>
    simp only [fits, Bool.and_eq_true, decide_eq_true_eq] at hfits
    simp only [pairOf, hcode, code, Option.some.injEq, mcmt.injEq]
    simp only [head, slots, slotsOf, List.headD_cons, bits]
    omega
  | mres x r =>
    have hresp := respOf_head hfits
    have hkind : { r with kind := .plain } = r := by rw [← eq_of_beq hplain]
    rw [hkind] at hresp
    obtain ⟨hlen, -⟩ := mres_slots hfits
    simp only [fits, Bool.and_eq_true, decide_eq_true_eq, and_assoc] at hfits
    simp only [pairOf, hcode, code, data_mres, nth, List.getD_cons_zero, List.drop_succ_cons, List.drop_zero,
      flatMap_dataSlots hlen, hresp, Option.some.injEq, mres.injEq, and_true]
    simp only [head, slots, slotsOf, List.headD_cons, bits]
    omega
  | cdelta =>
    simp only [fits, Bool.and_eq_true, decide_eq_true_eq] at hfits
    simp only [pairOf, hcode, code, Option.some.injEq, cdelta.injEq]
    simp only [head, slots, slotsOf, List.headD_cons, bits]
    omega
  | cset _ _ lost =>
    have hlost := b2n_le lost
    simp only [fits, Bool.and_eq_true, decide_eq_true_eq] at hfits
    simp only [pairOf, hcode, code, data_cset, nth, List.getD_cons_zero, Option.some.injEq, cset.injEq]
    simp only [head, slots, slotsOf, List.headD_cons, bits, bit_eq_iff]
    omega
  | cmark =>
    simp only [fits, decide_eq_true_eq] at hfits
    simp only [pairOf, hcode, code, Option.some.injEq, cmark.injEq]
    simp only [head, slots, slotsOf, List.headD_cons, bits]
    omega
  | qckpt _ _ _ prot =>
    have hprot := b2n_le prot
    simp only [fits, Bool.and_eq_true, decide_eq_true_eq] at hfits
    simp only [pairOf, hcode, code, data_qckpt, nth, List.getD_cons_zero, Option.some.injEq, qckpt.injEq]
    simp only [head, slots, slotsOf, List.headD_cons, bits, bit_eq_iff]
    omega
  | hb _ _ single =>
    have hsingle := b2n_le single
    simp only [fits, Bool.and_eq_true, decide_eq_true_eq] at hfits
    simp only [pairOf, hcode, code, Option.some.injEq, hb.injEq]
    simp only [head, slots, slotsOf, hbHead, List.headD_cons, bits, bit_eq_iff]
    omega
  | hello _ _ single =>
    have hsingle := b2n_le single
    simp only [fits, Bool.and_eq_true, decide_eq_true_eq] at hfits
    simp only [pairOf, hcode, code, Option.some.injEq, hello.injEq]
    simp only [head, slots, slotsOf, hbHead, List.headD_cons, bits, bit_eq_iff]
    omega
  | leave =>
    simp only [fits, decide_eq_true_eq] at hfits
    simp only [pairOf, hcode, code, Option.some.injEq, leave.injEq]
    simp only [head, slots, slotsOf, List.headD_cons, bits]
    omega
  | role _ ack =>
    have hack := b2n_le ack
    simp only [fits, decide_eq_true_eq] at hfits
    simp only [pairOf, hcode, code, Option.some.injEq, role.injEq]
    simp only [head, slots, slotsOf, List.headD_cons, bits, bit_eq_iff]
    omega
  | rsync c region =>
    simp only [fits, Bool.and_eq_true, decide_eq_true_eq] at hfits
    have codeRead : bits (rsync c region).head 25 24 = c % 4 := by
      simp only [head, slots, slotsOf, List.headD_cons, bits]
      omega
    simp only [pairOf, hcode, code, codeRead, Option.some.injEq, rsync.injEq]
    simp only [head, slots, slotsOf, List.headD_cons, bits]
    constructor
    · split <;> omega
    · omega

theorem length_data (hfits : m.fits = true) : m.data.length = pairSlots m.code + (match m.data with
    | d :: _ => pairMore m.code d
    | [] => 0) := by
  cases m with
  | mexec x op h bs =>
    simp only [fits, Bool.and_eq_true, decide_eq_true_eq, and_assoc] at hfits
    obtain ⟨-, hhead, -⟩ := hfits
    simp [code, pairSlots, pairMore, parseHead_headWord hhead, Nat.add_comm]
  | mres x r =>
    obtain ⟨-, hcount⟩ := mres_slots hfits
    simp [code, pairSlots, pairMore, hcount, Nat.add_comm]
  | mwr => simp [code, pairSlots, pairMore]
  | mcmt | cdelta | cset | cmark | qckpt | hb | hello | leave | role | rsync => rfl

/-- The kind of a response is this part's own note on it: no bit of a message tells it (R268). -/
theorem plain_of_pairOf {h : Nat} {ds : List Nat} (hread : pairOf h ds = some m) : m.plain = true := by
  unfold pairOf at hread
  dsimp only at hread
  split at hread <;> cases hread <;> rfl

/-- The message is read back from the slots it is sent as, the clause of O50 (R577). -/
def ReadBack (m : PairMsg) : Prop :=
  ∃ head data, m.slots.2 = slotsOf m.slots.1 head data ∧
    pairVc (head % 256) = some m.slots.1 ∧
    data.length = pairSlots (head % 256) + (match data with
      | d :: _ => pairMore (head % 256) d
      | [] => 0) ∧
    (∀ d ∈ data, d < 2 ^ 128) ∧ head < 2 ^ 128 ∧ pairOf head data = some m

/-- Of the messages that fit, exactly those whose response is of the plain kind are read back. -/
theorem readBack_iff_plain (hfits : m.fits = true) : m.ReadBack ↔ m.plain = true := by
  constructor
  · rintro ⟨head, data, -, -, -, -, -, hread⟩
    exact plain_of_pairOf hread
  · intro hplain
    have hcode := head_code m
    exact ⟨m.head, m.data, slots_eq m, hcode ▸ pairVc_code m, hcode ▸ length_data hfits, lt_of_mem_data, head_lt m,
      pairOf_slots hfits hplain⟩

end PairMsg

end Sys2Proof.Machine

section
open Sys2Proof Sys2Proof.Machine

/-- Refutes O50: the ABORTED answer to a pair-link message at fault (R240) is an MRES whose response is not of the plain
kind; it fits its slots, and is read back as a plain one. -/
theorem not_pairMessagesRoundTrip : ¬ Obligations.PairMessagesRoundTrip := by
  unfold Obligations.PairMessagesRoundTrip
  intro ⟨messages, _⟩
  have readBack := messages
    (.mres 0 { port := 12, op := opRD64, reqId := 0, tag := 0, status := stABORTED, kind := .aborted }) (by decide)
  exact absurd ((PairMsg.readBack_iff_plain (by decide)).1 readBack) (by decide)

end

/-! ### The lines of DRAM (R272, R361–R365, R381) -/

namespace Sys2Proof.Machine

variable {s u : State} {line k n : Nat} {bs d c : List Byte}

/-! Bytes read after bytes written. -/

theorem memByte_setBytes_same (bs : List Byte) (s : State) (k : Nat) {i : Nat} (h : i < bs.length) :
    (s.setBytes k bs).memByte (k + i) = bs[i] := by
  induction bs generalizing s k i with
  | nil => exact absurd h (Nat.not_lt_zero i)
  | cons b bs ih =>
    cases i with
    | zero => exact (memByte_setBytes_other bs _ _ (by omega)).trans (memByte_setByte_same s k b)
    | succ i =>
      have rest := ih (s.setByte k b) (k + 1) (Nat.lt_of_succ_lt_succ h)
      rwa [Nat.add_assoc, Nat.add_comm 1 i] at rest

theorem memBytes_setBytes_same (s : State) (k : Nat) (h : bs.length = n) : (s.setBytes k bs).memBytes k n = bs := by
  refine List.ext_getElem (by simp [State.memBytes, h]) fun i _ hi => ?_
  simpa [State.memBytes] using memByte_setBytes_same bs s k hi

theorem memBytes_congr (h : ∀ i < n, u.memByte (k + i) = s.memByte (k + i)) : u.memBytes k n = s.memBytes k n :=
  List.map_congr_left fun i hi => h i (List.mem_range.1 hi)

/-- Bytes of a longer run of bytes. -/
theorem memBytes_slice (s : State) (k : Nat) {i m n : Nat} (h : i + m ≤ n) :
    s.memBytes (k + i) m = ((s.memBytes k n).drop i).take m := by
  refine List.ext_getElem (by simp [State.memBytes]; omega) fun j _ _ => ?_
  simp [State.memBytes, Nat.add_assoc]

/-- Bytes written change DRAM alone. -/
theorem setBytes_eq (bs : List Byte) (s : State) (k : Nat) :
    s.setBytes k bs = { s with dram := (s.setBytes k bs).dram } := by
  induction bs generalizing s k with
  | nil => rfl
  | cons b bs ih => exact ih (s.setByte k b) (k + 1)

theorem dram_setBytes_congr (bs : List Byte) (k : Nat) (h : u.dram = s.dram) :
    (u.setBytes k bs).dram = (s.setBytes k bs).dram := by
  induction bs generalizing s u k with
  | nil => exact h
  | cons b bs ih => exact ih (k + 1) (congrArg (Tab.put dramZero · k b) h)

/-! A store writes a line's 64 bytes and its check bytes (R361). -/

/-- The line's bytes and its check bytes written. -/
def State.putLine (s : State) (line : Nat) (d c : List Byte) : State :=
  (s.setBytes (64 * line) d).setBytes (checkKey line) c

/-- The bytes of a line in DRAM: its own and its check bytes. -/
def lineByte (line k : Nat) : Prop :=
  (64 * line ≤ k ∧ k < 64 * line + 64) ∨ (checkKey line ≤ k ∧ k < checkKey line + 8)

/-- The four check symbols of a line, in bytes (R362). -/
def checkBytes (d : List Byte) : List Byte := (rsCheck (dataSyms d)).flatMap (leBytes 2)

theorem storeLine_eq (s : State) (line : Nat) (d : List Byte) :
    s.storeLine line d = s.putLine line (line64 d) (checkBytes (line64 d)) := rfl

theorem poisonStore_eq (s : State) (line : Nat) :
    s.poisonStore line = s.putLine line (List.replicate 64 0) (poisonSyms.flatMap (leBytes 2)) := rfl

@[simp] theorem length_line64 (d : List Byte) : (line64 d).length = 64 := by simp [line64]

@[simp] theorem length_checkBytes (d : List Byte) : (checkBytes d).length = 8 := rfl

theorem putLine_eq (s : State) (line : Nat) (d c : List Byte) :
    s.putLine line d c = { s with dram := (s.putLine line d c).dram } := by
  rw [State.putLine, setBytes_eq c, setBytes_eq d]

theorem dram_putLine_congr (h : u.dram = s.dram) : (u.putLine line d c).dram = (s.putLine line d c).dram :=
  dram_setBytes_congr c _ (dram_setBytes_congr d _ h)

section
variable (hline : line < 2 ^ 33) (hd : d.length = 64) (hc : c.length = 8)

include hline hd in
/-- The check bytes of a line lie beyond every line's own bytes. -/
theorem memBytes_putLine (s : State) (c : List Byte) : (s.putLine line d c).memBytes (64 * line) 64 = d := by
  refine (memBytes_congr fun i hi => ?_).trans (memBytes_setBytes_same s (64 * line) hd)
  exact memByte_setBytes_other c _ _ (.inl (by unfold checkKey; omega))

include hc in
theorem checkBytes_putLine (s : State) (d : List Byte) : (s.putLine line d c).memBytes (checkKey line) 8 = c :=
  memBytes_setBytes_same _ _ hc

include hd hc in
theorem memByte_putLine_other (s : State) (h : ¬ lineByte line k) : (s.putLine line d c).memByte k = s.memByte k := by
  unfold lineByte at h
  rw [State.putLine, memByte_setBytes_other _ _ _ (by omega), memByte_setBytes_other _ _ _ (by omega)]

end

/-! A completed write burst (R321, R381). -/

@[simp] theorem pc_putLine (s : State) (line : Nat) (d c : List Byte) (k : Nat) :
    (s.putLine line d c).pc k = s.pc k := by rw [putLine_eq]; rfl

@[simp] theorem regs_putLine (s : State) (line : Nat) (d c : List Byte) : (s.putLine line d c).regs = s.regs := by
  rw [putLine_eq]

/-- An entry whose burst is complete leaves the write queue (R321). -/
def State.dequeued (s : State) (k : Nat) (a : Acc) : State :=
  s.setPc k { s.pc k with
    wq := (s.pc k).wq.filter (·.seq != a.seq)
    wissued := (s.pc k).wissued.filter (· != a.seq) }

theorem writeDram_stores (h : s.inTransit line = none) (d : List Byte) (poison : Bool) :
    s.writeDram line d poison = if poison then s.poisonStore line else s.storeLine line d := by
  rw [State.writeDram, h]

theorem burstDone_stores {a : Acc} (h : s.inTransit a.line = none) :
    s.burstDone k a =
      if a.poison then (s.dequeued k a).poisonStore a.line else (s.dequeued k a).storeLine a.line a.data :=
  writeDram_stores (s := s.dequeued k a) h a.data a.poison

theorem dram_burstDone {a : Acc} (h : s.inTransit a.line = none) :
    (s.burstDone k a).dram = (if a.poison then s.poisonStore a.line else s.storeLine a.line a.data).dram := by
  have same : (s.dequeued k a).dram = s.dram := rfl
  rw [burstDone_stores h]
  split
  · exact dram_putLine_congr same
  · exact dram_putLine_congr same

theorem wq_burstDone {a : Acc} (h : s.inTransit a.line = none) :
    ((s.burstDone k a).pc k).wq = (s.pc k).wq.filter (·.seq != a.seq) := by
  have left : ((s.dequeued k a).pc k).wq = _ := congrArg Pc.wq (Tab.get_put_same _ _ _ _)
  rw [burstDone_stores h]
  split
  · rw [poisonStore_eq, pc_putLine, left]
  · rw [storeLine_eq, pc_putLine, left]

/-! The read of a line stored as poison (R363, R365). -/

/-- The 36 symbols of a line, from its bytes and its check bytes. -/
theorem rawSyms_eq (s : State) (line : Nat) : s.rawSyms line = dataSyms (s.memBytes (64 * line) 64) ++
    (List.range 4).map fun k => leNat (((s.memBytes (checkKey line) 8).drop (2 * k)).take 2) := by
  refine congrArg (_ ++ ·) (List.map_congr_left fun k hk => ?_)
  have := List.mem_range.1 hk
  rw [memBytes_slice (n := 8) s _ (by omega)]

theorem rawSyms_poisonStore (hline : line < 2 ^ 33) (s : State) :
    (s.poisonStore line).rawSyms line = List.replicate 32 0 ++ poisonSyms := by
  rw [rawSyms_eq, poisonStore_eq, memBytes_putLine hline rfl, checkBytes_putLine rfl]
  decide +kernel

theorem classify_poisonSyn : classify poisonSyn = .storedPoison := by decide +kernel

theorem readArray_plain {access : Nat} (h : s.on Fd.ECC_INJ_CTL_ARMED = false) :
    (s.readArray line access []).out = classify (syndrome (s.rawSyms line)) := by
  have notInjected : s.injection line access = none := by simp [State.injection, h]
  simp [State.readArray, notInjected]

theorem data_readArray_poison {access : Nat} {fl : List (Nat × Nat)}
    (h : (s.readArray line access fl).out = .storedPoison) :
    (s.readArray line access fl).data = List.replicate 64 0 := by
  unfold State.readArray at h ⊢
  dsimp only at h ⊢
  rw [h]

theorem readArray_poisonStore (hline : line < 2 ^ 33) (access : Nat) (h : s.on Fd.ECC_INJ_CTL_ARMED = false) :
    ((s.poisonStore line).readArray line access []).out = .storedPoison := by
  have unarmed : (s.poisonStore line).on Fd.ECC_INJ_CTL_ARMED = false :=
    (on_of_regs (regs_putLine _ _ _ _) _).trans h
  rw [readArray_plain unarmed, rawSyms_poisonStore hline]
  exact classify_poisonSyn

end Sys2Proof.Machine

section
open Sys2Proof Sys2Proof.Machine

/-- Settles O35: the two stores, the burst and the read back. -/
theorem dramLineStores : Obligations.DramLineStores := by
  intro s line hline mine
  have poisonLength : (poisonSyms.flatMap (leBytes 2)).length = 8 := rfl
  refine ⟨fun d => ?clean, ?poison, fun k a ha stays => ?burst, fun access unarmed => ?readBack⟩
  case clean =>
    rw [storeLine_eq]
    exact ⟨memBytes_putLine hline (length_line64 d) s _,
      fun k => memByte_putLine_other (length_line64 d) (length_checkBytes _) s⟩
  case poison =>
    rw [poisonStore_eq]
    exact ⟨memBytes_putLine hline List.length_replicate s _, checkBytes_putLine poisonLength s _,
      fun k => memByte_putLine_other List.length_replicate poisonLength s⟩
  case burst =>
    subst ha
    exact ⟨dram_burstDone stays, wq_burstDone stays⟩
  case readBack =>
    have decoded := readArray_poisonStore hline access unarmed
    exact ⟨decoded, data_readArray_poison decoded⟩

end

/-! ### FENCE, ORDERED and SNAP at their engine (R266, R283, R284, R722) -/

namespace Sys2Proof.Machine

variable {s : State} {t : Txn} {k : Nat}

theorem dispatch_fence (hop : t.op = opFENCE) (hstay : s.goesAway t = false) : s.dispatch t = s.startFence t := by
  rw [State.dispatch, hstay, hop]
  rfl

theorem dispatch_snap (hop : t.op = opSNAP) (hstay : s.goesAway t = false) : s.dispatch t = s.snapRequest t := by
  rw [State.dispatch, hstay, hop]
  rfl

/-! The cases of SNAP. -/

theorem snapRequest_late (h : s.tooLate = true) : s.snapRequest t = (s.missed 3).respond t stEXISTS s.snapTime :=
  if_pos h

theorem snapRequest_wave (h : s.tooLate = false) (hwave : s.waving = false) :
    s.snapRequest t = (s.wave 3 t.port).respond t stOK (s.wave 3 t.port).snapTime := by
  simp only [State.snapRequest, h, hwave, Bool.false_eq_true, if_false]

theorem snapRequest_share (h : s.tooLate = false) (hwave : s.waving = true) :
    s.snapRequest t = (s.share 3 t.port).respond t stOK (s.share 3 t.port).snapTime := by
  simp only [State.snapRequest, h, hwave, Bool.false_eq_true, if_false, if_true]

theorem tooLate_of_held (hheld : s.on Fd.OBS_SNAP_STAT_HELD = true) (htime : s.snapTime ≠ s.clk.time) :
    s.tooLate = true := by
  have past : s.waving = false := by simp [State.waving, htime]
  simp [State.tooLate, hheld, past]

theorem no_snapshot (hheld : s.on Fd.OBS_SNAP_STAT_HELD = false) (hfreed : s.obs.freed ≠ s.clk.time + 1) :
    s.tooLate = false ∧ s.waving = false := by
  simp [State.tooLate, State.waving, hheld, hfreed]

/-! The ends of the holds. -/

/-- An earlier request that the FENCE covers has not completed (R282, R283). -/
def State.fenceWaits (s : State) (t : Txn) : Bool := s.req.txns.any fun x => decide (x.id < t.id) && fenceCovers t x

theorem fenceWaits_iff : s.fenceWaits t = true ↔ ∃ x ∈ s.req.txns, x.id < t.id ∧ fenceCovers t x = true := by
  simp [State.fenceWaits]

theorem fenceWaits_eq_false_iff :
    s.fenceWaits t = false ↔ ∀ x ∈ s.req.txns, ¬ (x.id < t.id ∧ fenceCovers t x = true) := by
  rw [← Bool.not_eq_true, fenceWaits_iff]
  simp only [not_exists, not_and]

theorem exec_fenceComplete (hs : s.inReset = false) (ht : s.txn k = some t) (hop : t.op = opFENCE)
    (hstage : t.stage = .fence) : exec (.fenceComplete k) s =
      .next (if s.fenceWaits t then s else ((s.respond t stOK).releaseStage .heldFence).runReady) := by
  refine (act_live s _ hs).trans (congrArg _ ?_)
  rw [ht]
  cases h : s.fenceWaits t
  · exact if_pos ⟨hop, hstage, by rw [← State.fenceWaits, h]; rfl⟩
  · exact if_neg fun ⟨_, _, free⟩ => by rw [← State.fenceWaits, h] at free; cases free

theorem exec_orderedStart (hs : s.inReset = false) (ht : s.txn k = some t) (hstage : t.stage = .heldOrdered) :
    exec (.orderedStart k) s = .next (if s.orderWaits t then s
      else (((s.checkReq k).releaseBehind).releaseStage .heldFence).runReady) := by
  refine (act_live s _ hs).trans (congrArg _ ?_)
  rw [ht]
  cases h : s.orderWaits t
  · exact if_pos ⟨hstage, by rw [h]; rfl⟩
  · exact if_neg fun ⟨_, free⟩ => by rw [h] at free; cases free

end Sys2Proof.Machine

section
open Sys2Proof Sys2Proof.Machine

/-- Settles O29: the two requests at their engine, then the two ends of a hold. -/
theorem fencesAndOrder : Obligations.FencesAndOrder := by
  intro s t hs
  refine ⟨fun hop hstay => dispatch_fence hop hstay, fun hop hstay => ?snap, tooLate_of_held, no_snapshot,
    fun k ht hop hstage => ?fence, fun k ht hstage => ?ordered⟩
  case snap =>
    rw [dispatch_snap hop hstay]
    exact ⟨snapRequest_late, snapRequest_wave, snapRequest_share⟩
  case fence =>
    rw [exec_fenceComplete hs ht hop hstage]
    exact ⟨fun free => by rw [fenceWaits_eq_false_iff.2 free]; rfl, fun waits => by rw [fenceWaits_iff.2 waits]; rfl⟩
  case ordered =>
    rw [exec_orderedStart hs ht hstage]
    exact ⟨fun free => by rw [free]; rfl, fun waits => by rw [waits]; rfl⟩

end

/-! ### Management requests at their port (R270, R285–R291, R561, R562) -/

namespace Sys2Proof.Machine

variable {s : State} {t x : Txn} {port op : Nat} {h : ReqHead} {d : List Byte}

theorem id_ne_of_txn_none {n : Nat} (hnew : s.txn n = none) : ∀ x ∈ s.req.txns, x.id ≠ n := by
  simpa [State.txn] using hnew

theorem setTxn_eq_self (hsame : ∀ x ∈ s.req.txns, x.id = t.id → x = t) : s.setTxn t = s := by
  have kept : (s.req.txns.map fun x => if x.id = t.id then t else x) = s.req.txns := by
    refine (List.map_congr_left fun x hx => ?_).trans (List.map_id _)
    split
    · next hid => exact (hsame x hx hid).symm
    · rfl
  rw [State.setTxn, kept]

/-- A management request that nothing holds is left ready for its port. -/
theorem checkReq_mgmt (ht : s.txn t.id = some t) (hop : isMgmt t.op = true) (hfence : s.fenced t = false)
    (horder : t.op ≠ opAUTH → s.orderWaits t = false) : s.checkReq t.id = s.setTxn { t with stage := .running } := by
  have notOrdered : ¬ (t.op ≠ opAUTH ∧ s.orderWaits t = true) := fun ⟨hauth, waits⟩ => by
    rw [horder hauth] at waits
    cases waits
  rw [State.checkReq, ht]
  simp only [hfence, notOrdered, hop, Bool.false_eq_true, if_false, if_true]

/-- Where the ports take their turns, one request comes up at each turn of its own port. -/
theorem flatMap_turns (t : Txn) (ports : List Nat) :
    (ports.flatMap fun p => [t].filter fun (x : Txn) => x.port == p) = List.replicate (ports.count t.port) t := by
  induction ports with
  | nil => rfl
  | cons p ports ih =>
    rw [List.flatMap_cons, ih]
    by_cases hp : t.port = p
    · have own : [t].filter (fun (x : Txn) => x.port == p) = [t] := List.filter_cons_of_pos (beq_iff_eq.2 hp)
      rw [own, ← hp, List.count_cons_self, List.replicate_succ]
      rfl
    · have other : [t].filter (fun (x : Txn) => x.port == p) = [] := List.filter_cons_of_neg (mt beq_iff_eq.1 hp)
      rw [other, List.count_cons_of_ne (Ne.symm hp)]
      rfl

/-- One management request is ready: it runs, and nothing else (R24, R291). -/
theorem runReady_one (hone : (s.req.txns.filter fun (x : Txn) => isMgmt x.op && x.stage == .running) = [t])
    (hport : t.port < 12) (hstage : t.stage = .running) : s.runReady = s.mgmtExec t := by
  have turn : ((List.range 16).flatMap fun p => [t].filter fun (x : Txn) => x.port == p) = [t] := by
    have once : ∀ p < 12, (List.range 16).count p = 1 := by decide
    rw [flatMap_turns, once t.port hport]
    rfl
  have same : { t with stage := .running } = t := by rw [← hstage]
  rw [State.runReady, hone, turn]
  exact congrArg s.mgmtExec same

/-! A management request taken out of its port's receive buffer. -/

section
variable (hnew : s.txn s.req.nextId = none)
include hnew

theorem txn_tookMgmt : (s.tookReq 3 port op h d 254).txn s.req.nextId = some (s.asTxn port op h d 254) := by
  have old : (s.req.txns.find? fun x => x.id == s.req.nextId) = none := hnew
  have last : (s.asTxn port op h d 254).id = s.req.nextId := rfl
  simp [State.tookReq, State.freeSlots, State.txn, old, last]

theorem setTxn_tookMgmt :
    (s.tookReq 3 port op h d 254).setTxn (s.asTxn port op h d 254) = s.tookReq 3 port op h d 254 := by
  refine setTxn_eq_self fun x hx hid => ?_
  rcases List.mem_append.1 hx with older | this
  · exact absurd hid (id_ne_of_txn_none hnew x older)
  · exact List.mem_singleton.1 this

/-- Steps 1 to 3 passed, a request that nothing holds runs at once: no other is ready before it. -/
theorem mgmtRequest_runs (hop : isMgmt op = true) (hport : port < 12) (hroom : s.outstanding port < 2048)
    (hready : ∀ x ∈ s.req.txns, ¬ (isMgmt x.op = true ∧ x.stage = .running)) (hsound : malformed op h = false)
    (hmode : s.mgmtMode port op h d = none)
    (hfence : (s.tookReq 3 port op h d 254).fenced (s.asTxn port op h d 254) = false)
    (horder : op ≠ opAUTH → (s.tookReq 3 port op h d 254).orderWaits (s.asTxn port op h d 254) = false) :
    s.mgmtRequest port op h d = (s.tookReq 3 port op h d 254).mgmtExec (s.asTxn port op h d 254) := by
  have room : ¬ (port < 12 ∧ 2048 ≤ (s.freeSlots port 3 (1 + reqSlots op h)).outstanding port) := by
    rw [outstanding_freeSlots]
    omega
  have sound : ¬ malformed op h = true := by simp [hsound]
  have mode : (s.freeSlots port 3 (1 + reqSlots op h)).mgmtMode port op h d = none := hmode
  have taken : s.mgmtRequest port op h d = ((s.tookReq 3 port op h d 254).checkReq s.req.nextId).runReady := by
    simp only [State.mgmtRequest, if_pos hport, if_neg room, if_neg sound, mode]
    rfl
  have checked : (s.tookReq 3 port op h d 254).checkReq s.req.nextId = s.tookReq 3 port op h d 254 :=
    (checkReq_mgmt (txn_tookMgmt hnew) hop hfence horder).trans (setTxn_tookMgmt hnew)
  have older : (s.req.txns.filter fun (x : Txn) => isMgmt x.op && x.stage == .running) = [] := by
    simpa using hready
  have this : ([s.asTxn port op h d 254].filter fun (x : Txn) => isMgmt x.op && x.stage == .running) =
      [s.asTxn port op h d 254] := List.filter_eq_self.2 (by simp [State.asTxn, hop])
  have ready : ((s.tookReq 3 port op h d 254).req.txns.filter fun (x : Txn) => isMgmt x.op && x.stage == .running) =
      [s.asTxn port op h d 254] := by
    refine (List.filter_append _ _).trans ?_
    rw [this]
    exact congrArg (· ++ _) older
  rw [taken, checked, runReady_one ready hport rfl]

end

/-! The commands, at a port that hears them. -/

section
variable (hs : s.inReset = false) (hport : port < 12) (hdeaf : s.deaf = false) (hgate : s.portGated port = false)
include hs hport hdeaf hgate

theorem mgmt_heard (u : State) :
    s.act (if 12 ≤ port ∨ s.deaf = true ∨ s.portGated port = true then s else u) = .next u :=
  (act_live s _ hs).trans (congrArg _ (if_neg (by simp [hport, hdeaf, hgate])))

theorem exec_mgmtRd : exec (.mgmtRd port h) s = .next (s.mgmtRequest port opMGMT_RD h []) :=
  mgmt_heard hs hport hdeaf hgate _

theorem exec_mgmtWr : exec (.mgmtWr port h d) s = .next (s.mgmtRequest port opMGMT_WR h d) :=
  mgmt_heard hs hport hdeaf hgate _

theorem exec_authReq : exec (.authReq port h d) s = .next (s.mgmtRequest port opAUTH h d) :=
  mgmt_heard hs hport hdeaf hgate _

end

/-! Step 4 onwards, by opcode. -/

section
variable (hrun : s.seq.mcRestart = false)
include hrun

theorem mgmtExec_read (hop : t.op = opMGMT_RD) : s.mgmtExec t = s.mgmtRead t := by
  rw [State.mgmtExec, hrun, hop]
  rfl

theorem mgmtExec_write (hop : t.op = opMGMT_WR) : s.mgmtExec t =
    if (mgmtAddrs t.head).any governed then s.respond t stREJ_AUTH else s.mgmtWrite t t.head t.payload 0 := by
  rw [State.mgmtExec, hrun, hop]
  rfl

theorem mgmtExec_auth (hop : t.op = opAUTH) (hwait : s.authWaiting = []) : s.mgmtExec t = s.authCheck t := by
  rw [State.mgmtExec, hrun, hop, hwait]
  rfl

end

theorem mgmtRead_outside (hout : (mgmtAddrs t.head).all inBlock = false) : s.mgmtRead t = s.respond t stREJ_REGION :=
  if_pos (by rw [hout]; rfl)

theorem mgmtRead_inBlock (hin : (mgmtAddrs t.head).all inBlock = true) : s.mgmtRead t =
    (s.readRegs (mgmtAddrs t.head)).1.respond (s.mgmtStart t) stOK 0 ((s.readRegs (mgmtAddrs t.head)).2 ++
      List.replicate (16 - (s.readRegs (mgmtAddrs t.head)).2.length) 0) :=
  if_neg (by rw [hin]; exact Bool.false_ne_true)

theorem mgmtWrite_inBlock {slot : List Byte} {result : Nat} (hin : (mgmtAddrs h).all inBlock = true)
    (hnow : (s.writeRegs t.port (mgmtAddrs h) slot).2.later = false) : s.mgmtWrite t h slot result =
      (s.writeRegs t.port (mgmtAddrs h) slot).1.respond (s.mgmtStart t) stOK result [] 0
        (2 * b2n (s.writeRegs t.port (mgmtAddrs h) slot).2.ignored) :=
  (if_neg (by rw [hin]; exact Bool.false_ne_true)).trans (if_neg (by rw [hnow]; exact Bool.false_ne_true))

/-! The checks of AUTH (R288–R290, R561, R562). -/

/-- The AUTH wraps a MGMT_WR of one to four aligned registers (R288). -/
def wrapsWrite (payload : List Byte) : Prop :=
  (wrapped payload).1 = opMGMT_WR ∧ 0 < (wrapped payload).2.lenArg % 8 ∧ (wrapped payload).2.lenArg % 8 ≤ 4 ∧
    (wrapped payload).2.addr % 4 = 0

theorem authCheck_unformed (hbad : (wrapped t.payload).1 ≠ opMGMT_WR ∨ (wrapped t.payload).2.lenArg % 8 = 0 ∨
    4 < (wrapped t.payload).2.lenArg % 8 ∨ (wrapped t.payload).2.addr % 4 ≠ 0) : s.authCheck t = s.authFail t 1 :=
  if_pos hbad

/-- An AUTH that waits for the persist record of its counter (R562). -/
def State.awaitPersist (s : State) (t : Txn) : State :=
  let u := s.setPersist 0 (leBytes 8 (authCounter t))
  { u with nvm := { u.nvm with stored := none } }.setTxn { t with stage := .heldPersist }

section
variable (hw : wrapsWrite t.payload)
include hw

theorem not_unformed : ¬ ((wrapped t.payload).1 ≠ opMGMT_WR ∨ (wrapped t.payload).2.lenArg % 8 = 0 ∨
    4 < (wrapped t.payload).2.lenArg % 8 ∨ (wrapped t.payload).2.addr % 4 ≠ 0) := by
  obtain ⟨hop, hpos, hfour, halign⟩ := hw
  omega

theorem authCheck_forged (hmac : s.macOk t = false) : s.authCheck t = s.authFail t 2 := by
  rw [State.authCheck, if_neg (not_unformed hw), hmac]
  rfl

variable (hmac : s.macOk t = true)
include hmac

theorem authCheck_replayed (hbad : ¬ (s.sec.last < authCounter t ∧ authCounter t ≤ s.sec.last + 2 ^ 32)) :
    s.authCheck t = s.authFail t 3 := by
  simp only [State.authCheck, not_unformed hw, hmac, hbad, Bool.not_true, Bool.false_eq_true, if_false, decide_false,
    Bool.not_false, if_true]

variable (hlast : s.sec.last < authCounter t) (hnear : authCounter t ≤ s.sec.last + 2 ^ 32)
include hlast hnear

/-- A good AUTH runs where the persist record covers its counter, and otherwise waits for one that does. -/
theorem authCheck_good : s.authCheck t =
    if authCounter t < s.sec.p + 65536 then s.authRun t
    else if s.stopped 4 then s.authPersistFail t else s.awaitPersist t := by
  simp only [State.authCheck, not_unformed hw, hmac, hlast, hnear, and_self, decide_true, Bool.not_true,
    Bool.false_eq_true, if_false]
  rfl

end

theorem owe_eq (s : State) (k : Nat) : s.owe k = { s with nvm := { s.nvm with owed := (s.owe k).nvm.owed } } := by
  unfold State.owe
  split <;> rfl

/-- The record owed to flash begins with the counter that waits. -/
theorem persist_awaitPersist : (s.awaitPersist t).nvm.persist.take 8 = leBytes 8 (authCounter t) := by
  rw [State.awaitPersist, State.setPersist, owe_eq]
  exact List.take_left' (l₂ := s.nvm.persist.drop 8) rfl

theorem sec_awaitPersist : (s.awaitPersist t).sec = s.sec := by
  rw [State.awaitPersist, State.setPersist, owe_eq]
  rfl

theorem txns_awaitPersist : (s.awaitPersist t).req.txns = (s.setTxn { t with stage := .heldPersist }).req.txns := by
  rw [State.awaitPersist, State.setPersist, owe_eq]
  rfl

/-- The AUTH just taken is then the only one that waits. -/
theorem authWaiting_awaitPersist (hnew : s.txn s.req.nextId = none) (hwait : s.authWaiting = []) :
    ((s.tookReq 3 port op h d 254).awaitPersist (s.asTxn port op h d 254)).authWaiting =
      [{ s.asTxn port op h d 254 with stage := .heldPersist }] := by
  have older : ∀ x ∈ s.req.txns, x.id ≠ s.req.nextId := id_ne_of_txn_none hnew
  have replaced :
      ((s.tookReq 3 port op h d 254).setTxn { s.asTxn port op h d 254 with stage := .heldPersist }).req.txns =
      s.req.txns ++ [{ s.asTxn port op h d 254 with stage := .heldPersist }] := by
    refine (List.map_append ..).trans (congr (congrArg HAppend.hAppend ?_) ?_)
    · exact (List.map_congr_left fun x hx => if_neg (older x hx)).trans (List.map_id _)
    · exact congrArg (fun x => [x]) (if_pos rfl)
  rw [State.authWaiting, txns_awaitPersist, replaced, List.filter_append]
  exact congrArg (· ++ _) hwait

/-- The persist record of the counter that waits is written (R562). -/
theorem exec_authPersistWrite (hs : s.inReset = false) (hwait : s.authWaiting = [t])
    (hstored : s.nvm.stored = some (authCounter t, true)) : exec .authPersistWrite s =
      .next (({ s with nvm := { s.nvm with stored := none } }.authRun t).authNext []) := by
  refine (act_live s _ hs).trans (congrArg _ ?_)
  rw [hwait, hstored]
  exact if_neg (not_not_intro rfl)

end Sys2Proof.Machine

section
open Sys2Proof Sys2Proof.Machine

/-- Settles O30: the request runs at once, then by opcode. -/
theorem managementRequests : Obligations.ManagementRequests := by
  intro s port h d hs hport hdeaf hgate hnew hready hroom hrun u t
  have uRun : ∀ op, (u op).seq.mcRestart = false := fun _ => hrun
  refine ⟨fun sound fence order => ?read, fun sound mode fence order => ?write,
    fun sound mode fence wait => ?auth, ?persisted⟩
  case read =>
    have mode : s.mgmtMode port opMGMT_RD h [] = none := by
      rw [State.mgmtMode, hrun]
      rfl
    have runs : exec (.mgmtRd port h) s = .next ((u opMGMT_RD).mgmtRead (t opMGMT_RD)) := by
      rw [exec_mgmtRd hs hport hdeaf hgate,
        mgmtRequest_runs hnew rfl hport hroom hready sound mode fence fun _ => order]
      exact congrArg _ (mgmtExec_read (uRun _) rfl)
    exact ⟨fun inside => runs.trans (congrArg _ (mgmtRead_inBlock inside)),
      fun outside => runs.trans (congrArg _ (mgmtRead_outside outside))⟩
  case write =>
    have runs : exec (.mgmtWr port h d) s = .next (if (mgmtAddrs h).any governed
        then (u opMGMT_WR).respond (t opMGMT_WR) stREJ_AUTH else (u opMGMT_WR).mgmtWrite (t opMGMT_WR) h d 0) := by
      rw [exec_mgmtWr hs hport hdeaf hgate,
        mgmtRequest_runs hnew rfl hport hroom hready sound mode fence fun _ => order]
      exact congrArg _ (mgmtExec_write (uRun _) rfl)
    rw [runs]
    refine ⟨fun critical => by rw [if_pos critical], fun plain inside => ?_⟩
    intro r now
    rw [if_neg (ne_true_of_eq_false plain)]
    exact congrArg _ (mgmtWrite_inBlock inside now)
  case auth =>
    intro w c
    have uWait : (u opAUTH).authWaiting = [] := by
      refine (List.filter_append _ _).trans ?_
      exact congrArg (· ++ _) wait
    have runs : exec (.authReq port h d) s = .next ((u opAUTH).authCheck (t opAUTH)) := by
      rw [exec_authReq hs hport hdeaf hgate,
        mgmtRequest_runs hnew rfl hport hroom hready sound mode fence fun other => absurd rfl other]
      exact congrArg _ (mgmtExec_auth (uRun _) rfl uWait)
    rw [runs]
    refine ⟨fun bad => congrArg _ (authCheck_unformed bad), fun hop hpos hfour halign => ?_⟩
    have formed : wrapsWrite (t opAUTH).payload := ⟨hop, hpos, hfour, halign⟩
    refine ⟨fun forged => congrArg _ (authCheck_forged formed forged), fun mac =>
      ⟨fun bad => congrArg _ (authCheck_replayed formed mac bad), fun last near covered => ?_,
        fun last near beyond writes => ?_⟩⟩
    · rw [authCheck_good formed mac last near]
      exact congrArg _ (if_pos covered)
    · refine ⟨(u opAUTH).awaitPersist (t opAUTH), ?_, authWaiting_awaitPersist hnew wait, sec_awaitPersist,
        persist_awaitPersist⟩
      rw [authCheck_good formed mac last near]
      exact congrArg _ ((if_neg (Nat.not_lt.2 beyond)).trans (if_neg (ne_true_of_eq_false writes)))
  case persisted =>
    rintro x p wait stored rfl
    exact exec_authPersistWrite hs wait stored

end

/-! ### The Crema banks (R280, R397–R400, R408, R411–R416) -/

namespace Sys2Proof.Machine

variable {s : State} {b ini : Nat} {a : Acc} {m : MergeOp} {flips : List (Nat × Nat)}

/-! A stored word read after words stored. -/

theorem cWord_setCWord_same (s : State) (o : Nat) (w : BitVec 13) : (s.setCWord o w).cWord o = w :=
  Tab.get_put_same _ _ _ _

theorem cWord_setCWord_other (s : State) {o k : Nat} (w : BitVec 13) (h : k ≠ o) :
    (s.setCWord o w).cWord k = s.cWord k :=
  Tab.get_put_other _ _ _ h

/-- Words stored at the places listed, from an offset. -/
def State.setCWords (s : State) (off : Nat) (w : Nat → BitVec 13) (places : List Nat) : State :=
  places.foldl (fun (s : State) i => s.setCWord (off + i) (w i)) s

theorem setCWords_cons (s : State) (off : Nat) (w : Nat → BitVec 13) (i : Nat) (places : List Nat) :
    s.setCWords off w (i :: places) = (s.setCWord (off + i) (w i)).setCWords off w places := rfl

/-- Words stored change the stored words alone. -/
theorem setCWords_eq (s : State) (off : Nat) (w : Nat → BitVec 13) (places : List Nat) : s.setCWords off w places =
    { s with crm := { s.crm with store := (s.setCWords off w places).crm.store } } := by
  induction places generalizing s with
  | nil => rfl
  | cons i places ih =>
    rw [setCWords_cons]
    exact ih (s.setCWord (off + i) (w i))

/-- A place listed, or one that holds its word before, holds its word. -/
theorem cWord_setCWords (s : State) (off : Nat) (w : Nat → BitVec 13) {places : List Nat} {i : Nat}
    (h : i ∈ places ∨ s.cWord (off + i) = w i) : (s.setCWords off w places).cWord (off + i) = w i := by
  induction places generalizing s with
  | nil => exact h.resolve_left List.not_mem_nil
  | cons j places ih =>
    rw [setCWords_cons]
    refine ih _ ?_
    by_cases hij : i = j
    · exact .inr (hij ▸ cWord_setCWord_same ..)
    · refine h.imp (fun hmem => (List.mem_cons.1 hmem).resolve_left hij) fun stored => ?_
      rw [cWord_setCWord_other _ _ (by omega), stored]

/-! A transfer at its bank (R397–R400, R414). -/

/-- The read that a transfer begins with: its state, its bytes, and which of them are poisoned. -/
def State.transferRead (s : State) (a : Acc) (flips : List (Nat × Nat)) : State × List Byte × List Bool :=
  (s.taken a 32).cRead (64 * s.cLine a) 64 (if a.ini ≤ 12 then 0 else 1) flips

/-- The bytes of a line that a merge changes, stored (R280). -/
def State.storeChanged (s : State) (off : Nat) (new old : List Byte) : State :=
  s.setCWords off (fun i => cEncode (nth 0 new i)) ((List.range 64).filter fun i => nth 0 new i != nth 0 old i)

theorem storeChanged_eq (s : State) (off : Nat) (new old : List Byte) : s.storeChanged off new old =
    { s with crm := { s.crm with store := (s.storeChanged off new old).crm.store } } := setCWords_eq ..

theorem cWord_storeChanged (s : State) (off : Nat) {new old : List Byte} {i : Nat} (hi : i < 64)
    (h : nth 0 new i ≠ nth 0 old i) : (s.storeChanged off new old).cWord (off + i) = cEncode (nth 0 new i) :=
  cWord_setCWords s off _ (.inl (List.mem_filter.2 ⟨List.mem_range.2 hi, bne_iff_ne.2 h⟩))

section
variable {r : State × List Byte × List Bool} (hr : s.transferRead a flips = r) (hm : a.mop = some m)
include hr hm

theorem cremaRmw_poisoned (hp : r.2.2.any id = true) :
    s.cremaRmw a flips = r.1.answered a.txn fun t => { t with poison := true, result := 0 } := by
  subst hr
  rw [State.cremaRmw, hm]
  exact if_pos hp

theorem cremaRmw_unchanged (hp : r.2.2.any id = false) (hsame : (m.run r.2.1).2.2 = false) :
    s.cremaRmw a flips = r.1.answered a.txn fun t => { t with result := (m.run r.2.1).2.1 } := by
  subst hr
  rw [State.transferRead] at hp hsame ⊢
  simp only [State.cremaRmw, hm, hp, hsame, Bool.false_eq_true, if_false]

theorem cremaRmw_changed (hp : r.2.2.any id = false) (hchanged : (m.run r.2.1).2.2 = true) :
    s.cremaRmw a flips = ((r.1.storeChanged (64 * s.cLine a) (m.run r.2.1).1 r.2.1).cForward a).answered a.txn
      fun t => { t with result := (m.run r.2.1).2.1 } := by
  subst hr
  rw [State.transferRead] at hp hchanged ⊢
  simp only [State.cremaRmw, hm, hp, hchanged, Bool.false_eq_true, if_false, if_true]
  rfl

end

section
variable (hs : s.inReset = false)
include hs

theorem exec_cremaRead (h : s.nextCrema b ini = some a) (hk : a.kind = .read) :
    exec (.cremaRead b ini flips) s = .next (if s.bankFenced b then s.cFenced a else s.cremaRead a flips) := by
  refine (act_live s _ hs).trans (congrArg _ ?_)
  rw [h]
  exact if_neg (not_not_intro hk)

theorem exec_cremaWrite (h : s.nextCrema b ini = some a) (hk : a.kind = .write) :
    exec (.cremaWrite b ini) s = .next (if s.bankFenced b then s.cFenced a else s.cremaWrite a) := by
  refine (act_live s _ hs).trans (congrArg _ ?_)
  rw [h]
  exact if_neg (not_not_intro hk)

theorem exec_cremaRmw (h : s.nextCrema b ini = some a) (hk : a.kind = .merge) :
    exec (.cremaRmw b ini flips) s = .next (if s.bankFenced b then s.cFenced a else s.cremaRmw a flips) := by
  refine (act_live s _ hs).trans (congrArg _ ?_)
  rw [h]
  exact if_neg (not_not_intro hk)

theorem exec_crema_none (h : s.nextCrema b ini = none) : exec (.cremaRead b ini flips) s = .next s ∧
    exec (.cremaWrite b ini) s = .next s ∧ exec (.cremaRmw b ini flips) s = .next s := by
  refine ⟨?_, ?_, ?_⟩ <;>
  · refine (act_live s _ hs).trans (congrArg _ ?_)
    rw [h]

end

/-! The patrol (R411, R412). -/

/-- The step of a bank's walk: its next line, and at the last line the end of its pass. -/
def State.walkStep (s : State) (b : Nat) (flips : List (Nat × Nat)) : State :=
  let u := s.patrolLine (cOffset b (s.patrolPos b % bankLines) / 64) flips
  let v : State := { u with crm := { u.crm with
    patrolPos := Tab.put (fun _ => 0) u.crm.patrolPos b (s.patrolPos b + 1) } }
  if (s.patrolPos b + 1) % bankLines = 0 then
    let w : State := { v with crm := { v.crm with late := v.crm.late.filter (· != b) } }
    (w.wr Fd.CRM_STAT_LATE (b2n !w.crm.late.isEmpty)).cPasses
  else v

theorem patrolled_bank (hfree : s.bankFenced b = false) (hb : b < 256) (hcore : s.coreOff = false) :
    ¬ (s.bankFenced b = true ∨ 256 ≤ b ∨ s.coreOff = true) := by simp [hfree, hb, hcore]

section
variable (hs : s.inReset = false)
include hs

theorem exec_patrolStep_none (h : s.bankFenced b = true) : exec (.patrolStep b flips) s = .next s :=
  (act_live s _ hs).trans (congrArg _ (if_pos (.inl h)))

section
variable (hfree : s.bankFenced b = false) (hb : b < 256) (hcore : s.coreOff = false)
include hfree hb hcore

theorem exec_patrolStep_prompt {l : Nat} (h : s.crm.prompt.find? (fun x => cBank (64 * x) == b) = some l) :
    exec (.patrolStep b flips) s = .next (s.patrolLine l flips) := by
  refine (act_live s _ hs).trans (congrArg _ ((if_neg (patrolled_bank hfree hb hcore)).trans ?_))
  rw [h]

theorem exec_patrolStep_walk (h : s.crm.prompt.find? (fun x => cBank (64 * x) == b) = none) :
    exec (.patrolStep b flips) s = .next (if s.patrols then s.walkStep b flips else s) := by
  refine (act_live s _ hs).trans (congrArg _ ((if_neg (patrolled_bank hfree hb hcore)).trans ?_))
  rw [h]
  cases s.patrols <;> rfl

end

/-! The other commands. -/

theorem exec_cremaPatrolLate : exec (.cremaPatrolLate b) s = .next (if s.crm.late.contains b then s else
    ({ s with crm := { s.crm with late := b :: s.crm.late } }.wr Fd.CRM_STAT_LATE 1).raise 156 1 b) := act_live s _ hs

theorem exec_ceBankWindow : exec (.ceBankWindow b) s = .next { s with crm := { s.crm with
    ceWin := Tab.put (fun _ => 0) s.crm.ceWin b 0, suspect := s.crm.suspect.filter (· != b) } } := act_live s _ hs

theorem exec_cremaInit : exec .cremaInit s = .next s.cremaInit := act_live s _ hs

theorem exec_crmFenceClear (h : s.bankFenced b = true) (hfree : s.crm.fence410.contains b = false) :
    exec (.crmFenceClear b) s = .next ((s.wrBit (Fd.CRM_FENCE_FENCE (b / 32)) (b % 32) false).fencedN.cntUnfence) :=
  (act_live s _ hs).trans (congrArg _ (if_pos ⟨h, by rw [hfree]; rfl⟩))

theorem exec_crmFenceClear_none (h : s.crm.fence410.contains b = true) : exec (.crmFenceClear b) s = .next s :=
  (act_live s _ hs).trans (congrArg _ (if_neg fun ⟨_, free⟩ => by rw [h] at free; cases free))

end

theorem cremaInit_done (s : State) : s.cremaInit.on Fd.CRM_STAT_INIT_DONE = true := by
  rw [State.on, State.cremaInit, rd_wr_same _ _ (by decide)]
  decide

/-- Every byte then reads as what an unwritten one holds: the word of 0x00. -/
theorem cWord_cremaInit (s : State) (o : Nat) : s.cremaInit.cWord o = 0 := rfl

end Sys2Proof.Machine

section
open Sys2Proof Sys2Proof.Machine

/-- Settles O38, command by command. -/
theorem cremaTransfers : Obligations.CremaTransfers := by
  intro s b ini hs
  refine ⟨fun a flips next => ?transfer, fun none flips => exec_crema_none hs none, fun flips free hb core => ?patrol,
    fun fenced flips => exec_patrolStep_none hs fenced, exec_cremaPatrolLate hs, exec_ceBankWindow hs, ?init,
    exec_crmFenceClear hs, exec_crmFenceClear_none hs⟩
  case transfer =>
    refine ⟨fun fenced => ⟨fun hk => ?_, fun hk => ?_, fun hk => ?_⟩, fun free hk => ?read, fun free hk => ?write,
      fun m free hk hm => ?merge⟩
    · rw [exec_cremaRead hs next hk, if_pos fenced]
    · rw [exec_cremaWrite hs next hk, if_pos fenced]
    · rw [exec_cremaRmw hs next hk, if_pos fenced]
    case read =>
      rw [exec_cremaRead hs next hk, if_neg (ne_true_of_eq_false free)]
      rfl
    case write =>
      rw [exec_cremaWrite hs next hk, if_neg (ne_true_of_eq_false free)]
      rfl
    case merge =>
      intro r
      have read : s.transferRead a flips = r := rfl
      clear_value r
      rw [exec_cremaRmw hs next hk, if_neg (ne_true_of_eq_false free)]
      refine ⟨fun poisoned => congrArg _ (cremaRmw_poisoned read hm poisoned),
        fun clean same => congrArg _ (cremaRmw_unchanged read hm clean same), fun clean changed => ?_⟩
      exact ⟨r.1.storeChanged (64 * s.cLine a) (m.run r.2.1).1 r.2.1,
        congrArg _ (cremaRmw_changed read hm clean changed), storeChanged_eq .., fun i => cWord_storeChanged _ _⟩
  case patrol =>
    refine ⟨fun l queued => exec_patrolStep_prompt hs free hb core queued, fun none => ?_⟩
    rw [exec_patrolStep_walk hs free hb core none]
    refine ⟨fun off => by rw [off]; rfl, fun on => ?_⟩
    rw [on]
    exact ⟨fun within => congrArg _ (if_neg within), fun last => congrArg _ (if_pos last)⟩
  case init =>
    refine ⟨_, exec_cremaInit hs, cremaInit_done s, fun o => ?_⟩
    rw [cWord_cremaInit]
    decide

end

/-! ### Region commits and the clear of a region's fence (R303–R316, R587) -/

namespace Sys2Proof.Machine

variable {s : State} {n : Nat}

/-! A GO, in the order in which it is judged (R304, R305, R307). -/

theorem exec_rgnCommit (hs : s.inReset = false) (i : Nat) : exec (.rgnCommit i) s = .next (s.commitGo (i % 64)) :=
  act_live s _ hs

theorem commitGo_busy (busy : s.on Fd.RGN_STAT_BUSY = true) : s.commitGo n = s.commitDone n 3 := by
  simp only [State.commitGo, busy, if_true]

/-- The result of the first check of R303 that the table with the staged entry in place fails at region `n`. -/
def State.stagedCheck (s : State) (n : Nat) : Option Nat :=
  rgnCheck s (fun m => if m = n then s.rgnStaged else s.rgn m) n

/-- A commit of the staged entry has begun: requests to the old and the new span are held (R306). -/
def State.commitBegun (s : State) (n : Nat) : State :=
  (((({ s with req := { s.req with
      commit := some (n, (s.rgn n).span3, s.rgnStaged.span3, s.stageWords)
      commitId := s.req.nextId } }).wr Fd.RGN_STAT_BUSY 1).wr
    Fd.RGN_STAT_HOLDING 1).wr Fd.RGN_STAT_INDEX n).wr Fd.RGN_COMMIT_RESULT 2

section
variable {u : State} (hu : s.wr Fd.RGN_COMMIT_INDEX n = u) (idle : s.on Fd.RGN_STAT_BUSY = false)
include hu idle

theorem commitGo_mode (mode : ¬ (u.mode = mSERVICE ∨ u.mode = mDEGRADED)) : s.commitGo n = u.commitDone n 13 := by
  simp only [State.commitGo, idle, hu, mode, decide_false, Bool.not_false, Bool.false_eq_true, if_false, if_true]

variable (mode : u.mode = mSERVICE ∨ u.mode = mDEGRADED)
include mode

theorem commitGo_failed {r : Nat} (check : u.stagedCheck n = some r) : s.commitGo n = u.commitDone n r := by
  rw [State.stagedCheck] at check
  simp only [State.commitGo, idle, hu, mode, check, decide_true, Bool.not_true, Bool.false_eq_true, if_false]

theorem commitGo_passed (check : u.stagedCheck n = none) : s.commitGo n =
    if (u.rgn n).light u.rgnStaged then (u.commitApply n u.rgnStaged).commitDone n 1
    else if u.rgnInUse n u.rgnStaged then u.commitDone n 11
    else u.commitBegun n := by
  rw [State.stagedCheck] at check
  simp only [State.commitGo, idle, hu, mode, check, decide_true, Bool.not_true, Bool.false_eq_true, if_false]
  rfl

end

/-! The commit's end (R306, R309). -/

section
variable (hs : s.inReset = false) {old new : Nat × Nat × Nat} {ws : List Word}
include hs

theorem exec_commitDrainEnd (h : s.req.commit = some (n, old, new, ws)) : exec .commitDrainEnd s =
    .next (if s.commitBusy old then s else (s.commitApply n (s.setStage ws).rgnStaged).commitEnd n 1) := by
  refine (act_live s _ hs).trans (congrArg _ ?_)
  rw [h]

theorem exec_commitTimeout (h : s.req.commit = some (n, old, new, ws)) :
    exec .commitTimeout s = .next (s.commitEnd n 12) := by
  refine (act_live s _ hs).trans (congrArg _ ?_)
  rw [h]

theorem exec_commit_none (h : s.req.commit = none) :
    exec .commitDrainEnd s = .next s ∧ exec .commitTimeout s = .next s := by
  constructor <;>
  · refine (act_live s _ hs).trans (congrArg _ ?_)
    rw [h]

end

/-! The clear of a region's fence (R316, R587). -/

theorem rgnUnfence_fenced {v : State} (hv : s.wrBit (rgnFenceFld n) (n % 32) false = v) (h : s.rgnFenced n = true) :
    s.rgnUnfence n =
      if (v.rgn n).valid = true ∧ (v.rgn n).mirror = true ∧ v.joined = false then v.setCurrent n true else v := by
  simp only [State.rgnUnfence, h, hv, if_true, Bool.not_eq_true']

theorem rgnUnfence_unfenced (h : s.rgnFenced n = false) : s.rgnUnfence n = s := by
  simp only [State.rgnUnfence, h, Bool.false_eq_true, if_false]

theorem exec_rgnFenceClear (hs : s.inReset = false) (n : Nat) :
    exec (.rgnFenceClear n) s = .next (if n < 64 then s.rgnUnfence n else s) := act_live s _ hs

end Sys2Proof.Machine

section
open Sys2Proof Sys2Proof.Machine

/-- Settles O31: the GO in the order in which it is judged, the commit's two ends, the clear of the fence. -/
theorem regionCommits : Obligations.RegionCommits := by
  intro s i hs n u new go chk
  have go_eq : go = .next (s.commitGo n) := exec_rgnCommit hs i
  refine ⟨fun _ _ => rfl, fun busy => ?busy, fun idle notService notDegraded => ?mode,
    fun idle mode => ⟨fun r failed => ?failed, fun passed light => ?light, fun passed heavy inUse => ?inUse,
      fun passed heavy free => ?begun⟩,
    fun m old new ws commit => ⟨fun waits => ?waits, fun drained => ?drained, exec_commitTimeout hs commit⟩,
    exec_commit_none hs, fun r hr fenced => ?fenced, fun r unfenced => ?unfenced⟩
  case busy => rw [go_eq, commitGo_busy busy]
  case mode => rw [go_eq, commitGo_mode rfl idle (not_or_intro notService notDegraded)]
  case failed => rw [go_eq, commitGo_failed rfl idle mode failed]
  case light => rw [go_eq, commitGo_passed rfl idle mode passed, if_pos light]
  case inUse =>
    rw [go_eq, commitGo_passed rfl idle mode passed, if_neg (ne_true_of_eq_false heavy), if_pos inUse]
  case begun =>
    rw [go_eq, commitGo_passed rfl idle mode passed, if_neg (ne_true_of_eq_false heavy),
      if_neg (ne_true_of_eq_false free)]
    rfl
  case waits => rw [exec_commitDrainEnd hs commit, if_pos waits]
  case drained => rw [exec_commitDrainEnd hs commit, if_neg (ne_true_of_eq_false drained)]
  case fenced => rw [exec_rgnFenceClear hs, if_pos hr, rgnUnfence_fenced rfl fenced]
  case unfenced => rw [exec_rgnFenceClear hs, rgnUnfence_unfenced unfenced, ite_self]

end

/-! ### A source's outbox (R690) -/

namespace Sys2Proof.Machine

variable {s : State} {k : Nat} {m : Msg}

/-- The messages of a source that wait in the outboxes (R690). -/
def Flt.waiting (f : Flt) (k : Nat) : List Msg := f.outbox.filter fun x => x.source == k

/-- The records of the collector once a message of a source with room has joined its outbox: it takes the mark with it. -/
def Flt.joined (f : Flt) (m : Msg) : Flt :=
  { f with
    outbox := f.outbox ++ [{ m with overflow := m.overflow || decide (m.source ∈ f.lostSrc) }]
    lostSrc := f.lostSrc.filter (· != m.source) }

/-- The records of the collector once a message of a source without room is discarded: the source is marked. -/
def Flt.discarded (f : Flt) (m : Msg) : Flt := { f with lostSrc := m.source :: f.lostSrc.filter (· != m.source) }

theorem post_room (h : (s.flt.waiting m.source).length < 4) : s.post m = { s with flt := s.flt.joined m } := if_pos h

theorem post_full (h : 4 ≤ (s.flt.waiting m.source).length) :
    s.post m = ({ s with flt := s.flt.discarded m } : State).count Fd.FLT_CNT_LOST Fd.FLT_CNT_LOST_OVF 1 :=
  if_neg (Nat.not_lt.2 h)

/-- While VDD_CORE is on a raised message is posted (R632, R678). -/
theorem raise_coreOn (h : s.coreOff = false) (source kind addr : Nat) (inj : Bool) :
    s.raise source kind addr inj = s.post
      { source, kind, sev := s.sevOf source kind, addr := addr % 2 ^ 40, time := s.stamp, injected := inj } :=
  if_neg (ne_true_of_eq_false h)

theorem waiting_joined_same (f : Flt) (m : Msg) :
    ((f.joined m).waiting m.source).length = (f.waiting m.source).length + 1 := by
  simp [Flt.waiting, Flt.joined]

theorem waiting_joined_other (f : Flt) (h : k ≠ m.source) : (f.joined m).waiting k = f.waiting k := by
  simp [Flt.waiting, Flt.joined, h.symm]

theorem not_mem_lostSrc_joined (f : Flt) (m : Msg) : m.source ∉ (f.joined m).lostSrc := by
  simp [Flt.joined]

theorem mem_lostSrc_discarded_same (f : Flt) (m : Msg) : m.source ∈ (f.discarded m).lostSrc := List.mem_cons_self

theorem mem_lostSrc_discarded_other (f : Flt) (h : k ≠ m.source) :
    k ∈ (f.discarded m).lostSrc ↔ k ∈ f.lostSrc := by
  simp [Flt.discarded, h]

/-- A count changes registers alone. -/
theorem count_eq_regs (s : State) (f ovf : Fld) (n : Nat) :
    s.count f ovf n = { s with regs := (s.count f ovf n).regs } := by
  unfold State.count
  split <;> rfl

/-- With room the field rises by the count. -/
theorem rd_count_room (s : State) {f : Fld} (ovf : Fld) {n : Nat} (hf : f.ok = true) (h : s.rd f + n ≤ f.max) :
    (s.count f ovf n).rd f = s.rd f + n := by
  have fits : s.rd f + n < 2 ^ (f.hi - f.lo + 1) := by
    have := Nat.two_pow_pos (f.hi - f.lo + 1)
    unfold Fld.max at h
    omega
  rw [State.count, if_pos h, rd_wr_same _ _ hf, Nat.mod_eq_of_lt fits]

end Sys2Proof.Machine

section
open Sys2Proof Sys2Proof.Machine

/-- Settles O60, by whether the source has room. -/
theorem outboxOfFour : Obligations.OutboxOfFour := by
  intro s source kind addr inj core mine t m
  let p : Msg := { m with overflow := false }
  have raised : t = s.post p := raise_coreOn core ..
  have joined (room : mine s < 4) : t = { s with flt := s.flt.joined p } := raised.trans (post_room room)
  have discarded (full : 4 ≤ mine s) : t = ({ s with flt := s.flt.discarded p } : State).count Fd.FLT_CNT_LOST
      Fd.FLT_CNT_LOST_OVF 1 := raised.trans (post_full full)
  clear_value t
  refine ⟨fun room => ?room, fun full => ?full, fun atMost => ?atMost, fun k other => ?others⟩
  case room =>
    rw [joined room]
    exact ⟨rfl, not_mem_lostSrc_joined s.flt p⟩
  case full =>
    have marks : t.flt = s.flt.discarded p := by rw [discarded full, count_flt]
    refine ⟨(congrArg Flt.outbox marks :), ?_, fun k other => ?_, fun more => ?_, fun a other => ?_, ?_⟩
    · rw [marks]
      exact mem_lostSrc_discarded_same s.flt p
    · rw [marks]
      exact mem_lostSrc_discarded_other s.flt other
    · rw [discarded full]
      exact rd_count_room _ _ (by decide) more
    · rw [discarded full]
      exact reg_count_other _ 1 other other
    · rw [marks, discarded full]
      exact count_eq_regs ..
  case atMost =>
    rcases Nat.lt_or_ge (mine s) 4 with room | full
    · rw [joined room]
      exact (waiting_joined_same s.flt p).trans_le room
    · have marks : t.flt = s.flt.discarded p := by rw [discarded full, count_flt]
      exact (congrArg (fun f : Flt => (f.waiting source).length) marks).trans_le atMost
  case others =>
    rcases Nat.lt_or_ge (mine s) 4 with room | full
    · rw [joined room]
      exact waiting_joined_other s.flt other
    · have marks : t.flt = s.flt.discarded p := by rw [discarded full, count_flt]
      exact (congrArg (fun f : Flt => f.waiting k) marks :)

end

/-! ### The code of a stored Crema byte (R394–R396, R398) -/

namespace Sys2Proof.Machine

/-! Parities of xors. -/

theorem bit_xor (x y i : Nat) : bit (x ^^^ y) i = (bit x i ^^ bit y i) := by
  simp only [bit_eq_testBit, Nat.testBit_xor]

theorem bits_xor (x y hi lo : Nat) : bits (x ^^^ y) hi lo = bits x hi lo ^^^ bits y hi lo := by
  unfold bits
  rw [← Nat.shiftRight_eq_div_pow, ← Nat.shiftRight_eq_div_pow, ← Nat.shiftRight_eq_div_pow,
    Nat.shiftRight_xor_distrib, Nat.xor_mod_two_pow]

/-- A sum of the numbers of the places at which bits are set is additive in the bits. -/
theorem foldl_xor_places (f : Nat → Nat) (places : List Nat) (x y a b : Nat) :
    places.foldl (fun acc i => if bit (x ^^^ y) i then acc ^^^ f i else acc) (a ^^^ b) =
      places.foldl (fun acc i => if bit x i then acc ^^^ f i else acc) a ^^^
        places.foldl (fun acc i => if bit y i then acc ^^^ f i else acc) b := by
  induction places generalizing a b with
  | nil => rfl
  | cons i places ih =>
    simp only [List.foldl_cons]
    rw [← ih, bit_xor]
    congr 1
    cases bit x i <;> cases bit y i
    · rfl
    · exact Nat.xor_assoc ..
    · exact (Nat.xor_right_comm ..)
    · show a ^^^ b = a ^^^ f i ^^^ (b ^^^ f i)
      rw [← Nat.xor_assoc, Nat.xor_right_comm a (f i) b, Nat.xor_assoc (a ^^^ b), Nat.xor_self, Nat.xor_zero]

theorem cData_xor (x y : Nat) : cData (x ^^^ y) = cData x ^^^ cData y := foldl_xor_places _ _ x y 0 0

theorem popCount_xor (w x y : Nat) : popCount w (x ^^^ y) % 2 = (popCount w x + popCount w y) % 2 := by
  induction w generalizing x y with
  | zero => rfl
  | succ w ih =>
    have halves : (x ^^^ y) / 2 = x / 2 ^^^ y / 2 := Nat.xor_div_two
    have low : (x ^^^ y) % 2 = (x + y) % 2 := Nat.xor_mod_two_eq
    have high := ih (x / 2) (y / 2)
    simp only [popCount, halves]
    omega

/-! The syndrome and the parity of a word (R395). -/

/-- The syndrome of a word: the check bits it holds against those its data bits give. -/
def cSyn (w : BitVec 13) : Nat := Nat.xor (cData (w.toNat % 256)) (bits w.toNat 11 8)

/-- The overall parity of a word. -/
def cPar (w : BitVec 13) : Nat := popCount 13 w.toNat % 2

/-- The data bits of a word. -/
def cLow (w : BitVec 13) : Nat := w.toNat % 256

theorem cSyn_xor (w v : BitVec 13) : cSyn (w ^^^ v) = cSyn w ^^^ cSyn v := by
  have low : (w.toNat ^^^ v.toNat) % 256 = w.toNat % 256 ^^^ v.toNat % 256 := Nat.xor_mod_two_pow (n := 8)
  show cData ((w ^^^ v).toNat % 256) ^^^ bits (w ^^^ v).toNat 11 8 =
    cData (w.toNat % 256) ^^^ bits w.toNat 11 8 ^^^ (cData (v.toNat % 256) ^^^ bits v.toNat 11 8)
  rw [BitVec.toNat_xor, low, cData_xor, bits_xor]
  ac_rfl

theorem cPar_xor (w v : BitVec 13) : cPar (w ^^^ v) = (cPar w + cPar v) % 2 := by
  unfold cPar
  rw [BitVec.toNat_xor, popCount_xor]
  omega

theorem cLow_xor (w v : BitVec 13) : cLow (w ^^^ v) = cLow w ^^^ cLow v := by
  unfold cLow
  rw [BitVec.toNat_xor]
  exact Nat.xor_mod_two_pow (n := 8)

/-- The data bits with the one at the place that a syndrome names inverted. -/
def cFix (s d : Nat) : Nat := (List.range 8).foldl (fun acc i => if nth 0 cPos i = s then Nat.xor acc (2 ^ i) else acc) d

theorem cFix_eq_xor (s d : Nat) : cFix s d = d ^^^ cFix s 0 := by
  have step (places : List Nat) (a : Nat) :
      places.foldl (fun acc i => if nth 0 cPos i = s then Nat.xor acc (2 ^ i) else acc) (d ^^^ a) =
        d ^^^ places.foldl (fun acc i => if nth 0 cPos i = s then Nat.xor acc (2 ^ i) else acc) a := by
    induction places generalizing a with
    | nil => rfl
    | cons i places ih =>
      simp only [List.foldl_cons]
      rw [← ih]
      split
      · exact congrArg (List.foldl _ · places) (Nat.xor_assoc ..)
      · rfl
  have applied := step (List.range 8) 0
  rwa [Nat.xor_zero] at applied

/-- The table of R395 over the syndrome and the parity. -/
theorem cDecode_eq (w : BitVec 13) : cDecode w =
    if cSyn w = 0 then
      (if cPar w = 0 then .clean (BitVec.ofNat 8 (cLow w)) else .corrected (BitVec.ofNat 8 (cLow w)))
    else if cPar w = 0 then .uncorrectable
    else if cSyn w ≤ 12 then .corrected (BitVec.ofNat 8 (cFix (cSyn w) (cLow w)))
    else if w = cPoison then .storedPoison else .uncorrectable := rfl

/-- An odd word whose syndrome names a place is corrected there. -/
theorem cDecode_odd {w : BitVec 13} (hp : cPar w = 1) (hs : cSyn w ≤ 12) :
    cDecode w = .corrected (BitVec.ofNat 8 (cLow w ^^^ cFix (cSyn w) 0)) := by
  rw [cDecode_eq, hp]
  by_cases h : cSyn w = 0
  · have unfixed : cFix 0 0 = 0 := by decide
    rw [if_pos h, if_neg Nat.one_ne_zero, h, unfixed, Nat.xor_zero]
  · rw [if_neg h, if_neg Nat.one_ne_zero, if_pos hs, cFix_eq_xor]

theorem cDecode_even {w : BitVec 13} (hp : cPar w = 0) (hs : cSyn w ≠ 0) : cDecode w = .uncorrectable := by
  rw [cDecode_eq, if_neg hs, if_pos hp]

/-! A stored byte with an error. -/

set_option maxRecDepth 20000 in
/-- The stored word of a byte has syndrome and parity 0 and the byte for its data bits (R394). -/
theorem cEncode_checks (b : Byte) : cSyn (cEncode b) = 0 ∧ cPar (cEncode b) = 0 ∧ cLow (cEncode b) = b.toNat := by
  revert b
  decide

variable (b : Byte) (e : BitVec 13)

theorem cSyn_error : cSyn (cEncode b ^^^ e) = cSyn e := by
  rw [cSyn_xor, (cEncode_checks b).1, Nat.zero_xor]

theorem cPar_error : cPar (cEncode b ^^^ e) = cPar e := by
  rw [cPar_xor, (cEncode_checks b).2.1, Nat.zero_add]
  exact Nat.mod_mod ..

theorem cLow_error : cLow (cEncode b ^^^ e) = b.toNat ^^^ cLow e := by
  rw [cLow_xor, (cEncode_checks b).2.2]

theorem cDecode_cEncode : cDecode (cEncode b) = .clean b := by
  obtain ⟨syn, par, low⟩ := cEncode_checks b
  rw [cDecode_eq, if_pos syn, if_pos par, low, BitVec.ofNat_toNat, BitVec.setWidth_eq]

/-- A single bit's syndrome names the place that is corrected. -/
theorem single_error : ∀ i < 13, cPar (1#13 <<< i) = 1 ∧ cSyn (1#13 <<< i) ≤ 12 ∧
    cFix (cSyn (1#13 <<< i)) 0 = cLow (1#13 <<< i) := by decide

theorem cDecode_single {i : Nat} (h : i < 13) : cDecode (cEncode b ^^^ (1#13 <<< i)) = .corrected b := by
  obtain ⟨par, syn, fix⟩ := single_error i h
  rw [cDecode_odd (by rw [cPar_error, par]) (by rw [cSyn_error]; exact syn), cSyn_error, fix, cLow_error, Nat.xor_assoc,
    Nat.xor_self, Nat.xor_zero, BitVec.ofNat_toNat, BitVec.setWidth_eq]

/-- The places of two bits differ. -/
theorem double_error : ∀ j < 13, ∀ i < j, cSyn (1#13 <<< i) ^^^ cSyn (1#13 <<< j) ≠ 0 := by decide

theorem cDecode_double {i j : Nat} (hij : i < j) (hj : j < 13) :
    cDecode (cEncode b ^^^ (1#13 <<< i) ^^^ (1#13 <<< j)) = .uncorrectable := by
  have par : cPar ((1#13 <<< i) ^^^ (1#13 <<< j)) = 0 := by
    rw [cPar_xor, (single_error i (hij.trans hj)).1, (single_error j hj).1]
  have syn : cSyn ((1#13 <<< i) ^^^ (1#13 <<< j)) ≠ 0 := by
    rw [cSyn_xor]
    exact double_error j hj i hij
  rw [BitVec.xor_assoc]
  exact cDecode_even (by rw [cPar_error, par]) (by rw [cSyn_error]; exact syn)

/-- Two bits inverted, the same one perhaps, do not give stored poison. -/
theorem cDecode_double_ne_storedPoison {i j : Nat} (hi : i < 13) (hj : j < 13) :
    cDecode (cEncode b ^^^ (1#13 <<< i) ^^^ (1#13 <<< j)) ≠ .storedPoison := by
  rcases Nat.lt_trichotomy i j with h | rfl | h
  · rw [cDecode_double b h hj]
    nofun
  · rw [BitVec.xor_assoc, BitVec.xor_self, BitVec.xor_zero, cDecode_cEncode]
    nofun
  · rw [BitVec.xor_assoc, BitVec.xor_comm (1#13 <<< i), ← BitVec.xor_assoc, cDecode_double b h hi]
    nofun

/-! An error that a word is corrected by has two bits at most. -/

/-- The error with a given syndrome and given top bit among those that the correction inverts. -/
theorem popCount_fixed : ∀ s ≤ 12, ∀ p < 2,
    popCount 13 (cFix s 0 + (s ^^^ cData (cFix s 0)) * 256 + p * 4096) ≤ 2 := by decide

theorem word_parts : e.toNat = cLow e + bits e.toNat 11 8 * 256 + e.toNat / 4096 * 4096 := by
  unfold cLow bits
  omega

/-- An error that leaves what its own correction inverts has two bits at most. -/
theorem popCount_of_fixed (hs : cSyn e ≤ 12) (h : cLow e = cFix (cSyn e) 0) : popCount 13 e.toNat ≤ 2 := by
  have check : bits e.toNat 11 8 = cSyn e ^^^ cData (cFix (cSyn e) 0) := by
    rw [← h]
    show _ = cData (cLow e) ^^^ bits e.toNat 11 8 ^^^ cData (cLow e)
    rw [Nat.xor_right_comm, Nat.xor_self, Nat.zero_xor]
  have top : e.toNat / 4096 < 2 := by omega
  rw [word_parts e, check, h]
  exact popCount_fixed _ hs _ top

theorem byte_eq_of_xor {b : Byte} {d : Nat} (hd : d < 256) (h : BitVec.ofNat 8 (b.toNat ^^^ d) = b) : d = 0 := by
  have value := congrArg BitVec.toNat h
  rw [BitVec.toNat_ofNat, Nat.mod_eq_of_lt (Nat.xor_lt_two_pow b.isLt hd)] at value
  have cancelled := congrArg (b.toNat ^^^ ·) value
  simpa [← Nat.xor_assoc] using cancelled

/-- A word that reads as its own byte has two wrong bits at most. -/
theorem popCount_of_own (h : cDecode (cEncode b ^^^ e) = .clean b ∨ cDecode (cEncode b ^^^ e) = .corrected b) :
    popCount 13 e.toNat ≤ 2 := by
  have lowLt : cLow e < 256 := Nat.mod_lt _ (by decide)
  have fixLt : ∀ s < 13, cFix s 0 < 256 := by decide
  have unfixed : cFix 0 0 = 0 := by decide
  rw [cDecode_eq, cSyn_error, cPar_error, cLow_error, cFix_eq_xor, Nat.xor_assoc] at h
  by_cases syn : cSyn e = 0
  · refine popCount_of_fixed e (syn ▸ Nat.zero_le _) ((byte_eq_of_xor (b := b) lowLt ?_).trans (syn ▸ unfixed.symm))
    rw [if_pos syn] at h
    by_cases par : cPar e = 0
    · rw [if_pos par] at h
      exact CDecode.clean.inj (h.resolve_right nofun)
    · rw [if_neg par] at h
      exact CDecode.corrected.inj (h.resolve_left nofun)
  · rw [if_neg syn] at h
    by_cases par : cPar e = 0
    · rw [if_pos par] at h
      exact absurd h (by nofun)
    · rw [if_neg par] at h
      by_cases place : cSyn e ≤ 12
      · rw [if_pos place] at h
        have fixed := byte_eq_of_xor (Nat.xor_lt_two_pow (n := 8) lowLt (fixLt _ (Nat.lt_succ_of_le place)))
          (CDecode.corrected.inj (h.resolve_left nofun))
        exact popCount_of_fixed e place (Nat.xor_eq_zero_iff.1 fixed)
      · rw [if_neg place] at h
        split at h <;> exact absurd h (by nofun)

/-! Bytes written (R398). -/

theorem cWord_cWrite (s : State) (o : Nat) (bs : List Byte) (x : Nat) : (s.cWrite o bs).cWord x =
    if o ≤ x ∧ x < o + bs.length then cEncode (nth 0 bs (x - o)) else s.cWord x := by
  induction bs generalizing s o with
  | nil => exact (if_neg fun within => absurd within.2 (Nat.not_lt.2 within.1)).symm
  | cons b bs ih =>
    rw [State.cWrite, ih]
    by_cases first : x = o
    · subst first
      rw [if_neg (by omega), if_pos (by simp), cWord_setCWord_same, Nat.sub_self]
      rfl
    · rw [cWord_setCWord_other _ _ first]
      by_cases within : o + 1 ≤ x ∧ x < o + 1 + bs.length
      · have next : x - o = x - (o + 1) + 1 := by omega
        rw [if_pos within, if_pos (by simp; omega), next]
        rfl
      · rw [if_neg within, if_neg (by simp; omega)]

end Sys2Proof.Machine

section
open Sys2Proof Sys2Proof.Machine

/-- Settles O40: the syndrome and the parity of a stored word with an error are those of the error. -/
theorem cremaByteCode : Obligations.CremaByteCode :=
  ⟨cDecode_cEncode, fun b _ => cDecode_single b, fun b _ _ => cDecode_double b, cWord_cWrite⟩

set_option maxRecDepth 20000 in
/-- Every stored word differs from stored poison in three bits or more. -/
theorem Sys2Proof.Machine.cPoison_apart : ∀ b : Byte, 3 ≤ popCount 13 (cEncode b ^^^ cPoison).toNat := by decide

/-- Settles O39: one or two wrong bits never give stored poison, and an error that reads as its own byte has two bits
at most. -/
theorem cremaStoredPoison : Obligations.CremaStoredPoison := by
  refine ⟨rfl, by decide, cPoison_apart, by decide, fun b i j hi hj => ⟨?_, cDecode_double_ne_storedPoison b hi hj⟩,
    fun b e three => ⟨fun own => ?_, fun own => ?_⟩, by decide, by decide⟩
  · rw [cDecode_single b hi]
    nofun
  · exact absurd three (Nat.not_le.2 (Nat.lt_succ_of_le (popCount_of_own b e (.inl own))))
  · exact absurd three (Nat.not_le.2 (Nat.lt_succ_of_le (popCount_of_own b e (.inr own))))

end

/-! ### The layout of a table bucket (R459, R461) -/

namespace Sys2Proof.Machine

/-! Bytes replaced. -/

theorem length_splice {b x : List Byte} {off : Nat} (h : off + x.length ≤ b.length) : (splice b off x).length = b.length := by
  simp only [splice, List.length_append, List.length_take, List.length_drop]
  omega

/-- A byte of a bucket with bytes replaced. -/
theorem nth_splice {b x : List Byte} {off : Nat} (h : off + x.length ≤ b.length) (i : Nat) :
    nth 0 (splice b off x) i = if off ≤ i ∧ i < off + x.length then nth 0 x (i - off) else nth 0 b i := by
  have take : (b.take off).length = off := by rw [List.length_take]; omega
  simp only [nth, splice, List.append_assoc, List.getD_eq_getElem?_getD, List.getElem?_append, take, List.getElem?_take,
    List.getElem?_drop]
  by_cases below : i < off
  · rw [if_pos below, if_pos below, if_neg (by omega)]
  · rw [if_neg below]
    by_cases within : i - off < x.length
    · rw [if_pos within, if_pos (by omega)]
    · have same : off + x.length + (i - off - x.length) = i := by omega
      rw [if_neg within, if_neg (by omega), same]

section
variable (d : Desc)

/-- Four ways fill a bucket behind its 16 bytes of FLAGS and FP. -/
theorem bytes_eq_ways (h : d.bsize ≤ 2) : d.bytes = 16 + 4 * d.way := by
  unfold Desc.way Desc.bytes
  interval_cases d.bsize <;> rfl

theorem nth_byte_map_range {n i : Nat} (f : Nat → Byte) (h : i < n) : nth 0 ((List.range n).map f) i = f i := by
  simp [nth, h]

/-- The bytes of a way, one by one. -/
theorem wayBytes_eq_map {b : List Byte} (hb : b.length = 16 + 4 * d.way) {w : Nat} (hw : w < 4) :
    d.wayBytes b w = (List.range d.way).map fun i => nth 0 b (16 + d.way * w + i) := by
  have within : d.way * w + d.way ≤ 4 * d.way := by nlinarith
  apply List.ext_getElem
  · simp only [Desc.wayBytes, List.length_take, List.length_drop, List.length_map, List.length_range]
    omega
  · intro i h1 h2
    have lt : i < d.way := by simpa using h2
    have inside : 16 + d.way * w + i < b.length := by omega
    simp [Desc.wayBytes, nth, inside]

variable {d} {b : List Byte} {w : Nat} (hb : b.length = 16 + 4 * d.way) (hw : w < 4)
include hb hw

theorem length_setFlag (v : Byte) : (splice b w [v]).length = b.length := length_splice (by simp; omega)

theorem length_setPrint (v p : Byte) : (splice (splice b w [v]) (4 + w) [p]).length = b.length :=
  (length_splice (by rw [length_setFlag hb hw]; simp; omega)).trans (length_setFlag hb hw v)

theorem length_setWay (flags fp : Nat) (x : List Byte) : (d.setWay b w flags fp x).length = b.length := by
  have within : d.way * w + d.way ≤ 4 * d.way := by nlinarith
  exact (length_splice (by rw [length_setPrint hb hw]; simp; omega)).trans (length_setPrint hb hw ..)

/-- A byte of a bucket in which a way has been written: the way's FLAGS, its FP, its bytes, or what stood there. -/
theorem nth_setWay (flags fp : Nat) (x : List Byte) (i : Nat) : nth 0 (d.setWay b w flags fp x) i =
    if 16 + d.way * w ≤ i ∧ i < 16 + d.way * w + d.way then nth 0 x (i - (16 + d.way * w))
    else if i = 4 + w then BitVec.ofNat 8 fp
    else if i = w then BitVec.ofNat 8 flags
    else nth 0 b i := by
  have within : d.way * w + d.way ≤ 4 * d.way := by nlinarith
  have one (v : Byte) (j : Nat) : j ≤ i ∧ i < j + [v].length ↔ i = j := by simp; omega
  rw [Desc.setWay, nth_splice (by rw [length_setPrint hb hw]; simp; omega),
    nth_splice (by rw [length_setFlag hb hw]; simp; omega), nth_splice (by simp; omega)]
  simp only [one, List.length_map, List.length_range]
  by_cases bytes : 16 + d.way * w ≤ i ∧ i < 16 + d.way * w + d.way
  · rw [if_pos bytes, if_pos bytes, nth_byte_map_range (nth 0 x) (by omega)]
  · rw [if_neg bytes, if_neg bytes]
    by_cases fpAt : i = 4 + w
    · rw [if_pos fpAt, if_pos fpAt, fpAt, Nat.sub_self]
      rfl
    · rw [if_neg fpAt, if_neg fpAt]
      by_cases flagAt : i = w
      · rw [if_pos flagAt, if_pos flagAt, flagAt, Nat.sub_self]
        rfl
      · rw [if_neg flagAt, if_neg flagAt]

end

/-! The key found (R461). -/

variable {d : Desc} {b key : List Byte} {fp w : Nat}

theorem desc_find_some (h : d.find b key fp = some w) :
    w < 4 ∧ wayValid b w = true ∧ wayFp b w = fp ∧ (d.wayBytes b w).take d.keylen = key := by
  have holds := List.find?_some h
  have among := List.mem_of_find?_eq_some h
  simp only [Bool.and_eq_true, beq_iff_eq] at holds
  exact ⟨List.mem_range.1 among, holds.1.1, holds.1.2, holds.2⟩

theorem desc_find_none (h : d.find b key fp = none) (hw : w < 4) (hv : wayValid b w = true) (hfp : wayFp b w = fp) :
    (d.wayBytes b w).take d.keylen ≠ key := by
  have fails := List.find?_eq_none.1 h w (List.mem_range.2 hw)
  simpa [hv, hfp] using fails

end Sys2Proof.Machine

section
open Sys2Proof Sys2Proof.Machine

/-- Settles O44: a written way's bytes are apart from every other way's. -/
theorem tableBucketLayout : Obligations.TableBucketLayout := by
  intro d b w fp x hw hsize hlen hfp y
  have hb : b.length = 16 + 4 * d.way := hlen.trans (bytes_eq_ways d hsize)
  have byte := nth_setWay hb hw 1 fp x
  change ∀ i, nth 0 y i = _ at byte
  have hy : y.length = 16 + 4 * d.way := (length_setWay hb hw 1 fp x).trans hb
  have flag : nth 0 y w = 1 := by
    rw [byte, if_neg (by omega), if_neg (by omega), if_pos rfl]
    rfl
  have print : nth 0 y (4 + w) = BitVec.ofNat 8 fp := by
    rw [byte, if_neg (by omega), if_pos rfl]
  refine ⟨length_setWay hb hw 1 fp x, ?_, ?_, ?_, fun v hv other => ⟨?_, ?_, ?_⟩, fun key k => desc_find_some,
    fun key none k => desc_find_none none⟩
  · rw [wayValid, flag]
    rfl
  · rw [wayFp, print, BitVec.toNat_ofNat, Nat.mod_eq_of_lt hfp]
  · rw [wayBytes_eq_map d hy hw]
    refine List.map_congr_left fun i hi => ?_
    have lt := List.mem_range.1 hi
    rw [byte, if_pos (by omega), Nat.add_sub_cancel_left]
  · rw [byte, if_neg (by omega), if_neg (by omega), if_neg other]
  · rw [wayFp, wayFp, byte, if_neg (by omega), if_neg (by omega), if_neg (by omega)]
  · rw [wayBytes_eq_map d hy hv, wayBytes_eq_map d hb hv]
    refine List.map_congr_left fun i hi => ?_
    have lt := List.mem_range.1 hi
    have apart : d.way * w + d.way ≤ d.way * v ∨ d.way * v + d.way ≤ d.way * w := by
      rcases Nat.lt_or_gt_of_ne other with below | above
      · exact .inr (by nlinarith)
      · exact .inl (by nlinarith)
    rw [byte, if_neg (by omega), if_neg (by omega), if_neg (by omega)]

end

/-! ### Refresh, scheduling and self-refresh of a pseudo-channel (R317, R329–R344, R363) -/

namespace Sys2Proof.Machine

variable {s : State} {k b n r : Nat} {a : Acc} {rest : List Nat}

/-! Scheduling (R329, R330). -/

/-- A fold that keeps the choice it has or takes the element chooses one of the elements. -/
theorem foldl_choice_mem {α : Type} {f : Option α → α → Option α}
    (h : ∀ m a, f m a = some a ∨ (f m a = m ∧ m.isSome = true)) {cs : List α} (hcs : cs ≠ []) :
    ∃ a ∈ cs, cs.foldl f none = some a := by
  have chosen (cs : List α) (x : α) : ∃ a ∈ x :: cs, cs.foldl f (some x) = some a := by
    induction cs generalizing x with
    | nil => exact ⟨x, List.mem_singleton_self x, rfl⟩
    | cons y cs ih =>
      rcases h (some x) y with taken | ⟨kept, -⟩
      · obtain ⟨a, among, ends⟩ := ih y
        exact ⟨a, List.mem_cons_of_mem x among, by rw [List.foldl_cons, taken, ends]⟩
      · obtain ⟨a, among, ends⟩ := ih x
        refine ⟨a, ?_, by rw [List.foldl_cons, kept, ends]⟩
        exact (List.mem_cons.1 among).elim (· ▸ List.mem_cons_self) fun h => .tail x (.tail y h)
  match cs, hcs with
  | x :: cs, _ =>
    have first : f none x = some x := (h none x).resolve_right nofun
    obtain ⟨a, among, ends⟩ := chosen cs x
    exact ⟨a, among, by rw [List.foldl_cons, first, ends]⟩

/-- The pseudo-channel once it has set its direction (R329). -/
def State.directed (s : State) (k : Nat) : State :=
  s.setPc k { s.pc k with
    wmode := s.writeMode k
    burst3 := if s.writeMode k = (s.pc k).wmode then (s.pc k).burst3 else 0 }

/-- The accesses whose next command may issue (R330). -/
def State.candidates (s : State) (k : Nat) (ready : List Nat) : List Acc :=
  ((s.directed k).pc k).accs.filter fun a => ready.contains a.seq && (s.directed k).candidate k (s.writeMode k) a

/-- The choice between the access chosen before and the next one (R330). -/
def State.preferred (s : State) (k : Nat) (m : Option Acc) (a : Acc) : Option Acc :=
  match m with
  | none => some a
  | some b => if s.prefer k a b then some a else m

theorem preferred_cases (m : Option Acc) (a : Acc) :
    s.preferred k m a = some a ∨ (s.preferred k m a = m ∧ m.isSome = true) := by
  cases m with
  | none => exact .inl rfl
  | some b =>
    by_cases preferred : s.prefer k a b = true
    · exact .inl (if_pos preferred)
    · exact .inr ⟨if_neg preferred, rfl⟩

theorem commandIssue_stopped (ready : List Nat) (h : (s.pc k).selfRef = true ∨ s.cgFenced (k / 4) = true) :
    s.commandIssue k ready = s := if_pos h

section
variable (href : (s.pc k).selfRef = false) (hfence : s.cgFenced (k / 4) = false) {ready : List Nat}
include href hfence

theorem commandIssue_live : s.commandIssue k ready =
    ((s.candidates k ready).foldl ((s.directed k).preferred k) none).elim (s.directed k)
      fun a => ((s.directed k).caPassed k a.bank).command k a := by
  have live : ¬ ((s.pc k).selfRef = true ∨ s.cgFenced (k / 4) = true) := by simp [href, hfence]
  refine (if_neg live).trans ?_
  show (match (s.candidates k ready).foldl ((s.directed k).preferred k) none with
    | some a => ((s.directed k).caPassed k a.bank).command k a
    | none => s.directed k) = _
  cases (s.candidates k ready).foldl ((s.directed k).preferred k) none <;> rfl

theorem commandIssue_none (h : s.candidates k ready = []) : s.commandIssue k ready = s.directed k := by
  rw [commandIssue_live href hfence, h]
  rfl

/-- With candidates the command of one of them issues. -/
theorem commandIssue_some (h : s.candidates k ready ≠ []) : ∃ a ∈ s.candidates k ready,
    s.commandIssue k ready = ((s.directed k).caPassed k a.bank).command k a := by
  obtain ⟨a, among, chosen⟩ := foldl_choice_mem preferred_cases h
  exact ⟨a, among, by rw [commandIssue_live href hfence, chosen, Option.elim_some]⟩

end

theorem command_closed (h : ((s.pc k).bank a.bank).openRow = none) : s.command k a = s.activate k a.bank a.row := by
  rw [State.command, h]

theorem command_hit (h : ((s.pc k).bank a.bank).openRow = some a.row) : s.command k a = s.column k a := by
  rw [State.command, h]
  exact if_pos rfl

theorem command_conflict (h : ((s.pc k).bank a.bank).openRow = some r) (hr : r ≠ a.row) : s.command k a =
    s.setPc k ((s.pc k).setBank a.bank { (s.pc k).bank a.bank with openRow := none }) := by
  rw [State.command, h]
  exact if_neg hr

theorem writeBurst_done (hissued : (s.pc k).wissued = n :: rest)
    (hfind : (s.pc k).wq.find? (fun x => x.seq == n) = some a)
    (hfirst : ∀ o ∈ (s.pc k).rq ++ (s.pc k).mb, ¬ (o.line = a.line ∧ o.seq < a.seq)) :
    s.writeBurst k = (s.burstDone k a).settleBank k a.bank := by
  rw [State.writeBurst, hissued]
  dsimp only
  rw [hfind]
  refine if_neg ?_
  simpa only [List.any_eq_true, Bool.and_eq_true, beq_iff_eq, decide_eq_true_eq, not_exists, not_and] using hfirst

/-! Refresh (R335, R336). -/

/-- Whether a bank of the pseudo-channel holds queued accesses. -/
def Pc.busy (p : Pc) (b : Nat) : Bool := p.accs.any fun a => a.bank == b

theorem busy_eq_true {p : Pc} (h : ∃ a ∈ p.accs, a.bank = b) : p.busy b = true := by simpa [Pc.busy] using h

theorem busy_eq_false {p : Pc} (h : ∀ a ∈ p.accs, a.bank ≠ b) : p.busy b = false := by simpa [Pc.busy] using h

/-- The refreshes that a bank's interval issues: the one due where the bank is idle or its debt would reach 8, and one
early where it is idle and not 8 ahead. -/
def Bank.refreshes (x : Bank) (busy early : Bool) : Int :=
  (if !busy || decide (8 ≤ x.debt + 1) then 1 else 0) + (if early ∧ !busy ∧ -8 < x.debt then 1 else 0)

/-- The bank after its interval, with `n` refreshes issued. -/
def Bank.refreshed (x : Bank) (n : Int) : Bank :=
  { x with
    debt := min 8 (x.debt + 1 - n)
    refRow := (x.refRow + n.toNat) % 8208
    openRow := if 0 < n then none else x.openRow }

theorem refresh_selfRef (href : (s.pc k).selfRef = true) (early : Bool) : s.refresh k b early = s := if_pos href

theorem refresh_awake (href : (s.pc k).selfRef = false) (early : Bool) : s.refresh k b early =
    s.setPc k ((s.pc k).setBank b (((s.pc k).bank b).refreshed
      (((s.pc k).bank b).refreshes ((s.pc k).busy b) early))) := if_neg (ne_true_of_eq_false href)

variable {x : Bank}

/-- A busy bank defers its refresh while its debt allows. -/
theorem refreshes_deferred (h : x.debt < 7) (early : Bool) : x.refreshes true early = 0 := by
  have room : ¬ 8 ≤ x.debt + 1 := by omega
  simp [Bank.refreshes, room]

theorem refreshes_forced (h : 7 ≤ x.debt) (early : Bool) : x.refreshes true early = 1 := by
  have full : 8 ≤ x.debt + 1 := by omega
  simp [Bank.refreshes, full]

theorem refreshes_idle : x.refreshes false false = 1 := by simp [Bank.refreshes]

theorem refreshes_early (h : -8 < x.debt) : x.refreshes false true = 2 := by simp [Bank.refreshes, h]

theorem refreshed_zero (h : x.debt < 7) :
    x.refreshed 0 = { x with debt := x.debt + 1, refRow := x.refRow % 8208 } := by
  have room : min 8 (x.debt + 1 - 0) = x.debt + 1 := by omega
  simp only [Bank.refreshed, room]
  rfl

theorem refreshed_one :
    x.refreshed 1 = { x with debt := min 8 x.debt, refRow := (x.refRow + 1) % 8208, openRow := none } := by
  rw [Bank.refreshed, Int.add_sub_cancel]
  rfl

theorem refreshed_two :
    x.refreshed 2 = { x with debt := min 8 (x.debt - 1), refRow := (x.refRow + 2) % 8208, openRow := none } := by
  have less : x.debt + 1 - 2 = x.debt - 1 := by omega
  rw [Bank.refreshed, less]
  rfl

/-! Self-refresh (R344). -/

theorem enterSelfRef_selfRef : ((s.enterSelfRef k).pc k).selfRef = true := by
  unfold State.enterSelfRef
  split
  case isTrue already => exact already
  case isFalse => rw [pc_setPc_same]

theorem exitSelfRef_selfRef (h : (s.pc k).selfRef = true) :
    s.exitSelfRef k = (s.setPc k { s.pc k with selfRef := false }).recoverAll k := if_pos h

/-! What the commands of the controllers do to a part that is not held in reset. -/

section
variable (hs : s.inReset = false)
include hs

theorem exec_commandIssue (ready : List Nat) : exec (.commandIssue k ready) s = .next (s.commandIssue k ready) :=
  act_live s _ hs

theorem exec_dramReadData (flips : List (Nat × Nat)) (hissued : (s.pc k).issued = n :: rest)
    (hfind : ((s.pc k).rq ++ (s.pc k).mb).find? (fun x => x.seq == n) = some a) :
    exec (.dramReadData k flips 0 []) s = .next ((s.lineTagError a.line 0).readReturns k a flips) := by
  refine (act_live s _ hs).trans (congrArg _ ?_)
  dsimp only [List.foldl_nil]
  rw [hissued]
  dsimp only
  rw [hfind]

theorem exec_writeBurstComplete : exec (.writeBurstComplete k) s = .next (s.writeBurst k) := act_live s _ hs

theorem exec_pageTimerExpiry (hopen : ((s.pc k).bank b).openRow = some r)
    (htimer : s.pageTimer (nth 0 (rowLines k b r) 0) ≠ 255)
    (hfree : ∀ a ∈ (s.pc k).accs, ¬ (a.bank = b ∧ a.row = r)) : exec (.pageTimerExpiry k b) s =
      .next (s.setPc k ((s.pc k).setBank b { (s.pc k).bank b with openRow := none })) := by
  have unhit : ¬ ((s.pc k).accs.any fun a => a.bank == b && a.row == r) = true := by
    simpa only [List.any_eq_true, Bool.and_eq_true, beq_iff_eq, not_exists, not_and] using hfree
  refine (act_live s _ hs).trans (congrArg _ ?_)
  dsimp only
  rw [hopen]
  exact if_neg (not_or_intro htimer unhit)

theorem exec_refresh (hk : k < 128) (hb : b < s.bankCount) (early : Bool) :
    exec (.refresh k b early) s = .next (s.refresh k b early) :=
  (act_live s _ hs).trans (congrArg _ (if_pos ⟨hb, hk⟩))

theorem exec_refresh_selfRef (href : (s.pc k).selfRef = true) (early : Bool) :
    exec (.refresh k b early) s = .next s := by
  refine (act_live s _ hs).trans (congrArg _ ?_)
  rw [refresh_selfRef href, ite_self]

theorem exec_actEpoch : exec (.actEpoch k b) s =
    .next (s.setPc k ((s.pc k).setBank b { (s.pc k).bank b with acts := [], trrN := 0 })) := act_live s _ hs

theorem exec_targetedRefresh (hdue : ((s.pc k).bank b).trrDue = r :: rest) :
    let x := (s.pc k).bank b
    let u := (s.setPc k ((s.pc k).setBank b { x with
      trrDue := rest, trrN := x.trrN + 1, openRow := none
      trrRows := neighbours (s.on (Fd.CG_TRR_NEIGH2 (k / 4))) r })).count (Fd.PC_TRR_COUNT k) (Fd.PC_TRR_OVF k) 1
    exec (.targetedRefresh k b) s =
      .next (if x.trrN = 64 then u.raise (104 + k / 4) 3 (k + b * 128) else u) := by
  intro x u
  refine (act_live s _ hs).trans (congrArg _ ?_)
  dsimp only
  rw [hdue]
  exact ite_congr (propext Nat.succ_inj) (fun _ => rfl) fun _ => rfl

theorem exec_selfRefreshEntry (hk : k < 128) (h : s.selfRefDue (k / 4) = true) :
    exec (.selfRefreshEntry k) s = .next (s.enterSelfRef k) :=
  (act_live s _ hs).trans (congrArg _ (if_pos ⟨hk, h⟩))

theorem exec_selfRefreshEntry_none (h : s.selfRefDue (k / 4) = false) : exec (.selfRefreshEntry k) s = .next s :=
  (act_live s _ hs).trans (congrArg _ (if_neg fun due => ne_true_of_eq_false h due.2))

theorem exec_selfRefreshExit (h : s.selfRefDue (k / 4) = false) :
    exec (.selfRefreshExit k) s = .next (s.exitSelfRef k) :=
  (act_live s _ hs).trans (congrArg _ (if_neg (ne_true_of_eq_false h)))

theorem exec_selfRefreshExit_none (h : s.selfRefDue (k / 4) = true) : exec (.selfRefreshExit k) s = .next s :=
  (act_live s _ hs).trans (congrArg _ (if_pos h))

end

end Sys2Proof.Machine

section
open Sys2Proof Sys2Proof.Machine

/-- Settles O33, command by command. -/
theorem controllerCommands : Obligations.ControllerCommands := by
  intro s k hs hk
  refine ⟨fun ready stopped => ?stopped, fun ready href hfence => ⟨fun none => ?none, fun some => ?some⟩,
    fun a => ⟨command_closed, command_hit, fun r => command_conflict⟩,
    fun n rest a flips => exec_dramReadData hs flips, fun n rest a issued found first => ?burst,
    fun b r => exec_pageTimerExpiry hs, fun b hb href => ⟨fun busy early => ?busy, fun idle => ?idle⟩,
    fun b early href => exec_refresh_selfRef hs href early, fun b => exec_actEpoch hs,
    fun b r rest => exec_targetedRefresh hs, fun due => ?due, fun undue => ?undue⟩
  case stopped => rw [exec_commandIssue hs, commandIssue_stopped ready stopped]
  case none => rw [exec_commandIssue hs, commandIssue_none href hfence none]; rfl
  case some =>
    obtain ⟨a, among, issued⟩ := commandIssue_some href hfence some
    exact ⟨a, among, by rw [exec_commandIssue hs, issued]; rfl⟩
  case burst => rw [exec_writeBurstComplete hs, writeBurst_done issued found first]
  case busy =>
    rw [exec_refresh hs hk hb, refresh_awake href, busy_eq_true busy]
    refine ⟨fun room => ?_, fun full => ?_⟩
    · rw [refreshes_deferred room, refreshed_zero room]
    · rw [refreshes_forced full, refreshed_one]
  case idle =>
    rw [exec_refresh hs hk hb, exec_refresh hs hk hb, refresh_awake href, refresh_awake href, busy_eq_false idle]
    refine ⟨?_, fun behind => ?_⟩
    · rw [refreshes_idle, refreshed_one]
    · rw [refreshes_early behind, refreshed_two]
  case due =>
    exact ⟨exec_selfRefreshEntry hs hk due, enterSelfRef_selfRef, exec_selfRefreshExit_none hs due⟩
  case undue =>
    refine ⟨exec_selfRefreshEntry_none hs undue, fun within => ?_⟩
    rw [exec_selfRefreshExit hs undue, exitSelfRef_selfRef within]

end

/-! ### The duplicated scheduler and the fence of a channel group (R348–R351) -/

namespace Sys2Proof.Machine

variable {s : State} {g k b n : Nat} {parA parB : Bool}

/-! Disagreements of the scheduler's copies (R348, R349). -/

/-- A disagreement counted and noted with the parity errors reported, and every bank of the group recovering. -/
def State.mismatchNoted (s : State) (g : Nat) (parA parB : Bool) : State :=
  let u := s.count (Fd.CG_CNT_MISMATCH g) (Fd.CG_CNT_MIS_OVF g) 1
  let v := u.setCg g { u.cg g with
    mism := ((u.cg g).mism.filter fun t => decide (u.clk.time < t + 175)) ++ [u.clk.time]
    parityA := (u.cg g).parityA || parA
    parityB := (u.cg g).parityB || parB }
  (List.range 4).foldl (fun s i => (List.range s.bankCount).foldl (fun s k =>
    s.setPc (4 * g + i) ((s.pc (4 * g + i)).setBank k { (s.pc (4 * g + i)).bank k with recovering := true })) s) v

/-- The disagreements of the last microsecond, this one among them. -/
def State.recentMismatches (s : State) (g : Nat) : List Nat :=
  let u := s.count (Fd.CG_CNT_MISMATCH g) (Fd.CG_CNT_MIS_OVF g) 1
  ((u.cg g).mism.filter fun t => decide (u.clk.time < t + 175)) ++ [u.clk.time]

theorem schedMismatch_fenced (h : s.cgFenced g = true) : s.schedMismatch g parA parB = s := if_pos h

theorem schedMismatch_simplex (h : s.cgFenced g = false) (hsimplex : s.on (Fd.CG_STAT_SIMPLEX g) = true) :
    s.schedMismatch g parA parB = if (if s.on (Fd.CG_STAT_COPY g) then parB else parA) then s.schedFail g else s :=
  (if_neg (ne_true_of_eq_false h)).trans (if_pos hsimplex)

section
variable (h : s.cgFenced g = false) (hduplex : s.on (Fd.CG_STAT_SIMPLEX g) = false)
include h hduplex

theorem schedMismatch_duplex : s.schedMismatch g parA parB =
    if 4 ≤ (s.recentMismatches g).length ∨ (parA = true ∧ parB = true) then (s.mismatchNoted g parA parB).schedFail g
    else if parA = true ∨ parB = true then
      (((s.mismatchNoted g parA parB).wr (Fd.CG_STAT_SIMPLEX g) 1).wr (Fd.CG_STAT_COPY g) (b2n parA)).raise (104 + g) 4
        (4 * g + b2n parA * 2 ^ 26)
    else (s.mismatchNoted g parA parB).raise (104 + g) 1 (4 * g) :=
  (if_neg (ne_true_of_eq_false h)).trans (if_neg (ne_true_of_eq_false hduplex))

theorem schedMismatch_fails (hfail : 4 ≤ (s.recentMismatches g).length ∨ (parA = true ∧ parB = true)) :
    s.schedMismatch g parA parB = (s.mismatchNoted g parA parB).schedFail g :=
  (schedMismatch_duplex h hduplex).trans (if_pos hfail)

theorem schedMismatch_one (hfew : (s.recentMismatches g).length < 4) (hone : parA ≠ parB) :
    s.schedMismatch g parA parB = (((s.mismatchNoted g parA parB).wr (Fd.CG_STAT_SIMPLEX g) 1).wr (Fd.CG_STAT_COPY g)
      (b2n parA)).raise (104 + g) 4 (4 * g + b2n parA * 2 ^ 26) := by
  have notBoth : ¬ (parA = true ∧ parB = true) := fun both => hone (both.1.trans both.2.symm)
  have either : parA = true ∨ parB = true := by revert hone; cases parA <;> cases parB <;> decide
  rw [schedMismatch_duplex h hduplex, if_neg (not_or_intro (Nat.not_le.2 hfew) notBoth), if_pos either]

theorem schedMismatch_none (hfew : (s.recentMismatches g).length < 4) :
    s.schedMismatch g false false = (s.mismatchNoted g false false).raise (104 + g) 1 (4 * g) := by
  rw [schedMismatch_duplex h hduplex, if_neg (not_or_intro (Nat.not_le.2 hfew) (by decide)), if_neg (by decide)]

end

/-! Failures of a command's address parity (R350). -/

/-- The failures in a row of the bank's command, this one among them. -/
def State.caFailures (s : State) (k b : Nat) : Nat := Tab.get (fun _ => 0) (s.cg (k / 4)).caRun (64 * k + b) + 1

/-- The failure noted. -/
def State.caNoted (s : State) (k b : Nat) : State :=
  s.setCg (k / 4) { s.cg (k / 4) with
    caRun := Tab.put (fun _ => 0) (s.cg (k / 4)).caRun (64 * k + b) (s.caFailures k b) }

theorem caRetry_fenced (h : s.cgFenced (k / 4) = true) : s.caRetry k b = s := if_pos h

theorem caRetry_again (h : s.cgFenced (k / 4) = false) (hn : s.caFailures k b ≠ 17) :
    let v := (s.caNoted k b).count (Fd.CG_CNT_CA_RETRY (k / 4)) (Fd.CG_CNT_CA_OVF (k / 4)) 1
    s.caRetry k b =
      (v.setPc k ((v.pc k).setBank b { (v.pc k).bank b with openRow := none })).raise (104 + k / 4) 2 (k + b * 128) :=
  (if_neg (ne_true_of_eq_false h)).trans (if_neg hn)

theorem caRetry_fails (h : s.cgFenced (k / 4) = false) (hn : s.caFailures k b = 17) :
    let u := s.caNoted k b
    s.caRetry k b = ((u.setCg (k / 4) { u.cg (k / 4) with caFail := true }).raise (104 + k / 4) 6
      (k + b * 128)).fenceCg (k / 4) :=
  (if_neg (ne_true_of_eq_false h)).trans (if_pos hn)

/-! The fence and its clear (R351). -/

theorem fenceCg_fenced (h : s.cgFenced g = true) : s.fenceCg g = s := if_pos h

theorem fenceCg_unfenced (h : s.cgFenced g = false) : s.fenceCg g =
    (((s.wr (Fd.CG_CTL_FENCE g) 1).setCg g { s.cg g with draining := true }).abortCgTest g).askDegraded false :=
  if_neg (ne_true_of_eq_false h)

theorem fenceDrain_draining (h : s.cgFenced g = true) (hdrain : (s.cg g).draining = true) :
    let u := (List.range 4).foldl (fun s i => s.drainPc (4 * g + i)) (s.remapFinish g)
    let v := (List.range 4).foldl (fun s i => s.enterSelfRef (4 * g + i)) u
    s.fenceDrain g = ((v.setCg g { v.cg g with draining := false }).mwrRetry).calSettle g := if_pos ⟨h, hdrain⟩

theorem fenceDrain_drained (hdrain : (s.cg g).draining = false) : s.fenceDrain g = s :=
  if_neg fun due => ne_true_of_eq_false hdrain due.2

theorem cgFenceClear_failed (hfail : (s.cg g).schedFail = true ∨ (s.cg g).caFail = true) : s.cgFenceClear g = s :=
  if_pos (.inr hfail)

theorem cgFenceClear_clears (h : s.cgFenced g = true) (hsched : (s.cg g).schedFail = false)
    (hca : (s.cg g).caFail = false) :
    let u := (s.fenceDrain g).wr (Fd.CG_CTL_FENCE g) 0
    let v := if u.selfRefDue g then u else (List.range 4).foldl (fun s i => s.exitSelfRef (4 * g + i)) u
    s.cgFenceClear g =
      ((((v.groupFollow g).calSettle g).cntUnfence).fwAck fun (m : Msg) => m.source == 104 + g && m.kind == 6) :=
  if_neg (by simp [h, hsched, hca])

/-! What the commands of a channel group's faults do to a part that is not held in reset. -/

section
variable (hs : s.inReset = false)
include hs

theorem exec_schedMismatch (hg : g < 32) : exec (.schedMismatch g parA parB) s = .next (s.schedMismatch g parA parB) :=
  (act_live s _ hs).trans (congrArg _ (if_pos hg))

theorem exec_caRetry (hk : k < 128) (hb : b < s.bankCount) : exec (.caRetry k b) s = .next (s.caRetry k b) :=
  (act_live s _ hs).trans (congrArg _ (if_pos ⟨hk, hb⟩))

theorem exec_caRetry_fenced (h : s.cgFenced (k / 4) = true) : exec (.caRetry k b) s = .next s := by
  refine (act_live s _ hs).trans (congrArg _ ?_)
  rw [caRetry_fenced h, ite_self]

theorem exec_fenceDrain (hg : g < 32) : exec (.fenceDrain g) s = .next (s.fenceDrain g) :=
  (act_live s _ hs).trans (congrArg _ (if_pos hg))

theorem exec_cgFenceClear (hg : g < 32) : exec (.cgFenceClear g) s = .next (s.cgFenceClear g) :=
  (act_live s _ hs).trans (congrArg _ (if_pos hg))

end

end Sys2Proof.Machine

section
open Sys2Proof Sys2Proof.Machine

/-- Settles O34, by the group's fence and the copies it has left. -/
theorem channelGroupFaults : Obligations.ChannelGroupFaults := by
  intro s g hs hg
  refine ⟨fun fenced => ⟨fun a b => ?_, fun k b hk => exec_caRetry_fenced hs (hk ▸ fenced), fenceCg_fenced fenced⟩,
    fun free simplex a b => ?simplex, fun free duplex a b => ?duplex, fun free k b hk hb => ?retry, fenceCg_unfenced,
    fun fenced draining => ?drains, fun drained => ?drained, fun _ failed => ?failed, fun fenced sched ca => ?clears⟩
  · rw [exec_schedMismatch hs hg, schedMismatch_fenced fenced]
  case simplex =>
    rw [exec_schedMismatch hs hg, schedMismatch_simplex free simplex]
    exact ⟨fun sound => congrArg _ (if_neg (ne_true_of_eq_false sound)), fun bad => congrArg _ (if_pos bad)⟩
  case duplex =>
    intro u mism v w one
    have ends : one = .next (s.schedMismatch g a b) := exec_schedMismatch hs hg
    rw [ends]
    refine ⟨fun few => ?_, fun few differ => congrArg _ (schedMismatch_one free duplex few differ),
      fun fails => congrArg _ (schedMismatch_fails free duplex fails)⟩
    rintro rfl rfl
    exact congrArg _ (schedMismatch_none free duplex few)
  case retry =>
    subst hk
    rw [exec_caRetry hs (by omega) hb]
    exact ⟨fun again => congrArg _ (caRetry_again free again), fun last => congrArg _ (caRetry_fails free last)⟩
  case drains => rw [exec_fenceDrain hs hg, fenceDrain_draining fenced draining]
  case drained => rw [exec_fenceDrain hs hg, fenceDrain_drained drained]
  case failed => rw [exec_cgFenceClear hs hg, cgFenceClear_failed failed]
  case clears => rw [exec_cgFenceClear hs hg, cgFenceClear_clears fenced sched ca]

end

/-! ### Injection and the Strainer (R370–R375, R384, R389, R415) -/

namespace Sys2Proof.Machine

variable {s : State} {k g l w q : Nat} {due : Bool} {flips : List (Nat × Nat)}

/-! Writes of the injectors' registers with GO (R370, R415). -/

/-- A word written with GO. -/
theorem bit_go (v : Nat) : bit (setBits v 31 31 1) 31 = true := bit_setBits_inside v 1 (Nat.le_refl 31) (Nat.le_refl 31)

/-- The source and the positions that a word within their ranges writes. -/
def State.eccInjOperands (s : State) (w : Nat) : State :=
  ((s.wr Fd.ECC_INJ_CTL_SRC (bits w 29 27)).wr Fd.ECC_INJ_CTL_POS_A (bits w 20 15)).wr Fd.ECC_INJ_CTL_POS_B (bits w 26 21)

theorem eccInjWrite_arms (hgo : bit w 31 = true) (hA : bits w 20 15 ≤ 35) (hB : bits w 26 21 ≤ 35 ∨ bits w 26 21 = 63)
    (hn : bits w 14 0 ≠ 0) (hen : (s.eccInjOperands w).on Fd.ECC_CTL_INJ_EN = true)
    (hvA : (s.eccInjOperands w).rd Fd.ECC_INJ_PAT_VALUE_A ≠ 0)
    (hvB : bits w 26 21 = 63 ∨ (s.eccInjOperands w).rd Fd.ECC_INJ_PAT_VALUE_B ≠ 0) :
    (s.eccInjWrite w).1 =
      ((s.eccInjOperands w).wr Fd.ECC_INJ_CTL_COUNT (bits w 14 0)).wr Fd.ECC_INJ_CTL_ARMED 1 := by
  have good : (!(decide (35 < bits w 20 15) || decide (35 < bits w 26 21) && bits w 26 21 != 63 ||
      bits w 14 0 == 0)) = true := by
    rcases hB with hB | hB <;> simp [hA, hB, hn]
  unfold State.eccInjWrite
  dsimp only
  rw [if_pos hA, if_pos hB]
  exact congrArg Prod.fst ((if_pos ⟨hgo, hen⟩).trans (if_pos ⟨good, hvA, hvB⟩))

/-- A write of one of the injector's operands leaves ARMED and the enable as they are. -/
theorem injOperand_frame (s : State) (v : Nat) {f : Fld} (hf : f.ok = true)
    (harmed : f.apart Fd.ECC_INJ_CTL_ARMED = true) (hen : f.apart Fd.ECC_CTL_INJ_EN = true) :
    (s.wr f v).rd Fd.ECC_INJ_CTL_ARMED = s.rd Fd.ECC_INJ_CTL_ARMED ∧
      (s.wr f v).on Fd.ECC_CTL_INJ_EN = s.on Fd.ECC_CTL_INJ_EN :=
  ⟨rd_wr_other s v hf (by decide) harmed, on_wr_other s v hf (by decide) hen⟩

/-- With injection disabled a write arms nothing. -/
theorem eccInjWrite_disabled (hen : s.on Fd.ECC_CTL_INJ_EN = false) :
    (s.eccInjWrite w).1.rd Fd.ECC_INJ_CTL_ARMED = s.rd Fd.ECC_INJ_CTL_ARMED := by
  have src := injOperand_frame s (bits w 29 27) (f := Fd.ECC_INJ_CTL_SRC) (by decide) (by decide) (by decide)
  have posA (u : State) := injOperand_frame u (bits w 20 15) (f := Fd.ECC_INJ_CTL_POS_A) (by decide) (by decide) (by decide)
  have posB (u : State) := injOperand_frame u (bits w 26 21) (f := Fd.ECC_INJ_CTL_POS_B) (by decide) (by decide) (by decide)
  have count (u : State) := injOperand_frame u (bits w 14 0) (f := Fd.ECC_INJ_CTL_COUNT) (by decide) (by decide) (by decide)
  unfold State.eccInjWrite
  dsimp only
  by_cases hA : bits w 20 15 ≤ 35 <;> by_cases hB : bits w 26 21 ≤ 35 ∨ bits w 26 21 = 63 <;>
    by_cases hn : bits w 14 0 = 0 <;>
    simp [hA, hB, hn, src, posA, posB, count, hen]

/-- The source and the pattern that a word writes. -/
def State.crmInjOperands (s : State) (w : Nat) : State :=
  (s.wr Fd.CRM_INJ_CTL_SRC (bits w 29 28)).wr Fd.CRM_INJ_CTL_FLIP (bits w 27 15)

theorem crmInjWrite_enabled (hgo : bit w 31 = true) (hen : (s.crmInjOperands w).on Fd.ECC_CTL_INJ_EN = true) :
    (s.crmInjWrite w).1 = if bits w 14 0 ≠ 0 ∧ (s.crmInjOperands w).rd Fd.CRM_INJ_CTL_FLIP ≠ 0 then
      ((s.crmInjOperands w).wr Fd.CRM_INJ_CTL_COUNT (bits w 14 0)).wr Fd.CRM_INJ_CTL_ARMED 1
    else s.crmInjOperands w := by
  refine (congrArg Prod.fst (if_pos ⟨hgo, hen⟩)).trans ?_
  rw [apply_ite Prod.fst]
  rfl

/-! The place that a scrub read comes to (R374). -/

theorem scrubPlace_runs (hplace : s.scrubPlace k = some q) (hruns : s.scrubbable k (walkLine k q) = true) :
    (s.scrubPlace k).filter (fun q => s.scrubbable k (walkLine k q)) = some q := by
  rw [hplace, Option.filter_some, hruns, if_pos rfl]

theorem scrubPlace_waits (hwaits : ∀ q, s.scrubPlace k = some q → s.scrubbable k (walkLine k q) = false) :
    (s.scrubPlace k).filter (fun q => s.scrubbable k (walkLine k q)) = none :=
  Option.filter_eq_none_iff.2 fun q place => ne_true_of_eq_false (hwaits q place)

/-! What the commands of injection and scrubbing do to a part that is not held in reset. -/

section
variable (hs : s.inReset = false)
include hs

theorem exec_eccInjGo (v : Nat) : exec (.eccInjGo v) s = .next (s.eccInjWrite (setBits v 31 31 1)).1 := act_live s _ hs

theorem exec_crmInjGo (v : Nat) : exec (.crmInjGo v) s = .next (s.crmInjWrite (setBits v 31 31 1)).1 := act_live s _ hs

theorem exec_scrubRead_stopped (h : s.on Fd.ECC_CTL_SCRUB_EN = false ∨ k ∈ s.ecc.passDone ∨
    (s.mode ≠ mSERVICE ∧ s.mode ≠ mDEGRADED)) : exec (.scrubRead k due flips) s = .next s := by
  refine (act_live s _ hs).trans (congrArg _ (if_pos ?_))
  rcases h with off | done | mode
  · exact .inl (by rw [off]; rfl)
  · exact .inr (.inr (.inr (.inl (List.contains_iff_mem.2 done))))
  · exact .inr (.inl (by simp [mode]))

/-- Nothing is owed. -/
theorem exec_scrubRead_unowed (h : (s.pc k).owed = 0) : exec (.scrubRead k false flips) s = .next s :=
  (act_live s _ hs).trans (congrArg _ (if_pos (.inr (.inr (.inr (.inr ⟨rfl, h⟩))))))

section
variable (hk : k < 128) (hen : s.on Fd.ECC_CTL_SCRUB_EN = true) (hmode : s.mode = mSERVICE ∨ s.mode = mDEGRADED)
  (hpass : k ∉ s.ecc.passDone) (howed : due = true ∨ (s.pc k).owed ≠ 0)
include hk hen hmode hpass howed

omit hs in
theorem scrubRead_open : ¬ ((!s.on Fd.ECC_CTL_SCRUB_EN) = true ∨ (!(s.mode = mSERVICE ∨ s.mode = mDEGRADED)) = true ∨
    128 ≤ k ∨ s.ecc.passDone.contains k = true ∨ ((!due) = true ∧ (s.pc k).owed = 0)) := by
  rcases howed with howed | howed <;> simp [hen, hmode, hpass, hk, howed]

variable {u : State} (hu : s.skipMoving k 16 = u)
include hu

/-- A read that falls due, or is owed, and may run. -/
theorem exec_scrubRead_runs (hruns : (u.scrubPlace k).filter (fun q => u.scrubbable k (walkLine k q)) = some q) :
    exec (.scrubRead k due flips) s =
      .next ((if due then u else u.setPc k { u.pc k with owed := (u.pc k).owed - 1 }).scrubNext k q flips) := by
  have opened := scrubRead_open hk hen hmode hpass howed
  refine (act_live s _ hs).trans (congrArg _ ((if_neg opened).trans ?_))
  rw [hu]
  dsimp only
  rw [hruns]

/-- A read that falls due, or is owed, and may not run. -/
theorem exec_scrubRead_waits (hwaits : (u.scrubPlace k).filter (fun q => u.scrubbable k (walkLine k q)) = none) :
    exec (.scrubRead k due flips) s =
      .next (if due then u.setPc k { u.pc k with owed := (u.pc k).owed + 1 } else u) := by
  have opened := scrubRead_open hk hen hmode hpass howed
  refine (act_live s _ hs).trans (congrArg _ ((if_neg opened).trans ?_))
  rw [hu]
  dsimp only
  rw [hwaits]

end

theorem exec_scrubLate : exec .scrubLate s = .next (if s.on Fd.ECC_SCRUB_STAT_LATE then s else
    (s.wr Fd.ECC_SCRUB_STAT_LATE 1).raise 143 1 0) := act_live s _ hs

theorem exec_promptScrub {rest : List Nat} (hprompt : (s.cg g).prompt = l :: rest)
    (hruns : s.scrubbable (pcOf (64 * l)) l = true) : exec (.promptScrub g flips) s =
      .next ((s.setCg g { s.cg g with prompt := rest }).scrubLine (pcOf (64 * l)) l flips) := by
  refine (act_live s _ hs).trans (congrArg _ ?_)
  rw [hprompt]
  exact if_pos hruns

theorem exec_pinWindow : exec (.pinWindow k) s = .next { s with ecc := { s.ecc with
    pinCnt := s.ecc.pinCnt.filter fun (e : Nat × Nat) => !(36 * k ≤ e.1 && e.1 < 36 * (k + 1)) } } := act_live s _ hs

end

end Sys2Proof.Machine

section
open Sys2Proof Sys2Proof.Machine

/-- Settles O36, command by command. -/
theorem injectionAndScrub : Obligations.InjectionAndScrub := by
  intro s hs
  refine ⟨fun v hA hB hn hen hvA hvB => ?arms, fun v t after hen => ?disabled, fun v hen => ?crema,
    fun k flips hk hen hmode hpass => ⟨fun q place runs => ⟨?_, fun owed => ?_⟩, fun waits => ⟨?_, fun owed => ?_⟩,
      exec_scrubRead_unowed hs⟩,
    fun k due flips => exec_scrubRead_stopped hs, exec_scrubLate hs, fun g l rest flips => exec_promptScrub hs,
    fun k => ⟨_, exec_pinWindow hs, rfl, fun e => ?window⟩⟩
  case arms => rw [exec_eccInjGo hs]; exact congrArg _ (eccInjWrite_arms (bit_go v) hA hB hn hen hvA hvB)
  case disabled =>
    rw [exec_eccInjGo hs] at after
    cases after
    exact eccInjWrite_disabled hen
  case crema => rw [exec_crmInjGo hs]; exact congrArg _ (crmInjWrite_enabled (bit_go v) hen)
  · rw [exec_scrubRead_runs hs hk hen hmode hpass (.inl rfl) rfl (scrubPlace_runs place runs), if_pos rfl]
  · rw [exec_scrubRead_runs hs hk hen hmode hpass (.inr owed) rfl (scrubPlace_runs place runs),
      if_neg Bool.false_ne_true]
  · rw [exec_scrubRead_waits hs hk hen hmode hpass (.inl rfl) rfl (scrubPlace_waits waits), if_pos rfl]
  · rw [exec_scrubRead_waits hs hk hen hmode hpass (.inr owed) rfl (scrubPlace_waits waits), if_neg Bool.false_ne_true]
  case window =>
    show e ∈ s.ecc.pinCnt.filter _ ↔ _
    simp only [List.mem_filter, Bool.not_eq_true', Bool.and_eq_false_iff, decide_eq_false_iff_not, Nat.not_le, Nat.not_lt]

end

/-! ### Repair commands and the remap of a row (R376–R383, R390) -/

namespace Sys2Proof.Machine

variable {s : State} {e g : Nat}

/-! A remap request (R381, R382, R714), judged in order. -/

/-- A badly formed entry, or one that is no remap of a row. -/
def remapMalformed (lgrp e : Nat) : Prop :=
  (!entryFormat lgrp e) = true ∨ (entryRepair e).kind ≠ 1 ∨ entryRetires e = true

theorem not_remapMalformed {lgrp : Nat}
    (h : entryFormat lgrp e = true ∧ (entryRepair e).kind = 1 ∧ entryRetires e = false) : ¬ remapMalformed lgrp e := by
  simp [remapMalformed, h]

theorem remapMalformed_of_not {lgrp : Nat}
    (h : ¬ (entryFormat lgrp e = true ∧ (entryRepair e).kind = 1 ∧ entryRetires e = false)) : remapMalformed lgrp e := by
  unfold remapMalformed
  cases hf : entryFormat lgrp e <;> cases hr : entryRetires e <;> simp_all

theorem remapRow_malformed (h : remapMalformed s.part.lgrp e) : s.remapRow e = s.wr Fd.BST_REP_CMD_RESULT 5 := if_pos h

section
variable {r : Repair} (hr : entryRepair e = r) (hgood : ¬ remapMalformed s.part.lgrp e)
include hr hgood

theorem remapRow_fenced (h : s.cgFenced (r.pc / 4) = true) : s.remapRow e = s.wr Fd.BST_REP_CMD_RESULT 6 := by
  subst hr
  exact (if_neg hgood).trans (if_pos h)

variable (hfence : s.cgFenced (r.pc / 4) = false)
include hfence

theorem remapRow_busy (h : (s.cg (r.pc / 4)).remap.isSome = true ∨ s.cgTested (r.pc / 4) = true) :
    s.remapRow e = s.wr Fd.BST_REP_CMD_RESULT 3 := by
  subst hr
  exact (if_neg hgood).trans ((if_neg (ne_true_of_eq_false hfence)).trans (if_pos h))

variable (hidle : ¬ ((s.cg (r.pc / 4)).remap.isSome = true ∨ s.cgTested (r.pc / 4) = true))
include hidle

theorem remapRow_noSpare (h : ∀ i, i < 16 → s.spareFree r.pc r.bank i = false) : s.remapRow e =
    ((s.wr Fd.BST_REP_CMD_RESULT 4).raise 140 1 (rowAddr r.pc r.bank r.target)).rowAcked r.pc r.bank r.target := by
  have none : ((List.range 16).any fun i => s.spareFree r.pc r.bank i) = false :=
    List.any_eq_false.2 fun i hi => ne_true_of_eq_false (h i (List.mem_range.1 hi))
  subst hr
  exact (if_neg hgood).trans ((if_neg (ne_true_of_eq_false hfence)).trans ((if_neg hidle).trans
    (if_pos (by rw [none]; rfl))))

/-- A spare of the bank is free. -/
theorem remapRow_spare (h : ∃ i, i < 16 ∧ s.spareFree r.pc r.bank i = true) : s.remapRow e =
    if !s.spareFree r.pc r.bank r.spare then s.wr Fd.BST_REP_CMD_RESULT 7
    else (s.setCg (r.pc / 4) { s.cg (r.pc / 4) with
      remap := some { pc := r.pc, bank := r.bank, row := r.target, spare := r.spare, lines := none } }).wr
        Fd.BST_REP_CMD_RESULT 2 := by
  obtain ⟨i, hi, free⟩ := h
  have one : ((List.range 16).any fun i => s.spareFree r.pc r.bank i) = true :=
    List.any_eq_true.2 ⟨i, List.mem_range.2 hi, free⟩
  subst hr
  exact (if_neg hgood).trans ((if_neg (ne_true_of_eq_false hfence)).trans ((if_neg hidle).trans
    (if_neg (by rw [one]; decide))))

end

/-! What a GO does with the outcome: OP goes back where the command ends with BUSY (R740). -/

/-- House firmware's acknowledgement leaves the registers. -/
theorem rd_fwAck (s : State) (p : Msg → Bool) (f : Fld) : (s.fwAck p).rd f = s.rd f := by
  unfold State.fwAck
  split <;> rfl

theorem repResult_wr (s : State) {x : Nat} (h : x < 16) : (s.wr Fd.BST_REP_CMD_RESULT x).rd Fd.BST_REP_CMD_RESULT = x :=
  (rd_wr_same s x (by decide)).trans (Nat.mod_eq_of_lt h)

theorem remapGo_ended {t : State} (h : (s.repArgs e 1).remapRow e = t) (hr : t.rd Fd.BST_REP_CMD_RESULT ≠ 3) :
    s.remapGo e = t := by
  subst h
  exact if_neg hr

theorem remapGo_busy {t : State} (h : (s.repArgs e 1).remapRow e = t) (hr : t.rd Fd.BST_REP_CMD_RESULT = 3) :
    s.remapGo e = t.wr Fd.BST_REP_CMD_OP (s.rd Fd.BST_REP_CMD_OP) := by
  subst h
  exact if_pos hr

/-- A GO that ends with one write of a result other than BUSY. -/
theorem remapGo_result {u : State} {x : Nat} (h : (s.repArgs e 1).remapRow e = u.wr Fd.BST_REP_CMD_RESULT x)
    (hx : x < 16) (h3 : x ≠ 3) : s.remapGo e = u.wr Fd.BST_REP_CMD_RESULT x :=
  remapGo_ended h (by rw [repResult_wr u hx]; exact h3)

/-! The other repair commands. -/

theorem retireSpare_malformed (h : entryFormat s.part.lgrp e = false ∨ entryRetires e = false) :
    s.retireSpare e = s.wr Fd.BST_REP_CMD_RESULT 5 := if_pos (by simpa using h)

section
variable (hf : entryFormat s.part.lgrp e = true)
include hf

theorem retireSpare_used (hr : entryRetires e = true) (h : (s.spareUser (entryRepair e)).isSome = true) :
    s.retireSpare e = s.wr Fd.BST_REP_CMD_RESULT 7 := (if_neg (by simp [hf, hr])).trans (if_pos h)

theorem retireSpare_free (hr : entryRetires e = true) (h : s.spareUser (entryRepair e) = none) : s.retireSpare e =
    ({ s with ecc := { s.ecc with retired := s.ecc.retired ++ [entryRepair e] } } : State).wr Fd.BST_REP_CMD_RESULT 1 :=
  (if_neg (by simp [hf, hr])).trans (if_neg (by simp [h]))

theorem readEntry_formed : s.readEntry e =
    let f := match s.ecc.repairs.find? (sameTarget (entryRepair e)) with
      | some x => x.entry false
      | none => 0
    ((s.wr Fd.BST_REP_ARG0_ARG f).wr Fd.BST_REP_ARG1_ARG (f / 2 ^ 32)).wr Fd.BST_REP_CMD_RESULT 1 :=
  if_neg (by simp [hf])

end

theorem readEntry_malformed (h : entryFormat s.part.lgrp e = false) : s.readEntry e = s.wr Fd.BST_REP_CMD_RESULT 5 :=
  if_pos (by simp [h])

/-! The remap's read and write (R381). -/

/-- The lines of a row read one by one, each with its column, from a state. -/
def State.readRow (s : State) (flips : List (Nat × Nat × Nat)) (lines : List (Nat × Nat)) :
    State × List (List Byte × Bool) :=
  lines.foldl (fun (x : State × List (List Byte × Bool)) (e : Nat × Nat) =>
    let f := (flips.filter fun (f : Nat × Nat × Nat) => f.1 == e.1).map fun (f : Nat × Nat × Nat) => f.2
    let l := (x.1.carry 16 e.2).readLine e.2 3 f
    (l.s, x.2 ++ [(line64 l.data, l.poison)])) (s, [])

/-- A list that a fold makes longer by one at each element. -/
theorem length_foldl_append {α β σ : Type} (f : σ × List β → α → σ × List β)
    (h : ∀ x a, (f x a).2.length = x.2.length + 1) (l : List α) (x : σ × List β) :
    (l.foldl f x).2.length = x.2.length + l.length := by
  induction l generalizing x with
  | nil => rfl
  | cons a l ih => rw [List.foldl_cons, ih, h, List.length_cons, Nat.add_assoc, Nat.add_comm 1]

theorem length_readRow (s : State) (flips : List (Nat × Nat × Nat)) (lines : List (Nat × Nat)) :
    (s.readRow flips lines).2.length = lines.length := by
  refine (length_foldl_append _ (fun x a => ?_) lines (s, [])).trans (Nat.zero_add _)
  exact List.length_append

@[simp] theorem cg_setCg_same (s : State) (g : Nat) (c : Cg) : (s.setCg g c).cg g = c := Tab.get_put_same _ _ _ _

theorem remapRead_lent {m : Remap} (flips : List (Nat × Nat × Nat)) (hm : (s.cg g).remap = some m) (hl : m.lines = none)
    (hlends : s.lends m.pc m.bank = true) : s.remapRead g flips =
      let x := ((s.lend m.pc m.bank).actCount m.pc m.bank (s.physRow m.pc m.bank m.row)).readRow flips
        ((List.range 16).zip (rowLines m.pc m.bank m.row))
      x.1.setCg g { x.1.cg g with remap := some { m with lines := some x.2 } } := by
  rw [State.remapRead, hm]
  exact if_neg (by simp [hl, hlends])

/-! What the commands of repair do to a part that is not held in reset. -/

section
variable (hs : s.inReset = false)
include hs

theorem exec_repRemapRow : exec (.repRemapRow e) s = .next (s.remapGo e) := act_live s _ hs

theorem exec_repRetireSpare : exec (.repRetireSpare e) s = .next ((s.repArgs e 2).retireSpare e) := act_live s _ hs

theorem exec_repReadEntry : exec (.repReadEntry e) s = .next ((s.repArgs e 3).readEntry e) := act_live s _ hs

theorem exec_remapRead (flips : List (Nat × Nat × Nat)) : exec (.remapRead g flips) s = .next (s.remapRead g flips) :=
  act_live s _ hs

theorem exec_remapRead_none (flips : List (Nat × Nat × Nat)) (h : (s.cg g).remap = none) :
    exec (.remapRead g flips) s = .next s := by
  rw [exec_remapRead hs, State.remapRead, h]

theorem exec_remapWrite_none (h : (s.cg g).remap = none) : exec (.remapWrite g) s = .next s := by
  refine (act_live s _ hs).trans (congrArg _ ?_)
  rw [h]

theorem exec_remapWrite {m : Remap} {ls : List (List Byte × Bool)} (hm : (s.cg g).remap = some m)
    (hl : m.lines = some ls) (hlends : s.lends m.pc m.bank = true) :
    exec (.remapWrite g) s = .next ((s.lend m.pc m.bank).remapFinish g) := by
  refine (act_live s _ hs).trans (congrArg _ ?_)
  rw [hm]
  exact if_pos ⟨by rw [hl]; rfl, hlends⟩

end

end Sys2Proof.Machine

section
open Sys2Proof Sys2Proof.Machine

/-- Settles O37: a remap request by the first check that fails, then the other commands. -/
theorem repairCommands : Obligations.RepairCommands := by
  intro s e hs r args res u good
  have go : exec (.repRemapRow e) s = .next (s.remapGo e) := exec_repRemapRow hs
  have idle (unmapped : (u.cg (r.pc / 4)).remap = none) (untested : u.cgTested (r.pc / 4) = false) :
      ¬ ((u.cg (r.pc / 4)).remap.isSome = true ∨ u.cgTested (r.pc / 4) = true) := by
    rw [unmapped, untested]
    decide
  refine ⟨fun bad => ?malformed, fun ok fenced => ?fenced, fun ok free => ⟨fun busy => ?busy, fun unmapped untested =>
      ⟨fun noSpare => ?noSpare, fun spare taken => ?taken, fun inBank spare => ?starts⟩⟩,
    ⟨fun bad => ?retireMalformed, fun formed retires => ⟨fun used => ?used, fun unused => ?retired⟩⟩,
    ⟨fun bad => ?readMalformed, fun formed => ?read⟩, fun g m flips remap unread lent => ?rowRead,
    fun g m ls => exec_remapWrite hs, fun g flips none => ⟨exec_remapRead_none hs flips none, exec_remapWrite_none hs none⟩⟩
  case malformed =>
    rw [go, remapGo_result (remapRow_malformed (remapMalformed_of_not bad)) (by decide) (by decide)]
    rfl
  case fenced =>
    rw [go, remapGo_result (remapRow_fenced rfl (not_remapMalformed ok) fenced) (by decide) (by decide)]
    rfl
  case busy =>
    have inUse : (u.cg (r.pc / 4)).remap.isSome = true ∨ u.cgTested (r.pc / 4) = true :=
      busy.imp_left Option.isSome_iff_ne_none.2
    rw [go, remapGo_busy (remapRow_busy rfl (not_remapMalformed ok) free inUse) (repResult_wr _ (by decide))]
    rfl
  case noSpare =>
    have ended := remapRow_noSpare rfl (not_remapMalformed ok) free (idle unmapped untested) noSpare
    rw [go, remapGo_ended ended]
    rw [State.rowAcked, rd_fwAck, rd_raise _ _ _ _ _ (by decide), repResult_wr _ (by decide)]
    decide
  case taken =>
    have ended := (remapRow_spare rfl (not_remapMalformed ok) free (idle unmapped untested) spare).trans (if_pos (by rw [taken]; rfl))
    rw [go, remapGo_result ended (by decide) (by decide)]
  case starts =>
    have ended := (remapRow_spare rfl (not_remapMalformed ok) free (idle unmapped untested) ⟨_, inBank, spare⟩).trans
      (if_neg (by rw [spare]; decide))
    rw [go, remapGo_result ended (by decide) (by decide)]
  case retireMalformed => exact (exec_repRetireSpare hs).trans (congrArg _ (retireSpare_malformed bad))
  case used => exact (exec_repRetireSpare hs).trans (congrArg _ (retireSpare_used formed retires used))
  case retired => exact (exec_repRetireSpare hs).trans (congrArg _ (retireSpare_free formed retires unused))
  case readMalformed => exact (exec_repReadEntry hs).trans (congrArg _ (readEntry_malformed bad))
  case read => exact (exec_repReadEntry hs).trans (congrArg _ (readEntry_formed formed))
  case rowRead =>
    refine ⟨_, exec_remapRead hs flips, ?_⟩
    rw [remapRead_lent flips remap unread lent]
    refine ⟨_, congrArg Cg.remap (cg_setCg_same ..), ?_⟩
    rw [length_readRow, List.length_zip, rowLines, List.length_map, List.length_range]
    rfl

end

/-! ### A sensor's conversion (R605–R612, R622) -/

namespace Sys2Proof.Machine

variable {s : State} {i w c : Nat} {x : Sns} {sub first : Bool}

/-! The checks of a conversion (R606). -/

theorem sampleCheck_range {r : Int} (h : r < -320 ∨ 1200 < r) : s.sampleCheck x r = 2 := if_pos h

/-- The first code after reset or a rearm has no rate to fail. -/
theorem sampleCheck_fresh {r : Int} (hlow : -320 ≤ r) (hhigh : r ≤ 1200) (hfresh : x.fresh = true) (hrun : x.run < 4096) :
    s.sampleCheck x r = 0 := by
  have within : ¬ (r < -320 ∨ 1200 < r) := not_or_intro (Int.not_lt.2 hlow) (Int.not_lt.2 hhigh)
  have unstuck : ¬ 4096 ≤ x.run := Nat.not_le.2 hrun
  refine (if_neg within).trans ((if_neg ?_).trans (if_neg fun stuck => unstuck stuck.1))
  rw [hfresh]
  exact fun steep => Bool.false_ne_true steep.1

/-! A failing sample (R609, R610). -/

/-- The sensor after its failing sample; the first of a run puts a substitute in effect and reports it. -/
def State.substituted (s : State) (i c : Nat) (x : Sns) : State :=
  if x.hasSub then s.setSns i x.fail1
  else ((s.setSns i x.fail1).count Fd.THM_CNT_SUBST_N Fd.THM_CNT_SUBST_OVF 1).raise 20 1 (i + c * 256)

theorem sampleFails_again (h : x.fails < 2) : s.sampleFails i c x = s.substituted i c x :=
  if_neg (ne_true_of_eq_false (decide_eq_false (Nat.not_le.2 h)))

theorem sampleFails_third (h : 2 ≤ x.fails) :
    s.sampleFails i c x = ((s.substituted i c x).raise 21 1 (i + c * 256)).lostEval i := if_pos (decide_eq_true h)

/-! What Kettle evaluates after a sample. -/

theorem snsEval_base (h : i < 64) (h17 : i ≠ 17) : s.snsEval i sub first =
    (((s.spreadEval (snsRgn i) false).calDrift (2 * snsRgn i)).calDrift (2 * snsRgn i + 1)).tripBEval :=
  (if_pos h).trans (congrArg State.tripBEval (if_neg h17))

theorem snsEval_otp : s.snsEval 17 sub first =
    ((((s.spreadEval (snsRgn 17) false).calDrift (2 * snsRgn 17)).calDrift (2 * snsRgn 17 + 1)).otpBand first).tripBEval :=
  (if_pos (by decide)).trans (congrArg State.tripBEval (if_pos rfl))

theorem snsEval_core (h : 64 ≤ i) : s.snsEval i sub first =
    (((s.zoneEval (i % 4) sub).bandEval (dieOf i / 4)).tripAEval).holdExit := if_neg (Nat.not_lt.2 h)

/-! A sample. -/

theorem sample_none (raw : Option Nat) (h : s.snsPresent i = false ∨ (s.sns i).failed = true ∨ s.coreOff = true) :
    s.sample i raw = s := if_pos (by simpa using h)

section
variable (hpresent : s.snsPresent i = true) (hfailed : (s.sns i).failed = false) (hcore : s.coreOff = false)
include hpresent hfailed hcore

theorem sampled_sensor : ¬ ((!s.snsPresent i) = true ∨ (s.sns i).failed = true ∨ s.coreOff = true) := by
  simp [hpresent, hfailed, hcore]

theorem sample_timeout : s.sample i none =
    ((s.sampleFails i 1 (s.sns i)).noteNeighbours i).snsEval i (s.zoneSub (i % 4)) (!(s.sns i).sampled) :=
  if_neg (sampled_sensor hpresent hfailed hcore)

theorem sample_passes (h : s.sampleCheck ((s.sns i).code (w % 4096)) (signed 12 w) = 0) : s.sample i (some w) =
    ((s.setSns i (((s.sns i).code (w % 4096)).pass1 (signed 12 w) s.clk.time)).noteNeighbours i).snsEval i
      (s.zoneSub (i % 4)) (!(s.sns i).sampled) := by
  refine (if_neg (sampled_sensor hpresent hfailed hcore)).trans ?_
  dsimp only
  rw [h]
  rfl

theorem sample_fails (h : s.sampleCheck ((s.sns i).code (w % 4096)) (signed 12 w) ≠ 0) : s.sample i (some w) =
    ((s.sampleFails i (s.sampleCheck ((s.sns i).code (w % 4096)) (signed 12 w))
      ((s.sns i).code (w % 4096))).noteNeighbours i).snsEval i (s.zoneSub (i % 4)) (!(s.sns i).sampled) := by
  refine (if_neg (sampled_sensor hpresent hfailed hcore)).trans ?_
  dsimp only
  split
  case h_1 passes => exact absurd passes h
  case h_2 => rfl

end

theorem exec_sensorSample (hs : s.inReset = false) : exec (.sensorSample i w) s = .next (s.sample i (some w)) :=
  act_live s _ hs

theorem exec_sensorConversionTimeout (hs : s.inReset = false) :
    exec (.sensorConversionTimeout i) s = .next (s.sample i none) := act_live s _ hs

end Sys2Proof.Machine

section
open Sys2Proof Sys2Proof.Machine

/-- Settles O53, by whether the sensor is sampled and the check its conversion fails. -/
theorem sensorSamples : Obligations.SensorSamples := by
  intro s i w hs
  refine ⟨fun unsampled => ⟨?_, ?_⟩, fun present failed core => ⟨?timeout, fun passes => ?passes, fun fails => ?fails,
      sampleCheck_range, sampleCheck_fresh⟩,
    fun c x => ⟨sampleFails_again, sampleFails_third⟩, fun sub first => snsEval_base, fun sub first => snsEval_otp,
    fun sub first => snsEval_core⟩
  · rw [exec_sensorSample hs, sample_none _ unsampled]
  · rw [exec_sensorConversionTimeout hs, sample_none _ unsampled]
  case timeout => rw [exec_sensorConversionTimeout hs, sample_timeout present failed core]
  case passes => exact (exec_sensorSample hs).trans (congrArg _ (sample_passes present failed core passes))
  case fails => rw [exec_sensorSample hs, sample_fails present failed core fails]

end

/-! ### Kettle's decisions (R611–R620) -/

namespace Sys2Proof.Machine

variable {s : State} {q i j slow other : Nat} {z e : Int} {sub : Bool}

/-! The throttle level of a zone (R611, R612). -/

theorem thrLevel_below (h : z < s.startEff) : s.thrLevel z = 0 := if_pos h

/-- At `k` whole steps above the start threshold the level is one more, up to 7. -/
theorem thrLevel_steps (h : s.startEff ≤ z) {k : Nat} (hk : (z - s.startEff) / s.stepC = k) :
    s.thrLevel z = min 7 (k + 1) := by
  rw [State.thrLevel, if_neg (Int.not_lt.2 h), hk, Int.toNat_natCast]

theorem thrLevel_between {k : Nat} (hk : k < 7) (hstep : 0 < s.stepC) (hlow : s.startEff + s.stepC * k ≤ z)
    (hhigh : z < s.startEff + s.stepC * (k + 1)) : s.thrLevel z = k + 1 := by
  have above : s.startEff ≤ z := by nlinarith
  have steps : (z - s.startEff) / s.stepC = k :=
    Int.le_antisymm (Int.le_of_lt_add_one (Int.ediv_lt_of_lt_mul hstep (by linarith)))
      (Int.le_ediv_of_mul_le hstep (by linarith))
  rw [thrLevel_steps above steps, Nat.min_eq_right hk]

theorem thrLevel_top (hstep : 0 < s.stepC) (h : s.startEff + s.stepC * 6 ≤ z) : s.thrLevel z = 7 := by
  have above : s.startEff ≤ z := by linarith
  have six : 6 ≤ (z - s.startEff) / s.stepC := Int.le_ediv_of_mul_le hstep (by linarith)
  have steps : (z - s.startEff) / s.stepC = (((z - s.startEff) / s.stepC).toNat : Int) := by omega
  rw [thrLevel_steps above steps]
  omega

section
variable (hmax : s.maxEff (s.zoneSns q) = some (j, z))
include hmax

theorem zoneEval_eq : s.zoneEval q sub =
    if s.rd (Fd.THM_ZONE_LEVEL q) < s.thrLevel z then s.setZone q (s.thrLevel z)
    else if s.thrFalls z (s.rd (Fd.THM_ZONE_LEVEL q)) ∧ !sub ∧
        rateOk (Tab.get (fun _ => 0) s.thm.zoneTime q) s.clk.time 1750 then
      s.setZone q (s.rd (Fd.THM_ZONE_LEVEL q) - 1)
    else s := by
  rw [State.zoneEval, hmax]

theorem zoneEval_rises (h : s.rd (Fd.THM_ZONE_LEVEL q) < s.thrLevel z) :
    s.zoneEval q sub = s.setZone q (s.thrLevel z) := (zoneEval_eq hmax).trans (if_pos h)

theorem zoneEval_stays (h : s.thrLevel z ≤ s.rd (Fd.THM_ZONE_LEVEL q))
    (hstays : sub = true ∨ s.thrFloor (s.rd (Fd.THM_ZONE_LEVEL q)) - 8 * (s.rd Fd.THM_THR_HYST : Int) ≤ z) :
    s.zoneEval q sub = s := by
  rw [zoneEval_eq hmax, if_neg (Nat.not_lt.2 h)]
  refine if_neg fun ⟨falls, real, _⟩ => ?_
  rcases hstays with substituted | warm
  · simp [substituted] at real
  · simp only [State.thrFalls, Bool.and_eq_true, decide_eq_true_eq] at falls
    exact absurd falls.2 (Int.not_lt.2 warm)

theorem zoneEval_falls (h : s.thrLevel z < s.rd (Fd.THM_ZONE_LEVEL q))
    (hcool : z < s.thrFloor (s.rd (Fd.THM_ZONE_LEVEL q)) - 8 * (s.rd Fd.THM_THR_HYST : Int))
    (hrate : rateOk (Tab.get (fun _ => 0) s.thm.zoneTime q) s.clk.time 1750 = true) :
    s.zoneEval q false = s.setZone q (s.rd (Fd.THM_ZONE_LEVEL q) - 1) := by
  have falls : s.thrFalls z (s.rd (Fd.THM_ZONE_LEVEL q)) = true := by simp [State.thrFalls, h, hcool]
  rw [zoneEval_eq hmax, if_neg (Nat.lt_asymm h), if_pos ⟨falls, rfl, hrate⟩]

end

/-! Trip A and the end of THERMAL-HOLD (R614, R615, R641). -/

/-- Trip A noted and counted. -/
def State.tripANoted (s : State) : State :=
  ({ s with thm := { s.thm with tripA := true } } : State).count Fd.THM_CNT_TRIPA_N Fd.THM_CNT_TRIPA_OVF 1

theorem mode_tripANoted (s : State) : s.tripANoted.mode = s.mode :=
  rd_count_other _ 1 (by decide) (by decide) (by decide) (by decide) (by decide)

section
variable (hmax : s.maxEff (s.snsClass 64) = some (i, e))
include hmax

theorem tripAEval_below (h : e < s.tripAt true) : s.tripAEval = { s with thm := { s.thm with tripA := false } } := by
  rw [State.tripAEval, hmax]
  exact if_pos h

theorem tripAEval_stands (h : s.tripAt true ≤ e) (htrip : s.thm.tripA = true) : s.tripAEval = s := by
  rw [State.tripAEval, hmax]
  exact (if_neg (Int.not_lt.2 h)).trans (if_pos htrip)

/-- The crossing requests THERMAL-HOLD; in STANDBY the wake record shows it first. -/
theorem tripAEval_crosses (h : s.tripAt true ≤ e) (htrip : s.thm.tripA = false) :
    let u := if s.mode = mSTANDBY then s.tripANoted.tripAWake else s.tripANoted
    s.tripAEval = (u.askMode { prec := 3, mode := mHOLD, level := u.level }).raise 17 1 (i + wrapInt 12 e * 256) := by
  rw [← mode_tripANoted s, State.tripAEval, hmax]
  exact (if_neg (Int.not_lt.2 h)).trans (if_neg (ne_true_of_eq_false htrip))

theorem holdExit_ends (hmode : s.mode = mHOLD) (hasked : s.thm.exitAsked = false) (hlost : s.thm.lost = [])
    (h : e < 680 + s.gradeC) : s.holdExit = (({ s with thm := { s.thm with exitAsked := true } } : State).askMode
      { prec := 3, mode := s.seq.preHold, level := s.level }).raise 18 1 0 := by
  rw [State.holdExit, if_pos ⟨hmode, by rw [hasked]; rfl, by rw [hlost]; rfl⟩, hmax]
  exact if_pos h

theorem holdExit_stays (h : s.mode ≠ mHOLD ∨ s.thm.lost ≠ [] ∨ 680 + s.gradeC ≤ e) : s.holdExit = s := by
  rw [State.holdExit, hmax]
  split
  case isTrue may =>
    obtain ⟨mode, -, lost⟩ := may
    have hot := (h.resolve_left (not_not_intro mode)).resolve_left (not_not_intro (List.isEmpty_iff.1 lost))
    exact if_neg (Int.not_lt.2 hot)
  case isFalse => rfl

end

/-! Trip B (R43, R52, R616). -/

/-- THERMTRIP_N driven and Trip B reported. -/
def State.tripBNoted (s : State) (i : Nat) (e : Int) : State :=
  ({ s with pins := { s.pins with thermtripLow := true }, thm := { s.thm with tripB := true } } : State).raise 19 1
    (i + wrapInt 12 e * 256)

theorem tripBNow_asks (h : (s.tripBNoted i e).mode ≠ mLOCKDOWN) : s.tripBNow i e =
    (s.tripBNoted i e).askMode { prec := 1, mode := mLOCKDOWN, level := (s.tripBNoted i e).level } := if_neg h

theorem tripBNow_records (h : (s.tripBNoted i e).mode = mLOCKDOWN) :
    let w := ((s.tripBNoted i e).modeStat 1 4).modeStat 1 1
    s.tripBNow i e = if w.tripB then w else w.tripStop := if_pos h

section
variable (hmax : s.maxEff (s.snsClass 0) = some (i, e))
include hmax

theorem tripBEval_below (h : e < s.tripAt false) : s.tripBEval = { s with thm := { s.thm with tripB := false } } := by
  rw [State.tripBEval, hmax]
  exact if_pos h

theorem tripBEval_stands (h : s.tripAt false ≤ e) (htrip : s.thm.tripB = true) : s.tripBEval = s := by
  rw [State.tripBEval, hmax]
  exact (if_neg (Int.not_lt.2 h)).trans (if_pos htrip)

theorem tripBEval_crosses (h : s.tripAt false ≤ e) (htrip : s.thm.tripB = false) : s.tripBEval = s.tripBNow i e := by
  rw [State.tripBEval, hmax]
  exact (if_neg (Int.not_lt.2 h)).trans (if_neg (ne_true_of_eq_false htrip))

end

/-! The drop of a region (R619). -/

theorem dropRgn_drops (volt : Bool) (h : s.dropped slow = false) :
    let u := (s.wrBit Fd.THM_DROP_DROP slow true).count Fd.THM_CNT_SPREAD_N Fd.THM_CNT_SPREAD_OVF 1
    s.dropRgn slow other volt =
      ((u.groupSwitch (2 * slow)).groupSwitch (2 * slow + 1)).raise 23 1 (slow + other * 16 + b2n volt * 256) :=
  if_neg (ne_true_of_eq_false h)

end Sys2Proof.Machine

section
open Sys2Proof Sys2Proof.Machine

/-- Settles O54, decision by decision. -/
theorem kettleDecisions : Obligations.KettleDecisions := by
  refine ⟨fun s z => ⟨thrLevel_below, fun k hk => thrLevel_between hk, thrLevel_top⟩,
    fun s q j z sub hmax => ⟨zoneEval_rises hmax, zoneEval_stays hmax, fun below cool real => ?falls⟩,
    fun s i e hmax => ⟨tripAEval_below hmax, tripAEval_stands hmax, fun hot untripped awake => ?tripA,
      fun hot untripped standby => ?tripAStandby, holdExit_ends hmax, holdExit_stays hmax⟩,
    fun s i e hmax => ⟨tripBEval_below hmax, tripBEval_stands hmax, fun hot untripped => ?tripB⟩,
    fun s slow other volt => dropRgn_drops volt⟩
  case falls =>
    subst real
    exact zoneEval_falls hmax below cool
  case tripA =>
    have crossed := tripAEval_crosses hmax hot untripped
    rwa [if_neg awake] at crossed
  case tripAStandby =>
    have crossed := tripAEval_crosses hmax hot untripped
    rwa [if_pos standby] at crossed
  case tripB =>
    rw [tripBEval_crosses hmax hot untripped]
    refine ⟨tripBNow_asks, fun locked => ⟨fun off => ?_, fun on => ?_⟩⟩
    · exact (tripBNow_records locked).trans (if_neg (ne_true_of_eq_false off))
    · exact (tripBNow_records locked).trans (if_pos on)

end

/-! ### Kettle's other commands (R345, R609, R617–R622, R629) -/

namespace Sys2Proof.Machine

variable {s : State} {r mv i c z : Nat}

/-! Rearming a sensor (R609). -/

theorem rearmSns_working (h : (s.sns i).failed = false) : s.rearmSns i = s := if_neg (ne_true_of_eq_false h)

theorem rearmSns_failed (h : (s.sns i).failed = true) :
    let v := s.setSns i { s.sns i with failed := false, fails := 0, rearm := 3, fresh := true, sub := true }
    s.rearmSns i = { v with thm := { v.thm with
      lost := v.thm.lost.filter (· != (if i < 64 then 16 + snsRgn i else i % 4)) } } := if_pos h

/-! A core die's code in a retain mode (R345, R617). -/

/-- The self-refresh rate that a temperature asks for: 0 Base, 1 Double, 2 High. -/
def State.rateFor (s : State) (m : Int) : Nat :=
  if 760 + s.gradeC < m then 2 else if 680 + s.gradeC < m then 1 else 0

/-- The self-refresh rates by die. -/
def State.withRates (s : State) (rates : Tab Nat) : State := { s with pwr := { s.pwr with srRate := rates } }

/-- The rate that a code of one die gives: each other die has no code and keeps its rate. -/
theorem foldl_one_die {f : State → Nat → State} {d : Nat} {u : State} (dies : List Nat) (hmem : d ∈ dies)
    (hnodup : dies.Nodup) (hother : ∀ t, ∀ k ≠ d, f t k = t) (hdie : f s d = u) : dies.foldl f s = u := by
  have pass (l : List Nat) (hl : d ∉ l) (t : State) : l.foldl f t = t := by
    induction l with
    | nil => rfl
    | cons k l ih =>
      rw [List.mem_cons, not_or] at hl
      rw [List.foldl_cons, hother t k (Ne.symm hl.1), ih hl.2]
  obtain ⟨before, after, rfl⟩ := List.append_of_mem hmem
  rw [List.nodup_middle, List.nodup_cons, List.mem_append, not_or] at hnodup
  obtain ⟨⟨notBefore, notAfter⟩, -⟩ := hnodup
  rw [List.foldl_append, pass before notBefore, List.foldl_cons, hdie, pass after notAfter]

/-- Every rate set to one value, die by die. -/
def setRates (rates : Tab Nat) (n v : Nat) : Tab Nat :=
  (List.range n).foldl (fun t d => Tab.put (fun _ => 0) t d v) rates

theorem get_setRates (rates : Tab Nat) (v : Nat) {n d : Nat} (h : d < n) :
    Tab.get (fun _ => 0) (setRates rates n v) d = v := by
  induction n with
  | zero => exact absurd h (Nat.not_lt_zero d)
  | succ n ih =>
    rw [setRates, List.range_succ, List.foldl_append, List.foldl_cons, List.foldl_nil]
    by_cases last : d = n
    · rw [last, Tab.get_put_same]
    · rw [Tab.get_put_other _ _ _ last]
      exact ih (by omega)

/-- A code counts where it is a present core-die sensor's and within the sensor's range. -/
def State.coreCode (s : State) (e : Nat × Nat) : Bool :=
  decide (64 ≤ e.1) && s.snsPresent e.1 && decide (-320 ≤ signed 12 e.2) && decide (signed 12 e.2 ≤ 1200)

/-- The part once a core die's code has set its die's rate. -/
def State.dieRated (s : State) (i c : Nat) : State :=
  s.withRates (Tab.put (fun _ => 0) s.pwr.srRate (dieOf i) (s.rateFor (signed 12 c)))

/-! What the commands of Kettle do to a part that is not held in reset. -/

section
variable (hs : s.inReset = false)
include hs

theorem exec_regionVoltageSample (hr : r < 16) (hcore : s.coreOff = false) : exec (.regionVoltageSample r mv) s =
    .next ((s.wr (Fd.THM_RGN_VOLT r) mv).spreadEval r true) :=
  (act_live s _ hs).trans (congrArg _ (if_pos ⟨hr, by rw [hcore]; rfl⟩))

theorem exec_regionVoltageSample_none (h : 16 ≤ r ∨ s.coreOff = true) :
    exec (.regionVoltageSample r mv) s = .next s := by
  refine (act_live s _ hs).trans (congrArg _ (if_neg fun ⟨hr, core⟩ => ?_))
  rcases h with h | h
  · omega
  · rw [h] at core
    exact Bool.false_ne_true core

theorem exec_spreadClear (hdrop : s.dropped r = true) (hcalm : s.spreadCalm r = true) :
    let u := s.wrBit Fd.THM_DROP_DROP r false
    exec (.spreadClear r) s = .next (((u.groupSwitch (2 * r)).groupSwitch (2 * r + 1)).raise 24 1 r) :=
  (act_live s _ hs).trans (congrArg _ (if_pos ⟨hdrop, hcalm⟩))

theorem exec_spreadClear_none (h : s.dropped r = false ∨ s.spreadCalm r = false) : exec (.spreadClear r) s = .next s :=
  (act_live s _ hs).trans (congrArg _ (if_neg (by rcases h with h | h <;> simp [h])))

theorem exec_rearm (hi : i < 128) : exec (.rearm i) s = .next ((s.wr Fd.THM_REARM_SENSOR i).rearmSns i) := by
  refine (act_live s _ hs).trans (congrArg _ ?_)
  rw [Nat.mod_eq_of_lt hi]

theorem exec_throttleLimitEnd_none (h : Tab.get (fun _ => (0 : Nat)) s.thm.thrHeld z = 0) :
    exec (.throttleLimitEnd z) s = .next s := by
  refine (act_live s _ hs).trans (congrArg _ ?_)
  rw [h]

theorem exec_throttleLimitEnd {old : Nat} (h : Tab.get (fun _ => (0 : Nat)) s.thm.thrHeld z = old + 1) :
    exec (.throttleLimitEnd z) s = .next (s.raiseThrottle z old) := by
  refine (act_live s _ hs).trans (congrArg _ ?_)
  rw [h]

theorem exec_coreDieCompare_none (l : List (Nat × Nat)) (hr : s.mode ≠ mRETAIN) (hp : s.mode ≠ mRETAINP) :
    exec (.coreDieCompare l) s = .next s :=
  (act_live s _ hs).trans (congrArg _ (if_neg (not_or_intro hr hp)))

section
variable (hmode : s.mode = mRETAIN ∨ s.mode = mRETAINP) (hcode : s.coreCode (i, c) = true)
include hmode hcode

/-- One code in a retain mode: its die's rate, then Trip A. -/
theorem exec_coreDieCompare : exec (.coreDieCompare [(i, c)]) s = .next
    (if s.tripAt true ≤ signed 12 c then
      (((s.dieRated i c).withRates (setRates (s.dieRated i c).pwr.srRate (4 * s.part.lgrp) 2)).wr
        Fd.THM_CTL_RETAIN_TRIP 1).wakeEvent 4
    else s.dieRated i c) := by
  have present : s.snsPresent i = true := by simp only [State.coreCode, Bool.and_eq_true] at hcode; exact hcode.1.1.2
  have die : dieOf i ∈ List.range 16 := by
    have : i < 128 := by simp only [State.snsPresent, Bool.or_eq_true, Bool.and_eq_true, decide_eq_true_eq] at present; omega
    rw [List.mem_range, dieOf]
    omega
  have counts : [(i, c)].filter (fun (e : Nat × Nat) => decide (64 ≤ e.1) && s.snsPresent e.1 &&
      decide (-320 ≤ signed 12 e.2) && decide (signed 12 e.2 ≤ 1200)) = [(i, c)] := List.filter_cons_of_pos hcode
  refine (act_live s _ hs).trans (congrArg _ ((if_pos hmode).trans ?_))
  dsimp only
  rw [counts, foldl_one_die (u := s.dieRated i c) (List.range 16) die List.nodup_range (fun t k other => ?other) ?own]
  · simp only [List.any_cons, List.any_nil, Bool.or_false, decide_eq_true_eq]
    rfl
  case other =>
    have none : [(i, c)].filter (fun (e : Nat × Nat) => dieOf e.1 == k) = [] := by simp [Ne.symm other]
    rw [none]
    rfl
  case own =>
    have one : [(i, c)].filter (fun (e : Nat × Nat) => dieOf e.1 == dieOf i) = [(i, c)] := by simp
    rw [one]
    rfl

end

theorem exec_deepTripBSample (hmode : s.mode = mDEEP) (hlow : -320 ≤ signed 12 c) (hhigh : signed 12 c ≤ 1200) :
    let u : State := { s with clk := { s.clk with aoTemp := signed 12 c } }
    exec (.deepTripBSample c) s =
      .next (if !u.thm.tripB ∧ u.tripAt false ≤ signed 12 c then u.tripBNow 56 (signed 12 c) else u) :=
  (act_live s _ hs).trans (congrArg _ (if_pos ⟨hmode, hlow, hhigh⟩))

theorem exec_deepTripBSample_none (h : s.mode ≠ mDEEP ∨ signed 12 c < -320 ∨ 1200 < signed 12 c) :
    exec (.deepTripBSample c) s = .next s := by
  refine (act_live s _ hs).trans (congrArg _ (if_neg fun ⟨mode, low, high⟩ => ?_))
  rcases h with h | h | h
  · exact h mode
  · omega
  · omega

end

end Sys2Proof.Machine

section
open Sys2Proof Sys2Proof.Machine

/-- Settles O55, command by command. -/
theorem kettleCommands : Obligations.KettleCommands := by
  intro s hs
  refine ⟨fun r mv => exec_regionVoltageSample hs, fun r mv => exec_regionVoltageSample_none hs,
    fun r => exec_spreadClear hs, fun r => exec_spreadClear_none hs, fun i hi => ⟨fun working => ?working, fun failed => ?failed⟩,
    fun z => exec_throttleLimitEnd_none hs, fun z old held => exec_throttleLimitEnd hs held,
    exec_coreDieCompare_none hs, fun i c hmode core present low high => ?core,
    fun c => ⟨fun hmode low high => ⟨fun untripped hot => ?deep, fun cool => ?cool⟩, exec_deepTripBSample_none hs⟩⟩
  case working => rw [exec_rearm hs hi, rearmSns_working working]
  case failed => exact (exec_rearm hs hi).trans (congrArg _ (rearmSns_failed failed))
  case core =>
    have code : s.coreCode (i, c) = true := by simp [State.coreCode, core, present, low, high]
    rw [exec_coreDieCompare hs hmode code]
    refine ⟨fun cool => ?_, fun hot => ?_⟩
    · rw [if_neg (Int.not_le.2 cool)]
      rfl
    · rw [if_pos hot]
      exact ⟨_, rfl, rfl, fun d => get_setRates _ 2⟩
  case deep =>
    exact (exec_deepTripBSample hs hmode low high).trans (congrArg _ (if_pos ⟨by rw [untripped]; rfl, hot⟩))
  case cool =>
    refine (exec_deepTripBSample hs hmode low high).trans (congrArg _ (if_neg fun ⟨untripped, hot⟩ => ?_))
    rcases cool with tripped | cool
    · rw [tripped] at untripped
      exact Bool.false_ne_true untripped
    · exact absurd hot (Int.not_le.2 cool)

end

/-! ### The queue engine's requests (R425, R431–R438, R443) -/

namespace Sys2Proof.Machine

variable {s u v : State} {t : Txn} {n : Nat}

/-! The four opcodes at the dispatch (R270 step 9). -/

theorem dispatch_enq (hstay : s.goesAway t = false) (hop : t.op = opENQ) : s.dispatch t = s.enq t := by
  rw [State.dispatch, if_neg (ne_true_of_eq_false hstay), hop]
  rfl

theorem dispatch_deq (hstay : s.goesAway t = false) (hop : t.op = opDEQ) : s.dispatch t = s.deq t := by
  rw [State.dispatch, if_neg (ne_true_of_eq_false hstay), hop]
  rfl

theorem dispatch_qstat (hstay : s.goesAway t = false) (hop : t.op = opQSTAT) : s.dispatch t = s.qstat t := by
  rw [State.dispatch, if_neg (ne_true_of_eq_false hstay), hop]
  rfl

section
variable (hstay : s.goesAway t = false) (hop : t.op = opQCTL)
include hstay hop

/-- QCTL goes to the operation its SPEC names. -/
theorem dispatch_qctl : s.dispatch t = match bits t.head.spec 18 16 with
    | 0 => s.qEnable t
    | 1 => s.qDisable t
    | 2 => s.qFlush t
    | 3 => s.qSetLimit t
    | _ => s.qSetProt t := by
  rw [State.dispatch, if_neg (ne_true_of_eq_false hstay), hop]
  rfl

theorem dispatch_enable (h : bits t.head.spec 18 16 = 0) : s.dispatch t = s.qEnable t := by
  simp only [dispatch_qctl hstay hop, h]

theorem dispatch_disable (h : bits t.head.spec 18 16 = 1) : s.dispatch t = s.qDisable t := by
  simp only [dispatch_qctl hstay hop, h]

theorem dispatch_flush (h : bits t.head.spec 18 16 = 2) : s.dispatch t = s.qFlush t := by
  simp only [dispatch_qctl hstay hop, h]

theorem dispatch_setLimit (h : bits t.head.spec 18 16 = 3) : s.dispatch t = s.qSetLimit t := by
  simp only [dispatch_qctl hstay hop, h]

theorem dispatch_setProt (h : 4 ≤ bits t.head.spec 18 16) : s.dispatch t = s.qSetProt t := by
  rw [dispatch_qctl hstay hop]
  obtain ⟨k, hk⟩ := Nat.exists_eq_add_of_le' h
  simp only [hk]

end

/-! At its queue (R443, R446). -/

section
variable (hn : t.head.spec % 65536 = n) (f : State → Nat → QRec → State)
include hn

theorem atQueue_fenced (h : s.bankFenced (cBank (queueOff n)) = true) : s.atQueue t f = s.respond t stFENCED := by
  simp only [State.atQueue, hn, h, if_true]

variable (hbank : s.bankFenced (cBank (queueOff n)) = false)
include hbank

theorem atQueue_lost (h : s.queueLost n = (u, true)) : s.atQueue t f = u.respond t stPOISON := by
  simp only [State.atQueue, hn, hbank, h, Bool.false_eq_true, if_false, if_true]

theorem atQueue_sound (h : s.queueLost n = (u, false)) : s.atQueue t f = f u n (u.q n) := by
  simp only [State.atQueue, hn, hbank, h, Bool.false_eq_true, if_false]

end

/-- Each queue opcode is handled at its queue. -/
theorem dispatch_atQueue (hstay : s.goesAway t = false) (h : isQueue t.op = true) :
    ∃ f, s.dispatch t = s.atQueue t f := by
  simp only [isQueue, Bool.or_eq_true, beq_iff_eq] at h
  rcases h with ((enq | deq) | qstat) | qctl
  · rw [dispatch_enq hstay enq, State.enq]
    exact ⟨_, rfl⟩
  · rw [dispatch_deq hstay deq, State.deq]
    exact ⟨_, rfl⟩
  · rw [dispatch_qstat hstay qstat, State.qstat]
    exact ⟨_, rfl⟩
  · rw [dispatch_qctl hstay qctl]
    split
    · rw [State.qEnable, State.qctl]
      exact ⟨_, rfl⟩
    · rw [State.qDisable, State.qctl]
      exact ⟨_, rfl⟩
    · rw [State.qFlush, State.qctl]
      exact ⟨_, rfl⟩
    · rw [State.qSetLimit, State.qctl]
      exact ⟨_, rfl⟩
    · rw [State.qSetProt, State.qctl]
      exact ⟨_, rfl⟩

/-! A queue's record. -/

@[simp] theorem q_setQ_same (s : State) (n : Nat) (r : QRec) : (s.setQ n r).q n = r := Tab.get_put_same _ _ _ _

@[simp] theorem q_count (f ovf : Fld) (k : Nat) : (s.count f ovf k).q n = s.q n := by
  rw [State.q, count_que, State.q]

@[simp] theorem q_raise (a k x : Nat) (i : Bool) : (s.raise a k x i).q n = s.q n := by
  rw [State.q, raise_que, State.q]

@[simp] theorem q_drainEnt (m code : Nat) : (s.drainEnt m code).q n = s.q n := by
  rw [State.drainEnt]
  split <;> rfl

theorem q_disabled (s : State) (n : Nat) (flushed : Bool) : (s.disabled n flushed).q n = {} := by
  rw [State.disabled, q_raise]
  exact q_setQ_same _ n {}

/-! ENQ (R431–R433). -/

/-- The data's cells have lengths of 1 to 248 bytes (R425, R433). -/
def cellLens (t : Txn) : Bool :=
  (cellWords (t.head.lenArg % 8) t.payload).all fun w => decide (1 ≤ cellLen w) && decide (cellLen w ≤ 248)

/-- The marks are checked and do not follow R432. -/
def State.badMarks (s : State) (t : Txn) (opn : Bool) : Bool :=
  s.on Fd.QUE_CTL_MARK_CHK && !(marks opn (cellWords (t.head.lenArg % 8) t.payload)).2

theorem badMarks_false {opn : Bool} (h : s.on Fd.QUE_CTL_MARK_CHK = false ∨
    (marks opn (cellWords (t.head.lenArg % 8) t.payload)).2 = true) : s.badMarks t opn = false := by
  rcases h with off | good
  · rw [State.badMarks, off, Bool.false_and]
  · rw [State.badMarks, good, Bool.not_true, Bool.and_false]

theorem badMarks_true {opn : Bool} (hon : s.on Fd.QUE_CTL_MARK_CHK = true)
    (h : (marks opn (cellWords (t.head.lenArg % 8) t.payload)).2 = false) : s.badMarks t opn = true := by
  rw [State.badMarks, hon, h]
  rfl

/-- The cells of an ENQ stored from the tail on. -/
def State.storeCells (s : State) (t : Txn) (n : Nat) : State :=
  (List.range (t.head.lenArg % 8)).foldl (fun (v : State) i =>
    v.storeCell t.id n (s.q n).pool ((s.q n).tail + i) 0 ((t.payload.drop (256 * i)).take 256)) s

/-- A queue's record once the cells of an ENQ stand in its tail page. -/
def QRec.enqueued (r : QRec) (t : Txn) : QRec :=
  let c := t.head.lenArg % 8
  let ws := cellWords c t.payload
  { r with
    tail := r.tail + c
    cells := r.cells + c
    bytes := r.bytes + (ws.map cellLen).foldl (· + ·) 0
    pkts := r.pkts + (ws.filter cellEop).length
    opn := (marks r.opn ws).1 }

theorem nth_slots (f : Nat → Nat) {m i : Nat} (h : i < m) : nth 0 ((List.range m).map f) i = f i := by
  simp [nth, List.getD, h]

theorem enqSlots_within {tail c : Nat} (page : Option Nat) (h : tail % 16 + c < 16) :
    enqSlots tail c page = (List.range c).map (tail + ·) := by
  refine List.map_congr_left fun i hi => if_pos ?_
  have := List.mem_range.1 hi
  omega

section
variable (hn : t.head.spec % 65536 = n) (hbank : s.bankFenced (cBank (queueOff n)) = false)
  (hread : s.queueLost n = (u, false))
include hn hbank hread

theorem enq_disabled (h : (u.q n).state = 0) : s.enq t = u.respond t stREJ_REGION := by
  rw [State.enq, atQueue_sound hn _ hbank hread]
  exact if_pos h

theorem enq_draining (h : 2 ≤ (u.q n).state) : s.enq t = u.respond t stDRAINING := by
  rw [State.enq, atQueue_sound hn _ hbank hread]
  exact (if_neg (by omega)).trans (if_pos h)

variable (hon : (u.q n).state = 1)
include hon

theorem enq_badLens (hlen : cellLens t = false) (hmark : u.badMarks t (u.q n).opn = false) :
    s.enq t = u.respond t stABORTED 0 [] 0 4 := by
  rw [State.enq, atQueue_sound hn _ hbank hread]
  refine (if_neg (by omega)).trans ((if_neg (by omega)).trans ((if_pos (.inl (congrArg not hlen :))).trans ?_))
  exact congrArg (State.respond · t stABORTED 0 [] 0 4) (if_neg (ne_true_of_eq_false hmark))

theorem enq_badMarks (hmark : u.badMarks t (u.q n).opn = true) :
    s.enq t = (u.raise 174 1 (n + (u.q n).pool * 65536)).respond t stABORTED 0 [] 0 4 := by
  rw [State.enq, atQueue_sound hn _ hbank hread]
  refine (if_neg (by omega)).trans ((if_neg (by omega)).trans ((if_pos (.inr hmark)).trans ?_))
  exact congrArg (State.respond · t stABORTED 0 [] 0 4) (if_pos hmark)

variable (hlen : cellLens t = true) (hmark : u.badMarks t (u.q n).opn = false)
include hlen hmark

theorem enq_beyondLimit (hlim : (u.q n).limit ≠ 0) (h : (u.q n).limit < (u.q n).cells + t.head.lenArg % 8) :
    s.enq t = (u.count Fd.QUE_FULL_CNT_COUNT Fd.QUE_FULL_CNT_OVF 1).respond t stFULL := by
  rw [State.enq, atQueue_sound hn _ hbank hread]
  refine (if_neg (by omega)).trans ((if_neg (by omega)).trans ((if_neg ?_).trans (if_pos (.inl ⟨hlim, h⟩))))
  exact not_or_intro (ne_true_of_eq_false (congrArg not hlen)) (ne_true_of_eq_false hmark)

/-- Cells that fit in the tail page are stored from the tail on. -/
theorem enq_stores (hlim : (u.q n).limit = 0 ∨ (u.q n).cells + t.head.lenArg % 8 ≤ (u.q n).limit)
    (hroom : (u.q n).tail % 16 + t.head.lenArg % 8 < 16)
    (hfence : ∀ i < t.head.lenArg % 8, u.lineFenced (u.cellAddr (u.q n).pool ((u.q n).tail + i)) = false) :
    s.enq t = (((u.storeCells t n).setQ n ((u.q n).enqueued t)).count Fd.QUE_ENQ_CELLS_COUNT Fd.QUE_ENQ_CELLS_OVF
      (t.head.lenArg % 8)).respond t stOK ((u.q n).enqueued t).result := by
  have within : decide (16 ≤ (u.q n).tail % 16 + t.head.lenArg % 8) = false := decide_eq_false (by omega)
  have slots := enqSlots_within none hroom
  have apart : ((enqSlots (u.q n).tail (t.head.lenArg % 8) none).any fun x =>
      u.lineFenced (u.cellAddr (u.q n).pool x)) = false := by
    rw [slots, List.any_map, List.any_eq_false]
    exact fun i hi => ne_true_of_eq_false (hfence i (List.mem_range.1 hi))
  have stored : (List.range (t.head.lenArg % 8)).foldl (fun s i => s.storeCell t.id n (u.q n).pool
      (nth 0 ((List.range (t.head.lenArg % 8)).map ((u.q n).tail + ·)) i) 0 ((t.payload.drop (256 * i)).take 256)) u =
      u.storeCells t n :=
    List.foldl_ext _ _ _ fun v i hi => by rw [nth_slots _ (List.mem_range.1 hi)]
  rw [State.enq, atQueue_sound hn _ hbank hread]
  refine (if_neg (by omega)).trans ((if_neg (by omega)).trans ((if_neg ?_).trans ((if_neg ?_).trans ?_)))
  · exact not_or_intro (ne_true_of_eq_false (congrArg not hlen)) (ne_true_of_eq_false hmark)
  · rintro (⟨limited, beyond⟩ | ⟨past, -⟩)
    · omega
    · exact Bool.false_ne_true (within.symm.trans past)
  · rw [slots] at apart
    simp only [within, Bool.false_eq_true, if_false, false_and, slots, Option.getD_none]
    rw [if_neg (ne_true_of_eq_false apart), stored]
    rfl

end

/-! DEQ (R434, R444). -/

/-- The next `k` cells lie in the head page, and no link needs to be read for them. -/
def QRec.inHeadPage (r : QRec) (k : Nat) : Prop :=
  r.head % 16 + k < 16 ∧ r.hlost = false ∧ (r.hnext.isSome = true ∨ r.head / 16 = r.tail / 16)

/-- The record with `k` cells of the head page unlinked. -/
def QRec.dequeued (r : QRec) (k : Nat) : QRec := { r with head := r.head + k, cells := r.cells - k }

theorem linkRead_needless (h : (s.q n).hnext.isSome = true ∨ (s.q n).head / 16 = (s.q n).tail / 16) :
    s.linkRead n = s := by
  refine if_pos ?_
  rcases h with known | last
  · exact .inl known
  · exact .inr (.inr (.inl last))

theorem advance_inside (h : (s.q n).head % 16 < 15) : s.advance n = s.setQ n ((s.q n).dequeued 1) := if_pos h

/-- Cells of the head page leave in order, and nothing but the queue's record changes. -/
theorem unlink_inside {k : Nat} (hin : (s.q n).inHeadPage k) (hk : k ≤ (s.q n).cells) :
    (s.unlink n k).2 = (List.range k).map ((s.q n).head + ·) ∧
      (s.unlink n k).1.q n = (s.q n).dequeued k ∧ (s.unlink n k).1.que.deqs = s.que.deqs ∧
      (s.unlink n k).1.req = s.req := by
  induction k generalizing s with
  | zero => exact ⟨rfl, rfl, rfl, rfl⟩
  | succ k ih =>
    obtain ⟨page, found, link⟩ := hin
    have record : (s.advance n).q n = (s.q n).dequeued 1 := by
      rw [advance_inside (by omega), q_setQ_same]
    have step : s.unlink n (k + 1) =
        (((s.advance n).unlink n k).1, (s.q n).head :: ((s.advance n).unlink n k).2) := by
      rw [State.unlink, linkRead_needless link]
      exact if_neg (by omega)
    have inside : ((s.advance n).q n).inHeadPage k := by
      rw [record]
      refine ⟨?_, found, link.imp_right fun last => ?_⟩
      · show ((s.q n).head + 1) % 16 + k < 16
        omega
      · show ((s.q n).head + 1) / 16 = (s.q n).tail / 16
        omega
    obtain ⟨cells, after, deqs, req⟩ := ih inside (by rw [record]; show k ≤ (s.q n).cells - 1; omega)
    rw [step]
    refine ⟨?_, after.trans ?_, deqs.trans ?_, req.trans ?_⟩
    · rw [cells, record, List.range_succ_eq_map, List.map_cons, List.map_map]
      refine congrArg (List.cons _) (List.map_congr_left fun i _ => ?_)
      show (s.q n).head + 1 + i = (s.q n).head + (i + 1)
      omega
    · rw [record]
      simp only [QRec.dequeued, Nat.sub_sub, Nat.add_assoc, Nat.add_comm 1]
    · rw [advance_inside (by omega)]
      rfl
    · rw [advance_inside (by omega)]
      rfl

theorem req_setTxn_congr (h : v.req = u.req) : (v.setTxn t).req = (u.setTxn t).req := by
  simp only [State.setTxn, h]

theorem candidates_inside {r : QRec} {k : Nat} (h : r.head % 16 + k < 16) :
    candidates r k = (List.range k).map (r.head + ·) := by
  refine List.map_congr_left fun i hi => if_pos ?_
  have := List.mem_range.1 hi
  omega

section
variable (hn : t.head.spec % 65536 = n) (hbank : s.bankFenced (cBank (queueOff n)) = false)
  (hread : s.queueLost n = (u, false))
include hn hbank hread

theorem deq_disabled (h : (u.q n).state = 0) : s.deq t = u.respond t stREJ_REGION := by
  rw [State.deq, atQueue_sound hn _ hbank hread]
  exact if_pos h

theorem deq_flushing (h : (u.q n).state = 3) : s.deq t = u.respond t stDRAINING := by
  rw [State.deq, atQueue_sound hn _ hbank hread]
  exact (if_neg (by omega)).trans (if_pos h)

theorem deq_empty (h : (u.q n).state = 1 ∨ (u.q n).state = 2) (hempty : (u.q n).cells = 0) :
    s.deq t = u.respond t stEMPTY := by
  rw [State.deq, atQueue_sound hn _ hbank hread]
  exact (if_neg (by omega)).trans ((if_neg (by omega)).trans (if_pos hempty))

/-- A DEQ within the head page unlinks its cells and leaves their reads to come. -/
theorem deq_unlinks {k : Nat} (hk : min (t.head.lenArg % 8) (u.q n).cells = k)
    (hstate : (u.q n).state = 1 ∨ (u.q n).state = 2 ∧ k < (u.q n).cells) (hcells : (u.q n).cells ≠ 0)
    (hpkt : bit t.head.spec 16 = false) (hin : (u.q n).inHeadPage k)
    (hfence : ∀ i < k, u.lineFenced (u.cellAddr (u.q n).pool ((u.q n).head + i)) = false) :
    let v := (u.unlink n k).1
    s.deq t = ({ v with que := { v.que with deqs := v.que.deqs ++ [⟨t.id, n, (u.q n).pool,
      (List.range k).map ((u.q n).head + ·), [], 0, k, false, [], false⟩] } } : State).setTxn
        { t with stage := .running, left := 1 } := by
  obtain ⟨page, found, link⟩ := hin
  obtain ⟨cells, after, -, -⟩ := unlink_inside ⟨page, found, link⟩ (hk ▸ Nat.min_le_right _ _)
  have inside : ¬ 16 ≤ (u.q n).head % 16 + k := by omega
  have apart : ((candidates (u.q n) k).any fun x => u.lineFenced (u.cellAddr (u.q n).pool x)) = false := by
    rw [candidates_inside page, List.any_map, List.any_eq_false]
    exact fun i hi => ne_true_of_eq_false (hfence i (List.mem_range.1 hi))
  have stays : ¬ ((u.q n).state = 2 ∧ ((u.unlink n k).1.q n).cells = 0) := by
    rw [after]
    show ¬ ((u.q n).state = 2 ∧ (u.q n).cells - k = 0)
    omega
  have kept : (((u.unlink n k).1.q n).cells + k != (u.q n).cells || ((u.unlink n k).1.q n).state == 0) = false := by
    have cells : (u.q n).cells - k + k = (u.q n).cells := by omega
    have state : ((u.q n).state == 0) = false := beq_false_of_ne (by omega)
    simp only [after, QRec.dequeued, cells, state, bne_self_eq_false, Bool.or_self]
  rw [State.deq, atQueue_sound hn _ hbank hread]
  dsimp only
  rw [if_neg (by omega : ¬ (u.q n).state = 0), if_neg (by omega : ¬ (u.q n).state = 3), if_neg hcells, hk, hpkt]
  simp only [inside, decide_false, Bool.false_and, Bool.false_eq_true, if_false, hcells, found, hk, false_or, apart,
    stays, cells, List.length_map, List.length_range, List.take_nil, kept]

end

/-! QSTAT and QCTL (R435–R438). -/

section
variable (hn : t.head.spec % 65536 = n) (hbank : s.bankFenced (cBank (queueOff n)) = false)
  (hread : s.queueLost n = (u, false))
include hn hbank hread

theorem qstat_answers : s.qstat t = u.respond t stOK (u.q n).result (leBytes 16 ((u.q n).head + (u.q n).tail * 2 ^ 28 +
    (u.q n).bytes * 2 ^ 56 + (u.q n).limit * 2 ^ 92 + (u.q n).pool * 2 ^ 120 + (u.q n).state * 2 ^ 124 +
    b2n (u.q n).prot * 2 ^ 126)) := by
  rw [State.qstat, atQueue_sound hn _ hbank hread]

section
variable {f : State → Nat → QRec → State × Nat} {st : Nat}

theorem qctl_done (h : f u n (u.q n) = (v, stOK)) : s.qctl t f = v.respond t stOK (v.q n).state := by
  rw [State.qctl, atQueue_sound hn _ hbank hread, h]
  dsimp only
  rw [if_neg (by decide), if_pos rfl]

theorem qctl_full (h : f u n (u.q n) = (v, stFULL)) :
    s.qctl t f = (v.count Fd.QUE_FULL_CNT_COUNT Fd.QUE_FULL_CNT_OVF 1).respond t stFULL := by
  rw [State.qctl, atQueue_sound hn _ hbank hread, h]
  dsimp only
  rw [if_pos rfl, if_neg (by decide)]

theorem qctl_refused (h : f u n (u.q n) = (u, st)) (hfull : st ≠ stFULL) (hok : st ≠ stOK) :
    s.qctl t f = u.respond t st := by
  rw [State.qctl, atQueue_sound hn _ hbank hread, h]
  dsimp only
  rw [if_neg hfull, if_neg hok]

end

theorem qEnable_closing (h : 2 ≤ (u.q n).state) : s.qEnable t = u.respond t stDRAINING :=
  qctl_refused hn hbank hread (if_pos h) (by decide) (by decide)

theorem qEnable_enabled (h : (u.q n).state = 1) : s.qEnable t =
    (u.setQ n { u.q n with limit := bits t.head.addr 31 4, prot := bit t.head.addr 32 }).respond t stOK 1 := by
  rw [State.qEnable, qctl_done hn hbank hread ((if_neg (by omega)).trans (if_pos h)), q_setQ_same]
  exact congrArg (State.respond _ t stOK ·) h

section
variable (hoff : (u.q n).state = 0)
include hoff

theorem qEnable_full (h : u.canAlloc (t.head.addr % 16) = false) :
    s.qEnable t = (u.count Fd.QUE_FULL_CNT_COUNT Fd.QUE_FULL_CNT_OVF 1).respond t stFULL :=
  qctl_full hn hbank hread ((if_neg (by omega)).trans ((if_neg (by omega)).trans (if_pos (congrArg not h :))))

/-- A queue enabled takes its first page, where its head and tail stand. -/
theorem qEnable_takes {g : Nat} (hroom : u.canAlloc (t.head.addr % 16) = true)
    (hpage : u.allocPage (t.head.addr % 16) = (v, some g)) : s.qEnable t = (v.setQ n {
      state := 1
      pool := t.head.addr % 16
      head := 16 * g
      tail := 16 * g
      limit := bits t.head.addr 31 4
      prot := bit t.head.addr 32 }).respond t stOK 1 := by
  rw [State.qEnable, qctl_done hn hbank hread ((if_neg (by omega)).trans ((if_neg (by omega)).trans
    ((if_neg (ne_true_of_eq_false (congrArg not hroom :))).trans (by rw [hpage])))), q_setQ_same]

theorem qDisable_disabled : s.qDisable t = u.respond t stREJ_REGION :=
  qctl_refused hn hbank hread ((if_neg (by omega)).trans (if_pos hoff)) (by decide) (by decide)

theorem qSetLimit_disabled : s.qSetLimit t = u.respond t stREJ_REGION :=
  qctl_refused hn hbank hread (if_pos hoff) (by decide) (by decide)

theorem qSetProt_disabled : s.qSetProt t = u.respond t stREJ_REGION :=
  qctl_refused hn hbank hread (if_pos hoff) (by decide) (by decide)

end

section
variable (hon : (u.q n).state = 1)
include hon

theorem qDisable_empty (hempty : (u.q n).cells = 0) : s.qDisable t = (u.disabled n false).respond t stOK 0 := by
  rw [State.qDisable, qctl_done hn hbank hread ((if_neg (by omega)).trans ((if_neg (by omega)).trans (if_pos hempty))),
    q_disabled]

theorem qDisable_drains (hcells : (u.q n).cells ≠ 0) (hroom : u.que.drains.length < 64) :
    ∃ code, s.qDisable t = ((u.setQ n { u.q n with state := 2 }).drainEnt n code).respond t stOK 2 := by
  refine ⟨if t.head.lenArg % 32 = 31 then u.rd Fd.QUE_CTL_DRAIN_TO else t.head.lenArg % 32, ?_⟩
  rw [State.qDisable, qctl_done hn hbank hread ((if_neg (by omega)).trans ((if_neg (by omega)).trans
    ((if_neg hcells).trans (if_neg (by omega))))), q_drainEnt, q_setQ_same]

end

theorem qFlush_flushes (h : (u.q n).state = 1 ∧ u.que.drains.length < 64 ∨ (u.q n).state = 2) :
    s.qFlush t = ((u.drainEnt n 0).flushing n).respond t stOK (((u.drainEnt n 0).flushing n).q n).state :=
  qctl_done hn hbank hread ((if_neg (by omega)).trans ((if_neg (by omega)).trans (if_neg (by omega))))

theorem qSetLimit_sets (h : (u.q n).state ≠ 0) : s.qSetLimit t =
    (u.setQ n { u.q n with limit := bits t.head.addr 31 4 }).respond t stOK (u.q n).state := by
  rw [State.qSetLimit, qctl_done hn hbank hread (if_neg h), q_setQ_same]

theorem qSetProt_sets (h : (u.q n).state ≠ 0) : s.qSetProt t =
    (u.setQ n { u.q n with prot := bit t.head.addr 32 }).respond t stOK (u.q n).state := by
  rw [State.qSetProt, qctl_done hn hbank hread (if_neg h), q_setQ_same]

end

end Sys2Proof.Machine

section
open Sys2Proof Sys2Proof.Machine

/-- Settles O41, by the cases of each opcode at its queue: a DEQ within the head page by induction on the cells it
unlinks, QCTL by its operation. -/
theorem queueRequests : Obligations.QueueRequests := by
  intro s u t hstay n c r sub
  refine ⟨fun hop hbank => ?fenced, fun hop hbank hread => ?lost, fun hbank hread => ⟨fun hop => ?enq, fun hop => ?deq,
    fun hop => ?qstat, fun hop => ?qctl⟩⟩
  case fenced =>
    obtain ⟨f, at'⟩ := dispatch_atQueue hstay hop
    rw [at', atQueue_fenced rfl _ hbank]
  case lost =>
    obtain ⟨f, at'⟩ := dispatch_atQueue hstay hop
    rw [at', atQueue_lost rfl _ hbank hread]
  case enq =>
    rw [dispatch_enq hstay hop]
    exact ⟨enq_disabled rfl hbank hread, enq_draining rfl hbank hread,
      fun hon hlen hmark => enq_badLens rfl hbank hread hon hlen (badMarks_false hmark),
      fun hon hchk hmark => enq_badMarks rfl hbank hread hon (badMarks_true hchk hmark),
      fun hon hlen hmark => ⟨enq_beyondLimit rfl hbank hread hon hlen (badMarks_false hmark),
        enq_stores rfl hbank hread hon hlen (badMarks_false hmark)⟩⟩
  case deq =>
    rw [dispatch_deq hstay hop]
    refine ⟨deq_disabled rfl hbank hread, deq_flushing rfl hbank hread, deq_empty rfl hbank hread,
      fun hstate hcells hpkt page found link hfence => ?_⟩
    have inside : r.inHeadPage (min c r.cells) := ⟨page, found, link⟩
    obtain ⟨-, record, deqs, req⟩ := unlink_inside inside (Nat.min_le_right _ _)
    rw [deq_unlinks rfl hbank hread rfl hstate hcells hpkt inside hfence]
    exact ⟨congrArg (· ++ _) deqs, record, req_setTxn_congr req⟩
  case qstat =>
    rw [dispatch_qstat hstay hop, qstat_answers rfl hbank hread]
  case qctl =>
    refine ⟨fun hsub => ?_, fun hsub => ?_, fun v g hsub => ?_, fun hsub => ?_, fun hsub => ?_, fun hsub => ?_,
      fun hsub => ?_, fun hsub h => ?_, fun hsub => ?_, fun hsub => ?_, fun hlow hhigh hoff => ?_⟩
    · rw [dispatch_enable hstay hop hsub]
      exact qEnable_closing rfl hbank hread
    · rw [dispatch_enable hstay hop hsub]
      exact qEnable_enabled rfl hbank hread
    · rw [dispatch_enable hstay hop hsub]
      exact fun hoff hroom hpage => qEnable_takes rfl hbank hread hoff hroom hpage
    · rw [dispatch_enable hstay hop hsub]
      exact qEnable_full rfl hbank hread
    · rw [dispatch_disable hstay hop hsub]
      exact qDisable_drains rfl hbank hread
    · rw [dispatch_disable hstay hop hsub]
      exact qDisable_empty rfl hbank hread
    · rw [dispatch_disable hstay hop hsub]
      exact qDisable_disabled rfl hbank hread
    · rw [dispatch_flush hstay hop hsub]
      exact ⟨_, rfl, qFlush_flushes rfl hbank hread h⟩
    · rw [dispatch_setLimit hstay hop hsub]
      exact qSetLimit_sets rfl hbank hread
    · rw [dispatch_setProt hstay hop hsub.ge]
      exact qSetProt_sets rfl hbank hread
    · rcases (by omega : sub = 3 ∨ sub = 4) with limit | prot
      · rw [dispatch_setLimit hstay hop limit]
        exact qSetLimit_disabled rfl hbank hread hoff
      · rw [dispatch_setProt hstay hop prot.ge]
        exact qSetProt_disabled rfl hbank hread hoff

end

/-! ### The queue engine's own steps (R426–R429, R434, R437, R438, R444, R454) -/

namespace Sys2Proof.Machine

variable {s u : State} {n p g : Nat}

/-! Cells and links read (R434, R444). -/

theorem exec_cellWordRead {k : Nat} {d : DeqOp} (hs : s.inReset = false)
    (h : s.que.deqs.find? (fun x => x.txn == k) = some d) : exec (.cellWordRead k) s = .next (s.deqCell d) :=
  (act_live s _ hs).trans (congrArg _ (by rw [h]))

theorem deqCell_nil {d : DeqOp} (h : d.cells = []) : s.deqCell d = s.deqDone d := by
  rw [State.deqCell, h]

theorem exec_linkRead (hs : s.inReset = false) (hn : n < 65536) (h : (s.q n).state = 1 ∨ (s.q n).state = 2) :
    exec (.linkRead n) s = .next (s.linkRead n) := by
  refine (act_live s _ hs).trans (congrArg _ ?_)
  rw [Nat.mod_eq_of_lt hn, if_pos h]

section
variable {d : List Byte} (hnext : (s.q n).hnext = none) (hlost : (s.q n).hlost = false)
  (hmore : (s.q n).head / 16 ≠ (s.q n).tail / 16)
  (hfence : s.lineFenced (s.cellAddr (s.q n).pool ((s.q n).head / 16 * 16 + 15)) = false)
include hnext hlost hmore hfence

theorem linkRead_needed : ¬ ((s.q n).hnext.isSome ∨ (s.q n).hlost ∨ (s.q n).head / 16 = (s.q n).tail / 16 ∨
    s.lineFenced (s.cellAddr (s.q n).pool ((s.q n).head / 16 * 16 + 15))) := by
  rw [hnext, hlost, hfence]
  simp [hmore]

theorem linkRead_known (hread : s.memReadReal (s.cellAddr (s.q n).pool ((s.q n).head / 16 * 16 + 15)) 13 = (u, d, false))
    (howner : bits (leNat (d.take 8)) 63 48 = n) :
    s.linkRead n = u.setQ n { u.q n with hnext := some (leNat (d.take 8) % 2 ^ 24) } := by
  rw [State.linkRead]
  dsimp only
  rw [if_neg (linkRead_needed hnext hlost hmore hfence), hread]
  exact (if_neg Bool.false_ne_true).trans (if_neg (not_not_intro howner))

theorem linkRead_lost (hread : s.memReadReal (s.cellAddr (s.q n).pool ((s.q n).head / 16 * 16 + 15)) 13 = (u, d, true)) :
    s.linkRead n = u.setQ n { u.q n with hlost := true } := by
  rw [State.linkRead]
  dsimp only
  rw [if_neg (linkRead_needed hnext hlost hmore hfence), hread]
  exact if_pos rfl

end

/-! Pages returned, and the cache (R426–R428). -/

theorem exec_pageFree_frees (hs : s.inReset = false) (hmem : (p, g) ∈ s.que.freeing)
    (hread : ∀ d ∈ s.que.deqs, d.pool = p → ∀ c ∈ d.cells, c / 16 ≠ g) : exec (.pageFree p g) s =
      .next ({ s with que := { s.que with freeing := s.que.freeing.erase (p, g) } }.freePage p g) := by
  refine (act_live s _ hs).trans (congrArg _ (if_pos ⟨List.contains_iff_mem.2 hmem, ?_⟩))
  simpa using hread

theorem exec_pageFree_waits (hs : s.inReset = false)
    (h : ∃ d ∈ s.que.deqs, d.pool = p ∧ ∃ c ∈ d.cells, c / 16 = g) : exec (.pageFree p g) s = .next s := by
  refine (act_live s _ hs).trans (congrArg _ (if_neg fun ⟨_, hread⟩ => ?_))
  obtain ⟨d, hd, pool, c, hc, page⟩ := h
  simp only [Bool.not_eq_true', List.any_eq_false, Bool.and_eq_true, beq_iff_eq, List.any_eq_true, not_and,
    not_exists] at hread
  exact hread d hd pool c hc page

theorem exec_refill (hs : s.inReset = false) (hp : p < 16) (hvalid : s.on (Fd.QUE_POOL_CFG_VALID p) = true)
    (h : (s.pool p).cache.length < 4096) : exec (.refill p) s = .next (s.refill p) :=
  (act_live s _ hs).trans (congrArg _ (if_pos ⟨hp, hvalid, h⟩))

/-- With no page on the stack the next pages come from BUMP. -/
theorem refill_bump (h : (s.pool p).depth = 0) : s.refill p =
    (List.range (min 1024 (s.poolM p - (s.pool p).bump))).reverse.foldl
      (fun s' i => s'.cachePut p ((s.pool p).bump + i))
      (s.setPool p { s.pool p with bump := (s.pool p).bump + min 1024 (s.poolM p - (s.pool p).bump) }) :=
  if_neg (by omega)

theorem cachePut_places (h : s.bankFenced (cBank (cacheOff p (s.pool p).top)) = false) : s.cachePut p g =
    (s.cWrite (cacheOff p (s.pool p).top) (leBytes 4 g)).setPool p { s.pool p with
      cache := ((s.pool p).top, g) :: (s.pool p).cache, top := (s.pool p).top + 1 } :=
  if_neg (ne_true_of_eq_false h)

theorem exec_spill (hs : s.inReset = false) (hp : p < 16) (hvalid : s.on (Fd.QUE_POOL_CFG_VALID p) = true)
    (h : 28672 < (s.pool p).cache.length) : exec (.spill p) s = .next (s.spill p) :=
  (act_live s _ hs).trans (congrArg _ (if_pos ⟨hp, hvalid, h⟩))

/-! Drains that time out (R437). -/

/-- The queue's entry in the drain table expired. -/
def State.drainExpired (s : State) (n : Nat) : State :=
  { s with que := { s.que with drains := s.que.drains.map fun (d : DrainEnt) =>
    if d.qid = n then { d with timedOut := true } else d } }

theorem exec_drainTimeout_flushes (hs : s.inReset = false) (hn : n < 65536)
    (hdrain : ∃ d ∈ s.que.drains, d.qid = n ∧ d.timedOut = false) (h : (s.q n).state = 2) :
    exec (.queDrainTimeout n) s =
      .next (((s.drainExpired n).flushing n).raise 169 1 (n + (s.q n).pool * 65536)) := by
  refine (act_live s _ hs).trans (congrArg _ ?_)
  rw [Nat.mod_eq_of_lt hn]
  refine if_pos ⟨?_, h⟩
  obtain ⟨d, hd, qid, running⟩ := hdrain
  exact List.any_eq_true.2 ⟨d, hd, by rw [qid, running, beq_self_eq_true]; rfl⟩

theorem exec_drainTimeout_none (hs : s.inReset = false)
    (h : ∀ d ∈ s.que.drains, d.qid = n % 65536 → d.timedOut = true) : exec (.queDrainTimeout n) s = .next s := by
  refine (act_live s _ hs).trans (congrArg _ (if_neg fun ⟨running, _⟩ => ?_))
  obtain ⟨d, hd, own⟩ := List.any_eq_true.1 running
  rw [Bool.and_eq_true, beq_iff_eq] at own
  rw [h d hd own.1] at own
  exact Bool.false_ne_true own.2

/-! The flush walk (R438). -/

theorem exec_walkRead (hs : s.inReset = false) (hn : n < 65536) : exec (.walkRead n) s = .next (s.walk n) := by
  refine (act_live s _ hs).trans (congrArg _ ?_)
  rw [Nat.mod_eq_of_lt hn]

theorem walk_last (h : (s.q n).state = 3) (hlast : (s.q n).head / 16 = (s.q n).tail / 16) :
    s.walk n = s.disabled n true := (if_neg (not_not_intro h)).trans (if_pos hlast)

/-- The head page is freed once the next is known. -/
theorem walk_frees (h : (s.q n).state = 3) (hmore : (s.q n).head / 16 ≠ (s.q n).tail / 16)
    (hlost : (s.q n).hlost = false) (hnext : (s.q n).hnext = some g) : s.walk n =
      (s.releasePage (s.q n).pool ((s.q n).head / 16)).setQ n { s.q n with
        head := 16 * g, hnext := none, cells := (s.q n).cells - (16 - (s.q n).head % 16) } := by
  have known : s.linkRead n = s := if_pos (.inl (by rw [hnext]; rfl))
  rw [State.walk]
  dsimp only
  rw [if_neg (not_not_intro h), if_neg hmore, known, if_neg hmore, if_neg (ne_true_of_eq_false hlost), hnext]

/-! A reclaim (R429). -/

/-- RECLAIM is a GO with OP 1. -/
def State.reclaimGo (s : State) : State := s.wr Fd.QUE_POOL_CMD_OP 1

theorem op_reclaimGo (s : State) : s.reclaimGo.rd Fd.QUE_POOL_CMD_OP = 1 := rd_wr_same s 1 (by decide)

theorem exec_reclaim (hs : s.inReset = false) : exec .reclaim s = .next s.reclaimGo.poolReclaim := act_live s _ hs

section
variable (hp : s.rd Fd.QUE_POOL_CMD_POOL = p)
include hp

theorem poolReclaim_invalid (h : s.on (Fd.QUE_POOL_CFG_VALID p) = false) :
    s.poolReclaim = s.wr Fd.QUE_POOL_CMD_RESULT 3 := by
  rw [State.poolReclaim]
  rw [hp, if_pos (.inr (by rw [h]; rfl))]

variable (hop : s.rd Fd.QUE_POOL_CMD_OP = 1) (hvalid : s.on (Fd.QUE_POOL_CFG_VALID p) = true)
include hop hvalid

theorem poolReclaim_busy (h : s.poolBusy p = true) : s.poolReclaim = s.wr Fd.QUE_POOL_CMD_RESULT 2 := by
  rw [State.poolReclaim]
  rw [hp, if_neg (not_or_intro (not_not_intro hop) (by rw [hvalid]; exact Bool.false_ne_true)), if_pos h]

theorem poolReclaim_frees (h : s.poolBusy p = false) :
    s.poolReclaim = ((s.setPool p {}).poolLow p).wr Fd.QUE_POOL_CMD_RESULT 1 := by
  rw [State.poolReclaim]
  rw [hp, if_neg (not_or_intro (not_not_intro hop) (by rw [hvalid]; exact Bool.false_ne_true)),
    if_neg (ne_true_of_eq_false h), State.reclaim]

end

end Sys2Proof.Machine

section
open Sys2Proof Sys2Proof.Machine

/-- Settles O42, a step of the queue engine at a time, by the branches of the function it runs. -/
theorem queueEngineSteps : Obligations.QueueEngineSteps := by
  intro s hs
  refine ⟨fun k d hd => ⟨exec_cellWordRead hs hd, deqCell_nil⟩, fun n hn hstate => ⟨exec_linkRead hs hn hstate,
    fun hnext hlost hmore hfence u d => ⟨linkRead_known hnext hlost hmore hfence,
      linkRead_lost hnext hlost hmore hfence⟩⟩, fun p g => exec_pageFree_frees hs, fun p g => exec_pageFree_waits hs,
    fun p hp hvalid hlow => ⟨exec_refill hs hp hvalid hlow, refill_bump⟩, fun p g => cachePut_places,
    fun p => exec_spill hs, fun n => exec_drainTimeout_flushes hs, fun n => exec_drainTimeout_none hs,
    fun n hn hstate => ⟨fun hlast => (exec_walkRead hs hn).trans (congrArg _ (walk_last hstate hlast)),
      fun g hmore hlost hnext => (exec_walkRead hs hn).trans (congrArg _ (walk_frees hstate hmore hlost hnext))⟩, ?reclaim⟩
  case reclaim =>
    exact ⟨op_reclaimGo s, fun h => (exec_reclaim hs).trans (congrArg _ (poolReclaim_invalid rfl h)),
      fun hvalid h => (exec_reclaim hs).trans (congrArg _ (poolReclaim_busy rfl (op_reclaimGo s) hvalid h)),
      fun hvalid h => (exec_reclaim hs).trans (congrArg _ (poolReclaim_frees rfl (op_reclaimGo s) hvalid h))⟩

end

/-! ### PROBE, INSERT and DELETE at their table (R461–R472) -/

namespace Sys2Proof.Machine

variable {s u w : State} {t x : Txn} {c : Cands} {k h1 h2 fp : Nat} {excl : Bool}

theorem isTable_cases (h : isTable t.op = true) : t.op = opPROBE ∨ t.op = opINSERT ∨ t.op = opDELETE := by
  simpa only [isTable, Bool.or_eq_true, beq_iff_eq, or_assoc] using h

theorem dispatch_table (h : isTable t.op = true) (hstay : s.goesAway t = false) : s.dispatch t = s.tableExec t := by
  have apart : isLine t.op = false := by
    rcases isTable_cases h with op | op | op
    · rw [op]; rfl
    · rw [op]; rfl
    · rw [op]; rfl
  rw [State.dispatch, if_neg (ne_true_of_eq_false hstay), if_neg (ne_true_of_eq_false apart), if_pos h]

theorem tableExec_probe (h : t.op = opPROBE) : s.tableExec t = s.probe t := if_pos h

theorem tableExec_insert (h : t.op = opINSERT) : s.tableExec t = s.insert t :=
  (if_neg (by rw [h]; decide)).trans (if_pos h)

theorem tableExec_delete (h : t.op = opDELETE) : s.tableExec t = s.delete t :=
  (if_neg (by rw [h]; decide)).trans (if_neg (by rw [h]; decide))

/-- Each opcode makes the head checks of its table; all but PROBE take their locks exclusively. -/
theorem tableExec_tblOp (h : isTable t.op = true) : ∃ f, s.tableExec t = s.tblOp t (t.op != opPROBE) f := by
  rcases isTable_cases h with op | op | op
  · rw [tableExec_probe op, op, State.probe]
    exact ⟨_, rfl⟩
  · rw [tableExec_insert op, op, State.insert]
    exact ⟨_, rfl⟩
  · rw [tableExec_delete op, op, State.delete]
    exact ⟨_, rfl⟩

/-! The head checks (R462, R468, R469, R472). -/

/-- The request as it executes. -/
def Txn.runs (t : Txn) : Txn := { t with stage := .running, left := 1 }

section
variable (hk : (s.desc t.tid).hash (t.payload.take (s.desc t.tid).keylen) = (h1, h2, fp)) (f : State → Txn → State)
include hk

theorem tblOp_invalid (h : (s.desc t.tid).valid = false) : s.tblOp t excl f = s.tblAnswer t.id stREJ_REGION := by
  simp only [State.tblOp, hk, h, Bool.not_false, if_true]

variable (hvalid : (s.desc t.tid).valid = true)
include hvalid

theorem tblOp_unready (h : s.on (Fd.TBL_D_STAT_READY t.tid) = false) :
    s.tblOp t excl f = s.tblAnswer t.id stRETRY := by
  simp only [State.tblOp, hk, hvalid, h, Bool.not_false, Bool.not_true, Bool.false_eq_true, if_true, if_false]

variable (hready : s.on (Fd.TBL_D_STAT_READY t.tid) = true)
include hready

theorem tblOp_fenced (h : s.bucketFenced t.tid h1 = true ∨ s.bucketFenced t.tid h2 = true) :
    s.tblOp t excl f = s.tblAnswer t.id stFENCED := by
  simp only [State.tblOp, hk, hvalid, hready, Bool.not_true, Bool.false_eq_true, if_false, if_pos h]

variable (hf1 : s.bucketFenced t.tid h1 = false) (hf2 : s.bucketFenced t.tid h2 = false)
include hf1 hf2

theorem tblOp_waits (h : s.tblBehind t = true ∨ s.lockFree (t.tid, h1) excl = false ∨ s.lockFree (t.tid, h2) excl = false) :
    s.tblOp t excl f = s.setTxn { t with stage := .heldLock } := by
  simp only [State.tblOp, hk, hvalid, hready, hf1, hf2, Bool.not_true, Bool.false_eq_true, if_false, or_self]
  exact if_pos (h.imp_right fun l => l.imp (congrArg not) (congrArg not))

theorem tblOp_runs (h : ¬ (s.tblBehind t = true ∨ s.lockFree (t.tid, h1) excl = false ∨
    s.lockFree (t.tid, h2) excl = false)) : s.tblOp t excl f = f (s.setTxn t.runs) t.runs := by
  simp only [State.tblOp, hk, hvalid, hready, hf1, hf2, Bool.not_true, Bool.false_eq_true, if_false, or_self]
  exact if_neg fun l => h (l.imp_right fun l => l.imp (by simp) (by simp))

end

/-! PROBE (R463, R471). -/

/-- The result slot of an entry as PROBE answers it. -/
def State.foundBytes (s : State) (tid : Nat) (b : List Byte) (k : Nat) : List Byte :=
  (List.range 16).map fun i =>
    if i < (s.desc tid).reslen then nth 0 ((s.desc tid).wayBytes b k) ((s.desc tid).keylen + i) else 0

section
variable (hrun : ∀ f : State → Txn → State, s.tblOp t false f = f (s.setTxn t.runs) t.runs)
  (hc : ((s.setTxn t.runs).count Fd.TBL_PROBE_CNT_COUNT Fd.TBL_PROBE_CNT_OVF 1).cands t.runs = (w, c))
include hrun hc

theorem probe_first (hw1 : c.w1 = some k) (hw2 : c.w2 = none) : s.probe t =
    (w.count Fd.TBL_HIT_CNT_COUNT Fd.TBL_HIT_CNT_OVF 1).tblAnswer t.id stOK (tblResult k 0 0 c.h1 false)
      ((s.setTxn t.runs).foundBytes t.tid c.b1 k) := by
  rw [State.probe, hrun]
  dsimp only
  rw [hc]
  dsimp only
  rw [hw1, hw2]
  rfl

theorem probe_both {j : Nat} (hw1 : c.w1 = some k) (hw2 : c.w2 = some j) : s.probe t =
    ((w.raise 186 1 (t.tid + c.h1 * 256)).count Fd.TBL_HIT_CNT_COUNT Fd.TBL_HIT_CNT_OVF 1).tblAnswer t.id stOK
      (tblResult k 0 0 c.h1 false) ((s.setTxn t.runs).foundBytes t.tid c.b1 k) := by
  rw [State.probe, hrun]
  dsimp only
  rw [hc]
  dsimp only
  rw [hw1, hw2]
  rfl

theorem probe_second (hw1 : c.w1 = none) (hw2 : c.w2 = some k) : s.probe t =
    (w.count Fd.TBL_HIT_CNT_COUNT Fd.TBL_HIT_CNT_OVF 1).tblAnswer t.id stOK (tblResult k 1 0 c.h2 false)
      ((s.setTxn t.runs).foundBytes t.tid c.b2 k) := by
  rw [State.probe, hrun]
  dsimp only
  rw [hc]
  dsimp only
  rw [hw1, hw2]
  rfl

theorem probe_neither (hw1 : c.w1 = none) (hw2 : c.w2 = none) :
    s.probe t = w.tblAnswer t.id (if c.p1 = true ∨ c.p2 = true then stPOISON else stNOTFOUND) := by
  rw [State.probe, hrun]
  dsimp only
  rw [hc]
  dsimp only
  rw [hw1, hw2]
  rfl

end

/-! DELETE (R467, R471). -/

/-- A DELETE that found its entry. -/
def State.deleteWay (s w : State) (t : Txn) (b : List Byte) (k ch h : Nat) : State :=
  ((w.writeBucketAt t.id (w.bucketAddr t.tid h) ((s.desc t.tid).setWay b k 0 0 [])).addEntry t.tid h (-1)).tblAnswer
    t.id stOK (tblResult k ch 0 h false)

section
variable (hrun : ∀ f : State → Txn → State, s.tblOp t true f = f (s.setTxn t.runs) t.runs)
  (hc : (s.setTxn t.runs).cands t.runs = (w, c))
include hrun hc

theorem delete_first (hw1 : c.w1 = some k) : s.delete t = (s.setTxn t.runs).deleteWay w t c.b1 k 0 c.h1 := by
  rw [State.delete, hrun]
  dsimp only
  rw [hc]
  dsimp only
  rw [hw1]
  rfl

theorem delete_second (hw1 : c.w1 = none) (hw2 : c.w2 = some k) :
    s.delete t = (s.setTxn t.runs).deleteWay w t c.b2 k 1 c.h2 := by
  rw [State.delete, hrun]
  dsimp only
  rw [hc]
  dsimp only
  rw [hw1, hw2]
  rfl

theorem delete_neither (hw1 : c.w1 = none) (hw2 : c.w2 = none) :
    s.delete t = w.tblAnswer t.id (if c.p1 = true ∨ c.p2 = true then stPOISON else stNOTFOUND) := by
  rw [State.delete, hrun]
  dsimp only
  rw [hc]
  dsimp only
  rw [hw1, hw2]
  rfl

end

/-! INSERT (R464–R466, R471). -/

theorem insertPresent_exists {moves ch h : Nat} {b : List Byte} (hkeep : bit t.head.spec 8 = false) :
    s.insertPresent t moves b k ch h = s.tblAnswer t.id stEXISTS (tblResult k ch moves h false) :=
  if_neg (ne_true_of_eq_false hkeep)

theorem insertPresent_replaces {moves ch h : Nat} {b : List Byte} (hreplace : bit t.head.spec 8 = true) :
    s.insertPresent t moves b k ch h = (s.writeBucketAt t.id (s.bucketAddr t.tid h)
      (splice b (16 + (s.desc t.tid).way * k + (s.desc t.tid).keylen) (insertResult (s.desc t.tid) t.payload))).tblAnswer
        t.id stOK (tblResult k ch moves h true) := if_pos hreplace

section
variable {moves : Nat} (full : State → Cands → State) (hc : s.cands t = (w, c))
include hc

theorem insertTry_first (hw1 : c.w1 = some k) : s.insertTry t moves full = w.insertPresent t moves c.b1 k 0 c.h1 := by
  simp only [State.insertTry, hc, hw1]

variable (hw1 : c.w1 = none)
include hw1

theorem insertTry_second (hw2 : c.w2 = some k) : s.insertTry t moves full = w.insertPresent t moves c.b2 k 1 c.h2 := by
  simp only [State.insertTry, hc, hw1, hw2]

variable (hw2 : c.w2 = none)
include hw2

theorem insertTry_poisoned (h : c.p1 = true ∨ c.p2 = true) : s.insertTry t moves full = w.tblAnswer t.id stPOISON := by
  simp only [State.insertTry, hc, hw1, hw2, if_pos h]

variable (hp1 : c.p1 = false) (hp2 : c.p2 = false)
include hp1 hp2

theorem insertTry_places_first (h : freeWay c.b1 = some k) :
    s.insertTry t moves full = w.insertPlace t moves c.b1 k 0 c.h1 c.fp c.key := by
  simp only [State.insertTry, hc, hw1, hw2, hp1, hp2, Bool.false_eq_true, or_self, if_false, h]

theorem insertTry_places_second (h : freeWay c.b1 = none) (h' : freeWay c.b2 = some k) :
    s.insertTry t moves full = w.insertPlace t moves c.b2 k 1 c.h2 c.fp c.key := by
  simp only [State.insertTry, hc, hw1, hw2, hp1, hp2, Bool.false_eq_true, or_self, if_false, h, h']

theorem insertTry_full (h : freeWay c.b1 = none) (h' : freeWay c.b2 = none) : s.insertTry t moves full = full w c := by
  simp only [State.insertTry, hc, hw1, hw2, hp1, hp2, Bool.false_eq_true, or_self, if_false, h, h']

end

/-- What an INSERT does with both its buckets full: it waits for a displacement of its table, or starts one. -/
def State.insertFull (t : Txn) (s : State) (c : Cands) : State :=
  if s.tbl.disp.any fun x => x.tid == t.tid then s.tblWait t else s.displace t c 0 false

theorem insertFull_waits (h : ∃ e ∈ s.tbl.disp, e.tid = t.tid) : s.insertFull t c = s.setTxn { t with stage := .heldLock } := by
  obtain ⟨e, he, own⟩ := h
  exact if_pos (List.any_eq_true.2 ⟨e, he, by rw [own, beq_self_eq_true]⟩)

theorem insertFull_displaces (h : ∀ e ∈ s.tbl.disp, e.tid ≠ t.tid) : s.insertFull t c = s.displace t c 0 false :=
  if_neg (by simpa using h)

theorem insert_runs (hrun : ∀ f : State → Txn → State, s.tblOp t true f = f (s.setTxn t.runs) t.runs) :
    s.insert t = (s.setTxn t.runs).insertTry t.runs 0 (State.insertFull t.runs) := by
  rw [State.insert, hrun]
  rfl

end Sys2Proof.Machine

section
open Sys2Proof Sys2Proof.Machine

/-- Settles O43, by the head checks every table request makes and then by the opcode and the ways its candidate buckets
gave. -/
theorem tableRequests : Obligations.TableRequests := by
  intro s t htable hstay d h f1 f2 excl waits
  have exec : s.dispatch t = s.tableExec t := dispatch_table htable hstay
  obtain ⟨f, checks⟩ := tableExec_tblOp htable
  rw [exec]
  refine ⟨fun hv => ?invalid, fun hv hr => ?unready, fun hv hr hf => ?fenced, fun hv hr hf1 hf2 hw => ?held,
    fun hv hr hf1 hf2 hw => ?runs⟩
  case invalid =>
    rw [checks]
    exact tblOp_invalid rfl f hv
  case unready =>
    rw [checks]
    exact tblOp_unready rfl f hv hr
  case fenced =>
    rw [checks]
    exact tblOp_fenced rfl f hv hr hf
  case held =>
    rw [checks]
    exact tblOp_waits rfl f hv hr hf1 hf2 hw
  case runs =>
    have run (f : State → Txn → State) : s.tblOp t excl f = f (s.setTxn t.runs) t.runs :=
      tblOp_runs rfl f hv hr hf1 hf2 hw
    refine ⟨fun hop w c hc => ?probe, fun hop w c hc => ?insert, fun hop w c hc => ?delete⟩
    case probe =>
      have shared : excl = false := by rw [show excl = (t.op != opPROBE) from rfl, hop]; rfl
      rw [shared] at run
      rw [tableExec_probe hop]
      exact ⟨fun k => probe_first run hc, fun k j => probe_both run hc, fun k => probe_second run hc,
        probe_neither run hc⟩
    case insert =>
      have sole : excl = true := by rw [show excl = (t.op != opPROBE) from rfl, hop]; rfl
      rw [sole] at run
      rw [tableExec_insert hop, insert_runs run]
      refine ⟨fun k h1 hkeep => ?_, fun k h1 h2 hkeep => ?_, fun k h1 hreplace => ?_, fun k h1 h2 hreplace => ?_,
        insertTry_poisoned _ hc, fun h1 h2 hp1 hp2 => ⟨fun k => insertTry_places_first _ hc h1 h2 hp1 hp2,
          fun k => insertTry_places_second _ hc h1 h2 hp1 hp2, fun hb1 hb2 => ?_⟩⟩
      · exact (insertTry_first _ hc h1).trans (insertPresent_exists hkeep)
      · exact (insertTry_second _ hc h1 h2).trans (insertPresent_exists hkeep)
      · exact (insertTry_first _ hc h1).trans (insertPresent_replaces hreplace)
      · exact (insertTry_second _ hc h1 h2).trans (insertPresent_replaces hreplace)
      · have full := insertTry_full (moves := 0) (State.insertFull t.runs) hc h1 h2 hp1 hp2 hb1 hb2
        exact ⟨fun other => full.trans (insertFull_waits other), fun free => full.trans (insertFull_displaces free)⟩
    case delete =>
      have sole : excl = true := by rw [show excl = (t.op != opPROBE) from rfl, hop]; rfl
      rw [sole] at run
      rw [tableExec_delete hop]
      exact ⟨fun k => delete_first run hc, fun k => delete_second run hc, delete_neither run hc⟩

end

/-! ### The table engine's commands and steps (R465, R468, R470, R474–R476, R478, R480) -/

namespace Sys2Proof.Machine

variable {s u v : State} {k e : Nat} {q : Txn} {x : Disp}

/-! DEFINE, RETIRE and MOVE (R474, R475, R480). -/

/-- The descriptor staged for a command. -/
def State.descNew (s : State) : Desc := { s.descStaged with valid := true }

section
variable (h : s.tbl.cmd ≠ none)
include h

theorem tblDefine_busy : s.tblDefine = s.cmdDone (s.rd Fd.TBL_CMD_TID) 1 3 := if_pos (Option.isSome_iff_ne_none.2 h)

theorem tblRetire_busy : s.tblRetire = s.cmdDone (s.rd Fd.TBL_CMD_TID) 2 3 := if_pos (Option.isSome_iff_ne_none.2 h)

theorem tblMove_busy : s.tblMove = s.cmdDone (s.rd Fd.TBL_CMD_TID) 3 3 := if_pos (Option.isSome_iff_ne_none.2 h)

end

theorem cmd_idle (h : s.tbl.cmd = none) : ¬ s.tbl.cmd.isSome = true := by
  rw [h]
  exact Bool.false_ne_true

section
variable (hcmd : s.tbl.cmd = none)
include hcmd

section
variable (h : s.tblMode = false)
include h

theorem tblDefine_mode : s.tblDefine = s.cmdDone (s.rd Fd.TBL_CMD_TID) 1 9 :=
  (if_neg (cmd_idle hcmd)).trans (if_pos (congrArg not h :))

theorem tblRetire_mode : s.tblRetire = s.cmdDone (s.rd Fd.TBL_CMD_TID) 2 9 :=
  (if_neg (cmd_idle hcmd)).trans (if_pos (congrArg not h :))

theorem tblMove_mode : s.tblMove = s.cmdDone (s.rd Fd.TBL_CMD_TID) 3 9 :=
  (if_neg (cmd_idle hcmd)).trans (if_pos (congrArg not h :))

end

variable (hmode : s.tblMode = true)
include hmode

theorem tblDefine_inUse (h : (s.desc (s.rd Fd.TBL_CMD_TID)).valid = true) :
    s.tblDefine = s.cmdDone (s.rd Fd.TBL_CMD_TID) 1 4 :=
  (if_neg (cmd_idle hcmd)).trans ((if_neg (ne_true_of_eq_false (congrArg not hmode :))).trans (if_pos h))

section
variable (hfree : (s.desc (s.rd Fd.TBL_CMD_TID)).valid = false)
include hfree

theorem tblDefine_refused (h : s.descCheck (s.rd Fd.TBL_CMD_TID) s.descNew = some e) :
    s.tblDefine = s.cmdDone (s.rd Fd.TBL_CMD_TID) 1 e := by
  refine (if_neg (cmd_idle hcmd)).trans ((if_neg (ne_true_of_eq_false (congrArg not hmode :))).trans
    ((if_neg (ne_true_of_eq_false hfree)).trans ?_))
  rw [State.descNew] at h
  rw [h]

theorem tblDefine_installs (h : s.descCheck (s.rd Fd.TBL_CMD_TID) s.descNew = none) :
    s.tblDefine = ((s.putDesc (s.rd Fd.TBL_CMD_TID) s.descNew).tblUse (s.rd Fd.TBL_CMD_TID)).cmdDone
      (s.rd Fd.TBL_CMD_TID) 1 1 := by
  refine (if_neg (cmd_idle hcmd)).trans ((if_neg (ne_true_of_eq_false (congrArg not hmode :))).trans
    ((if_neg (ne_true_of_eq_false hfree)).trans ?_))
  rw [State.descNew] at h ⊢
  rw [h]

theorem tblRetire_free : s.tblRetire = s.cmdDone (s.rd Fd.TBL_CMD_TID) 2 4 :=
  (if_neg (cmd_idle hcmd)).trans ((if_neg (ne_true_of_eq_false (congrArg not hmode :))).trans
    (if_pos (congrArg not hfree :)))

theorem tblMove_free : s.tblMove = s.cmdDone (s.rd Fd.TBL_CMD_TID) 3 4 :=
  (if_neg (cmd_idle hcmd)).trans ((if_neg (ne_true_of_eq_false (congrArg not hmode :))).trans
    (if_pos (.inl (congrArg not hfree :))))

end

variable (hvalid : (s.desc (s.rd Fd.TBL_CMD_TID)).valid = true)
include hvalid

/-- A table that is retired is no longer valid or READY, and its RETIRE waits for its operations. -/
theorem tblRetire_retires :
    let t := s.rd Fd.TBL_CMD_TID
    let u := ((s.wr (Fd.TBL_D_CFG_VALID t) 0).wr (Fd.TBL_D_STAT_READY t) 0).wr Fd.TBL_CMD_RESULT 2
    s.tblRetire = ({ u with tbl := { u.tbl with
      cmd := some (2, t, 0, 0, 0), emptying := u.tbl.emptying.filter (· != t) } } : State).retireCheck t :=
  (if_neg (cmd_idle hcmd)).trans ((if_neg (ne_true_of_eq_false (congrArg not hmode :))).trans
    (if_neg (ne_true_of_eq_false (congrArg not hvalid :))))

section
variable (hsame : { s.descNew with rgn := (s.desc (s.rd Fd.TBL_CMD_TID)).rgn, off := (s.desc (s.rd Fd.TBL_CMD_TID)).off } =
  s.desc (s.rd Fd.TBL_CMD_TID))
include hsame

theorem tblMove_refused (h : s.descCheck (s.rd Fd.TBL_CMD_TID) s.descNew = some e) :
    s.tblMove = s.cmdDone (s.rd Fd.TBL_CMD_TID) 3 e := by
  refine (if_neg (cmd_idle hcmd)).trans ((if_neg (ne_true_of_eq_false (congrArg not hmode :))).trans
    ((if_neg (not_or_intro (ne_true_of_eq_false (congrArg not hvalid :)) (not_not_intro hsame))).trans ?_))
  rw [State.descNew] at h
  rw [h]

theorem tblMove_starts (h : s.descCheck (s.rd Fd.TBL_CMD_TID) s.descNew = none) :
    s.tblMove = (({ s with tbl := { s.tbl with
      cmd := some (3, s.rd Fd.TBL_CMD_TID, 0, s.descNew.rgn, s.descNew.off) } } : State).wr
        (Fd.TBL_D_STAT_MOVING (s.rd Fd.TBL_CMD_TID)) 1).wr Fd.TBL_CMD_RESULT 2 := by
  refine (if_neg (cmd_idle hcmd)).trans ((if_neg (ne_true_of_eq_false (congrArg not hmode :))).trans
    ((if_neg (not_or_intro (ne_true_of_eq_false (congrArg not hvalid :)) (not_not_intro hsame))).trans ?_))
  rw [State.descNew] at h ⊢
  rw [h]

end

end

/-! The copy of a moving table's buckets (R475). -/

/-- The copy's next bucket can be taken: its lock is free, and neither it nor its new place is fenced. -/
def State.copyFree (s : State) (m cp dst : Nat) : Prop :=
  s.lockFree (m, cp) true = true ∧ s.bucketFenced m cp = false ∧
    ∀ i, i < (s.desc m).bytes / 64 → s.lineFenced (dst + 64 * i) = false

theorem copyFree_goes {m cp dst : Nat} (h : s.copyFree m cp dst) : ¬ (!s.lockFree (m, cp) true ∨ s.bucketFenced m cp ∨
    (List.range ((s.desc m).bytes / 64)).any fun i => s.lineFenced (dst + 64 * i)) := by
  obtain ⟨lock, fence, apart⟩ := h
  simpa [lock, fence] using apart

/-- A bucket of a moving table as its lines are read for the copy. -/
def State.copyRead (s : State) (m cp : Nat) : State × List Byte × Bool :=
  (List.range ((s.desc m).bytes / 64)).foldl (fun (x : State × List Byte × Bool) i =>
    let r := x.1.memReadReal (s.bucketAddr m cp + 64 * i) 14
    (r.1, x.2.1 ++ r.2.1, x.2.2 || r.2.2)) (s, [], false)

/-- What was read of a bucket written to its new place, a poisoned one reported first. -/
def State.copyWritten (s : State) (m cp dst : Nat) (x : State × List Byte × Bool) : State :=
  (List.range ((s.desc m).bytes / 64)).foldl (fun (v : State) i =>
    v.engineWrite 0 (dst + 64 * i) 14 ((x.2.1.drop (64 * i)).take 64) x.2.2)
      (if x.2.2 then x.1.bucketPoison m cp else x.1)

section
variable {m cp r o : Nat} (hcmd : s.tbl.cmd = some (3, m, cp, r, o))
include hcmd

theorem bucketCopy_eq : s.bucketCopy =
    let dst := (s.rgn r).start + 256 * o + (s.desc m).bytes * cp
    let v := s.copyWritten m cp dst (s.copyRead m cp)
    if !s.lockFree (m, cp) true ∨ s.bucketFenced m cp ∨
        (List.range ((s.desc m).bytes / 64)).any (fun i => s.lineFenced (dst + 64 * i)) then s
    else if cp + 1 < (s.desc m).nb then { v with tbl := { v.tbl with cmd := some (3, m, cp + 1, r, o) } }
    else
      let w := (v.putDesc m { s.desc m with rgn := r, off := o }).wr (Fd.TBL_D_STAT_MOVING m) 0
      ({ w with tbl := { w.tbl with cmd := none } } : State).cmdDone m 3 1 := by
  rw [State.bucketCopy, hcmd]
  rfl

theorem bucketCopy_waits (h : ¬ s.copyFree m cp ((s.rgn r).start + 256 * o + (s.desc m).bytes * cp)) :
    s.bucketCopy = s := by
  rw [bucketCopy_eq hcmd]
  refine if_pos (not_not.1 fun free => h ?_)
  simpa [State.copyFree, not_or] using free

variable (hfree : s.copyFree m cp ((s.rgn r).start + 256 * o + (s.desc m).bytes * cp))
include hfree

theorem bucketCopy_next (h : cp + 1 < (s.desc m).nb) :
    let v := s.copyWritten m cp ((s.rgn r).start + 256 * o + (s.desc m).bytes * cp) (s.copyRead m cp)
    s.bucketCopy = { v with tbl := { v.tbl with cmd := some (3, m, cp + 1, r, o) } } := by
  rw [bucketCopy_eq hcmd]
  exact (if_neg (copyFree_goes hfree)).trans (if_pos h)

/-- After the last bucket the descriptor takes the new place. -/
theorem bucketCopy_last (h : (s.desc m).nb ≤ cp + 1) :
    let v := s.copyWritten m cp ((s.rgn r).start + 256 * o + (s.desc m).bytes * cp) (s.copyRead m cp)
    let w := (v.putDesc m { s.desc m with rgn := r, off := o }).wr (Fd.TBL_D_STAT_MOVING m) 0
    s.bucketCopy = ({ w with tbl := { w.tbl with cmd := none } } : State).cmdDone m 3 1 := by
  rw [bucketCopy_eq hcmd]
  exact (if_neg (copyFree_goes hfree)).trans (if_neg (Nat.not_lt.2 h))

end

/-! Emptying (R476). -/

theorem tblEmpty_empties (h : k ∈ s.tbl.emptying) :
    let d := s.desc k
    let v := (List.range (d.nb * d.bytes / 64)).foldl (fun (v : State) i =>
      v.engineWrite 0 (v.tblBase d + 64 * i) 14 (List.replicate 64 0) false) s
    s.tblEmpty k = ({ v with tbl := { v.tbl with emptying := v.tbl.emptying.filter (· != k) } } : State).wr
      (Fd.TBL_D_STAT_READY k) 1 := if_pos h

theorem tblEmpty_none (h : k ∉ s.tbl.emptying) : s.tblEmpty k = s := if_neg h

/-! A displacement's moves (R465). -/

/-- A count leaves a table's place as it is: a region's registers stand apart from it. -/
theorem pinned_count_moves (d : Desc) (n : Nat) :
    (s.count Fd.TBL_MOVE_CNT_COUNT Fd.TBL_MOVE_CNT_OVF n).pinned d = s.pinned d := by
  have apart : Ra.RGN_B d.rgn ≠ Ra.TBL_MOVE_CNT := by
    simp only [Ra.RGN_B, Ra.TBL_MOVE_CNT]
    omega
  have win : (s.count Fd.TBL_MOVE_CNT_COUNT Fd.TBL_MOVE_CNT_OVF n).rd (Fd.RGN_B_WIN d.rgn) = s.rd (Fd.RGN_B_WIN d.rgn) :=
    congrArg (fun w : Word => bits w.toNat _ _) (reg_count_other s n apart apart)
  exact congrArg (fun w => d.valid && w == 1) win

section
variable (hx : s.tbl.disp.find? (fun e => e.txn == k) = some x) (hq : s.txn k = some q)
include hx hq

section
variable {b w b2 w2 : Nat} {e : List Byte} {rest : List (Nat × Nat × Nat × Nat × List Byte)}
  (hmoves : x.moves = (b, w, b2, w2, e) :: rest)
include hmoves

theorem displacementMove_locked (h : s.lockFree (x.tid, b) true = false ∨ s.lockFree (x.tid, b2) true = false) :
    s.displacementMove k = s := by
  simp only [State.displacementMove, hx, hq, hmoves]
  exact if_pos (h.imp (congrArg not) (congrArg not))

variable (hl1 : s.lockFree (x.tid, b) true = true) (hl2 : s.lockFree (x.tid, b2) true = true)
include hl1 hl2

theorem displacementMove_fenced (h : s.bucketFenced x.tid b = true ∨ s.bucketFenced x.tid b2 = true) :
    s.displacementMove k = s.displaceFail q x := by
  simp only [State.displacementMove, hx, hq, hmoves, hl1, hl2, Bool.not_true, Bool.false_eq_true, or_self, if_false]
  exact if_pos h

variable (hf1 : s.bucketFenced x.tid b = false) (hf2 : s.bucketFenced x.tid b2 = false) {src dst : List Byte}
  (hr1 : s.readBucket x.tid b = (u, src, false)) (hr2 : u.readBucket x.tid b2 = (v, dst, false))
include hf1 hf2 hr1 hr2

theorem displacementMove_changed (h : (s.desc x.tid).entry src w ≠ e ∨ wayValid dst w2 = true) :
    s.displacementMove k = v.displaceFail q x := by
  simp only [State.displacementMove, hx, hq, hmoves, hl1, hl2, hf1, hf2, hr1, hr2, Bool.not_true, Bool.false_eq_true,
    or_self, if_false, false_or]
  exact if_pos h

/-- The entry goes to its free way, and the way it leaves is emptied. -/
theorem displacementMove_moves (hsame : (s.desc x.tid).entry src w = e) (hfree : wayValid dst w2 = false) :
    let y := v.writeBucketAt k (v.bucketAddr x.tid b2)
      ((s.desc x.tid).setWay dst w2 (nth 0 e 0).toNat (nth 0 e 1).toNat (e.drop 2))
    let z := (y.writeBucketAt k (y.bucketAddr x.tid b) ((s.desc x.tid).setWay src w 0 0 [])).count
      Fd.TBL_MOVE_CNT_COUNT Fd.TBL_MOVE_CNT_OVF 1
    let o := z.charge q.label (2 * (s.desc x.tid).bytes) (z.pinned (s.desc x.tid))
    s.displacementMove k = { o with tbl := { o.tbl with disp := o.tbl.disp.map fun f =>
      if f.txn = k then { x with moves := rest, made := x.made + 1 } else f } } := by
  dsimp only
  rw [pinned_count_moves]
  simp only [State.displacementMove, hx, hq, hmoves, hl1, hl2, hf1, hf2, hr1, hr2, Bool.not_true, Bool.false_eq_true,
    or_self, if_false, hsame, hfree, ne_eq, not_true_eq_false]

end

section
variable (hmoves : x.moves = []) {h1 h2 fp : Nat}
  (hk : (s.desc x.tid).hash (q.payload.take (s.desc x.tid).keylen) = (h1, h2, fp))
include hmoves hk

theorem displacementMove_end_fenced (h : s.bucketFenced x.tid h1 = true ∨ s.bucketFenced x.tid h2 = true) :
    s.displacementMove k = s.tblAnswer k stFENCED := by
  simp only [State.displacementMove, hx, hq, hmoves, hk]
  exact if_pos h

/-- With every move made the insert is tried again. -/
theorem displacementMove_end_tries (hf1 : s.bucketFenced x.tid h1 = false) (hf2 : s.bucketFenced x.tid h2 = false)
    (hl1 : s.lockFree (x.tid, h1) true = true) (hl2 : s.lockFree (x.tid, h2) true = true) :
    s.displacementMove k = s.insertTry q x.made fun s _ => s.displaceFail q x := by
  simp only [State.displacementMove, hx, hq, hmoves, hk, hf1, hf2, hl1, hl2, Bool.not_true, Bool.false_eq_true, or_self,
    if_false]

end

end

/-! A lock granted, and a stall (R468, R470, R478). -/

section
variable (hq : s.txn k = some q)
include hq

theorem exec_lockGrant_table (hs : s.inReset = false) (h : q.stage = .heldLock) :
    exec (.lockGrant k) s = .next (s.tableExec q) := by
  refine (act_live s _ hs).trans (congrArg _ ?_)
  rw [hq]
  exact if_pos h

theorem exec_lockGrant_lines (hs : s.inReset = false) (h : q.stage ≠ .heldLock) :
    exec (.lockGrant k) s = .next (s.grantLines k) := by
  refine (act_live s _ hs).trans (congrArg _ ?_)
  rw [hq]
  exact if_neg h

theorem lockStall_table (htable : isTable q.op = true) (h : q.stage = .heldLock) : s.lockStall k =
    s.raise 190 1 (q.tid + ((s.desc q.tid).hash (q.payload.take (s.desc q.tid).keylen)).1 * 256) := by
  rw [State.lockStall, hq]
  exact if_pos ⟨htable, .inl h⟩

end

end Sys2Proof.Machine

section
open Sys2Proof Sys2Proof.Machine

/-- Settles O45, command by command: the three table commands by the checks in their order, the copy, the emptying and
the moves of a displacement by the branches of one step. -/
theorem tableCommands : Obligations.TableCommands := by
  intro s hs t d
  have live {v w : State} (h : v = w) : s.act v = .next w := (act_live s v hs).trans (congrArg _ h)
  refine ⟨fun v op r => rfl, fun h => ?busy, fun hcmd h => ?mode, fun hcmd hmode => ?checks, fun m cp r o hcmd => ?copy,
    fun k h => live (tblEmpty_empties h), fun k h => live (tblEmpty_none h), fun k x q hx hq => ?moves,
    fun k q hq => ⟨exec_lockGrant_table hq hs, exec_lockGrant_lines hq hs,
      fun htable h => live (lockStall_table hq htable h)⟩⟩
  case busy => exact ⟨live (tblDefine_busy h), live (tblRetire_busy h), live (tblMove_busy h)⟩
  case mode => exact ⟨live (tblDefine_mode hcmd h), live (tblRetire_mode hcmd h), live (tblMove_mode hcmd h)⟩
  case checks =>
    exact ⟨fun h => live (tblDefine_inUse hcmd hmode h),
      fun hfree => ⟨fun e h => live (tblDefine_refused hcmd hmode hfree h),
        fun h => live (tblDefine_installs hcmd hmode hfree h), live (tblRetire_free hcmd hmode hfree),
        live (tblMove_free hcmd hmode hfree)⟩,
      fun hvalid => live (tblRetire_retires hcmd hmode hvalid),
      fun hvalid hsame => ⟨fun e h => live (tblMove_refused hcmd hmode hvalid hsame h),
        fun h => live (tblMove_starts hcmd hmode hvalid hsame h)⟩⟩
  case copy =>
    refine ⟨fun h => live (bucketCopy_waits hcmd h), fun hfree x hx => ?_⟩
    subst hx
    exact ⟨fun h => live (bucketCopy_next hcmd hfree h), fun h => live (bucketCopy_last hcmd hfree h)⟩
  case moves =>
    refine ⟨act_live s _ hs, fun b w b2 w2 e rest hmoves => ⟨fun h => live (displacementMove_locked hx hq hmoves h),
        fun hl1 hl2 h => live (displacementMove_fenced hx hq hmoves hl1 hl2 h)⟩,
      fun b w b2 w2 e rest hmoves hl1 hl2 hf1 hf2 u src v dst hr1 hr2 =>
        ⟨fun h => live (displacementMove_changed hx hq hmoves hl1 hl2 hf1 hf2 hr1 hr2 h),
          fun hsame hfree => live (displacementMove_moves hx hq hmoves hl1 hl2 hf1 hf2 hr1 hr2 hsame hfree)⟩,
      fun hmoves => ⟨fun h => live (displacementMove_end_fenced hx hq hmoves rfl h),
        fun hf1 hf2 hl1 hl2 => live (displacementMove_end_tries hx hq hmoves rfl hf1 hf2 hl1 hl2)⟩⟩

end

/-! ### The counter engine's requests (R488–R502) -/

namespace Sys2Proof.Machine

variable {s : State} {t : Txn} {n i : Nat}

/-! The four opcodes (R270 step 9, R493). -/

theorem isCounter_cases (h : isCounter t.op = true) :
    t.op = opCUPD ∨ t.op = opCREAD ∨ t.op = opCCLR ∨ t.op = opCREBUILD := by
  simpa only [isCounter, Bool.or_eq_true, beq_iff_eq, or_assoc] using h

theorem dispatch_counter (h : isCounter t.op = true) (hstay : s.goesAway t = false) :
    s.dispatch t = s.counterExec t := by
  rw [State.dispatch, if_neg (ne_true_of_eq_false hstay)]
  rcases isCounter_cases h with op | op | op | op
  · rw [op]; rfl
  · rw [op]; rfl
  · rw [op]; rfl
  · rw [op]; rfl

theorem counterExec_cupd (h : t.op = opCUPD) : s.counterExec t = s.cupd t := if_pos h

theorem counterExec_cread (h : t.op = opCREAD) : s.counterExec t = s.cread t :=
  (if_neg (by rw [h]; decide)).trans (if_pos h)

theorem counterExec_cclr (h : t.op = opCCLR) : s.counterExec t = s.cclr t :=
  (if_neg (by rw [h]; decide)).trans ((if_neg (by rw [h]; decide)).trans (if_pos h))

theorem counterExec_crebuild (h : t.op = opCREBUILD) : s.counterExec t = s.crebuild t :=
  (if_neg (by rw [h]; decide)).trans ((if_neg (by rw [h]; decide)).trans (if_neg (by rw [h]; decide)))

/-! A counter beyond its set, and a fenced one (R493, R502). -/

section
variable (h : (s.cset t.csid).nctr ≤ t.ctr)
include h

theorem cupd_beyond : s.cupd t = s.respond t stNOTFOUND := if_pos h

theorem cread_beyond : s.cread t = s.respond t stNOTFOUND := if_pos h

theorem cclr_beyond : s.cclr t = s.respond t stNOTFOUND := if_pos h

theorem crebuild_beyond : s.crebuild t = s.respond t stNOTFOUND := if_pos h

end

section
variable (hin : t.ctr < (s.cset t.csid).nctr)
include hin

section
variable (h : s.ctrFenced t.csid t.ctr = true)
include h

theorem cupd_fenced : s.cupd t = s.respond t stFENCED := (if_neg (Nat.not_le.2 hin)).trans (if_pos (.inl h))

theorem cread_fenced : s.cread t = s.respond t stFENCED := (if_neg (Nat.not_le.2 hin)).trans (if_pos (.inl h))

theorem cclr_fenced : s.cclr t = s.respond t stFENCED := (if_neg (Nat.not_le.2 hin)).trans (if_pos (.inl h))

theorem crebuild_fenced (hnone : s.cnt.rebuild = none) : s.crebuild t = s.respond t stFENCED :=
  (if_neg (Nat.not_le.2 hin)).trans ((if_neg (by rw [hnone]; exact Bool.false_ne_true)).trans (if_pos h))

end

/-! CREBUILD (R498, R499). -/

theorem crebuild_busy (h : s.cnt.rebuild ≠ none) : s.crebuild t = s.respond t stRETRY :=
  (if_neg (Nat.not_le.2 hin)).trans (if_pos (Option.isSome_iff_ne_none.2 h))

variable (hfree : s.ctrFenced t.csid t.ctr = false)
include hfree

theorem crebuild_starts (hnone : s.cnt.rebuild = none) :
    let u := (s.wr Fd.CNT_STAT_REBUILD 1).wr Fd.CNT_STAT_REBUILD_SET t.csid
    s.crebuild t = ({ u with cnt := { u.cnt with rebuild := some ⟨t.id, t.csid, t.ctr⟩ } } : State).setTxn
      { t with stage := .running, left := 1 } :=
  (if_neg (Nat.not_le.2 hin)).trans ((if_neg (by rw [hnone]; exact Bool.false_ne_true)).trans
    (if_neg (ne_true_of_eq_false hfree)))

/-! CUPD, CREAD and CCLR of the counter alone (R494, R496, R497). -/

theorem cupd_alone (h : bit t.head.spec 6 = true) : s.cupd t =
    s.cEnd t ((⟨s, none⟩ : CRun).update t.csid t.ctr (bits t.head.spec 15 8) t.head.lenArg) stOK := by
  simp only [State.cupd, Nat.not_le.2 hin, hfree, h, if_false, if_true, Bool.not_true, Bool.false_eq_true, false_and,
    or_self, named, List.filterMap_nil, List.any_nil, List.filter_nil, List.foldl_cons, List.foldl_nil]

section
variable (h : bit t.head.spec 6 = false) {y : CRun} {r : CRec}
  (hread : (⟨s, none⟩ : CRun).flushRead t.csid t.ctr = (y, r))
include h hread

theorem cread_alone (hgood : y.bad = none) : s.cread t =
    y.s.respond t stOK (b2n r.lost + r.epoch * 2 ^ 32) (leBytes 8 r.pkts ++ leBytes 8 r.bytes) := by
  simp only [State.cread, Nat.not_le.2 hin, hfree, h, if_false, Bool.false_eq_true, false_and,
    or_self, named, List.filterMap_nil, List.any_nil, CRun.flushReads, hread]
  rw [State.cEnd, hgood]
  simp [nth, List.range_succ]

/-- The counter as CCLR leaves it. -/
def CRun.cleared (y : CRun) (n i : Nat) : CRun :=
  ((y.setCtr n i ⟨0, 0, false, 0⟩).upd fun s => s.dropAnc n i).upd fun s => s.forwardSet n i ⟨0, 0, false, 0⟩

theorem cclr_alone : s.cclr t =
    s.cEnd t (y.cleared t.csid t.ctr) stOK (r.pkts % 2 ^ 32 + r.bytes % 2 ^ 32 * 2 ^ 32) := by
  simp only [State.cclr, Nat.not_le.2 hin, hfree, h, if_false, Bool.false_eq_true, false_and,
    or_self, named, List.filterMap_nil, List.any_nil, List.filter_nil, List.foldl_nil, hread, CRun.cleared]

end

end

/-! One counter updated (R488, R490, R495, R502). -/

section
variable {w y : CRun} {p b dp db : Nat}

/-- An update counted. -/
def CRun.updCounted (w : CRun) : CRun := w.counted Fd.CNT_UPD_CNT_COUNT Fd.CNT_UPD_CNT_OVF

theorem update_cold (h : (w.s.cset n).hot = false) :
    w.update n i p b = (w.updCounted.addRec n i p b).upd fun s => s.forwardDelta n i p b := if_pos (congrArg not h :)

section
variable (hhot : (w.s.cset n).hot = true)
  (hread : w.updCounted.readSlot ((w.s.cset n).slot i) = (y, .held ((w.s.cset n).tag i) dp db))
include hhot hread

theorem update_hot : w.update n i p b =
    if 0x8000 ≤ dp + p ∨ 0x80000000 ≤ db + b then
      (y.flushDelta n i (dp + p) (db + b)).writeSlot ((w.s.cset n).slot i) ((w.s.cset n).tag i) 0 0 true
    else y.writeSlot ((w.s.cset n).slot i) ((w.s.cset n).tag i) (dp + p) (db + b) true := by
  rw [CRun.updCounted] at hread
  simp only [CRun.update, hhot, hread, Bool.not_true, Bool.false_eq_true, if_false, if_true]

theorem update_adds (hp : dp + p < 0x8000) (hb : db + b < 0x80000000) :
    w.update n i p b = y.writeSlot ((w.s.cset n).slot i) ((w.s.cset n).tag i) (dp + p) (db + b) true := by
  rw [update_hot hhot hread, if_neg (by omega)]

theorem update_overflows (h : 0x8000 ≤ dp + p ∨ 0x80000000 ≤ db + b) : w.update n i p b =
    (y.flushDelta n i (dp + p) (db + b)).writeSlot ((w.s.cset n).slot i) ((w.s.cset n).tag i) 0 0 true := by
  rw [update_hot hhot hread, if_pos h]

end

/-- A delta that leaves its slot is counted, charged and forwarded before it reaches the record. -/
def CRun.leaving (w : CRun) (n i dp db : Nat) : CRun :=
  (w.counted Fd.CNT_FLUSH_CNT_COUNT Fd.CNT_FLUSH_CNT_OVF).upd fun s => (s.charge 254 128 false).forwardDelta n i dp db

theorem flushDelta_held (h : (w.leaving n i dp db).s.recFenced n i = true) :
    w.flushDelta n i dp db = (w.leaving n i dp db).upd fun s => s.cntHold n i (.delta dp db) := if_pos h

theorem flushDelta_added (h : (w.leaving n i dp db).s.recFenced n i = false) :
    w.flushDelta n i dp db = (w.leaving n i dp db).addRec n i dp db := if_neg (ne_true_of_eq_false h)

end

end Sys2Proof.Machine

section
open Sys2Proof Sys2Proof.Machine

/-- Settles O46, by the opcode of the request and the checks of its counter, then by what an update finds in the slot. -/
theorem counterRequests : Obligations.CounterRequests := by
  intro s t hcounter hstay n i c x
  have exec : s.dispatch t = s.counterExec t := dispatch_counter hcounter hstay
  rw [exec]
  refine ⟨fun hbeyond => ?beyond, fun hin hf hidle => ?fenced, fun hin hfree => ?served, fun hin hop hbusy => ?busy,
    fun w p b hcold => update_cold hcold,
    fun w y p b dp db hhot hread => ⟨update_adds hhot hread, update_overflows hhot hread⟩,
    fun w dp db => ⟨flushDelta_held, flushDelta_added⟩⟩
  case beyond =>
    rcases isCounter_cases hcounter with op | op | op | op
    · exact (counterExec_cupd op).trans (cupd_beyond hbeyond)
    · exact (counterExec_cread op).trans (cread_beyond hbeyond)
    · exact (counterExec_cclr op).trans (cclr_beyond hbeyond)
    · exact (counterExec_crebuild op).trans (crebuild_beyond hbeyond)
  case fenced =>
    rcases isCounter_cases hcounter with op | op | op | op
    · exact (counterExec_cupd op).trans (cupd_fenced hin hf)
    · exact (counterExec_cread op).trans (cread_fenced hin hf)
    · exact (counterExec_cclr op).trans (cclr_fenced hin hf)
    · exact (counterExec_crebuild op).trans (crebuild_fenced hin hf (hidle.resolve_left (not_not_intro op)))
  case served =>
    exact ⟨fun op hanc => (counterExec_cupd op).trans (cupd_alone hin hfree hanc),
      fun op hanc y r hread hgood => (counterExec_cread op).trans (cread_alone hin hfree hanc hread hgood),
      fun op hanc y r hread => (counterExec_cclr op).trans (cclr_alone hin hfree hanc hread),
      fun op hidle => (counterExec_crebuild op).trans (crebuild_starts hin hfree hidle)⟩
  case busy => exact (counterExec_crebuild hop).trans (crebuild_busy hin hbusy)

end

/-! ### The counter engine's own steps (R490, R498–R504, R584) -/

namespace Sys2Proof.Machine

variable {s : State} {n i : Nat} {t : Txn}

/-! A flush (R490, R502). -/

theorem exec_counterFlush (hs : s.inReset = false) (hn : n < 64) (hvalid : (s.cset n).valid = true)
    (hfree : s.ctrFenced n i = false) : exec (.counterFlush n i) s = .next (s.cOwn ((⟨s, none⟩ : CRun).flush n i)) := by
  refine (act_live s _ hs).trans (congrArg _ ?_)
  rw [Nat.mod_eq_of_lt hn, if_pos hvalid]
  exact if_neg (ne_true_of_eq_false hfree)

theorem exec_counterFlush_fenced (hs : s.inReset = false) (hn : n < 64) (h : s.ctrFenced n i = true) :
    exec (.counterFlush n i) s = .next s := by
  have none : s.counterFlush n i = s := if_pos h
  refine (act_live s _ hs).trans (congrArg _ ?_)
  rw [Nat.mod_eq_of_lt hn, none, ite_self]

theorem flush_delta {x y : CRun} {dp db : Nat} (hhot : (x.s.cset n).hot = true) (hdelta : dp ≠ 0 ∨ db ≠ 0)
    (hread : x.readSlot ((x.s.cset n).slot i) = (y, .held ((x.s.cset n).tag i) dp db)) : x.flush n i =
      (y.flushDelta n i dp db).writeSlot ((x.s.cset n).slot i) ((x.s.cset n).tag i) 0 0 true := by
  simp only [CRun.flush, hhot, hread, Bool.not_true, Bool.false_eq_true, if_false, true_and, if_pos hdelta]

/-! The end of a rebuild's scan (R498, R499). -/

/-- A rebuild is over. -/
def State.rebuildOver (s : State) : State :=
  ({ s with cnt := { s.cnt with rebuild := none } } : State).wr Fd.CNT_STAT_REBUILD 0

/-- The scan of a counter's children. -/
def State.scan (s : State) (set ctr : Nat) : Scan :=
  (List.range (s.cset set).nctr).foldl (Scan.step set ctr (s.cset set)) ⟨{ s, bad := none }, ⟨0, 0, false, 0⟩, 0, false, false⟩

theorem rebuildEnd_none (h : s.cnt.rebuild = none) : s.rebuildEnd = s := by
  rw [State.rebuildEnd, h]

theorem txn_rebuildOver (id : Nat) : s.rebuildOver.txn id = s.txn id := by
  rw [State.rebuildOver, State.txn, wr_req, State.txn]

/-- What the end of a scan answers and leaves. -/
def State.scanned (s : State) (r : Rebuild) (t : Txn) : State :=
  let z := s.scan r.set r.ctr
  if z.psn then s.cEnd t z.x stPOISON
  else if z.fenced ∨ s.ctrFenced r.set r.ctr then s.cEnd t z.x stFENCED
  else if z.kids = 0 then s.cEnd t z.x stNOTFOUND
  else s.cEnd t ((z.x.setCtr r.set r.ctr z.sum).upd fun s => s.forwardSet r.set r.ctr z.sum) stOK z.kids

theorem rebuildEnd_scanned {r : Rebuild} (hr : s.cnt.rebuild = some r) (ht : s.txn r.txn = some t) :
    s.rebuildEnd = s.rebuildOver.scanned r t := by
  rw [← txn_rebuildOver, State.rebuildOver] at ht
  rw [State.rebuildEnd, hr]
  dsimp only at ht ⊢
  rw [ht]
  rfl

section
variable {r : Rebuild}

theorem scanned_poisoned (h : (s.scan r.set r.ctr).psn = true) :
    s.scanned r t = s.cEnd t (s.scan r.set r.ctr).x stPOISON := if_pos h

variable (hclean : (s.scan r.set r.ctr).psn = false)
include hclean

theorem scanned_fenced (h : (s.scan r.set r.ctr).fenced = true ∨ s.ctrFenced r.set r.ctr = true) :
    s.scanned r t = s.cEnd t (s.scan r.set r.ctr).x stFENCED :=
  (if_neg (ne_true_of_eq_false hclean)).trans (if_pos h)

variable (hscan : (s.scan r.set r.ctr).fenced = false) (hfree : s.ctrFenced r.set r.ctr = false)
include hscan hfree

theorem scanned_childless (h : (s.scan r.set r.ctr).kids = 0) :
    s.scanned r t = s.cEnd t (s.scan r.set r.ctr).x stNOTFOUND :=
  (if_neg (ne_true_of_eq_false hclean)).trans ((if_neg (not_or_intro (ne_true_of_eq_false hscan)
    (ne_true_of_eq_false hfree))).trans (if_pos h))

theorem scanned_sums (h : (s.scan r.set r.ctr).kids ≠ 0) : s.scanned r t =
    s.cEnd t (((s.scan r.set r.ctr).x.setCtr r.set r.ctr (s.scan r.set r.ctr).sum).upd fun v =>
      v.forwardSet r.set r.ctr (s.scan r.set r.ctr).sum) stOK (s.scan r.set r.ctr).kids :=
  (if_neg (ne_true_of_eq_false hclean)).trans ((if_neg (not_or_intro (ne_true_of_eq_false hscan)
    (ne_true_of_eq_false hfree))).trans (if_neg h))

end

/-! A checkpoint sweep (R503, R504, R584, R585). -/

theorem sweep_starts (h : s.on Fd.CNT_STAT_SWEEP = false) : s.sweep = (s.wr Fd.CNT_STAT_SWEEP 1).sweepRun :=
  if_neg (ne_true_of_eq_false h)

theorem sweep_late (h : s.on Fd.CNT_STAT_SWEEP = true) :
    s.sweep = (({ s with cnt := { s.cnt with sweepDue := true } } : State).raise 204 1 0).sweepRun := if_pos h

/-- The sets that a sweep covers. -/
def State.ckptSets (s : State) : List Nat := s.csets.filter fun n => (s.cset n).ckpt

/-- Those sets flushed. -/
def State.swept (s : State) : State := s.ckptSets.foldl (fun (s : State) n => s.flushSet n) s

section
variable (hon : s.on Fd.CNT_STAT_SWEEP = true)
include hon

theorem sweepRun_on : s.sweepRun =
    if s.ckptSets.any fun n => s.swept.setDirty n != 0 then s.swept
    else
      let v := (({ s.swept with cnt := { s.swept.cnt with sweepDue := false } } : State).wr Fd.CNT_STAT_SWEEP 0).sweepMark
      if s.swept.cnt.sweepDue then v.sweepMark else v :=
  if_neg (ne_true_of_eq_false (congrArg not hon :))

theorem sweepRun_waits (h : ∃ n ∈ s.ckptSets, s.swept.setDirty n ≠ 0) : s.sweepRun = s.swept := by
  obtain ⟨n, hn, dirty⟩ := h
  rw [sweepRun_on hon]
  exact if_pos (List.any_eq_true.2 ⟨n, hn, by simpa using dirty⟩)

theorem sweepRun_ends (hclean : ∀ n ∈ s.ckptSets, s.swept.setDirty n = 0) (hdue : s.swept.cnt.sweepDue = false) :
    s.sweepRun =
      (({ s.swept with cnt := { s.swept.cnt with sweepDue := false } } : State).wr Fd.CNT_STAT_SWEEP 0).sweepMark := by
  have clean : (s.ckptSets.any fun n => s.swept.setDirty n != 0) = false := by
    rw [List.any_eq_false]
    exact fun n hn => by rw [hclean n hn, bne_self_eq_false]; exact Bool.false_ne_true
  rw [sweepRun_on hon]
  exact (if_neg (ne_true_of_eq_false clean)).trans (if_neg (ne_true_of_eq_false hdue))

end

theorem sweepMark_alone (h : s.joined = false) : s.sweepMark = s := if_pos (congrArg not h :)

theorem sweepMark_joined (h : s.joined = true) :
    let u := s.sendPair (.cmark s.clk.time)
    let prot := (u.que.qs.filter fun (e : Nat × QRec) => e.2.prot).map (·.1)
    let old := u.pair.prevProt.filter fun q => !prot.contains q
    let w := (prot ++ old).foldl (fun (w : State) q => w.sendPair (w.queueCkpt q)) u
    s.sweepMark = { w with pair := { w.pair with prevProt := prot } } :=
  if_neg (ne_true_of_eq_false (congrArg not h :))

end Sys2Proof.Machine

section
open Sys2Proof Sys2Proof.Machine

/-- Settles O47, a step of the counter engine at a time: the flush, the end of the scan by what it met, and the sweep by
whether one was under way and whether a fence keeps a delta back. -/
theorem counterEngineSteps : Obligations.CounterEngineSteps := by
  intro s hs
  have live {v w : State} (h : v = w) : s.act v = .next w := (act_live s v hs).trans (congrArg _ h)
  refine ⟨fun n i hn => exec_counterFlush hs hn, fun n i hn => exec_counterFlush_fenced hs hn,
    fun x y n i dp db hhot hdelta hread => flush_delta hhot hdelta hread, fun h => live (rebuildEnd_none h),
    fun r t hr ht => ?scan, fun h => live (sweep_starts h), fun h => live (sweep_late h),
    fun h => ⟨sweepRun_waits h, sweepRun_ends h⟩, sweepMark_alone, sweepMark_joined⟩
  case scan =>
    have ends {w : State} (h : s.rebuildOver.scanned r t = w) : exec .rebuildScanEnd s = .next w :=
      live ((rebuildEnd_scanned hr ht).trans h)
    exact ⟨fun h => ends (scanned_poisoned h), fun hclean h => ends (scanned_fenced hclean h),
      fun hclean hscan hfree => ⟨fun h => ends (scanned_childless hclean hscan hfree h),
        fun h => ends (scanned_sums hclean hscan hfree h)⟩⟩

end

/-! ### The regulator's steps (R517–R535) -/

namespace Sys2Proof.Machine

variable {s : State} {l k : Nat} {t : Txn}

/-! Slices and windows (R517, R518, R523, R525). -/

theorem sliceStart_runs (h : s.on Fd.CLK_STAT_HOLD = false) : s.sliceStart = { s with rgl := { s.rgl with
    slice := s.rgl.slice + 1
    pool := 16 * s.rgl.k - 75 * s.rgl.guar + min s.rgl.pool 0
    guar := 0 } } := if_neg (ne_true_of_eq_false h)

theorem sliceStart_held (h : s.on Fd.CLK_STAT_HOLD = true) : s.sliceStart = s := if_pos h

/-- A label's window begun: a pending commit applied, its count cleared, its guarantee given. -/
def State.windowBegun (s : State) (l : Nat) : State :=
  let u := s.labelApply l
  { u with rgl := { u.rgl with
    counts := Tab.put (fun _ => 0) u.rgl.counts l 0
    gEff := Tab.put (fun _ => 0) u.rgl.gEff l ((u.lCfg l).2.2 * u.rd Fd.REG_STAT_SHRINK / 1024 * 256) } }

section
variable (hdue : s.windowDue l = true)
include hdue

theorem windowStart_stopped (h : (s.windowBegun l).releasing = false) : s.windowStart l = (s.windowBegun l, []) :=
  (if_neg (ne_true_of_eq_false (congrArg not hdue :))).trans (if_neg (ne_true_of_eq_false h))

theorem windowStart_judges (h : (s.windowBegun l).releasing = true) :
    let r := (s.windowBegun l).rejudge l ((s.windowBegun l).shareQ l)
    s.windowStart l = (r.1.setShareQ l r.2.2, r.2.1) :=
  (if_neg (ne_true_of_eq_false (congrArg not hdue :))).trans (if_pos h)

end

theorem exec_windowStart {v : State} {ids : List Nat} (hs : s.inReset = false) (hl : l < 256)
    (h : s.windowStart l = (v, ids)) : exec (.windowStart l) s = .next ((v.letGoAll ids).roomRelease) := by
  refine (act_live s _ hs).trans (congrArg _ ?_)
  rw [Nat.mod_eq_of_lt hl, h]

theorem lCfg_enabled (h : s.labelEn l = true) : s.lCfg l =
    (s.rd (Fd.REG_L_CFG_WEIGHT l), s.rd (Fd.REG_L_CFG_WIN l), s.rd (Fd.REG_L_GUAR_G l)) := by
  rw [State.lCfg, h]
  rfl

section
variable (hoff : s.labelEn l = false)
include hoff

theorem lCfg_disabled (h : Tab.get (fun _ => none) s.rgl.old l = none) : s.lCfg l =
    (s.rd (Fd.REG_L_CFG_WEIGHT l), s.rd (Fd.REG_L_CFG_WIN l), 0) := by
  rw [State.lCfg, hoff, if_neg Bool.false_ne_true, h]
  rfl

/-- A disabled label with requests held keeps the configuration in force before. -/
theorem lCfg_kept {c : Nat × Nat × Nat} (h : Tab.get (fun _ => none) s.rgl.old l = some c) : s.lCfg l = c := by
  rw [State.lCfg, hoff, if_neg Bool.false_ne_true, h]
  rfl

end

/-- A queued request within the guarantee is released at the window's start. -/
theorem rejudge_releases {id n : Nat} {q : List (Nat × Nat)} (h : s.lCount l < s.gEff l) :
    let r := ((s.addCount l n).addGuar n).rejudge l q
    s.rejudge l ((id, n) :: q) = (r.1, id :: r.2.1, r.2.2) := if_pos h

/-! The share queues and urgency (R524, R528). -/

theorem shareRounds_stopped (h : s.rgl.pool ≤ 0 ∨ s.releasing = false) (k : Nat) : s.shareRounds (k + 1) = (s, []) := by
  refine if_neg fun ⟨pool, releasing, _⟩ => ?_
  rcases h with spent | stopped
  · exact absurd pool (Int.not_lt.2 spent)
  · exact absurd releasing (ne_true_of_eq_false stopped)

section
variable (ht : s.txn k = some t)
include ht

theorem urgencyRise_stays (h : s.urgency t ≤ t.urg) : s.urgencyRise k = s := by
  rw [State.urgencyRise, ht]
  exact if_pos (Nat.max_eq_left h)

/-- A request whose urgency has risen, and its accesses, carry what its age gives. -/
theorem urgencyRise_rises (h : t.urg < s.urgency t) :
    ∃ v, s.urgencyRise k = v ∧ v.req = (s.setTxn { t with urg := s.urgency t }).req ∧
      v.fabric = s.fabric.map (Acc.age k (s.urgency t)) := by
  have rise : max t.urg (s.urgency t) = s.urgency t := Nat.max_eq_right (Nat.le_of_lt h)
  rw [State.urgencyRise, ht]
  dsimp only
  rw [rise, if_neg (Nat.ne_of_gt h)]
  exact ⟨_, rfl, rfl, rfl⟩

end

/-! Capacity and the shrink factor (R520, R521, R532, R535). -/

/-- The shrink factor that the capacity gives now. -/
def State.newShrink (s : State) : Nat := if s.on Fd.REG_CTL_ENFORCE then shrink s.capacity s.sumG else 1024

/-- Capacity and shrink factor as recomputed. -/
def State.shrunk (s : State) : State :=
  (({ s with rgl := { s.rgl with k := s.capacity } } : State).wr Fd.REG_STAT_KEFF (s.capacity / 1200)).wr
    Fd.REG_STAT_SHRINK s.newShrink

theorem recompute_computes (h : s.rgl.ran = true) : s.recompute =
    if s.newShrink ≠ s.rd Fd.REG_STAT_SHRINK then s.shrunk.raiseDeficit else s.shrunk := if_pos h

theorem recompute_waits (h : s.rgl.ran = false) : s.recompute = s := if_neg (ne_true_of_eq_false h)

theorem exec_deficitLimitEnd_raises (hs : s.inReset = false) (h : s.rgl.defHeld = true) : exec .deficitLimitEnd s =
    .next (({ s with rgl := { s.rgl with defHeld := false, defTime := s.clk.time + 1 } } : State).raise 216 1
      (s.rd Fd.REG_STAT_SHRINK + s.rd Fd.REG_STAT_KEFF * 65536)) :=
  (act_live s _ hs).trans (congrArg _ (if_pos h))

theorem exec_deficitLimitEnd_idle (hs : s.inReset = false) (h : s.rgl.defHeld = false) :
    exec .deficitLimitEnd s = .next { s with rgl := { s.rgl with defTime := 0 } } :=
  (act_live s _ hs).trans (congrArg _ (if_neg (ne_true_of_eq_false h)))

/-! A label commit (R531–R533). -/

/-- EN and WIN of the staged label. -/
def State.stgEn (s : State) : Bool := bit (s.reg Ra.REG_STG_CFG).toNat 31

def State.stgWin (s : State) : Nat := bits (s.reg Ra.REG_STG_CFG).toNat 7 0

/-- The labels as they would be with the staged one. -/
def State.stgLabels (s : State) : List (Bool × Nat × Nat) :=
  setNth s.labels (s.rd Fd.REG_LCMD_LABEL) (s.stgEn, s.stgWin, bits (s.reg Ra.REG_STG_GUAR).toNat 19 0)

/-- The commit's label may not be changed so: 254, and 255 while the pair needs it. -/
def State.labelFixed (s : State) : Prop :=
  s.rd Fd.REG_LCMD_LABEL = 254 ∨ (s.rd Fd.REG_LCMD_LABEL = 255 ∧
    (s.pair.resync ≠ none ∨ (s.stgEn = false ∧ s.on (Fd.PORT_LANE_CFG_EN 12) = true)))

theorem labelFixed_iff : s.labelFixed ↔ s.rd Fd.REG_LCMD_LABEL = 254 ∨ (s.rd Fd.REG_LCMD_LABEL = 255 ∧
    (s.pair.resync.isSome ∨ (!s.stgEn ∧ s.on (Fd.PORT_LANE_CFG_EN 12)))) := by
  rw [State.labelFixed, Option.isSome_iff_ne_none, Bool.not_eq_true']

theorem labelCommit_busy (h : s.rgl.commit ≠ none) : s.labelCommit = s.lcmdDone (s.rd Fd.REG_LCMD_LABEL) 3 :=
  if_pos (Option.isSome_iff_ne_none.2 h)

section
variable (hnone : s.rgl.commit = none)
include hnone

theorem commit_idle : ¬ s.rgl.commit.isSome = true := by
  rw [hnone]
  exact Bool.false_ne_true

theorem labelCommit_bestEffort (h : s.on Fd.REG_CTL_ENFORCE = false) :
    s.labelCommit = s.lcmdDone (s.rd Fd.REG_LCMD_LABEL) 6 :=
  (if_neg (commit_idle hnone)).trans (if_pos (congrArg not h :))

variable (hen : s.on Fd.REG_CTL_ENFORCE = true)
include hen

theorem labelCommit_fixed (h : s.labelFixed) : s.labelCommit = s.lcmdDone (s.rd Fd.REG_LCMD_LABEL) 7 :=
  (if_neg (commit_idle hnone)).trans ((if_neg (ne_true_of_eq_false (congrArg not hen :))).trans
    (if_pos (labelFixed_iff.1 h)))

variable (hfree : ¬ s.labelFixed)
include hfree

theorem labelCommit_badWindow (h : s.stgWin = 0 ∨ 250 < s.stgWin) :
    s.labelCommit = s.lcmdDone (s.rd Fd.REG_LCMD_LABEL) 5 :=
  (if_neg (commit_idle hnone)).trans ((if_neg (ne_true_of_eq_false (congrArg not hen :))).trans
    ((if_neg (hfree ∘ labelFixed_iff.2)).trans (if_pos h)))

variable (hwin : ¬ (s.stgWin = 0 ∨ 250 < s.stgWin))
include hwin

theorem labelCommit_beyond (h : withinLimit (s.rd Fd.GLB_LEVEL_LIM_LVL_LOW) (gSum s.stgLabels) = false) :
    s.labelCommit = s.lcmdDone (s.rd Fd.REG_LCMD_LABEL) 4 :=
  (if_neg (commit_idle hnone)).trans ((if_neg (ne_true_of_eq_false (congrArg not hen :))).trans
    ((if_neg (hfree ∘ labelFixed_iff.2)).trans ((if_neg hwin).trans (if_pos (congrArg not h :)))))

theorem labelCommit_waits (h : withinLimit (s.rd Fd.GLB_LEVEL_LIM_LVL_LOW) (gSum s.stgLabels) = true) :
    s.labelCommit = ({ s with rgl := { s.rgl with
      commit := some (s.rd Fd.REG_LCMD_LABEL, s.reg Ra.REG_STG_CFG, s.reg Ra.REG_STG_GUAR) } } : State).wr
        Fd.REG_LCMD_RESULT 2 :=
  (if_neg (commit_idle hnone)).trans ((if_neg (ne_true_of_eq_false (congrArg not hen :))).trans
    ((if_neg (hfree ∘ labelFixed_iff.2)).trans ((if_neg hwin).trans (if_neg (ne_true_of_eq_false (congrArg not h :))))))

end

end Sys2Proof.Machine

section
open Sys2Proof Sys2Proof.Machine

/-- Settles O48, a step of the regulator at a time: a window start by whether data may be released, a label commit by its
checks in order. -/
theorem regulatorSteps : Obligations.RegulatorSteps := by
  intro s hs
  have live {v w : State} (h : v = w) : s.act v = .next w := (act_live s v hs).trans (congrArg _ h)
  refine ⟨fun h => live (sliceStart_runs h), fun h => live (sliceStart_held h),
    fun l hl hdue => ⟨fun h => exec_windowStart hs hl (windowStart_stopped hdue h),
      fun h => exec_windowStart hs hl (windowStart_judges hdue h)⟩,
    fun l => ⟨lCfg_enabled, lCfg_disabled, fun c hoff h => lCfg_kept hoff h⟩, fun v l id n q => rejudge_releases,
    act_live s _ hs, shareRounds_stopped, fun k t ht => ⟨fun h => live (urgencyRise_stays ht h), fun h => ?urgency⟩,
    ⟨fun h => live (recompute_computes h), fun h => live (recompute_waits h)⟩, exec_deficitLimitEnd_raises hs,
    exec_deficitLimitEnd_idle hs, fun h => live (labelCommit_busy h),
    fun hnone h => live (labelCommit_bestEffort hnone h), fun hnone hen => ⟨fun h => live (labelCommit_fixed hnone hen h),
      fun hfree h => live (labelCommit_badWindow hnone hen hfree h), fun hfree h0 h250 => ?commit⟩⟩
  case urgency =>
    obtain ⟨v, rise, req, fabric⟩ := urgencyRise_rises ht h
    exact ⟨v, live rise, req, fabric⟩
  case commit =>
    have window := not_or_intro h0 (Nat.not_lt.2 h250)
    exact ⟨fun h => live (labelCommit_beyond hnone hen hfree window h),
      fun h => live (labelCommit_waits hnone hen hfree window h)⟩

end

/-! ### Keys, reports and the tag cache (R541–R568) -/

namespace Sys2Proof.Machine

variable {s u : State} {slot op l : Nat}

/-! A key load's start (R544, R546). -/

/-- The modes in which a key can be loaded. -/
abbrev State.kldMode (s : State) : Prop := s.mode = mBOOT ∨ s.mode = mSERVICE ∨ s.mode = mDEGRADED

/-- A key load's operands as written. -/
def State.kldAsked (s : State) (op slot : Nat) : State := (s.wr Fd.SEC_KLD_CTL_OP op).wr Fd.SEC_KLD_CTL_SLOT slot

theorem mkey_kldAsked : (s.kldAsked op slot).sec.mkey = s.sec.mkey := by
  rw [State.kldAsked, wr_sec, wr_sec]

theorem kldGo_busy (h : s.sec.load ≠ none) : s.kldGo op slot = s.kldDone slot 3 := by
  have busy : s.sec.load.isSome = true := Option.isSome_iff_ne_none.2 h
  simp only [State.kldGo, busy, if_true]

section
variable (hidle : s.sec.load = none)
include hidle

theorem kldGo_idle : s.kldGo op slot =
    if !(decide (s.kldAsked op slot).kldMode) then (s.kldAsked op slot).kldDone slot 6
    else if op = 1 ∧ (s.kldAsked op slot).sec.mkey.isNone then (s.kldAsked op slot).kldDone slot 4
    else (({ s.kldAsked op slot with sec := { (s.kldAsked op slot).sec with load := some (slot, op) } } : State).wr
      Fd.SEC_KLD_CTL_RESULT 2).wr Fd.SEC_STAT_KLD_BUSY 1 := by
  have idle : s.sec.load.isSome = false := by rw [hidle]; rfl
  simp only [State.kldGo, idle, Bool.false_eq_true, if_false]
  rfl

theorem kldGo_mode (h : ¬ (s.kldAsked op slot).kldMode) : s.kldGo op slot = (s.kldAsked op slot).kldDone slot 6 := by
  rw [kldGo_idle hidle]
  exact if_pos (by rw [decide_eq_false h]; rfl)

variable (hmode : (s.kldAsked op slot).kldMode)
include hmode

theorem kldGo_noKey (hop : op = 1) (h : s.sec.mkey = none) :
    s.kldGo op slot = (s.kldAsked op slot).kldDone slot 4 := by
  rw [kldGo_idle hidle, mkey_kldAsked, h]
  exact (if_neg (by rw [decide_eq_true hmode]; exact Bool.false_ne_true)).trans (if_pos ⟨hop, rfl⟩)

theorem kldGo_starts (h : op = 2 ∨ s.sec.mkey ≠ none) : s.kldGo op slot =
    (({ s.kldAsked op slot with sec := { (s.kldAsked op slot).sec with load := some (slot, op) } } : State).wr
      Fd.SEC_KLD_CTL_RESULT 2).wr Fd.SEC_STAT_KLD_BUSY 1 := by
  have able : ¬ (op = 1 ∧ (s.kldAsked op slot).sec.mkey.isNone = true) := by
    rw [mkey_kldAsked, Option.isNone_iff_eq_none]
    rintro ⟨load, noKey⟩
    rcases h with clear | key
    · omega
    · exact key noKey
  rw [kldGo_idle hidle]
  exact (if_neg (by rw [decide_eq_true hmode]; exact Bool.false_ne_true)).trans (if_neg able)

end

theorem exec_kld {v : State} (hs : s.inReset = false) (hslot : slot < 64) (hop : op = 1 ∨ op = 2)
    (h : s.kldGo op slot = v) : exec (if op = 1 then .kldLoad slot else .kldClear slot) s = .next v := by
  rcases hop with load | clear
  · subst load
    refine (act_live s _ hs).trans (congrArg _ ?_)
    rw [Nat.mod_eq_of_lt hslot, h]
  · subst clear
    refine (act_live s _ hs).trans (congrArg _ ?_)
    rw [Nat.mod_eq_of_lt hslot, h]

/-! A key load's end (R544). -/

section
variable (hs : s.inReset = false)
include hs

section
variable (hload : s.sec.load = some (slot, op))
include hload

theorem exec_drainEnd_waits (h : s.kldBusy slot = true) : exec .keyLoadDrainEnd s = .next s := by
  refine (act_live s _ hs).trans (congrArg _ ?_)
  rw [hload]
  exact if_pos h

variable (hdrained : s.kldBusy slot = false)

include hdrained in
theorem exec_drainEnd_clears (hop : op = 2) : exec .keyLoadDrainEnd s = .next ((s.setSlot slot none).kldEnd slot 1) := by
  subst hop
  refine (act_live s _ hs).trans (congrArg _ ?_)
  rw [hload]
  exact if_neg (ne_true_of_eq_false hdrained)

include hdrained in
theorem exec_drainEnd_loads {mk : Nat} (hop : op = 1) (hkey : s.sec.mkey = some mk) : exec .keyLoadDrainEnd s =
    .next ((s.setSlot slot (some (Config.sm4Dec (kwk mk slot) s.wrappedKey % 2 ^ 128))).kldEnd slot 1) := by
  subst hop
  refine (act_live s _ hs).trans (congrArg _ ?_)
  rw [hload, hkey]
  exact if_neg (ne_true_of_eq_false hdrained)

theorem exec_keyLoadTimeout : exec .keyLoadTimeout s = .next (s.kldEnd slot 5) := by
  refine (act_live s _ hs).trans (congrArg _ ?_)
  rw [hload]

end

theorem exec_drainEnd_none (h : s.sec.load = none) : exec .keyLoadDrainEnd s = .next s := by
  refine (act_live s _ hs).trans (congrArg _ ?_)
  rw [h]

theorem exec_keyLoadTimeout_none (h : s.sec.load = none) : exec .keyLoadTimeout s = .next s := by
  refine (act_live s _ hs).trans (congrArg _ ?_)
  rw [h]

end

/-! The management key (R559, R564). -/

/-- RESULT of MK_DECRYPT, reported. -/
def State.mkDone (s : State) (r : Nat) : State := (s.wr Fd.SEC_MK_CTL_RESULT r).raise 232 1 (r * 256 + 4096)

theorem mkGo_noIdentity (h : s.root = none) : s.mkGo = s.mkDone 4 := by
  simp only [State.mkGo, h, State.mkDone]

section
variable {root : Nat} (hroot : s.root = some root)
include hroot

theorem mkGo_refused (h : Config.sm2Decrypt (identity root) s.mkBlob = none) : s.mkGo = s.mkDone 3 := by
  simp only [State.mkGo, hroot, h, State.mkDone]

theorem mkGo_takes {m : Nat} (h : Config.sm2Decrypt (identity root) s.mkBlob = some m) :
    s.mkGo = ((s.setMk m).sealMk root m).mkDone 1 := by
  simp only [State.mkGo, hroot, h, State.mkDone]

end

theorem sec_setPersist (off : Nat) (bytes : List Byte) : (s.setPersist off bytes).sec = s.sec := by
  rw [State.setPersist, State.owe]
  split
  · rfl
  · rfl

theorem mkey_sealMk (root m : Nat) : ((s.setMk m).sealMk root m).sec.mkey = some (m % 2 ^ 256) := by
  rw [State.sealMk, sec_setPersist, State.setMk, wr_sec]

/-! Attestation (R565). -/

theorem attGo_noIdentity (h : s.root = none) :
    s.attGo = ((s.putReport []).wr Fd.SEC_ATT_CTL_RESULT 3).raise 238 1 1 :=
  if_pos (by rw [h]; rfl)

theorem attGo_starts {root : Nat} (h : s.root = some root) :
    s.attGo = ({ s with sec := { s.sec with attest := true } } : State).wr Fd.SEC_ATT_CTL_RESULT 2 :=
  if_neg (by rw [h]; exact Bool.false_ne_true)

theorem exec_reportFormed_none (hs : s.inReset = false) (h : s.root = none) : exec .reportFormed s = .next s := by
  refine (act_live s _ hs).trans (congrArg _ ?_)
  rw [h]

theorem exec_reportFormed {root : Nat} (hs : s.inReset = false) (h : s.root = some root) (hasked : s.sec.attest = true) :
    let sig := Config.sm2Sign (identity root) (s.reportHead root)
    let v := s.putReport (s.reportHead root ++ leBytes 32 sig.1 ++ leBytes 32 sig.2)
    exec .reportFormed s =
      .next ((({ v with sec := { v.sec with attest := false } } : State).wr Fd.SEC_ATT_CTL_RESULT 1).raise 238 1 0) := by
  refine (act_live s _ hs).trans (congrArg _ ?_)
  rw [h]
  exact if_pos hasked

/-! The tag cache's evictions (R551, R552). -/

/-- No error is met in the cache where none is named. -/
theorem tagError_none : s.tagError l 0 = s := by
  rw [State.tagError]
  split
  case h_1 => rfl
  case h_2 => rfl

theorem exec_tagCacheEviction (hs : s.inReset = false) : exec (.tagCacheEviction l 0) s = .next (s.evictTag l) := by
  refine (act_live s _ hs).trans (congrArg _ ?_)
  rw [tagError_none]

section
variable {t : TagLine} (ht : s.tagLine l = some t)
include ht

theorem evictTag_lost (h : t.lost = true) : s.evictTag l = s := by
  rw [State.evictTag, ht]
  exact if_pos (.inl h)

variable (hsound : t.lost = false)
include hsound

theorem evictTag_dirty (hdirty : t.dirty = true) (hfree : s.cgFenced (pcOf (64 * l) / 4) = false) :
    s.evictTag l = (s.setTagLine l none).writeCurrent l 16 t.data false := by
  have goes : ¬ (t.lost = true ∨ (t.dirty = true ∧ s.cgFenced (pcOf (64 * l) / 4) = true)) := by
    simp [hsound, hfree]
  rw [State.evictTag, ht]
  exact (if_neg goes).trans (if_pos hdirty)

theorem evictTag_clean (hclean : t.dirty = false) : s.evictTag l = s.setTagLine l none := by
  have goes : ¬ (t.lost = true ∨ (t.dirty = true ∧ s.cgFenced (pcOf (64 * l) / 4) = true)) := by
    simp [hsound, hclean]
  rw [State.evictTag, ht]
  exact (if_neg goes).trans (if_neg (ne_true_of_eq_false hclean))

end

end Sys2Proof.Machine

section
open Sys2Proof Sys2Proof.Machine

/-- Settles O49, command by command, by the checks of each and by what stands at the load, the identity and the cached
line. -/
theorem keysAndReports : Obligations.KeysAndReports := by
  intro s hs
  have live {v w : State} (h : v = w) : s.act v = .next w := (act_live s v hs).trans (congrArg _ h)
  have evicts {l : Nat} {w : State} (h : s.evictTag l = w) : exec (.tagCacheEviction l 0) s = .next w :=
    (exec_tagCacheEviction hs).trans (congrArg _ h)
  exact ⟨fun slot op hslot hop => ⟨fun h => exec_kld hs hslot hop (kldGo_busy h),
      fun hidle h => exec_kld hs hslot hop (kldGo_mode hidle h),
      fun hidle hmode load h => exec_kld hs hslot hop (kldGo_noKey hidle hmode load h),
      fun hidle hmode h => exec_kld hs hslot hop (kldGo_starts hidle hmode h)⟩,
    fun slot op hload => ⟨exec_drainEnd_waits hs hload, exec_drainEnd_clears hs hload,
      fun mk drained load key => exec_drainEnd_loads hs hload drained load key, exec_keyLoadTimeout hs hload⟩,
    fun h => ⟨exec_drainEnd_none hs h, exec_keyLoadTimeout_none hs h⟩,
    ⟨fun h => live (mkGo_noIdentity h), fun root hroot h => live (mkGo_refused hroot h),
      fun root m hroot h => ⟨live (mkGo_takes hroot h), mkey_sealMk root m⟩⟩,
    fun h => ⟨live (attGo_noIdentity h), exec_reportFormed_none hs h⟩,
    fun root hroot => ⟨live (attGo_starts hroot), exec_reportFormed hs hroot⟩,
    fun l t ht => ⟨fun hsound hdirty hfree => evicts (evictTag_dirty ht hsound hdirty hfree),
      fun hsound hclean => evicts (evictTag_clean ht hsound hclean), fun h => evicts (evictTag_lost ht h)⟩⟩

end

/-! ### The partner's messages (R449, R503, R575–R594) -/

namespace Sys2Proof.Machine

variable {s u : State} {x line n r : Nat}

/-! A message acts as the pair takes it. -/

theorem exec_mwrRecv (hs : s.inReset = false) (keyed psn copy : Bool) (urg label : Nat) (entry data : List Byte) :
    exec (.mwrRecv x line keyed psn copy urg label entry data) s =
      .next (s.mwrIn x line keyed psn copy urg label entry data) := act_live s _ hs

theorem exec_mexecRecv (hs : s.inReset = false) (op : Nat) (h : ReqHead) (d : List Byte) :
    exec (.mexecRecv x op h d) s = .next (if s.joined then s.decodeReq 12 op h d x else s) := act_live s _ hs

theorem exec_mcmtRecv (hs : s.inReset = false) (st : Nat) : exec (.mcmtRecv x st) s = .next (s.mcmtIn x st) :=
  act_live s _ hs

/-- The response that an MRES carries. -/
def mresResp (st fl m r : Nat) (d : List Byte) : Resp where
  port := 12
  op := 0
  reqId := 0
  tag := 0
  status := st
  rflags := fl
  pmask := m
  result := r
  data := d

theorem exec_mresRecv (hs : s.inReset = false) (st fl m r : Nat) (d : List Byte) :
    exec (.mresRecv x st fl m r d) s = .next (s.mresIn x (mresResp st fl m r d)) := act_live s _ hs

/-! MWR (R579, R580, R582). -/

/-- The point of a copy of the region moves with a line of it. -/
def State.copyMoved (s : State) (n line : Nat) (copy : Bool) : State :=
  match s.pair.resync with
  | some r => if r.inRgn = some n ∧ copy then
      { s with pair := { s.pair with resync := some { r with inPoint := max r.inPoint line } } } else s
  | none => s

theorem copyMoved_none {copy : Bool} (h : copy = false ∨ s.pair.resync = none) : s.copyMoved n line copy = s := by
  rw [State.copyMoved]
  split
  case h_1 r hr =>
    refine if_neg fun ⟨_, copied⟩ => ?_
    rcases h with single | idle
    · exact absurd copied (ne_true_of_eq_false single)
    · exact absurd (hr.symm.trans idle) (Option.some_ne_none r)
  case h_2 => rfl

section
variable {r : Resync} (hr : s.pair.resync = some r)
include hr

theorem copyMoved_elsewhere {copy : Bool} (h : r.inRgn ≠ some n) : s.copyMoved n line copy = s := by
  rw [State.copyMoved, hr]
  exact if_neg fun same => h same.1

theorem copyMoved_moves (h : r.inRgn = some n) : s.copyMoved n line true =
    { s with pair := { s.pair with resync := some { r with inPoint := max r.inPoint line } } } := by
  rw [State.copyMoved, hr]
  exact if_pos ⟨h, rfl⟩

end

section
variable {keyed psn copy : Bool} {urg label : Nat} {entry data : List Byte}

theorem mwrIn_waits (h : s.pair.waitW ≠ [] ∨ s.mwrWaits line = true) :
    s.mwrIn x line keyed psn copy urg label entry data = { s with pair := { s.pair with
      waitW := s.pair.waitW ++ [PairMsg.mwr x line keyed psn copy urg label entry data] } } := by
  refine if_neg fun ⟨first, free⟩ => ?_
  rcases h with waiting | locked
  · exact waiting (List.isEmpty_iff.1 first)
  · simp [locked] at free

theorem mwrIn_applies (hnone : s.pair.waitW = []) (hfree : s.mwrWaits line = false) :
    s.mwrIn x line keyed psn copy urg label entry data = s.mwrApply x line keyed psn copy urg label entry data :=
  if_pos ⟨by rw [hnone]; rfl, by rw [hfree]; rfl⟩

theorem mwrApply_outside (h : s.rgnOf (64 * line) = none) :
    s.mwrApply x line keyed psn copy urg label entry data = s.pairSend (.mcmt x 8) := by
  rw [State.mwrApply]
  dsimp only
  rw [h]

section
variable (hrgn : s.rgnOf (64 * line) = some n)
include hrgn

theorem mwrApply_unmirrored (h : (s.rgn n).mirror = false) :
    s.mwrApply x line keyed psn copy urg label entry data = s.pairSend (.mcmt x 8) := by
  rw [State.mwrApply]
  dsimp only
  rw [hrgn]
  exact if_pos (congrArg not h :)

variable (hmirror : (s.rgn n).mirror = true)
include hmirror

theorem mwrApply_fenced (h : s.mwrFenced n (64 * line) = true) :
    s.mwrApply x line keyed psn copy urg label entry data =
      ((s.setCurrent n false).raise 103 2 (64 * line / 64 * 64)).pairSend (.mcmt x 7) := by
  rw [State.mwrApply]
  dsimp only
  rw [hrgn]
  exact (if_neg (ne_true_of_eq_false (congrArg not hmirror :))).trans (if_pos h)

variable (hfree : s.mwrFenced n (64 * line) = false)
include hfree

/-- The PRIMARY's own write to the line, still pending, stands. -/
theorem mwrApply_yields (hrole : s.rd Fd.PAIR_STAT_ROLE = 1) (hcopy : copy = false)
    (hpend : ∃ p ∈ s.pair.pendW, p.2.1 = line) :
    s.mwrApply x line keyed psn copy urg label entry data = s.pairSend (.mcmt x 0) := by
  obtain ⟨p, hp, own⟩ := hpend
  rw [State.mwrApply]
  dsimp only
  rw [hrgn]
  exact (if_neg (ne_true_of_eq_false (congrArg not hmirror :))).trans ((if_neg (ne_true_of_eq_false hfree)).trans
    (if_pos ⟨hrole, by rw [hcopy]; rfl, List.any_eq_true.2 ⟨p, hp, by rw [own, beq_self_eq_true]⟩⟩))

variable (hgoes : s.rd Fd.PAIR_STAT_ROLE ≠ 1 ∨ copy = true ∨ ∀ p ∈ s.pair.pendW, p.2.1 ≠ line)
include hgoes

/-- The line is written, and a copy's point moved, before the answer is sent. -/
theorem mwrApply_writes : s.mwrApply x line keyed psn copy urg label entry data =
    ((s.mwrWrite line keyed psn copy urg label entry data).copyMoved n line copy).pairSend (.mcmt x 0) := by
  have other : ¬ (s.rd Fd.PAIR_STAT_ROLE = 1 ∧ (!copy) = true ∧
      s.pair.pendW.any (fun (e : Nat × Nat × Nat) => e.2.1 == line) = true) := by
    rintro ⟨primary, own, pending⟩
    obtain ⟨p, hp, same⟩ := List.any_eq_true.1 pending
    rcases hgoes with role | copied | none
    · exact role primary
    · simp [copied] at own
    · exact none p hp (beq_iff_eq.1 same)
  rw [State.mwrApply]
  dsimp only
  rw [hrgn]
  exact (if_neg (ne_true_of_eq_false (congrArg not hmirror :))).trans ((if_neg (ne_true_of_eq_false hfree)).trans
    (if_neg other))

end

end

/-! MCMT and MRES (R579, R583). -/

/-- The exchange of a forwarded write ended. -/
def State.writeEnded (s : State) (x : Nat) : State :=
  { s with pair := { s.pair with pendW := s.pair.pendW.filter fun (e : Nat × Nat × Nat) => e.1 != x } }

/-- The exchange of a forwarded request ended. -/
def State.requestEnded (s : State) (x : Nat) : State :=
  { s with pair := { s.pair with pendX := s.pair.pendX.filter fun (e : Nat × Nat) => e.1 != x } }

theorem mcmtIn_unknown {st : Nat} (h : ∀ p ∈ s.pair.pendW, p.1 ≠ x) : s.mcmtIn x st = s := by
  have none : s.pair.pendW.find? (fun (e : Nat × Nat × Nat) => e.1 == x) = none :=
    List.find?_eq_none.2 fun p hp => by simpa using h p hp
  rw [State.mcmtIn, none]

theorem mcmtIn_done {p : Nat × Nat × Nat} {t : Txn}
    (hp : s.pair.pendW.find? (fun (e : Nat × Nat × Nat) => e.1 == x) = some p) (ht : s.txn p.2.2 = some t) :
    s.mcmtIn x 0 = ((((s.writeEnded x).setTxn { t with mirrorLeft := t.mirrorLeft - 1 }).settle
      p.2.2).roleSettle).retireSettle := by
  obtain ⟨e, line, id⟩ := p
  have ended : (s.writeEnded x).txn id = some t := ht
  rw [State.writeEnded] at ended ⊢
  rw [State.mcmtIn, hp]
  dsimp only at ended ⊢
  rw [if_neg (fun h => absurd h.1 (by decide)), ended]
  rfl

theorem mresIn_unknown {r : Resp} (h : ∀ p ∈ s.pair.pendX, p.1 ≠ x) : s.mresIn x r = s := by
  have none : s.pair.pendX.find? (fun (e : Nat × Nat) => e.1 == x) = none :=
    List.find?_eq_none.2 fun p hp => by simpa using h p hp
  rw [State.mresIn, none]

theorem mresIn_answers {p : Nat × Nat} {t : Txn} {r : Resp}
    (hp : s.pair.pendX.find? (fun (e : Nat × Nat) => e.1 == x) = some p) (ht : s.txn p.2 = some t) :
    s.mresIn x r = ((s.requestEnded x).respond t r.status r.result r.data r.pmask r.rflags).roleSettle := by
  obtain ⟨e, id⟩ := p
  have ended : (s.requestEnded x).txn id = some t := ht
  rw [State.requestEnded] at ended ⊢
  rw [State.mresIn, hp]
  dsimp only at ended ⊢
  rw [ended]

/-! Counters and queues checkpointed (R503, R504, R584, R585). -/

theorem cdeltaIn_gap {i p b : Nat} (h : s.ckptSet n = false ∨ (s.cset n).nctr ≤ i) :
    s.cdeltaIn n i p b = s.ckptGap 2 := by
  refine if_neg fun ⟨set, counter⟩ => ?_
  rcases h with other | beyond
  · exact absurd set (ne_true_of_eq_false other)
  · exact absurd counter (Nat.not_lt.2 beyond)

theorem csetIn_gap {i : Nat} {r : CRec} (h : s.ckptSet n = false ∨ (s.cset n).nctr ≤ i) :
    s.csetIn n i r = s.ckptGap 2 := by
  refine if_neg fun ⟨set, counter⟩ => ?_
  rcases h with other | beyond
  · exact absurd set (ne_true_of_eq_false other)
  · exact absurd counter (Nat.not_lt.2 beyond)

section
variable {i : Nat} (hset : s.ckptSet n = true) (hi : i < (s.cset n).nctr)
include hset hi

theorem cdeltaIn_held {p b : Nat} (h : s.ctrFenced n i = true) : s.cdeltaIn n i p b = s.cntHold n i (.delta p b) :=
  (if_pos ⟨hset, hi⟩).trans (if_pos h)

theorem cdeltaIn_adds {p b : Nat} (h : s.ctrFenced n i = false) :
    s.cdeltaIn n i p b = s.cOwn ((⟨s, none⟩ : CRun).addRec n i p b) :=
  (if_pos ⟨hset, hi⟩).trans (if_neg (ne_true_of_eq_false h))

theorem csetIn_sets {r : CRec} (h : s.ctrFenced n i = false) :
    s.csetIn n i r = s.cOwn ((⟨s, none⟩ : CRun).setCtr n i r) :=
  (if_pos ⟨hset, hi⟩).trans (if_neg (ne_true_of_eq_false h))

theorem csetIn_held {r : CRec} (h : s.ctrFenced n i = true) : s.csetIn n i r =
    ({ s with cnt := { s.cnt with transit := s.cnt.transit.filter fun e => !(e.1 == n && e.2.1 == i) } } : State).cntHold
      n i (.value r.lost r.epoch r.pkts r.bytes) :=
  (if_pos ⟨hset, hi⟩).trans (if_pos h)

end

section
variable {q st pool lim cells pkts bytes : Nat} {prot : Bool}

theorem qckptIn_noShadow (h : s.shadowOk = false) : s.qckptIn q st pool prot lim cells pkts bytes =
    if s.pair.noShadow then s else
      ({ s with pair := { s.pair with noShadow := true } } : State).raise 103 3 0 :=
  if_neg (ne_true_of_eq_false h)

theorem qckptIn_writes {d : List Byte} (hq : q < 65536) (h : s.shadowOk = true)
    (hread : s.memRead (s.shadowAddr q) 13 = (u, d, false)) : s.qckptIn q st pool prot lim cells pkts bytes =
      u.memWrite (s.shadowAddr q) 13
        (patch d (s.shadowAddr q % 64) (shadowEntry st pool prot lim cells pkts bytes)) false := by
  refine (if_pos h).trans ?_
  rw [Nat.mod_eq_of_lt hq]
  dsimp only
  rw [hread]
  rfl

end

/-! The partner's state, roles and a resynchronisation (R575, R586, R588–R594). -/

/-- What a HELLO makes of the partner. -/
def State.helloFar (s : State) (r m : Nat) (single : Bool) (current : Nat) : State :=
  (s.losePartner 5 m).farState r m single current

section
variable {r m c : Nat} {single : Bool} (hu : s.helloFar r m single c = u)
include hu

theorem helloIn_standalone (h : u.role = 0) : s.helloIn r m single c = u := by
  subst hu
  exact if_pos h

theorem helloIn_conflict (hrole : u.role ≠ 0) (h : r = u.role) : s.helloIn r m single c =
    if u.pair.conflict then u else ({ u with pair := { u.pair with conflict := true } } : State).raise 102 2 0 := by
  subst hu
  exact (if_neg hrole).trans (if_pos h)

theorem helloIn_counts (hrole : u.role ≠ 0) (h : r ≠ u.role) : s.helloIn r m single c =
    ({ u with pair := { u.pair with helloGot := true } } : State).tryJoin := by
  subst hu
  exact (if_neg hrole).trans (if_neg h)

end

theorem roleIn_taken (hjoined : s.joined = true) (hnone : s.pair.roleAsk = none) : s.roleIn r false =
    ({ s with pair := { s.pair with roleAsk := some r, roleFar := true } } : State).roleSettle :=
  (if_neg Bool.false_ne_true).trans (if_pos ⟨hjoined, by rw [hnone]; rfl⟩)

section
variable {o : Nat} (hask : s.pair.roleAsk = some o)
include hask

theorem roleIn_acknowledged (hown : s.pair.roleFar = false) : s.roleIn r true = (s.setRole o true).roleEnd 1 := by
  refine (if_pos rfl).trans ?_
  rw [hask]
  exact if_neg (ne_true_of_eq_false hown)

theorem roleIn_busy : s.roleIn r false = s :=
  (if_neg Bool.false_ne_true).trans (if_neg fun h => absurd h.2 (by rw [hask]; exact Bool.false_ne_true))

end

/-- A region whose copy has ended is no longer diverged, and current here. -/
def State.copied (s : State) (n : Nat) : State :=
  ({ s with pair := { s.pair with diverged := setBits s.pair.diverged n n 0 } } : State).setCurrent n true

theorem rsyncIn_ended : s.rsyncIn 2 n =
    ((s.copied n).wr Fd.PAIR_STAT_DIVERGED (b2n ((s.copied n).pair.diverged != 0))).setResync
      { s.resync with inRgn := none } := rfl

end Sys2Proof.Machine

section
open Sys2Proof Sys2Proof.Machine

/-- Settles O51, message by message, by the checks each makes before it acts. -/
theorem pairMessagesReceived : Obligations.PairMessagesReceived := by
  intro s hs
  have live {v w : State} (h : v = w) : s.act v = .next w := (act_live s v hs).trans (congrArg _ h)
  refine ⟨fun x line keyed psn copy urg label entry data n => ?mwr, fun x op h d => exec_mexecRecv hs op h d,
    fun x st h => live (mcmtIn_unknown h), fun x p t hp ht => live (mcmtIn_done hp ht),
    fun x st fl m r d h => live (mresIn_unknown h), fun x st fl m r d p t hp ht => live (mresIn_answers hp ht),
    fun n i p b h => live (cdeltaIn_gap h), fun n i p b hset hi => ⟨fun h => live (cdeltaIn_held hset hi h),
      fun h => live (cdeltaIn_adds hset hi h)⟩,
    fun n i lost ep p b => ⟨fun h => live (csetIn_gap h), fun hset hi h => live (csetIn_sets hset hi h),
      fun hset hi h => live (csetIn_held hset hi h)⟩,
    fun t => act_live s _ hs, fun q st pool prot lim cells pkts bytes h => live (qckptIn_noShadow h),
    fun q st pool prot lim cells pkts bytes u d hq h hread => live (qckptIn_writes hq h hread),
    fun r m sg c => act_live s _ hs, fun r m sg c => ⟨fun h => live (helloIn_standalone rfl h),
      fun hrole h => live (helloIn_conflict rfl hrole h), fun hrole h => live (helloIn_counts rfl hrole h)⟩,
    fun m => act_live s _ hs, fun r hjoined hnone => live (roleIn_taken hjoined hnone),
    fun r o hask hown => ⟨live (roleIn_acknowledged hask hown), live (roleIn_busy hask)⟩,
    fun n => ⟨act_live s _ hs, act_live s _ hs, act_live s _ hs, live rsyncIn_ended⟩⟩
  case mwr =>
    have acts {w : State} (hnone : s.pair.waitW = []) (hfree : s.mwrWaits line = false)
        (h : s.mwrApply x line keyed psn copy urg label entry data = w) :
        exec (.mwrRecv x line keyed psn copy urg label entry data) s = .next w :=
      live ((mwrIn_applies hnone hfree).trans h)
    refine ⟨fun h => live (mwrIn_waits h), fun hnone hfree => ⟨fun h => acts hnone hfree (mwrApply_outside h),
      fun hrgn h => acts hnone hfree (mwrApply_unmirrored hrgn h), fun hrgn hmirror =>
        ⟨fun h => acts hnone hfree (mwrApply_fenced hrgn hmirror h), fun hserved hrole hcopy hpend =>
          acts hnone hfree (mwrApply_yields hrgn hmirror hserved hrole hcopy hpend), fun hserved hgoes => ?_⟩⟩⟩
    have written := mwrApply_writes (x := x) (keyed := keyed) (psn := psn) (urg := urg) (label := label) (entry := entry)
      (data := data) hrgn hmirror hserved hgoes
    refine ⟨fun h => acts hnone hfree ?_, fun r hcopy hr => ⟨fun h => acts hnone hfree ?_, fun h => acts hnone hfree ?_⟩⟩
    · rw [written, copyMoved_none h]
    · rw [written, copyMoved_elsewhere hr h]
    · subst hcopy
      rw [written, copyMoved_moves hr h]

end

/-! ### The pair's own steps (R575, R586–R594, R602) -/

namespace Sys2Proof.Machine

variable {s u : State} {n r : Nat}

/-! HELLO, HB and the timeouts (R575, R586, R587). -/

/-- HELLO as this part sends it. -/
def State.helloOut (s : State) : State :=
  s.pairSend (.hello s.role s.mode (s.on Fd.PAIR_STAT_SINGLE_WR) s.currentMask)

section
variable (hs : s.inReset = false)
include hs

theorem exec_helloSend_sends (htalks : s.pairTalks = true) (hjoined : s.joined = false) (hrole : s.role ≠ 0) :
    exec .helloSend s =
      .next ({ s.helloOut with pair := { s.helloOut.pair with helloSent := true } } : State).tryJoin :=
  (act_live s _ hs).trans (congrArg _ (if_pos ⟨htalks, by rw [hjoined]; rfl, hrole⟩))

theorem exec_helloSend_none (h : s.joined = true ∨ s.role = 0 ∨ s.pairTalks = false) : exec .helloSend s = .next s := by
  refine (act_live s _ hs).trans (congrArg _ (if_neg fun ⟨talks, single, role⟩ => ?_))
  rcases h with joined | standalone | silent
  · simp [joined] at single
  · exact role standalone
  · exact absurd talks (ne_true_of_eq_false silent)

theorem exec_hbSend (h : s.joined = true) : exec .hbSend s =
    .next ((s.pairSend (.hb s.role s.mode (s.on Fd.PAIR_STAT_SINGLE_WR) s.currentMask)).roleSettle) :=
  (act_live s _ hs).trans (congrArg _ (if_pos h))

theorem exec_hbSend_none (h : s.joined = false) : exec .hbSend s = .next s :=
  (act_live s _ hs).trans (congrArg _ (if_neg (ne_true_of_eq_false h)))

omit hs in
theorem losePartner_single (h : s.joined = false) (reason mode : Nat) : s.losePartner reason mode = s :=
  if_pos (congrArg not h :)

theorem exec_answerTimeout_loses (h : s.pair.pendW ≠ [] ∨ s.pair.pendX ≠ []) :
    exec .answerTimeout s = .next (s.losePartner 4 0) := by
  refine (act_live s _ hs).trans (congrArg _ (if_neg fun ⟨writes, requests⟩ => ?_))
  rcases h with pending | pending
  · exact pending (List.isEmpty_iff.1 writes)
  · exact pending (List.isEmpty_iff.1 requests)

theorem exec_answerTimeout_none (hw : s.pair.pendW = []) (hx : s.pair.pendX = []) : exec .answerTimeout s = .next s :=
  (act_live s _ hs).trans (congrArg _ (if_pos ⟨List.isEmpty_iff.2 hw, List.isEmpty_iff.2 hx⟩))

theorem exec_answerTimeout_single (h : s.joined = false) : exec .answerTimeout s = .next s := by
  refine (act_live s _ hs).trans (congrArg _ ?_)
  rw [losePartner_single h, ite_self]

/-! Role changes (R594). -/

theorem exec_roleChange (hr : r < 3) (h : s.roleGo r = u) : exec (.roleChange r) s = .next u :=
  (act_live s _ hs).trans (congrArg _ ((if_pos hr).trans h))

theorem exec_roleChangeTimeout (h : s.pair.roleAsk ≠ none) :
    exec .roleChangeTimeout s = .next ((s.roleEnd 4).raise 102 4 0) :=
  (act_live s _ hs).trans (congrArg _ (if_pos (Option.isSome_iff_ne_none.2 h)))

theorem exec_roleChangeTimeout_none (h : s.pair.roleAsk = none) : exec .roleChangeTimeout s = .next s :=
  (act_live s _ hs).trans (congrArg _ (if_neg (by rw [h]; exact Bool.false_ne_true)))

end

theorem roleGo_busy (h : s.pair.roleAsk ≠ none) : s.roleGo r = s.wr Fd.PAIR_ROLE_RESULT 3 := by
  have busy : s.pair.roleAsk.isSome = true := Option.isSome_iff_ne_none.2 h
  simp only [State.roleGo, busy, if_true]

section
variable (hidle : s.pair.roleAsk = none) (hu : s.wr Fd.PAIR_ROLE_ROLE r = u)
include hidle hu

theorem roleGo_idle : s.roleGo r =
    if !u.joined then (u.setRole r (u.mode != mBOOT)).wr Fd.PAIR_ROLE_RESULT 1
    else if r = 0 then (((u.losePartner 2 u.mode).pairSend (.leave u.mode)).setRole 0 true).wr Fd.PAIR_ROLE_RESULT 1
    else (({ u with pair := { u.pair with roleAsk := some r, roleFar := false } } : State).wr
      Fd.PAIR_ROLE_RESULT 2).pairSend (.role (3 - r) false) := by
  have idle : s.pair.roleAsk.isSome = false := by rw [hidle]; rfl
  simp only [State.roleGo, idle, Bool.false_eq_true, if_false, hu]

theorem roleGo_single (h : u.joined = false) :
    s.roleGo r = (u.setRole r (u.mode != mBOOT)).wr Fd.PAIR_ROLE_RESULT 1 :=
  (roleGo_idle hidle hu).trans (if_pos (congrArg not h :))

variable (hjoined : u.joined = true)
include hjoined

theorem roleGo_leaves (h : r = 0) : s.roleGo r =
    (((u.losePartner 2 u.mode).pairSend (.leave u.mode)).setRole 0 true).wr Fd.PAIR_ROLE_RESULT 1 :=
  (roleGo_idle hidle hu).trans ((if_neg (ne_true_of_eq_false (congrArg not hjoined :))).trans (if_pos h))

theorem roleGo_asks (h : r ≠ 0) : s.roleGo r =
    (({ u with pair := { u.pair with roleAsk := some r, roleFar := false } } : State).wr
      Fd.PAIR_ROLE_RESULT 2).pairSend (.role (3 - r) false) :=
  (roleGo_idle hidle hu).trans ((if_neg (ne_true_of_eq_false (congrArg not hjoined :))).trans (if_neg h))

end

/-! A resynchronisation asked for (R593, R602). -/

theorem resyncGo_busy {self : Bool} (hjoined : s.joined = true) (h : s.pair.resync ≠ none) :
    s.resyncGo self = s.wr Fd.PAIR_RESYNC_RESULT 3 := by
  have busy : s.pair.resync.isSome = true := Option.isSome_iff_ne_none.2 h
  simp only [State.resyncGo, hjoined, busy, Bool.and_self, if_true, Bool.not_true, Bool.false_eq_true, if_false]

section
variable {self : Bool} (hidle : s.joined = false ∨ s.pair.resync = none)
  (hu : s.wr Fd.PAIR_RESYNC_SOURCE_SELF (b2n self) = u)
include hidle hu

theorem resyncGo_single (h : u.joined = false) : s.resyncGo self = u.wr Fd.PAIR_RESYNC_RESULT 2 := by
  have idle : (s.joined && s.pair.resync.isSome) = false := by
    rcases hidle with single | none
    · rw [single, Bool.false_and]
    · rw [none, Option.isSome_none, Bool.and_false]
  simp only [State.resyncGo, idle, Bool.false_eq_true, if_false, hu, h, Bool.not_false, if_true]

theorem resyncGo_starts (h : u.joined = true) :
    let v := ({ u with pair := { u.pair with diverged := 0 } } : State).wr Fd.PAIR_STAT_DIVERGED 0
    s.resyncGo self = (if self then v.startResync u.mirrored [] true else v.startResync [] u.mirrored false).wr
      Fd.PAIR_RESYNC_RESULT 1 := by
  have idle : (s.joined && s.pair.resync.isSome) = false := by
    rcases hidle with single | none
    · rw [single, Bool.false_and]
    · rw [none, Option.isSome_none, Bool.and_false]
  simp only [State.resyncGo, idle, Bool.false_eq_true, if_false, hu, h, Bool.not_true]

end

theorem joined_sourceSelf (self : Bool) : (s.wr Fd.PAIR_RESYNC_SOURCE_SELF (b2n self)).joined = s.joined :=
  on_wr_other s _ (by decide) (by decide) (by decide)

/-! The copy's next step (R590). -/

section
variable (hout : s.resync.outRgn = none)
include hout

theorem copyNext_starts {rest : List Nat} (h : s.resync.outTodo = n :: rest) : s.copyNext =
    ((s.setResync { s.resync with
      outRgn := some n
      outNext := (s.rgn n).start / 64
      outTodo := rest }).wr Fd.PAIR_STAT_RESYNC_RGN n).pairSend (.rsync 1 n) := by
  rw [State.copyNext]
  dsimp only
  rw [hout]
  dsimp only
  rw [h]

theorem copyNext_idle (h : s.resync.outTodo = []) (hcnt : s.resync.outCnt = false) : s.copyNext = s := by
  rw [State.copyNext]
  dsimp only
  rw [hout]
  dsimp only
  rw [h]
  exact if_neg (ne_true_of_eq_false hcnt)

end

section
variable (hout : s.resync.outRgn = some n)
include hout

section
variable (hkind : (s.rgn n).kind ≠ kTAGSTORE) (hmore : 64 * s.resync.outNext < (s.rgn n).stop)
include hkind hmore

theorem copyNext_waits (h : s.mwrFenced n (64 * s.resync.outNext) = true) : s.copyNext = s := by
  rw [State.copyNext]
  dsimp only
  rw [hout]
  exact (if_neg (not_or_intro hkind (Nat.not_le.2 hmore))).trans (if_pos h)

/-- The next line is read as stored and sent as an MWR of the copy. -/
theorem copyNext_sends (h : s.mwrFenced n (64 * s.resync.outNext) = false) :
    let a := 64 * s.resync.outNext
    let l := (s.charge 255 64 (decide (cremaWin ≤ a))).storedLine n a
    let x := l.1.pair.nextXid % 65536
    let v := l.1.pairSend (.mwr x s.resync.outNext (!l.2.2.1.isEmpty) l.2.2.2 true 0 255 l.2.2.1 l.2.1)
    s.copyNext = (((({ v with pair := { v.pair with
        nextXid := v.pair.nextXid + 1
        pendW := v.pair.pendW ++ [(x, s.resync.outNext, 0)] } } : State).setResync
      { s.resync with outNext := s.resync.outNext + 1 }).wr Fd.PAIR_RSYNC_PT_LO_ADDR (bits a 31 6)).wr
        Fd.PAIR_RSYNC_PT_HI_ADDR (bits a 39 32)) := by
  rw [State.copyNext]
  dsimp only
  rw [hout]
  exact (if_neg (not_or_intro hkind (Nat.not_le.2 hmore))).trans (if_neg (ne_true_of_eq_false h))

end

/-- A region all of whose lines are sent is current here, and no longer diverged. -/
theorem copyNext_ends {m : Nat} {rest : List Nat} (htodo : s.resync.outTodo = m :: rest)
    (h : (s.rgn n).kind = kTAGSTORE ∨ (s.rgn n).stop ≤ 64 * s.resync.outNext) :
    let u := (s.setCurrent n true).pairSend (.rsync 2 n)
    let v : State := { u with pair := { u.pair with diverged := setBits u.pair.diverged n n 0 } }
    s.copyNext = (v.wr Fd.PAIR_STAT_DIVERGED (b2n (v.pair.diverged != 0))).setResync
      { s.resync with outRgn := none } := by
  rw [State.copyNext]
  dsimp only
  rw [hout]
  refine (if_pos h).trans ?_
  rw [htodo]
  rfl

end

end Sys2Proof.Machine

section
open Sys2Proof Sys2Proof.Machine

/-- Settles O52, step by step: the timeouts by whether the parts are joined, a role change and a resynchronisation by
their checks in order, and the copy by what it has still to send. -/
theorem pairOwnSteps : Obligations.PairOwnSteps := by
  intro s hs
  have live {v w : State} (h : v = w) : s.act v = .next w := (act_live s v hs).trans (congrArg _ h)
  refine ⟨exec_helloSend_sends hs, exec_helloSend_none hs, exec_hbSend hs,
    fun h => ⟨exec_hbSend_none hs h, live (losePartner_single h 1 0), exec_answerTimeout_single hs h⟩, act_live s _ hs,
    exec_answerTimeout_loses hs, exec_answerTimeout_none hs, fun r hr => ⟨fun h => exec_roleChange hs hr (roleGo_busy h),
      fun hidle h => exec_roleChange hs hr (roleGo_single hidle rfl h),
      fun hidle hjoined h => exec_roleChange hs hr (roleGo_leaves hidle rfl hjoined h),
      fun hidle hjoined h => exec_roleChange hs hr (roleGo_asks hidle rfl hjoined h)⟩,
    exec_roleChangeTimeout hs, exec_roleChangeTimeout_none hs, fun self => ⟨fun h => live ?single,
      fun hjoined h => live (resyncGo_busy hjoined h), fun _ hidle h => live (resyncGo_starts (.inr hidle) rfl h)⟩,
    fun n rest hout h => live (copyNext_starts hout h), fun n hout hkind hmore =>
      ⟨fun h => live (copyNext_waits hout hkind hmore h), fun h => live (copyNext_sends hout hkind hmore h)⟩,
    fun n m rest hout htodo h => live (copyNext_ends hout htodo h),
    fun hout h hcnt => live (copyNext_idle hout h hcnt)⟩
  case single => exact resyncGo_single (.inl h) rfl ((joined_sourceSelf self).trans h)

end

/-! ### The fault collector's commands (R681–R697) -/

namespace Sys2Proof.Machine

variable {s : State} {m : Msg} {k src : Nat} {a : Act} {t : Option Nat}

/-! A message accepted (R632, R681). -/

section
variable (hs : s.inReset = false)
include hs

theorem exec_faultMessage_off (h : s.coreOff = true) : exec (.faultMessage src) s = .next s :=
  (act_live s _ hs).trans (congrArg _ (if_pos h))

/-- The message at a place of the outbox is accepted. -/
theorem exec_faultMessage_at {i : Nat} (hcore : s.coreOff = false)
    (hi : (if (s.flt.outbox.findIdx fun (m : Msg) => m.source == src) < s.flt.outbox.length then
      s.flt.outbox.findIdx fun (m : Msg) => m.source == src else 0) = i) (hm : s.flt.outbox[i]? = some m) :
    exec (.faultMessage src) s =
      .next (({ s with flt := { s.flt with outbox := s.flt.outbox.eraseIdx i } } : State).acceptMsg m) := by
  refine (act_live s _ hs).trans (congrArg _ ((if_neg (ne_true_of_eq_false hcore)).trans ?_))
  dsimp only
  rw [hi, hm]

theorem exec_faultMessage_empty (h : s.flt.outbox = []) : exec (.faultMessage src) s = .next s := by
  refine (act_live s _ hs).trans (congrArg _ ?_)
  rw [h]
  exact ite_self s

theorem exec_faultMessage_first {pre post : List Msg} (hcore : s.coreOff = false) (hout : s.flt.outbox = pre ++ m :: post)
    (hm : m.source = src) (hpre : ∀ x ∈ pre, x.source ≠ src) : exec (.faultMessage src) s =
      .next (({ s with flt := { s.flt with outbox := pre ++ post } } : State).acceptMsg m) := by
  have place : (s.flt.outbox.findIdx fun (m : Msg) => m.source == src) = pre.length := by
    rw [hout, List.findIdx_append, List.findIdx_eq_length_of_false (by simpa using hpre), if_neg (Nat.lt_irrefl _),
      List.findIdx_cons, hm, beq_self_eq_true, cond_true, Nat.zero_add]
  have inside : pre.length < s.flt.outbox.length := by rw [hout]; simp
  rw [exec_faultMessage_at (m := m) hs hcore (by rw [place, if_pos inside]) (by rw [hout]; simp), hout,
    List.eraseIdx_append_of_length_le (Nat.le_refl _), Nat.sub_self, List.eraseIdx_zero, List.tail_cons]

theorem exec_faultMessage_oldest {post : List Msg} (hcore : s.coreOff = false) (hout : s.flt.outbox = m :: post)
    (hnone : ∀ x ∈ s.flt.outbox, x.source ≠ src) : exec (.faultMessage src) s =
      .next (({ s with flt := { s.flt with outbox := post } } : State).acceptMsg m) := by
  have place : (s.flt.outbox.findIdx fun (m : Msg) => m.source == src) = s.flt.outbox.length :=
    List.findIdx_eq_length_of_false (by simpa using hnone)
  rw [exec_faultMessage_at hs hcore (by rw [place, if_neg (Nat.lt_irrefl _)]) (by rw [hout]; rfl), hout,
    List.eraseIdx_zero, List.tail_cons]

end

/-! What an accepted message sets off (R688, R689, R692, R696). -/

theorem actOn_quiet (h : m.test = true ∨ m.sev < 2) : s.actOn m = s := if_pos h

section
variable (htest : m.test = false) (hsrc : m.source ≠ 19)
include htest hsrc

theorem actOn_opens (h : m.sev = 2) : s.actOn m = s.openAction m := by
  have acts : ¬ (m.test = true ∨ m.sev < 2) := not_or_intro (ne_true_of_eq_false htest) (by omega)
  exact (if_neg acts).trans ((if_neg fun trip => hsrc trip.1).trans (if_pos h))

theorem actOn_fatal (h : 2 < m.sev) : s.actOn m =
    (if s.rd (Fd.FLT_SRC_ESC m.source) = 1 then s.applyFence (s.fenceTarget m) else s).askLockdown m := by
  have acts : ¬ (m.test = true ∨ m.sev < 2) := not_or_intro (ne_true_of_eq_false htest) (by omega)
  exact (if_neg acts).trans ((if_neg fun trip => hsrc trip.1).trans (if_neg (by omega)))

end

/-- A message delivered and its triggers taken. -/
def State.delivered (s : State) (m : Msg) : State :=
  ((s.wr Fd.FLT_SEQ_SEQ (m.seq + 1)).deliverMsg m).msgTrigger m

/-- The message with the next sequence number. -/
def State.sequenced (s : State) (m : Msg) : Msg := { m with seq := s.rd Fd.FLT_SEQ_SEQ }

theorem acceptMsg_eq (s : State) (m : Msg) : s.acceptMsg m =
    ((s.delivered (s.sequenced m)).actOn (s.sequenced m)).ackPatrolled (s.sequenced m) := rfl

theorem ackPatrolled_other (h : m.source ≠ 153 ∨ m.kind = 2) : s.ackPatrolled m = s := by
  refine if_neg fun ⟨patrol, kind, _⟩ => ?_
  rcases h with source | stored
  · exact source patrol
  · exact kind stored

/-! Escalation (R693, R695, R720). -/

theorem expire_none (h : ∀ a ∈ s.flt.acts, a.slot ≠ k) : s.expire k = s := by
  have none : s.flt.acts.find? (fun (a : Act) => a.slot == k) = none :=
    List.find?_eq_none.2 fun a ha => by simpa using h a ha
  rw [State.expire, none]

/-- The entry in a slot closed. -/
def State.entryClosed (s : State) (k : Nat) : State :=
  { s with flt := { s.flt with acts := s.flt.acts.filter fun (x : Act) => x.slot != k } }

section
variable (ha : s.flt.acts.find? (fun (a : Act) => a.slot == k) = some a)
include ha

theorem expire_held (h : s.coreOff = true) : s.expire k =
    { s with pwr := { s.pwr with heldExp := s.pwr.heldExp.filter (· != k) ++ [k] } } := by
  rw [State.expire, ha]
  exact if_pos h

variable (hcore : s.coreOff = false)
include hcore

theorem expire_escalates (h : s.rd (Fd.FLT_SRC_ESC a.msg.source) ≠ 3) :
    s.expire k = (s.entryClosed k).escalate a.msg a.target := by
  have rule : ¬ (s.entryClosed k).rd (Fd.FLT_SRC_ESC a.msg.source) = 3 := h
  rw [State.expire, ha]
  refine (if_neg (ne_true_of_eq_false hcore)).trans ?_
  rw [State.entryClosed] at rule ⊢
  dsimp only at rule ⊢
  rw [if_neg rule]

theorem expire_locks (h : s.rd (Fd.FLT_SRC_ESC a.msg.source) = 3) :
    s.expire k = ((s.entryClosed k).lockTrigger a.msg).escalate a.msg a.target := by
  have rule : (s.entryClosed k).rd (Fd.FLT_SRC_ESC a.msg.source) = 3 := h
  rw [State.expire, ha]
  refine (if_neg (ne_true_of_eq_false hcore)).trans ?_
  rw [State.entryClosed] at rule ⊢
  dsimp only at rule ⊢
  rw [if_pos rule]

end

theorem lockTrigger_none (h : s.on Fd.OBS_SNAP_CTL_LOCKDOWN_EN = false ∨ s.lockCaused = true) :
    s.lockTrigger m = s := by
  refine if_neg fun ⟨enabled, fresh⟩ => ?_
  rcases h with off | caused
  · exact absurd enabled (ne_true_of_eq_false off)
  · simp [caused] at fresh

theorem lockTrigger_triggers (hen : s.on Fd.OBS_SNAP_CTL_LOCKDOWN_EN = true) (h : s.lockCaused = false) :
    s.lockTrigger m = s.trigger 4 m.source := if_pos ⟨hen, by rw [h]; rfl⟩

/-- An escalation counted and raised. -/
def State.escalated (u : State) (m : Msg) (esc : Nat) : State :=
  (u.count Fd.FLT_CNT_ESC Fd.FLT_CNT_ESC_OVF 1).raise 249 1 (m.source + esc * 256 + m.seq % 2 ^ 24 * 2 ^ 16)

theorem escalate_none (h : s.rd (Fd.FLT_SRC_ESC m.source) = 0) : s.escalate m t = s := if_pos h

section
variable {e : Nat} (hesc : s.rd (Fd.FLT_SRC_ESC m.source) = e)
include hesc

/-- An escalation rule other than 0 acts, and is counted and raised. -/
theorem escalate_acts {u : State} (h0 : e ≠ 0) (hu : (if e = 1 then s.applyFence t else if s.mode = mLOCKDOWN then s
    else if e = 2 then s.askDegraded true else s.askLockdown m) = u) : s.escalate m t = u.escalated m e := by
  subst hesc hu
  exact if_neg h0

theorem escalate_fences (h : e = 1) : s.escalate m t = (s.applyFence t).escalated m e :=
  escalate_acts hesc (by omega) (if_pos h)

theorem escalate_inLockdown (h : e = 2 ∨ e = 3) (hmode : s.mode = mLOCKDOWN) : s.escalate m t = s.escalated m e :=
  escalate_acts hesc (by omega) ((if_neg (by omega)).trans (if_pos hmode))

variable (hmode : s.mode ≠ mLOCKDOWN)
include hmode

theorem escalate_degrades (h : e = 2) : s.escalate m t = (s.askDegraded true).escalated m e :=
  escalate_acts hesc (by omega) ((if_neg (by omega)).trans ((if_neg hmode).trans (if_pos h)))

theorem escalate_locks (h : e = 3) : s.escalate m t = (s.askLockdown m).escalated m e :=
  escalate_acts hesc (by omega) ((if_neg (by omega)).trans ((if_neg hmode).trans (if_neg (by omega))))

end

/-! Acknowledgement (R692). -/

section
variable {u : State} {seq now : Nat} {acts : List Act} (hsrc : u.rd Fd.FLT_ACK_SOURCE = src)
  (hseq : u.rd Fd.FLT_ACK_SEQ_SEQ = seq) (hacts : u.flt.acts = acts) (hnow : u.clk.time = now)
include hsrc hseq hacts hnow

theorem ackGo_none (h : acts.find? (fun (a : Act) => a.covers src seq now) = none) :
    u.ackGo = u.wr Fd.FLT_ACK_RESULT 2 := by
  have uncovered : (acts.any fun (a : Act) => a.covers src seq now) = false :=
    List.any_eq_false.2 (List.find?_eq_none.1 h)
  simp only [State.ackGo, hsrc, hseq, hacts, hnow, uncovered, Bool.false_eq_true, if_false]

theorem ackGo_closes (h : acts.find? (fun (a : Act) => a.covers src seq now) = some a) :
    u.ackGo = ({ u with flt := { u.flt with acts := acts.filter fun (x : Act) => x.slot != a.slot } } : State).wr
      Fd.FLT_ACK_RESULT 1 := by
  have named : (acts.any fun (a : Act) => a.covers src seq now) = true :=
    List.any_eq_true.2 ⟨a, List.mem_of_find?_eq_some h,
      List.find?_some (p := fun (a : Act) => a.covers src seq now) h⟩
  simp only [State.ackGo, hsrc, hseq, hacts, hnow, named, if_true, Flt.ack, h]

end

/-- An acknowledgement as written to its registers. -/
def State.ackAsked (s : State) (src seq : Nat) : State := (s.wr Fd.FLT_ACK_SEQ_SEQ seq).wr Fd.FLT_ACK_SOURCE src

theorem flt_ackAsked (s : State) (src seq : Nat) : (s.ackAsked src seq).flt = s.flt := by
  rw [State.ackAsked, wr_flt, wr_flt]

theorem clk_ackAsked (s : State) (src seq : Nat) : (s.ackAsked src seq).clk = s.clk := by
  rw [State.ackAsked, wr_clk, wr_clk]

/-! Test messages (R697). -/

/-- The operands of a test message as written to its registers. -/
def State.msgAsked (s : State) (src sev addr : Nat) : State :=
  (((s.wr Fd.FLT_TEST_ADDR_ADDR addr).wr Fd.FLT_TEST_ADDR_HI (addr / 2 ^ 32)).wr Fd.FLT_TEST_SOURCE src).wr
    Fd.FLT_TEST_SEV sev

theorem exec_testMessage_reserved {kind sev addr : Nat} (hs : s.inReset = false) (h : kind % 64 = 0) :
    exec (.testMessage src kind sev addr) s = .next (s.msgAsked src sev addr) :=
  (act_live s _ hs).trans (congrArg _ (if_pos h))

section
variable {kind sev addr : Nat} (hkind : kind < 64) (hsrc : src < 256) (hsev : sev < 4) (haddr : addr < 2 ^ 40)

include hkind in
theorem rd_testKind (v : State) : (v.wr Fd.FLT_TEST_KIND kind).rd Fd.FLT_TEST_KIND = kind :=
  (rd_wr_same v kind (by decide)).trans (Nat.mod_eq_of_lt hkind)

include hsrc in
theorem rd_testSource : ((s.msgAsked src sev addr).wr Fd.FLT_TEST_KIND kind).rd Fd.FLT_TEST_SOURCE = src := by
  rw [State.msgAsked, rd_wr_other _ _ (by decide) (by decide) (by decide),
    rd_wr_other _ _ (by decide) (by decide) (by decide), rd_wr_same _ _ (by decide)]
  exact Nat.mod_eq_of_lt hsrc

include hsev in
theorem rd_testSev : ((s.msgAsked src sev addr).wr Fd.FLT_TEST_KIND kind).rd Fd.FLT_TEST_SEV = sev := by
  rw [State.msgAsked, rd_wr_other _ _ (by decide) (by decide) (by decide), rd_wr_same _ _ (by decide)]
  exact Nat.mod_eq_of_lt hsev

theorem rd_testAddr :
    ((s.msgAsked src sev addr).wr Fd.FLT_TEST_KIND kind).rd Fd.FLT_TEST_ADDR_ADDR = addr % 2 ^ 32 := by
  rw [State.msgAsked, rd_wr_other _ _ (by decide) (by decide) (by decide),
    rd_wr_other _ _ (by decide) (by decide) (by decide), rd_wr_other _ _ (by decide) (by decide) (by decide),
    rd_wr_other _ _ (by decide) (by decide) (by decide), rd_wr_same _ _ (by decide)]
  rfl

include haddr in
theorem rd_testAddrHi :
    ((s.msgAsked src sev addr).wr Fd.FLT_TEST_KIND kind).rd Fd.FLT_TEST_ADDR_HI = addr / 2 ^ 32 := by
  rw [State.msgAsked, rd_wr_other _ _ (by decide) (by decide) (by decide),
    rd_wr_other _ _ (by decide) (by decide) (by decide), rd_wr_other _ _ (by decide) (by decide) (by decide),
    rd_wr_same _ _ (by decide)]
  exact Nat.mod_eq_of_lt (Nat.div_lt_of_lt_mul haddr)

include hkind hsrc hsev haddr in
/-- The message posted carries the operands as given. -/
theorem testGo_posts (h0 : 0 < kind) :
    ((s.msgAsked src sev addr).wr Fd.FLT_TEST_KIND kind).testGo =
      ((s.msgAsked src sev addr).wr Fd.FLT_TEST_KIND kind).post
        { source := src
          kind := kind
          sev := sev
          addr := addr
          time := s.stamp
          injected := true
          test := true } := by
  have stamp : ((s.msgAsked src sev addr).wr Fd.FLT_TEST_KIND kind).stamp = s.stamp := by
    simp only [State.stamp, State.msgAsked, wr_clk]
  have whole : addr % 2 ^ 32 + addr / 2 ^ 32 * 2 ^ 32 = addr := by omega
  rw [State.testGo]
  simp only [rd_testKind hkind, rd_testSource hsrc, rd_testSev hsev, rd_testAddr, rd_testAddrHi haddr, whole, stamp]
  exact if_neg (by omega)

end

end Sys2Proof.Machine

section
open Sys2Proof Sys2Proof.Machine

/-- Settles O58, command by command: an acceptance by the place of its message in the outbox, an expiry and an
acknowledgement by the entry they find, an escalation by its rule. -/
theorem collectorCommands : Obligations.CollectorCommands := by
  intro s hs
  have live {v w : State} (h : v = w) : s.act v = .next w := (act_live s v hs).trans (congrArg _ h)
  refine ⟨fun src h => h.elim (exec_faultMessage_off hs) (exec_faultMessage_empty hs),
    fun src m pre post hcore hout hm hpre => exec_faultMessage_first hs hcore hout hm hpre,
    fun src m post hcore hout hnone => exec_faultMessage_oldest hs hcore hout hnone, fun m => ?accepted,
    fun m => ackPatrolled_other, fun k h => live (expire_none h),
    fun k a ha => ⟨fun h => live (expire_held ha h), fun hcore h => live (expire_escalates ha hcore h),
      fun hcore h => live (expire_locks ha hcore h)⟩,
    fun m => ⟨lockTrigger_none, lockTrigger_triggers⟩, fun m t => ?escalation, fun src seq => ?acknowledged,
    fun src kind sev addr => ⟨exec_testMessage_reserved hs, fun h0 hkind hsrc hsev haddr => ?tested⟩, act_live s _ hs⟩
  case accepted =>
    have acts {w : State} (h : (s.delivered (s.sequenced m)).actOn (s.sequenced m) = w) :
        s.acceptMsg m = w.ackPatrolled (s.sequenced m) := (acceptMsg_eq s m).trans (congrArg (State.ackPatrolled · (s.sequenced m)) h)
    exact ⟨fun h => acts (actOn_quiet h), fun htest hsev hsrc => acts (actOn_opens htest hsrc hsev),
      fun htest hsev hsrc => acts (actOn_fatal htest hsrc hsev)⟩
  case escalation =>
    refine ⟨escalate_none, fun h => ?_, fun h hmode => ?_, fun h hmode => ?_, fun h hmode => ?_⟩
    · exact escalate_fences rfl h
    · exact escalate_degrades rfl hmode h
    · exact escalate_locks rfl hmode h
    · exact escalate_inLockdown rfl h hmode
  case acknowledged =>
    have acts : (s.ackAsked src seq).flt.acts = s.flt.acts := congrArg Flt.acts (flt_ackAsked s src seq)
    have now : (s.ackAsked src seq).clk.time = s.clk.time := by rw [clk_ackAsked]
    exact ⟨fun h => live (ackGo_none rfl rfl acts now h), fun a h => live (ackGo_closes rfl rfl acts now h)⟩
  case tested =>
    refine (act_live s _ hs).trans (congrArg _ ?_)
    rw [Nat.mod_eq_of_lt hkind]
    exact (if_neg (by omega)).trans (testGo_posts hkind hsrc hsev haddr h0)

end

/-! ### Calibration commands and windows; snapshots and monitors (R660–R665, R720–R732) -/

namespace Sys2Proof.Machine

variable {s w u : State} {g level pc lane value op p b : Nat}

/-! A calibration command's argument (R664, R673). -/

theorem le_of_fldOk {f : Fld} (h : f.ok = true) : f.lo ≤ f.hi := of_decide_eq_true (Bool.and_eq_true_iff.1 h).1

section
variable (hlevel : level < 4) (hpc : pc < 4) (hlane : lane < 128) (hvalue : value < 2 ^ 21)

include hlevel in
theorem rd_calArgs_level : (s.calArgs g level pc lane value).rd (Fd.CG_CAL_ARG_LEVEL g) = level := by
  rw [State.calArgs, rd_wr_other _ _ rfl (le_of_fldOk rfl) (by simp [Fld.apart, Fd.CG_CAL_ARG_VALUE, Fd.CG_CAL_ARG_LEVEL]),
    rd_wr_other _ _ rfl (le_of_fldOk rfl) (by simp [Fld.apart, Fd.CG_CAL_ARG_LANE, Fd.CG_CAL_ARG_LEVEL]),
    rd_wr_other _ _ rfl (le_of_fldOk rfl) (by simp [Fld.apart, Fd.CG_CAL_ARG_PC, Fd.CG_CAL_ARG_LEVEL]), rd_wr_same _ _ rfl]
  exact Nat.mod_eq_of_lt hlevel

include hpc in
theorem rd_calArgs_pc : (s.calArgs g level pc lane value).rd (Fd.CG_CAL_ARG_PC g) = pc := by
  rw [State.calArgs, rd_wr_other _ _ rfl (le_of_fldOk rfl) (by simp [Fld.apart, Fd.CG_CAL_ARG_VALUE, Fd.CG_CAL_ARG_PC]),
    rd_wr_other _ _ rfl (le_of_fldOk rfl) (by simp [Fld.apart, Fd.CG_CAL_ARG_LANE, Fd.CG_CAL_ARG_PC]), rd_wr_same _ _ rfl]
  exact Nat.mod_eq_of_lt hpc

include hlane in
theorem rd_calArgs_lane : (s.calArgs g level pc lane value).rd (Fd.CG_CAL_ARG_LANE g) = lane := by
  rw [State.calArgs, rd_wr_other _ _ rfl (le_of_fldOk rfl) (by simp [Fld.apart, Fd.CG_CAL_ARG_VALUE, Fd.CG_CAL_ARG_LANE]),
    rd_wr_same _ _ rfl]
  exact Nat.mod_eq_of_lt hlane

include hvalue in
theorem rd_calArgs_value : (s.calArgs g level pc lane value).rd (Fd.CG_CAL_ARG_VALUE g) = value :=
  (rd_wr_same _ _ rfl).trans (Nat.mod_eq_of_lt hvalue)

end

/-- The argument register of a group holds these operands. -/
structure CalArg (w : State) (g level pc lane value : Nat) : Prop where
  level_eq : w.rd (Fd.CG_CAL_ARG_LEVEL g) = level
  pc_eq : w.rd (Fd.CG_CAL_ARG_PC g) = pc
  lane_eq : w.rd (Fd.CG_CAL_ARG_LANE g) = lane
  value_eq : w.rd (Fd.CG_CAL_ARG_VALUE g) = value

theorem calArg_calArgs (hlevel : level < 4) (hpc : pc < 4) (hlane : lane < 128) (hvalue : value < 2 ^ 21) :
    CalArg (s.calArgs g level pc lane value) g level pc lane value :=
  ⟨rd_calArgs_level hlevel, rd_calArgs_pc hpc, rd_calArgs_lane hlane, rd_calArgs_value hvalue⟩

/-! A calibration command's GO (R664, R665, R672). -/

theorem calGo_busy (h : w.calCmd g ≠ none) : w.calGo g op = w.wr (Fd.CG_CAL_CMD_RESULT g) 3 := by
  have busy : (w.calCmd g).isSome = true := Option.isSome_iff_ne_none.2 h
  simp only [State.calGo, busy, if_true]

section
variable (harg : CalArg w g level pc lane value) (hidle : w.calCmd g = none) (hu : w.wr (Fd.CG_CAL_CMD_OP g) op = u)
include harg hidle hu

/-- An idle group's command is judged by its lane, then by its operation. -/
theorem calGo_idle : w.calGo g op =
    if 65 < lane ∨ op = 0 ∨ 4 < op then u.wr (Fd.CG_CAL_CMD_RESULT g) 5
    else if op = 3 ∧ (spareLane lane ∨ (40 ≤ lane ∧ value % 2 = 1)) then u.wr (Fd.CG_CAL_CMD_RESULT g) 5
    else if op = 1 then
      (if level ≠ u.rd (Fd.CG_STAT_EFF_LEVEL g) ∨ u.cgFenced g then
        ({ u.setDly (4 * g + pc) level lane value with cal := { (u.setDly (4 * g + pc) level lane value).cal with
          dirty := true } } : State).wr (Fd.CG_CAL_CMD_RESULT g) 1
      else u.wr (Fd.CG_CAL_CMD_RESULT g) 5)
    else if op = 4 then (u.wr (Fd.CG_CAL_ARG_VALUE g) (u.dly (4 * g + pc) level lane)).wr (Fd.CG_CAL_CMD_RESULT g) 1
    else if op = 3 ∧ !u.tsvFree (4 * g + pc) (tsvPlace lane).1 (value % 2) then
      u.tsvSwap g ⟨op, level, 4 * g + pc, lane, value⟩
    else (u.setCal g (some ⟨op, level, 4 * g + pc, lane, value⟩) 2).calSettle g := by
  obtain ⟨hlevel, hpc, hlane, hvalue⟩ := harg
  have idle : (w.calCmd g).isSome = false := by rw [hidle]; rfl
  simp only [State.calGo, idle, hlevel, hpc, hlane, hvalue, hu, Bool.false_eq_true, if_false]

theorem calGo_badLane (h : 65 < lane) : w.calGo g op = u.wr (Fd.CG_CAL_CMD_RESULT g) 5 :=
  (calGo_idle harg hidle hu).trans (if_pos (.inl h))

end

section
variable (harg : CalArg w g level pc lane value) (hidle : w.calCmd g = none) (hlane : lane < 66)
include harg hidle hlane

theorem calGo_set (hu : w.wr (Fd.CG_CAL_CMD_OP g) 1 = u)
    (h : level ≠ u.rd (Fd.CG_STAT_EFF_LEVEL g) ∨ u.cgFenced g = true) : w.calGo g 1 =
      ({ u.setDly (4 * g + pc) level lane value with cal := { (u.setDly (4 * g + pc) level lane value).cal with
        dirty := true } } : State).wr (Fd.CG_CAL_CMD_RESULT g) 1 := by
  rw [calGo_idle harg hidle hu, if_neg (by omega), if_neg (by omega), if_pos rfl, if_pos h]

theorem calGo_set_refused (hu : w.wr (Fd.CG_CAL_CMD_OP g) 1 = u) (hlevel : level = u.rd (Fd.CG_STAT_EFF_LEVEL g))
    (hfree : u.cgFenced g = false) : w.calGo g 1 = u.wr (Fd.CG_CAL_CMD_RESULT g) 5 := by
  rw [calGo_idle harg hidle hu, if_neg (by omega), if_neg (by omega), if_pos rfl,
    if_neg (not_or_intro (not_not_intro hlevel) (ne_true_of_eq_false hfree))]

theorem calGo_read (hu : w.wr (Fd.CG_CAL_CMD_OP g) 4 = u) : w.calGo g 4 =
    (u.wr (Fd.CG_CAL_ARG_VALUE g) (u.dly (4 * g + pc) level lane)).wr (Fd.CG_CAL_CMD_RESULT g) 1 := by
  rw [calGo_idle harg hidle hu, if_neg (by omega), if_neg (by omega), if_neg (by omega), if_pos rfl]

theorem calGo_steep (hu : w.wr (Fd.CG_CAL_CMD_OP g) 2 = u) : w.calGo g 2 =
    (u.setCal g (some ⟨2, level, 4 * g + pc, lane, value⟩) 2).calSettle g := by
  rw [calGo_idle harg hidle hu, if_neg (by omega), if_neg (by omega), if_neg (by omega), if_neg (by omega),
    if_neg (by omega)]

section
variable (hu : w.wr (Fd.CG_CAL_CMD_OP g) 3 = u)
include hu

theorem calGo_swap_refused (h : spareLane lane = true ∨ (40 ≤ lane ∧ value % 2 = 1)) :
    w.calGo g 3 = u.wr (Fd.CG_CAL_CMD_RESULT g) 5 := by
  rw [calGo_idle harg hidle hu, if_neg (by omega), if_pos ⟨rfl, h⟩]

variable (hspare : spareLane lane = false) (hsecond : lane < 40 ∨ value % 2 = 0)
include hspare hsecond

theorem calGo_swap (h : u.tsvFree (4 * g + pc) (tsvPlace lane).1 (value % 2) = true) : w.calGo g 3 =
    (u.setCal g (some ⟨3, level, 4 * g + pc, lane, value⟩) 2).calSettle g := by
  have named : ¬ (spareLane lane = true ∨ (40 ≤ lane ∧ value % 2 = 1)) :=
    not_or_intro (ne_true_of_eq_false hspare) (by omega)
  rw [calGo_idle harg hidle hu, if_neg (by omega), if_neg fun swap => named swap.2, if_neg (by omega),
    if_neg (by omega), if_neg (by rw [h]; exact fun free => Bool.false_ne_true free.2)]

/-- A swap whose spare is not free answers 4, and its lane's PIN_SUSPECT messages are acknowledged. -/
theorem calGo_swap_none (h : u.tsvFree (4 * g + pc) (tsvPlace lane).1 (value % 2) = false) : w.calGo g 3 =
    ((u.setCal g none 4).raise (104 + g) 9
      (4 * g + pc + lane * 128 + (tsvPlace lane).1 * 2 ^ 14 + value % 2 * 2 ^ 16)).laneAck (4 * g + pc) lane := by
  have named : ¬ (spareLane lane = true ∨ (40 ≤ lane ∧ value % 2 = 1)) :=
    not_or_intro (ne_true_of_eq_false hspare) (by omega)
  rw [calGo_idle harg hidle hu, if_neg (by omega), if_neg fun swap => named swap.2, if_neg (by omega),
    if_neg (by omega), if_pos ⟨rfl, congrArg not h⟩, State.tsvSwap]
  dsimp only
  rw [if_neg (ne_true_of_eq_false h)]

end

end

section
variable (hs : s.inReset = false) (hg : g < 32)
include hs hg

theorem exec_calSet (h : (s.calArgs g level pc lane value).calGo g 1 = u) :
    exec (.calSet g level pc lane value) s = .next u := by
  refine (act_live s _ hs).trans (congrArg _ ?_)
  rw [Nat.mod_eq_of_lt hg, h]

theorem exec_calSteep (h : (s.calArgs g level pc lane value).calGo g 2 = u) :
    exec (.calSteep g level pc lane value) s = .next u := by
  refine (act_live s _ hs).trans (congrArg _ ?_)
  rw [Nat.mod_eq_of_lt hg, h]

theorem exec_calTsvSwap (h : (s.calArgs g level pc lane value).calGo g 3 = u) :
    exec (.calTsvSwap g level pc lane value) s = .next u := by
  refine (act_live s _ hs).trans (congrArg _ ?_)
  rw [Nat.mod_eq_of_lt hg, h]

theorem exec_calRead (h : (s.calArgs g level pc lane 0).calGo g 4 = u) :
    exec (.calRead g level pc lane) s = .next u := by
  refine (act_live s _ hs).trans (congrArg _ ?_)
  rw [Nat.mod_eq_of_lt hg, h]

end

/-! Windows (R661–R663). -/

theorem exec_steepWindow_refused (hs : s.inReset = false) (obs : List (Nat × Nat × Nat × Nat))
    (h : 128 ≤ p ∨ s.windowOk p b = false) : exec (.steepWindow p b obs) s = .next s := by
  refine (act_live s _ hs).trans (congrArg _ (if_neg fun ⟨inside, granted⟩ => ?_))
  rcases h with beyond | refused
  · omega
  · exact absurd granted (ne_true_of_eq_false refused)

/-- A window's bank lent, and the window counted. -/
def State.windowLent (s : State) (p b : Nat) : State :=
  (s.lend p b).count (Fd.CG_CAL_STAT_WIN_CNT (p / 4)) (Fd.CG_CAL_STAT_WIN_OVF (p / 4)) 1

/-- The disagreements that a window's bursts show. -/
def State.windowNoted (s : State) (p : Nat) (obs : List (Nat × Nat × Nat × Nat)) : State :=
  obs.foldl (fun (v : State) (e : Nat × Nat × Nat × Nat) => v.driftNote p e.1 (e.2.1 % 2) (e.2.2.1 % 2) e.2.2.2) s

section
variable (hs : s.inReset = false) (obs : List (Nat × Nat × Nat × Nat)) (hp : p < 128) (hok : s.windowOk p b = true)
include hs hp hok

theorem exec_steepWindow_idle (h : (s.windowLent p b).calCmd (p / 4) = none) :
    exec (.steepWindow p b obs) s = .next ((s.windowLent p b).windowNoted p obs) := by
  refine (act_live s _ hs).trans (congrArg _ ((if_pos ⟨hp, hok⟩).trans ?_))
  rw [State.windowLent] at h ⊢
  dsimp only
  rw [h]
  rfl

section
variable {c : CalCmd} (h : (s.windowLent p b).calCmd (p / 4) = some c)
include h

theorem exec_steepWindow_applies (hown : c.pc = p) :
    exec (.steepWindow p b obs) s = .next (((s.windowLent p b).calApply (p / 4)).windowNoted p obs) := by
  refine (act_live s _ hs).trans (congrArg _ ((if_pos ⟨hp, hok⟩).trans ?_))
  rw [State.windowLent] at h ⊢
  dsimp only
  rw [h]
  dsimp only
  rw [if_pos hown]
  rfl

theorem exec_steepWindow_other (hother : c.pc ≠ p) :
    exec (.steepWindow p b obs) s = .next ((s.windowLent p b).windowNoted p obs) := by
  refine (act_live s _ hs).trans (congrArg _ ((if_pos ⟨hp, hok⟩).trans ?_))
  rw [State.windowLent] at h ⊢
  dsimp only
  rw [h]
  dsimp only
  rw [if_neg hother]
  rfl

end

end

/-- A table of which only some keys are kept reads as unlisted at the others. -/
theorem get_filter_keys {α : Type} (d : Nat → α) (t : Tab α) (keep : Nat → Bool) (k : Nat) :
    Tab.get d (t.filter fun e => keep e.1) k = if keep k then Tab.get d t k else d k := by
  induction t with
  | nil => exact (ite_self _).symm
  | cons e t ih =>
    obtain ⟨i, v⟩ := e
    by_cases kept : keep i = true
    · rw [List.filter_cons_of_pos (by simpa using kept), Tab.get, Tab.get, ih]
      by_cases same : i = k
      · rw [if_pos same, if_pos same, ← same, if_pos kept]
      · rw [if_neg same, if_neg same]
    · rw [List.filter_cons_of_neg (by simpa using kept), ih, Tab.get]
      by_cases same : i = k
      · rw [← same, if_neg kept, if_neg kept]
      · rw [if_neg same]

/-- The lane's disagreements of its millisecond noted. -/
def State.laneNoted (s : State) (p lane : Nat) (seen : List (Nat × Nat × Nat)) : State :=
  if p < 128 then
    seen.foldl (fun (v : State) (e : Nat × Nat × Nat) => v.driftNote p lane (e.1 % 2) (e.2.1 % 2) e.2.2) s
  else s

/-- The counts of a lane's monitors restarted. -/
def State.laneRestarted (s : State) (p lane : Nat) : State :=
  { s with cal := { s.cal with mon := s.cal.mon.filter fun (e : Nat × Nat) => e.1 / 4 != 66 * p + lane } }

theorem exec_driftWindow (hs : s.inReset = false) (seen : List (Nat × Nat × Nat)) :
    exec (.driftWindow p { lane := lane, seen := seen }) s = .next ((s.laneNoted p lane seen).laneRestarted p lane) :=
  act_live s _ hs

theorem mon_laneRestarted (k : Nat) : Tab.get (fun _ => (0 : Nat)) (s.laneRestarted p lane).cal.mon k =
    if k / 4 = 66 * p + lane then 0 else Tab.get (fun _ => 0) s.cal.mon k := by
  refine (get_filter_keys _ s.cal.mon (fun i => i / 4 != 66 * p + lane) k).trans ?_
  by_cases own : k / 4 = 66 * p + lane
  · rw [if_pos own, if_neg (by simpa using own)]
  · rw [if_neg own, if_pos (by simpa using own)]

/-! Snapshots (R720–R726). -/

section
variable (hs : s.inReset = false)
include hs

theorem exec_snapPin_none (h : s.on Fd.OBS_SNAP_CTL_PIN_EN = false ∨ s.coreOff = true) : exec .snapPin s = .next s := by
  refine (act_live s _ hs).trans (congrArg _ ?_)
  rcases h with masked | unpowered
  · exact if_neg (ne_true_of_eq_false masked)
  · have dark : s.trigger 1 0 = s := if_pos unpowered
    rw [dark, ite_self]

theorem exec_snapPin (hen : s.on Fd.OBS_SNAP_CTL_PIN_EN = true) (h : s.trigger 1 0 = u) : exec .snapPin s = .next u :=
  (act_live s _ hs).trans (congrArg _ ((if_pos hen).trans h))

end

section
variable (hcore : s.coreOff = false) (cause src : Nat)
include hcore

theorem trigger_missed (h : s.tooLate = true) : s.trigger cause src = s.missed cause :=
  (if_neg (ne_true_of_eq_false hcore)).trans (if_pos h)

variable (hlate : s.tooLate = false)
include hlate

theorem trigger_shares (h : s.waving = true) : s.trigger cause src = s.share cause src :=
  (if_neg (ne_true_of_eq_false hcore)).trans ((if_neg (ne_true_of_eq_false hlate)).trans (if_pos h))

theorem trigger_waves (h : s.waving = false) : s.trigger cause src = s.wave cause src :=
  (if_neg (ne_true_of_eq_false hcore)).trans ((if_neg (ne_true_of_eq_false hlate)).trans
    (if_neg (ne_true_of_eq_false h)))

end

theorem snap_wave (cause src : Nat) : (s.wave cause src).obs.snap = some s.toChip := by
  simp only [State.wave, raise_obs, wr_obs]

theorem tooLate_iff : s.tooLate = true ↔
    (s.obs.freed = s.clk.time + 1 ∨ (s.on Fd.OBS_SNAP_STAT_HELD = true ∧ s.waving = false)) := by
  simp [State.tooLate]

theorem waving_iff : s.waving = true ↔ (s.on Fd.OBS_SNAP_STAT_HELD = true ∧ s.on Fd.OBS_SNAP_STAT_PRIOR = false ∧
    s.snapTime = s.clk.time) := by
  simp [State.waving, and_assoc]

theorem snap_dropSnap : s.dropSnap.obs.snap = none := by
  simp only [State.dropSnap, wr_obs, setReg_obs]

/-! Monitors (R729, R731, R732). -/

theorem exec_levelSample_none {m : Nat} (hs : s.inReset = false) (h : 64 ≤ m ∨ s.on (Fd.OBS_MON_CFG_EN m) = false ∨
    s.coreOff = true ∨ s.clk.time % 2 ^ s.rd (Fd.OBS_MON_CFG_SPER m) ≠ 0) : exec (.levelSample m) s = .next s := by
  refine (act_live s _ hs).trans (congrArg _ (if_neg fun ⟨inside, enabled, powered, period⟩ => ?_))
  rcases h with beyond | disabled | dark | between
  · omega
  · exact absurd enabled (ne_true_of_eq_false disabled)
  · simp [dark] at powered
  · exact between period

section
variable {m : Nat} (hs : s.inReset = false) (hm : m < 64) (hen : s.on (Fd.OBS_MON_CFG_EN m) = true)
  (hcore : s.coreOff = false) (hper : s.clk.time % 2 ^ s.rd (Fd.OBS_MON_CFG_SPER m) = 0)
include hs hm hen hcore hper

theorem exec_levelSample {v : Nat} (h : s.levelOf (s.rd (Fd.OBS_MON_CFG_QTY m)) (s.rd (Fd.OBS_MON_CFG_INDEX m)) = some v) :
    exec (.levelSample m) s = .next (s.monSample m v) := by
  refine (act_live s _ hs).trans (congrArg _ ((if_pos ⟨hm, hen, by rw [hcore]; rfl, hper⟩).trans ?_))
  rw [h]

theorem exec_levelSample_noLevel (h : s.levelOf (s.rd (Fd.OBS_MON_CFG_QTY m)) (s.rd (Fd.OBS_MON_CFG_INDEX m)) = none) :
    exec (.levelSample m) s = .next s := by
  refine (act_live s _ hs).trans (congrArg _ ((if_pos ⟨hm, hen, by rw [hcore]; rfl, hper⟩).trans ?_))
  rw [h]

end

theorem monSample_frozen {m : Nat} (v : Nat) (h : s.on (Fd.OBS_MON_CTL_FREEZE m) = true)
    (hroom : s.rd (Fd.OBS_MON_CTL_SKIPPED m) < 0xFFFF) :
    s.monSample m v = s.wr (Fd.OBS_MON_CTL_SKIPPED m) (s.rd (Fd.OBS_MON_CTL_SKIPPED m) + 1) :=
  (if_pos h).trans (if_pos hroom)

theorem exec_monClr {m : Nat} (hs : s.inReset = false) (hm : m < 64) : exec (.monClr m) s = .next (s.monClear m) :=
  (act_live s _ hs).trans (congrArg _ (if_pos hm))

end Sys2Proof.Machine

section
open Sys2Proof Sys2Proof.Machine

/-- Settles O57, command by command: a calibration command by its checks in order, a window by whether it is granted, a
trigger by what is held, a sample by its monitor. -/
theorem calibrationAndObservation : Obligations.CalibrationAndObservation := by
  intro s hs
  have live {v w : State} (h : v = w) : s.act v = .next w := (act_live s v hs).trans (congrArg _ h)
  refine ⟨fun g level pc lane value hg hlevel hpc hlane hvalue => ?commands,
    fun g level pc lane hg hlevel hpc hlane => ?read, fun p b obs => exec_steepWindow_refused hs obs,
    fun p b obs hp hok => ⟨exec_steepWindow_idle hs obs hp hok, fun c => exec_steepWindow_applies hs obs hp hok,
      fun c => exec_steepWindow_other hs obs hp hok⟩,
    fun p lane obs => ⟨_, exec_driftWindow hs obs, fun v hbeyond hinside => ?drift⟩, exec_snapPin_none hs,
    fun hen hcore => ⟨fun h => exec_snapPin hs hen (trigger_missed hcore 1 0 h),
      fun hlate h => exec_snapPin hs hen (trigger_shares hcore 1 0 hlate h),
      fun hlate h => ⟨exec_snapPin hs hen (trigger_waves hcore 1 0 hlate h), snap_wave 1 0⟩⟩,
    tooLate_iff, waving_iff, fun h => ⟨live (if_neg (ne_true_of_eq_false h)), live (if_neg (ne_true_of_eq_false h))⟩,
    fun h => ⟨live (if_pos h), live (if_pos h), snap_dropSnap⟩, fun m => exec_levelSample_none hs,
    fun m hm hen hcore hper => ⟨fun v => exec_levelSample hs hm hen hcore hper,
      exec_levelSample_noLevel hs hm hen hcore hper⟩,
    fun u m v => monSample_frozen v, fun m => exec_monClr hs⟩
  case commands =>
    have arg : CalArg (s.calArgs g level pc lane value) g level pc lane value :=
      calArg_calArgs hlevel hpc hlane hvalue
    refine ⟨⟨fun h => ⟨exec_calSet hs hg (calGo_busy h), exec_calSteep hs hg (calGo_busy h),
        exec_calTsvSwap hs hg (calGo_busy h)⟩,
      fun hidle h => ⟨exec_calSet hs hg (calGo_badLane arg hidle rfl h),
        exec_calSteep hs hg (calGo_badLane arg hidle rfl h), exec_calTsvSwap hs hg (calGo_badLane arg hidle rfl h)⟩,
      fun hidle hlane h => exec_calSet hs hg (calGo_set arg hidle hlane rfl h),
      fun hidle hlane hlevel hfree => exec_calSet hs hg (calGo_set_refused arg hidle hlane rfl hlevel hfree)⟩,
      fun hidle hlane => exec_calSteep hs hg (calGo_steep arg hidle hlane rfl),
      fun hidle hlane h => exec_calTsvSwap hs hg (calGo_swap_refused arg hidle hlane rfl h),
      fun hidle hlane hspare hsecond => ⟨fun h => exec_calTsvSwap hs hg (calGo_swap arg hidle hlane rfl hspare hsecond h),
        fun h => exec_calTsvSwap hs hg (calGo_swap_none arg hidle hlane rfl hspare hsecond h)⟩⟩
  case read =>
    have arg : CalArg (s.calArgs g level pc lane 0) g level pc lane 0 := calArg_calArgs hlevel hpc hlane (by decide)
    exact ⟨fun h => exec_calRead hs hg (calGo_busy h),
      fun hidle h => exec_calRead hs hg (calGo_badLane arg hidle rfl h),
      fun hidle hlane => exec_calRead hs hg (calGo_read arg hidle hlane rfl)⟩
  case drift =>
    have noted : s.laneNoted p lane obs = v := by
      by_cases inside : p < 128
      · exact (if_pos inside).trans (hinside inside).symm
      · exact (if_neg inside).trans (hbeyond (Nat.not_lt.1 inside)).symm
    subst noted
    exact ⟨rfl, mon_laneRestarted⟩

end

/-! ### Tests in service and the end of the boot tests (R706–R716) -/

namespace Sys2Proof.Machine

/-! #### A GO of BST_CTL (R710) -/

theorem bistCmd_of_not_busy (s : State) (op alg : Nat)
    (h : ((s.wr Fd.BST_CTL_OP op).wr Fd.BST_CTL_ALG alg).bistGo.rd Fd.BST_CTL_RESULT ≠ 4) :
    s.bistCmd op alg = ((s.wr Fd.BST_CTL_OP op).wr Fd.BST_CTL_ALG alg).bistGo :=
  if_neg h

theorem bistCmd_of_busy (s : State) (op alg : Nat)
    (h : ((s.wr Fd.BST_CTL_OP op).wr Fd.BST_CTL_ALG alg).bistGo.rd Fd.BST_CTL_RESULT = 4) :
    s.bistCmd op alg =
      ((((s.wr Fd.BST_CTL_OP op).wr Fd.BST_CTL_ALG alg).bistGo).wr Fd.BST_CTL_OP (s.rd Fd.BST_CTL_OP)).wr
        Fd.BST_CTL_ALG (s.rd Fd.BST_CTL_ALG) :=
  if_pos h

/-- The part is in a lifecycle state in which the test may run. -/
def State.lcAllows (s : State) (t : Test) : Bool := if t.op < 4 then s.lcRuntime else s.lcFull

section
variable {s : State} (op_pos : 0 < s.testAsked.op) (op_lt : s.testAsked.op < 6)
include op_pos op_lt

theorem op_not_reserved : ¬(s.testAsked.op = 0 ∨ 5 < s.testAsked.op) := by omega

theorem bistGo_lifecycle (lc : s.lcAllows s.testAsked = false) : s.bistGo = s.refuseTest s.testAsked.op 5 := by
  rw [State.bistGo, if_neg (op_not_reserved op_pos op_lt)]
  exact if_pos (congrArg not lc :)

variable (lc : s.lcAllows s.testAsked = true)
include lc

/-- In its lifecycle states, a GO goes on to the checks of the mode, the target and the tests that run. -/
theorem bistGo_checks : s.bistGo =
    if !s.serves then s.refuseTest s.testAsked.op 7
    else if !s.targetOk s.testAsked then s.refuseTest s.testAsked.op 6
    else if s.testBusy s.testAsked then s.refuseTest s.testAsked.op 4
    else s.startTest s.testAsked := by
  rw [State.bistGo, if_neg (op_not_reserved op_pos op_lt)]
  exact if_neg (ne_true_of_eq_false (congrArg not lc :))

theorem bistGo_mode (serves : s.serves = false) : s.bistGo = s.refuseTest s.testAsked.op 7 :=
  (bistGo_checks op_pos op_lt lc).trans (if_pos (congrArg not serves :))

variable (serves : s.serves = true)
include serves

theorem bistGo_target (bad : s.targetOk s.testAsked = false) : s.bistGo = s.refuseTest s.testAsked.op 6 := by
  rw [bistGo_checks op_pos op_lt lc, serves, bad]
  exact (if_neg Bool.false_ne_true).trans (if_pos rfl)

variable (ok : s.targetOk s.testAsked = true)
include ok

theorem bistGo_busy (busy : s.testBusy s.testAsked = true) : s.bistGo = s.refuseTest s.testAsked.op 4 := by
  rw [bistGo_checks op_pos op_lt lc, serves, ok, busy]
  exact (if_neg Bool.false_ne_true).trans ((if_neg Bool.false_ne_true).trans (if_pos rfl))

theorem bistGo_starts (idle : s.testBusy s.testAsked = false) : s.bistGo = s.startTest s.testAsked := by
  rw [bistGo_checks op_pos op_lt lc, serves, ok, idle]
  exact (if_neg Bool.false_ne_true).trans ((if_neg Bool.false_ne_true).trans (if_neg Bool.false_ne_true))

end

/-! #### The start of a test (R707, R711) -/

/-- The records are cleared and RESULT reads 2. -/
def State.clearRecs (s : State) : State :=
  ({ s with bst := { s.bst with recs := [] } } : State).wr Fd.BST_CTL_RESULT 2

def State.addTest (s : State) (t : Test) : State := { s with bst := { s.bst with tests := s.bst.tests ++ [t] } }

/-- The remap that a ROW_TEST starts with: of the row's data to a spare. -/
def Test.moveOut (t : Test) (spare : Nat) : Remap :=
  { pc := t.pc, bank := t.bank, row := t.row, spare := spare, lines := none, bist := 1 }

theorem startTest_without_move (s : State) (t : Test) (h : 1 < t.op) : s.startTest t = s.clearRecs.addTest t :=
  if_neg (by omega)

theorem startTest_row_no_spare (s : State) (t : Test) (row : t.op = 1)
    (none_free : ∀ i, i < 16 → s.clearRecs.spareFree t.pc t.bank i = false) :
    s.startTest t = (s.clearRecs.wr Fd.BST_CTL_RESULT 9).raise 240 1 145 := by
  have none_found : (List.range 16).find? (fun i => s.clearRecs.spareFree t.pc t.bank i) = none :=
    List.find?_eq_none.2 fun i hi => ne_true_of_eq_false (none_free i (List.mem_range.1 hi))
  rw [State.startTest, if_pos row]
  dsimp only
  rw [← State.clearRecs, none_found]

theorem find_range_first (p : Nat → Bool) {n i : Nat} (lt : i < n) (found : p i = true)
    (first : ∀ j, j < i → p j = false) : (List.range n).find? p = some i :=
  List.find?_range_eq_some.2 ⟨found, List.mem_range.2 lt, fun j hj => (congrArg not (first j hj) :)⟩

theorem startTest_row (s : State) (t : Test) (row : t.op = 1) {i : Nat} (lt : i < 16)
    (free : s.clearRecs.spareFree t.pc t.bank i = true)
    (first : ∀ j, j < i → s.clearRecs.spareFree t.pc t.bank j = false) :
    s.startTest t = (s.clearRecs.addTest { t with spare := i, phase := 0 }).setCg (t.pc / 4)
      { s.clearRecs.cg (t.pc / 4) with remap := some (t.moveOut i) } := by
  rw [State.startTest, if_pos row]
  dsimp only
  rw [← State.clearRecs, find_range_first _ lt free first]
  rfl

/-! #### Tests in progress (R706, R711, R714) -/

theorem testAt_beyond (s : State) {k : Nat} (h : s.bst.tests.length ≤ k) (f : State → Test → State) :
    s.testAt k f = s := by
  rw [State.testAt, List.getElem?_eq_none h]

theorem testAt_found (s : State) {k : Nat} {t : Test} (h : s.bst.tests[k]? = some t) (f : State → Test → State) :
    s.testAt k f = f s t := by
  rw [State.testAt, h]

theorem isRow_iff (t : Test) : (t.op == 1 || t.op == 2) = true ↔ t.op = 1 ∨ t.op = 2 := by
  rw [Bool.or_eq_true, beq_iff_eq, beq_iff_eq]

/-- The next element of the test has to wait (R711, R714). -/
def State.elementWaits (s : State) (t : Test) : Prop :=
  t.phase ≠ 1 ∨ t.pause = true ∨ s.bistHeld = true ∨
    ((t.op = 1 ∨ t.op = 2) ∧ 2 < ((s.pc t.pc).bank t.bank).debt)

theorem elementWaits_iff (s : State) (t : Test) : s.elementWaits t ↔ t.phase ≠ 1 ∨ t.pause = true ∨
    s.bistHeld = true ∨ ((t.op == 1 || t.op == 2) = true ∧ 2 < ((s.pc t.pc).bank t.bank).debt) := by
  rw [isRow_iff]
  rfl

theorem bistElement_waits (s : State) (t : Test) (fails : List Nat) (h : s.elementWaits t) :
    s.bistElement t fails = s :=
  if_pos ((elementWaits_iff s t).1 h)

theorem not_elementWaits (s : State) (t : Test) (phase : t.phase = 1) (pause : t.pause = false)
    (held : s.bistHeld = false)
    (bank : ((t.op = 1 ∨ t.op = 2) ∧ ((s.pc t.pc).bank t.bank).debt ≤ 2) ∨ (t.op ≠ 1 ∧ t.op ≠ 2)) :
    ¬s.elementWaits t := by
  have bank_ready : ¬((t.op = 1 ∨ t.op = 2) ∧ 2 < ((s.pc t.pc).bank t.bank).debt) := by omega
  simp only [State.elementWaits, phase, pause, held, bank_ready, ne_eq, not_true_eq_false, Bool.false_eq_true,
    or_self, not_false_eq_true]

/-- The part with the element's bank borrowed, for a row or a spare row, and its accesses carried. -/
def State.elementCarried (s : State) (t : Test) (a e : Nat) : State :=
  (if t.op = 1 ∨ t.op = 2 then s.lend t.pc t.bank else s).bistCarry t a e

/-- The part and the test with the failing bits of the element recorded. -/
def State.elementRecorded (s : State) (t : Test) (a e : Nat) (fails : List Nat) : State × Test :=
  (if elemReads a e then fails else []).foldl
    (fun (x : State × Test) f => x.1.addRec x.2 (t.record s.part.lgrp a e f)) (s, t)

/-- The test after its element. -/
def Test.pastElement (t : Test) (a e : Nat) : Test := { t with elem := t.elem + 1, pause := elemPauses a e }

/-- The test goes on, or after its last element ends. -/
def State.testGoesOn (s : State) (t : Test) : State :=
  if t.elem < (algElems t.alg).length then s.setTest t else (s.setTest t).testOver t

theorem bistElement_runs (s : State) (t : Test) (fails : List Nat) {a e : Nat} (h : ¬s.elementWaits t)
    (element : (algElems t.alg)[t.elem]? = some (a, e)) :
    s.bistElement t fails =
      ((s.elementCarried t a e).elementRecorded t a e fails).1.testGoesOn
        (((s.elementCarried t a e).elementRecorded t a e fails).2.pastElement a e) := by
  have lent : (if (t.op == 1 || t.op == 2) = true then s.lend t.pc t.bank else s) =
      if t.op = 1 ∨ t.op = 2 then s.lend t.pc t.bank else s :=
    if_congr (isRow_iff t) rfl rfl
  rw [State.bistElement]
  dsimp only
  rw [if_neg (fun w => h ((elementWaits_iff s t).2 w)), element]
  dsimp only
  rw [lent]
  rfl

/-! #### The end of the boot tests (R708, R709) -/

/-- An extended test asked where the lifecycle forbids it is reported (R708). -/
def State.extRefused (s : State) : State :=
  if s.extAsked = true ∧ s.lcFull = false then s.raise 245 1 80 else s

/-- The boot's repairs, from the records that its algorithms can make (R709). -/
def State.bootRepaired (s : State) (r1 r2 : List Nat) : State × Bool :=
  s.bootResult (r1.filter (bootRec (s.extAsked && s.lcFull))) (r2.filter (bootRec (s.extAsked && s.lcFull)))

theorem extRefused_eq (s : State) :
    (if s.extAsked = true ∧ (!s.lcFull) = true then s.raise 245 1 (5 * 16) else s) = s.extRefused :=
  if_congr (and_congr_right fun _ => Bool.not_eq_true' _ ▸ Iff.rfl) rfl rfl

/-- What the end of the boot tests comes to, by the repairs' outcome. -/
def State.bootTested (x : State × Bool) : State :=
  if x.2 then x.1.cremaInit.enterMode mCALIBRATE { prec := 0, mode := mCALIBRATE, level := x.1.level }
  else (x.1.raise 244 1 (x.1.rd Fd.BST_STAT_REC_LOST)).selftestFail 246 0xFF

theorem bootTested_ok (w : State) {ok : Bool} (h : ok = true) : State.bootTested (w, ok) =
    w.cremaInit.enterMode mCALIBRATE { prec := 0, mode := mCALIBRATE, level := w.level } :=
  if_pos h

theorem bootTested_overflow (w : State) {ok : Bool} (h : ok = false) : State.bootTested (w, ok) =
    (w.raise 244 1 (w.rd Fd.BST_STAT_REC_LOST)).selftestFail 246 0xFF :=
  if_neg (ne_true_of_eq_false h)

section
variable {s : State} (live : s.inReset = false)
include live

theorem selftestComplete_elsewhere (ecc array : Option Nat) (crema crypto : Bool) (r1 r2 : List Nat)
    (h : s.mode ≠ mSELFTEST ∨ s.on Fd.CLK_STAT_HOLD = true) :
    execSelftestComplete ecc crema crypto array r1 r2 s = .next s :=
  (act_live s _ live).trans (congrArg _ (if_pos h))

variable (mode : s.mode = mSELFTEST) (hold : s.on Fd.CLK_STAT_HOLD = false)
include mode hold

omit live in
theorem not_selftest_elsewhere : ¬(s.mode ≠ mSELFTEST ∨ s.on Fd.CLK_STAT_HOLD = true) :=
  not_or_intro (not_not_intro mode) (ne_true_of_eq_false hold)

theorem selftestComplete_checker (k : Nat) (array : Option Nat) (crema crypto : Bool) (r1 r2 : List Nat) :
    execSelftestComplete (some k) crema crypto array r1 r2 s = .next (s.selftestFail 144 (k % 128)) :=
  (act_live s _ live).trans (congrArg _ (if_neg (not_selftest_elsewhere mode hold)))

theorem selftestComplete_crema (array : Option Nat) (crypto : Bool) (r1 r2 : List Nat) :
    execSelftestComplete none true crypto array r1 r2 s = .next (s.selftestFail 157 0) :=
  (act_live s _ live).trans (congrArg _ (if_neg (not_selftest_elsewhere mode hold)))

theorem selftestComplete_crypto (array : Option Nat) (r1 r2 : List Nat) :
    execSelftestComplete none false true array r1 r2 s = .next (s.selftestFail 239 0) :=
  (act_live s _ live).trans (congrArg _ (if_neg (not_selftest_elsewhere mode hold)))

theorem selftestComplete_array (a : Nat) (r1 r2 : List Nat) :
    execSelftestComplete none false false (some a) r1 r2 s =
      .next ((s.wr Fd.SEC_STAT_SELFTEST_OK 1).selftestFail 246 (a % 256)) :=
  (act_live s _ live).trans (congrArg _ (if_neg (not_selftest_elsewhere mode hold)))

theorem selftestComplete_repairs (r1 r2 : List Nat) :
    execSelftestComplete none false false none r1 r2 s =
      .next (State.bootTested ((s.wr Fd.SEC_STAT_SELFTEST_OK 1).extRefused.bootRepaired r1 r2)) := by
  rw [execSelftestComplete, if_neg (not_selftest_elsewhere mode hold)]
  dsimp only
  rw [if_neg Bool.false_ne_true, if_neg Bool.false_ne_true, extRefused_eq]
  exact act_live s _ live

end

end Sys2Proof.Machine

section
open Sys2Proof Sys2Proof.Machine

/-- Settles O59, from the equations of a GO by the first check that fails, those of an element by whether it
waits, and those of the end of the boot tests by what fails first. -/
theorem selfTestCommands : Obligations.SelfTestCommands := by
  intro s hs
  have live {v w : State} (h : v = w) : s.act v = .next w := (act_live s v hs).trans (congrArg _ h)
  have at_test {k : Nat} {t : Test} (h : s.bst.tests[k]? = some t) {f : State → Test → State} {w : State}
      (hw : f s t = w) : s.act (s.testAt k f) = .next w :=
    live ((testAt_found s h f).trans hw)
  refine ⟨fun pc bank row alg => ⟨live rfl, live rfl⟩, fun pc alg => live rfl, fun bank alg => ⟨live rfl, live rfl⟩,
    fun op alg => ⟨bistCmd_of_not_busy s op alg, bistCmd_of_busy s op alg⟩, fun op_pos op_lt => ⟨?_, ?_, ?_, ?_, ?_, ?_⟩,
    fun k fails h => ⟨live (testAt_beyond s h _), live (testAt_beyond s h _), live (testAt_beyond s h _)⟩,
    fun k t h => ⟨at_test h rfl, at_test h rfl, ?_, ?_⟩, fun h => live (if_pos h), fun h => live (if_neg h),
    fun ecc crema crypto array r1 r2 => ⟨selftestComplete_elsewhere hs ecc array crema crypto r1 r2,
      fun mode hold => ⟨?_, ?_, ?_, ?_⟩⟩⟩
  · exact fun lc => bistGo_lifecycle op_pos op_lt lc
  · exact fun lc serves => bistGo_mode op_pos op_lt lc serves
  · exact fun lc serves bad => bistGo_target op_pos op_lt lc serves bad
  · exact fun lc serves ok busy => bistGo_busy op_pos op_lt lc serves ok busy
  · exact fun lc serves ok idle moves_none =>
      (bistGo_starts op_pos op_lt lc serves ok idle).trans (startTest_without_move s _ moves_none)
  · intro lc serves ok idle row
    have starts := bistGo_starts op_pos op_lt lc serves ok idle
    exact ⟨fun none_free => starts.trans (startTest_row_no_spare s _ row none_free),
      fun i lt free first => starts.trans (startTest_row s _ row lt free first)⟩
  · exact fun fails waits => at_test h (bistElement_waits s t fails waits)
  · exact fun fails a e phase pause held bank element =>
      at_test h (bistElement_runs s t fails (not_elementWaits s t phase pause held bank) element)
  · rintro k rfl
    exact selftestComplete_checker hs mode hold k array crema crypto r1 r2
  · rintro rfl rfl
    exact selftestComplete_crema hs mode hold array crypto r1 r2
  · rintro rfl rfl rfl
    exact selftestComplete_crypto hs mode hold array r1 r2
  · rintro rfl rfl rfl
    refine ⟨?_, ?_⟩
    · rintro a rfl
      exact selftestComplete_array hs mode hold a r1 r2
    · rintro rfl v w ok reported result
      have ends := selftestComplete_repairs hs mode hold r1 r2
      have repaired : v.bootRepaired r1 r2 = (w, ok) := result
      rw [← (show v = State.extRefused _ from reported), repaired] at ends
      exact ⟨fun h => ends.trans (congrArg _ (bootTested_ok w h)), fun h => ends.trans (congrArg _ (bootTested_overflow w h))⟩

end
